-- ==== Sys2Proof/Word.lean ====
section
/-! DEFINITION. The word types of the TZ7 model: bytes, 32-bit registers, and the sparse tables that hold
memory and the large register files. -/

namespace Sys2Proof

/-- A byte of memory, of a frame or of a record. -/
abbrev Byte := BitVec 8

/-- A function-window register (R57: all are 32 bits wide). -/
abbrev Word := BitVec 32

/-- A sparse table from numbers to values, kept in one canonical form (`Machine.Table.wf`): keys strictly
rising, no entry equal to the table's default. Memory is such a table of bytes. -/
abbrev Table (α : Type) := List (Nat × α)

end Sys2Proof
end

