-- ==== Sys2Proof/Request.lean ====
section
/-! DEFINITION. The operand types of the TZ7's commands and events: a command packet as it is issued, and frames. -/

namespace Sys2Proof

/-- A command packet as one partition issues it from one of its rings: every field of R76 but the opcode, which the
command's constructor names. `params` is the 48 bytes of PARAMS, byte 0 least significant (R8). -/
structure Request where
  partition : Fin 64
  ring      : Fin 4
  flags     : BitVec 8
  paramLen  : BitVec 8
  tag       : BitVec 32
  deadline  : BitVec 64
  params    : BitVec 384
deriving DecidableEq, Repr

/-- A command packet in a ring: the opcode and the rest (R76). -/
structure Packet where
  opcode : Nat
  req    : Request
deriving DecidableEq, Repr

/-- The IEEE 802.1AE SecTAG of a frame on the wire, with its ICV (R246, R247). `explicit` says that it carries the SCI. -/
structure SecTag where
  an        : Fin 4
  encrypted : Bool
  explicit  : Bool
  sci       : BitVec 64
  pn        : BitVec 32
  icv       : BitVec 128
deriving DecidableEq, Repr

/-- An Ethernet frame as the switch sees it (R215, R216): addresses with their first octet in bits [7:0], the customer tag
if one is present, the SecTAG and R-TAG if present, EtherType and the bytes that follow it up to the FCS. Of a frame with a
SecTAG, `payload` is the secure data (customer tag, R-TAG, EtherType and the rest, in cipher or in clear) and `tag`, `rtag`
and `ethType` mean nothing. `fcsOk` says whether its FCS is good. -/
structure EthFrame where
  dst     : BitVec 48
  src     : BitVec 48
  tag     : Option (BitVec 3 × BitVec 12)
  sec     : Option SecTag
  rtag    : Option (BitVec 16)
  ethType : BitVec 16
  payload : List Byte
  fcsOk   : Bool
deriving DecidableEq, Repr

/-- A CAN frame (R289, R305): `format` 0 classical, 1 FD, 2 XL; the identifier's 11 or 29 bits; the XL fields. A remote
frame carries its requested length in `reqLen`. -/
structure CanFrame where
  format  : Fin 3
  ide     : Bool
  id      : BitVec 29
  brs     : Bool
  esi     : Bool
  rtr     : Bool
  reqLen  : Nat
  sec     : Bool
  sdt     : BitVec 8
  vcid    : BitVec 8
  af      : BitVec 32
  payload : List Byte
deriving DecidableEq, Repr

/-- What a CAN channel receives: a frame, or a bus error whose LAST_ERROR code is given (cmd 0x0504). -/
inductive CanRx where
  | frame (f : CanFrame)
  | error (kind : Fin 7)
deriving DecidableEq, Repr

/-- How an attempt to send ends (R309, R310): sent, arbitration lost, or an error with its LAST_ERROR code and the
cause of R314. -/
inductive CanEnd where
  | sent
  | lost
  | error (kind : Fin 7) (cause : Fin 16)
deriving DecidableEq, Repr

end Sys2Proof
end

