-- ==== Sys2Proof/Syntax.lean ====
section
/-! DEFINITION. The commands of the TZ7 (spec/opcode_table.json), one constructor per row: the ring commands with the
packet that issues them (R76), the register accesses with their operands, and the events at pins, buses and clocks
with the facts the TZ7 does not itself hold. -/

namespace Sys2Proof

/-- A command of the block: one constructor per row of the opcode table. -/
inductive Instr where
/-- DEVICE_IDENTIFY (R99). Returns the device code, revisions, firmware bank, order code, board profile, life-cycle
  state, the issuer's partition and class, and Device Time; it runs in every state, including while a tamper is held.
  -/
  | deviceIdentify (r : Request)
/-- DEVICE_FEATURES_COMMIT (R101). Commits the issuer's accept set from FEAT_ACCEPT0 to FEAT_ACCEPT3 after checking
  published bits, SARZU_V1, device-scope bits and commit order. -/
  | deviceFeaturesCommit (r : Request)
/-- DEVICE_NOP (R86). Does nothing and returns Device Time; its completion shows that every earlier command of its
  ring has taken effect. -/
  | deviceNop (r : Request)
/-- TIME_READ (R194). Returns Device Time with its fraction, servo state and source, the domain A offset and the time
  spent in holdover. -/
  | timeRead (r : Request)
/-- TIME_SOURCE_SET (R198). Selects the rate source of the time servo and sets LOCK_NS, MAX_ADJ_PPB and
  HOLDOVER_LIMIT_S. -/
  | timeSourceSet (r : Request)
/-- PPS_CONFIG (R202). Enables PPS_OUT and sets its timescale and pulse width. -/
  | ppsConfig (r : Request)
/-- SUPPLY_CONFIG (R403). Sets the warning level of each feed and DIP_FILTER_US; a feed already below its new level
  begins a dip. -/
  | supplyConfig (r : Request)
/-- SUPPLY_QUERY (R405). Reports feed voltages and currents, extremes, supply state, profile, dip count and ground
  offset; CLEAR is allowed to P0 only. -/
  | supplyQuery (r : Request)
/-- LOAD_DIP_SET (R407). Sets a channel's dip-shed policy, RESTORE_DELAY_MS and DUTY_CAP, to apply from the next dip.
  -/
  | loadDipSet (r : Request)
/-- CPU_QUERY (R472). Reports the state of the application and safety cores, Masthead presence, restart attempts and
  the DVFS point applied. -/
  | cpuQuery (r : Request)
/-- CPU_APP_DVFS_SET (R451). Requests an operating point of the application cluster; the point applied is capped by
  the D4 reef ceiling. -/
  | cpuAppDvfsSet (r : Request)
/-- SAFETY_CORE_ASSIGN (R457). Assigns a safety core to a partition, copies the image into its TCM, zero-fills the
  rest and leaves the core halted. -/
  | safetyCoreAssign (r : Request)
/-- SAFETY_CORE_CONTROL (R456). Halts a safety core at a pair boundary, or starts it at RESTART_ENTRY with a0 = 0. -/
  | safetyCoreControl (r : Request)
/-- SAFETY_SPARE_SET (R456). Names the unassigned safety core held as the spare, or none. -/
  | safetySpareSet (r : Request)
/-- DEVICE_RESET (R595). Posts DONE and then performs a module reset or a compute-die reset within 1 ms; it works
  while Masthead is absent and in Hove-to. -/
  | deviceReset (r : Request)
/-- FW_BANK_WRITE (R595). Verifies a firmware or configuration image, writes the bank not in use and, with ACTIVATE,
  sets the boot record to a trial of that bank. -/
  | fwBankWrite (r : Request)
/-- FW_BANK_WRITTEN (R596). When the bank write and its read-back end, the TZ7 updates the boot record if ACTIVATE was
  set and posts FW_BANK_WRITTEN. -/
  | fwBankWritten (readBackOk : Bool)
/-- BOOT_CONFIRM (R591). Clears both TRIAL flags and sets CFG_MIN_VERSION to the VERSION of the configuration in use.
  -/
  | bootConfirm (r : Request)
/-- PARTITION_CREATE (R106). Moves a FREE guest to ACTIVE in a cache class with its manager-stage root and enables its
  function window. -/
  | partitionCreate (r : Request)
/-- PARTITION_QUIESCE (R133). Stops command intake, parks or drains the guest's DMA queues, suppresses its sending,
  holds its outputs, moves its flows to HELD and returns ACCEPTED. -/
  | partitionQuiesce (r : Request)
/-- PARTITION_QUIET (R106). When a quiescing guest's last in-flight work has finished or been parked, the guest
  becomes QUIET and the TZ7 posts PARTITION_QUIET to P0. -/
  | partitionQuiet (partition : Nat)
/-- QUIESCE_DRAIN_LIMIT (R133). When DRAIN_LIMIT_US expires in a drain-mode quiesce, every queue still running is
  parked. -/
  | quiesceDrainLimit (partition : Nat)
/-- PARTITION_RESUME (R106). Returns a QUIET guest to ACTIVE, restarts command intake and parked queues, and restores
  the promises of its HELD flows. -/
  | partitionResume (r : Request)
/-- PARTITION_RESET (R136). Resets a QUIET guest's window, queues, objects and keys as the reset table gives, revokes
  its flows and returns it to ACTIVE with its accept set reopened. -/
  | partitionReset (r : Request)
/-- PARTITION_REMOVE (R136). Frees a QUIET guest, returns its objects and memory to P0, drives its load channels to
  their safe-state entries and revokes its flows. -/
  | partitionRemove (r : Request)
/-- OBJECT_ASSIGN (R108). Moves a run of objects of one kind to a partition, keeping their configuration and state. -/
  | objectAssign (r : Request)
/-- CACHE_CLASS_SET (R114). Sets a cache class's way mask and colour range after conflict and quiesce checks, writing
  back the ways that leave the class and invalidating the class's IOTLB entries. -/
  | cacheClassSet (r : Request)
/-- MEMORY_OWNER_SET (R110). Sets owner and SHARED for a run of 2 MiB memory units and invalidates the IOTLB entries
  that map them. -/
  | memoryOwnerSet (r : Request)
/-- IOMMU_ROOT_SET (R115). Sets or disables the root of a partition-stage or manager-stage translation and fully
  invalidates that stage for the partition. -/
  | iommuRootSet (r : Request)
/-- IOMMU_INVALIDATE (R121). Invalidates IOTLB entries of a stage, wholly or for a range, and completes once no old
  translation remains and every access made with one is visible. -/
  | iommuInvalidate (r : Request)
/-- DMA_QUEUE_CONFIG (R129). Configures, enables or disables a DMA queue that is not running or waiting, abandoning
  any parked descriptor without a CPL write. -/
  | dmaQueueConfig (r : Request)
/-- DMA_QUEUE_POST (R124). Advances a queue's tail, making posted descriptors available to the engines. -/
  | dmaQueuePost (r : Request)
/-- DMA_QUEUE_RESUME (R131). Retries a PARKED_FAULT queue from OFFSET, or skips the parked descriptor with
  DESCRIPTOR_SKIPPED. -/
  | dmaQueueResume (r : Request)
/-- DMA_QUEUE_QUERY (R129). Returns a queue's state, fault cause, HEAD, TAIL, OFFSET and fault address. -/
  | dmaQueueQuery (r : Request)
/-- DMA_SEGMENT_MOVE (R127). An engine takes a queue chosen under the admitted DMA flows, translates every page of one
  256-byte segment and writes it whole, or parks the queue on a fault. -/
  | dmaSegmentMove (queue : Nat)
/-- DIRTY_LOG_START (R137). Starts dirty logging of a partition over a GPA range into bitmap A. -/
  | dirtyLogStart (r : Request)
/-- DIRTY_LOG_SWAP (R139). Makes the other bitmap active, with every write translated before the swap recorded and
  visible in the old bitmap. -/
  | dirtyLogSwap (r : Request)
/-- DIRTY_LOG_STOP (R139). Stops dirty logging after every earlier write has been made visible and recorded. -/
  | dirtyLogStop (r : Request)
/-- PARTITION_CAPSULE_EXPORT (R140). Starts writing a QUIET partition's device state as a capsule into a P0 buffer and
  refuses further encryption on every exported slot. -/
  | partitionCapsuleExport (r : Request)
/-- PARTITION_CAPSULE_IMPORT (R143). Starts verifying a capsule and restoring its objects, keys, counters, queue
  contexts and feature set into a QUIET target, resubmitting each flow for admission. -/
  | partitionCapsuleImport (r : Request)
/-- CAPSULE_DONE (R145). When a capsule export or import ends, the TZ7 posts CAPSULE_DONE with its length, status,
  sections and the flows not admitted. -/
  | capsuleDone (partition : Nat)
/-- FLOW_ADMIT (R170). Runs the admission checks and the composition of bounds, then either refuses or reserves
  capacity and returns the promise. -/
  | flowAdmit (r : Request)
/-- FLOW_PREDICT (R170). Runs the admission checks without reserving anything and reports the outcome, the bounds and
  the CAN frame time used. -/
  | flowPredict (r : Request)
/-- FLOW_RELEASE (R174). Releases a flow: P0 revokes a guest's admitted flow, or the owner frees its own flow once no
  item remains on the path. -/
  | flowRelease (r : Request)
/-- FLOW_RELEASE_DONE (R186). When the last item of a released flow leaves its path, the flow becomes FREE, its
  capacity is freed and the completion is posted. -/
  | flowReleaseDone (flow : Nat)
/-- FLOW_QUERY (R178). Returns a flow's state, priority, type, promise, computed bound, watermark, violations and
  drops. -/
  | flowQuery (r : Request)
/-- FLOW_STATS (R178). Writes a snapshot of a flow's histogram and counters to a buffer and, with CLEAR, zeroes them
  atomically with the snapshot. -/
  | flowStats (r : Request)
/-- MEDIUM_CONTRACT_SET (R164). Sets or withdraws the contract of a shared medium, revoking flows under the revocation
  rule before it takes effect. -/
  | mediumContractSet (r : Request)
/-- MEDIUM_CONTRACT_WINDOW (R168). At the end of each 100 ms window, other nodes' use of a contracted medium is
  checked against its contract and any excess raises MEDIUM_CONTRACT_EXCEEDED. -/
  | mediumContractWindow (medium usedNs largest lowestKey : Nat)
/-- MAINTENANCE_RETRY (R181). Every 100 ms Masthead retries a deferred maintenance activity until it fits into slack
  or its requester cancels it. -/
  | maintenanceRetry
/-- SWITCH_PORT_CONFIG (R217). Sets a switch port's enable, learning, PVID, PCP map and MACsec and R-TAG options, and
  the aging time. -/
  | switchPortConfig (r : Request)
/-- SWITCH_VLAN_SET (R217). Sets the member and untag masks of a VID. -/
  | switchVlanSet (r : Request)
/-- SWITCH_MAC_SET (R220). Adds or removes a static unicast or multicast MAC table entry. -/
  | switchMacSet (r : Request)
/-- SWITCH_ENDPOINT_SET (R222). Sets or frees an internal endpoint with its port, owner, address, VIDs and trap flag,
  dropping frames queued to it. -/
  | switchEndpointSet (r : Request)
/-- SWITCH_ENDPOINT_ATTACH (R223). Attaches or detaches a transmit or receive DMA queue of the owner for one traffic
  class of an endpoint. -/
  | switchEndpointAttach (r : Request)
/-- SWITCH_QUOTA_SET (R228). Sets an account's cell limit, checking the total of limits and the account's reservation.
  -/
  | switchQuotaSet (r : Request)
/-- SWITCH_ACCOUNT_QUERY (R230). Returns an account's limit, reservation, occupancy, peak and drop counts, clearing
  them with CLEAR. -/
  | switchAccountQuery (r : Request)
/-- SWITCH_GATE_SET (R241). Installs or removes a port's gate control list to take effect at instant T after
  re-checking every admitted flow on the port. -/
  | switchGateSet (r : Request)
/-- GATE_LIST_ACTIVE (R241). At instant T the pending gate control list takes effect and GATE_LIST_ACTIVE is raised.
  -/
  | gateListActive (port : Nat)
/-- GATE_CHANGE (R239). At the end of each gate-list interval, the port's gate mask changes at the first D6 cycle edge
  at or after the instant. -/
  | gateChange (port : Nat)
/-- SWITCH_SHAPER_SET (R242). Sets or disables the credit-based shaper of a class's unadmitted queue on a port. -/
  | switchShaperSet (r : Request)
/-- SWITCH_PREEMPT_SET (R243). Sets a port's express classes, addFragSize, enable and verify time for frame
  pre-emption. -/
  | switchPreemptSet (r : Request)
/-- PREEMPT_VERIFY_DONE (R244). When pre-emption verification ends, pre-emption becomes active, or a failure keeps the
  MAC disabled and counts an event or runs the port without pre-emption, raising PREEMPT_STATE. -/
  | preemptVerifyDone (port : Nat) (ok : Bool)
/-- SWITCH_STREAM_SET (R249). Configures a stream filter's identification, owner, ingress port mask, MAX_SDU and
  meter. -/
  | switchStreamSet (r : Request)
/-- SWITCH_FRER_SET (R251). Configures a sequence generation or recovery function on a stream filter. -/
  | switchFrerSet (r : Request)
/-- FRER_LATENT_ERROR (R251). At each latent-error period, a recovery function's difference is checked and
  FRER_LATENT_ERROR is raised when it exceeds LATENT_DIFF. -/
  | frerLatentError (function : Nat)
/-- SWITCH_MACSEC_SA_SET (R246). Installs, enables or replaces a MACsec SA with its key slot, loading the key over
  Halyard. -/
  | switchMacsecSaSet (r : Request)
/-- SWITCH_SAMPLE_SET (R253). Sets a port direction's one-in-N sampling to the P0 sample queue. -/
  | switchSampleSet (r : Request)
/-- SWITCH_GPTP_SET (R252). Sets a port's role, domain, sync and pdelay intervals and static delay in a gPTP instance.
  -/
  | switchGptpSet (r : Request)
/-- FRAME_RECEIVE (R218). A frame arriving at a port passes MACsec verification, VLAN classification, stream filtering
  and metering, sequence recovery, forwarding lookup, class choice and cell charging. -/
  | frameReceive (port : Nat) (frame : EthFrame)
/-- MAC_ENTRY_AGE (R220). A learned MAC entry whose AGE_S has expired without a matching source is removed. -/
  | macEntryAge (vid addr : Nat)
/-- SWITCH_CELL_MATCH (R234). In each 12.8 ns cell time, the switch runs the scheduled phase and three best-effort
  rounds and moves at most one cell per ingress and per egress port. -/
  | switchCellMatch
/-- FRAME_TRANSMIT (R240). An egress port starts a selected frame when it completes before its gate closes, applying
  egress tagging and MACsec protection, or discards it when the link is not UP. -/
  | frameTransmit (port : Nat)
/-- SWITCH_AUDIT (R255). Every PERIOD_US the audit checks that free, queued, in-flight and withdrawn cells sum to 16
  384, and starts a mark sweep on a mismatch. -/
  | switchAudit (found : Nat)
/-- SWITCH_MARK_SWEEP (R256). When a mark sweep ends, cells and reference counts that two consecutive sweeps agree on
  are corrected and SWITCH_CELL_RECLAIMED is raised. -/
  | switchMarkSweep (cells : List Nat) (counts : Nat)
/-- SWITCH_AUDIT_STATUS_READ (R264). A read of SWITCH_AUDIT_STATUS returns RECLAIMED and then clears it. -/
  | switchAuditStatusRead (partition : Nat)
/-- GPTP_MESSAGE (R252). A gPTP message is exchanged or relayed by Masthead over port 14, feeding the servo's offset
  measurement. -/
  | gptpMessage (port : Nat) (sync : Bool) (frame : EthFrame)
/-- ETH_PORT_CONFIG (R269). Enables or disables a PHY port and sets its role and TC10 options, starting TRAINING or
  entering DISABLED. -/
  | ethPortConfig (r : Request)
/-- ETH_LINK_QUERY (R269). Returns a port's link state, role, SQI, PLCA status, link drops and the time of the last
  change. -/
  | ethLinkQuery (r : Request)
/-- ETH_PLCA_SET (R280). Sets PLCA enable, node ID, node count and TO_TIMER on port 10 or 11, checked against any
  contract in force. -/
  | ethPlcaSet (r : Request)
/-- ETH_TC10_SLEEP (R276). Sends a TC10 sleep request on an UP port and returns ACCEPTED. -/
  | ethTc10Sleep (r : Request)
/-- ETH_TC10_WAKE (R269). Sends a wake pulse on a port in SLEEP and enters TRAINING. -/
  | ethTc10Wake (r : Request)
/-- ETH_CABLE_TEST (R283). Starts a time-domain reflection test of the port's pair and enters DIAG. -/
  | ethCableTest (r : Request)
/-- ETH_CABLE_RESULT (R283). When the cable test finishes or is aborted, the result is reported and the port returns
  to TRAINING or DISABLED. -/
  | ethCableResult (port result distance : Nat)
/-- ETH_PORT_STATS (R271). Writes a snapshot of a port's counters to a buffer and zeroes them with CLEAR. -/
  | ethPortStats (r : Request)
/-- ETH_PHY_MMD_READ (R268). Reads a Clause 45 register of MMD 1, 3 or 7 of a port's PHY. -/
  | ethPhyMmdRead (r : Request)
/-- LINK_TRAINING_DONE (R269). Training with the partner completes, or a T1S PHY becomes ready, and the port goes UP
  with ETH_LINK_STATE cause 0x01. -/
  | linkTrainingDone (port : Nat)
/-- LINK_FAILURE (R270). Loss of the partner's signal, or 8 consecutive uncorrectable RS-FEC frames, returns the port
  to TRAINING and counts a link drop. -/
  | linkFailure (port : Nat)
/-- TC10_SLEEP_ACK (R276). The partner acknowledges the local sleep request and the port enters SLEEP with cause 0x03.
  -/
  | tc10SleepAck (port : Nat)
/-- TC10_SLEEP_ACK_TIMEOUT (R276). When no acknowledge arrives within 16 ms, the port stays UP with cause 0x07. -/
  | tc10SleepAckTimeout (port : Nat)
/-- TC10_SLEEP_REQUEST (R279). A partner's sleep request is accepted into SLEEP, or refused with ETH_TC10_REQUEST. -/
  | tc10SleepRequest (port : Nat)
/-- TC10_WAKE_PULSE (R277). A valid wake pulse at a sleeping port, or one that arrives before the acknowledge, sends
  the port to TRAINING with cause 0x05. -/
  | tc10WakePulse (port : Nat)
/-- PLCA_BEACON_LOSS (R281). When a follower sees no BEACON for 4 000 bit times, PLCA status is lost, the port falls
  back to CSMA/CD and ETH_PLCA_STATE is raised. -/
  | plcaBeaconLoss (port : Nat)
/-- PLCA_BEACON_RETURN (R281). A BEACON arriving while PLCA status is lost restores PLCA operation and raises
  ETH_PLCA_STATE. -/
  | plcaBeaconReturn (port : Nat)
/-- CAN_CHANNEL_CONFIG (R287). Sets a CAN channel's enable, format, mode, recovery, PEH, TMS and bit timing, moving it
  to INTEGRATING or DISABLED. -/
  | canChannelConfig (r : Request)
/-- CAN_OBJECT_CONFIG (R295). Configures a message object as off, receive or send, with its filter, options, window
  slot, CVU and pool space, clearing its buffers. -/
  | canObjectConfig (r : Request)
/-- CAN_OBJECT_ATTACH (R315). Attaches or detaches a DMA queue of the owner to a message object. -/
  | canObjectAttach (r : Request)
/-- CAN_CHANNEL_QUERY (R291). Returns a channel's state, error counters and transceiver mode; CLEAR is allowed to P0
  only. -/
  | canChannelQuery (r : Request)
/-- CAN_CHANNEL_RECOVER (R291). Moves a BUS_OFF channel to RECOVERING. -/
  | canChannelRecover (r : Request)
/-- CAN_OBJECT_QUERY (R307). Returns a message object's direction, flags and counters, clearing the counters with
  CLEAR. -/
  | canObjectQuery (r : Request)
/-- CAN_GANG_SET (R313). Starts, changes or stops a CAN gang of channels wholly owned by the issuer. -/
  | canGangSet (r : Request)
/-- CAN_INTEGRATION_DONE (R291). After 11 consecutive recessive bits, an INTEGRATING channel becomes ERROR_ACTIVE or
  MONITORING. -/
  | canIntegrationDone (channel : Nat)
/-- CAN_BUS_OFF_RECOVERY (R291). After 128 occurrences of 11 recessive bits, a BUS_OFF channel with AUTO_RECOVER, or a
  RECOVERING channel, returns to ERROR_ACTIVE. -/
  | canBusOffRecovery (channel : Nat)
/-- CAN_FRAME_RECEIVE (R296). A frame received on the bus is matched against the receive objects and placed in a
  visible buffer, a shadow, a spill buffer or a queue, or dropped. -/
  | canFrameReceive (channel : Nat) (rx : CanRx)
/-- CAN_FRAME_TRANSMIT_END (R309). An attempt ends: success clears PENDING; an error leads to a retransmission within
  the retry budget or to a failure. -/
  | canFrameTransmitEnd (channel start : Nat) (result : CanEnd)
/-- CAN_TT_RELEASE (R312). At the armed instant of a TT 1 object, its frame is released to the arbitration candidates.
  -/
  | canTtRelease (object : Nat)
/-- CAN_GANG_INSTANT (R313). At a CAN gang instant, every armed TT 2 object of the channel is released together, or
  repeated or skipped as REPEAT sets. -/
  | canGangInstant (channel : Nat)
/-- CAN_TXD_DOMINANT_TIMEOUT (R290). The transceiver ends any dominant drive held longer than 1.2 ms, which counts one
  event against the channel. -/
  | canTxdDominantTimeout (channel : Nat)
/-- OBJ_STATUS_READ (R306). A read of OBJ_STATUS of a receive object sets LOCKED, freezing the slot on the visible
  frame. -/
  | objStatusRead (partition object : Nat)
/-- OBJ_CTRL_SEND_REQ (R308). SEND_REQ releases the send object's frame from the slot, or arms it for TT 1 or TT 2,
  and sets PENDING. -/
  | objCtrlSendReq (partition object : Nat)
/-- OBJ_CTRL_ABORT (R311). ABORT withdraws a pending or armed frame before its start of frame, failing it with cause
  0x9. -/
  | objCtrlAbort (partition object : Nat) (begun : Bool)
/-- OBJ_CTRL_RELEASE (R306). RELEASE ends the read of a receive object, clears NEW, LOCKED and CHECK_FAIL and moves a
  shadow frame into the visible buffer. -/
  | objCtrlRelease (partition object : Nat)
/-- LIN_CHANNEL_CONFIG (R322). Sets a LIN channel's enable, role, vector and bit rate. -/
  | linChannelConfig (r : Request)
/-- LIN_SCHEDULE_SET (R326). Loads a schedule table from owner memory, to take effect at the end of the running cycle
  after checking admitted flows. -/
  | linScheduleSet (r : Request)
/-- LIN_FRAME_WRITE (R327). Fills the data buffer of a publishing entry for its next response. -/
  | linFrameWrite (r : Request)
/-- LIN_FRAME_READ (R327). Returns a receiving entry's last frame and clears NEW. -/
  | linFrameRead (r : Request)
/-- LIN_BUS_CONTROL (R329). Sends the go-to-sleep command and stops the schedule, or sends a 250 µs wake pulse. -/
  | linBusControl (r : Request)
/-- LIN_SLOT_START (R324). At each slot start, a commander sends the entry's header, then publishes or captures the
  response. -/
  | linSlotStart (channel : Nat)
/-- LIN_HEADER_RECEIVE (R324). A responder receiving a header whose ID an entry holds answers with the entry's data,
  or captures the response. -/
  | linHeaderReceive (channel id : Nat)
/-- LIN_RESPONSE_RECEIVE (R327). A received response is checked and stored in the entry's buffer, setting NEW,
  counting an overrun and raising VECTOR where applicable. -/
  | linResponseReceive (channel : Nat) (data : List Byte) (checksum : Byte) (error : Nat)
/-- LIN_NO_RESPONSE (R323). When a response does not complete within T_MAX of the break, a no-response error is
  counted. -/
  | linNoResponse (channel : Nat)
/-- LIN_WAKE_SEEN (R329). A dominant level longer than 150 µs outside a frame on a running channel raises
  LIN_WAKE_SEEN. -/
  | linWakeSeen (channel : Nat)
/-- LIN_SCHEDULE_RESTART (R329). 100 ms after a commander's wake pulse ends, the table restarts from entry 0. -/
  | linScheduleRestart (channel : Nat)
/-- LOCAL_PORT_CONFIG (R331). Configures an SPI, I²C, UART or GPIO local port, with its rate, mode, queues, vector and
  edge. -/
  | localPortConfig (r : Request)
/-- LOCAL_TRANSFER (R332). Starts an SPI or I²C transfer and returns ACCEPTED. -/
  | localTransfer (r : Request)
/-- LOCAL_TRANSFER_DONE (R337). When an SPI or I²C transfer ends, LOCAL_TRANSFER_DONE reports its status and the bytes
  transferred. -/
  | localTransferDone (instance_ status : Nat) (data : List Byte)
/-- LOCAL_GPIO_SET (R332). Sets the output levels of owned GPIO outputs. -/
  | localGpioSet (r : Request)
/-- LOCAL_GPIO_GET (R334). Returns pin levels, the edges latched since the last GET (and clears them), and the straps.
  -/
  | localGpioGet (r : Request)
/-- GPIO_EDGE (R332). A debounced edge on a GPIO input is latched and raises the port's vector when configured. -/
  | gpioEdge (gpio : Nat) (level : Bool)
/-- UART_BYTE_RECEIVE (R333). A received UART byte is written to the receive descriptor, held, dropped on a framing or
  parity error, or counted as an overrun. -/
  | uartByteReceive (port : Nat) (byte : Byte) (error : Bool)
/-- UART_IDLE_TIMEOUT (R333). A line idle for 3 character times after at least one byte completes the receive
  descriptor. -/
  | uartIdleTimeout (port : Nat)
/-- LOAD_CHANNEL_CONFIG (R376). Sets a load channel's restart, diagnostic, PWM, phase, threshold and bridge settings.
  -/
  | loadChannelConfig (r : Request)
/-- LOAD_WIRE_SET (R385). Sets a channel's wire parameters, keeping θ and judging it against the new θ_trip at the
  next update. -/
  | loadWireSet (r : Request)
/-- LOAD_SET (R374). A ring command item that switches a channel, sets its bridge mode or duty, or clears its latch.
  -/
  | loadSet (r : Request)
/-- LOAD_SET_DIRECT_WRITE (R374). A write to the direct-set register passes the flow's bucket and changes ON, BRIDGE
  or DUTY, or is ignored or dropped. -/
  | loadSetDirectWrite (partition channel : Nat) (value : Word)
/-- LOAD_SET_CLEAR (R388). CLEAR clears the latch and the retry history without forcing a restart. -/
  | loadSetClear (r : Request)
/-- LOAD_QUERY (R372). Returns a channel's state, flags, current, temperature, wire rise, phase, effective threshold,
  trips and drops. -/
  | loadQuery (r : Request)
/-- LOAD_GANG_SET (R377). Starts, changes or stops a PWM gang of load channels. -/
  | loadGangSet (r : Request)
/-- LOAD_MEASURE_SET (R380). Schedules a channel's current samples into a DMA queue of the owner. -/
  | loadMeasureSet (r : Request)
/-- LOAD_DIAG_RUN (R390). Runs an open-load, short or on-resistance check as a maintenance flow, or defers it. -/
  | loadDiagRun (r : Request)
/-- LOAD_DIAG_DONE (R391). When a diagnostic check ends, is aborted or becomes not permitted, LOAD_DIAG_DONE reports
  its result. -/
  | loadDiagDone (channel result measured : Nat)
/-- LOAD_SAFE_TABLE_SET (R395). Verifies a signed safe-state table image and its VERSION and starts writing both
  copies to NV. -/
  | loadSafeTableSet (r : Request)
/-- SAFE_TABLE_WRITTEN (R395). When both copies of the table are in NV, the new table applies and SAFE_TABLE_WRITTEN
  is raised. -/
  | safeTableWritten
/-- LOAD_HOLD_SET (R392). Sets HOLD_MS of the hold window. -/
  | loadHoldSet (r : Request)
/-- LOAD_RECLAIM (R392). Reclaims held channels of the issuer after a compute-die restart, reporting which were still
  HELD. -/
  | loadReclaim (r : Request)
/-- LOAD_HOLD_END (R392). At t0 + HOLD_MS, every channel not reclaimed goes to its safe-state entry and LOAD_HOLD_END
  is raised. -/
  | loadHoldEnd
/-- LOAD_OVERCURRENT_TRIP (R383). Current above the threshold for 0.5 µs switches the channel off, sets TRIPPED and
  the cause, and raises LOAD_PROTECTION. -/
  | loadOvercurrentTrip (channel currentMa : Nat)
/-- LOAD_THERMAL_TRIP (R383). A FET junction at 175 °C switches the channel off with the thermal cause. -/
  | loadThermalTrip (channel : Nat)
/-- LOAD_DELTA_T_TRIP (R383). A FET junction 60 K above the die reference switches the channel off with the ΔT cause.
  -/
  | loadDeltaTTrip (channel : Nat)
/-- WIRE_MODEL_UPDATE (R384). Every 1 ms each channel's wire temperature rise θ is updated from its squared current.
  -/
  | wireModelUpdate
/-- LOAD_RESTART (R388). A tripped channel with ON set restarts at a period start once every restart condition holds,
  using one retry. -/
  | loadRestart (channel : Nat)
/-- PWM_PERIOD_START (R376). At each period start, a channel applies any new duty, period or phase, with on-time and
  off-time lengthened to the class minima. -/
  | pwmPeriodStart (channel : Nat)
/-- CURRENT_SAMPLE (R380). At a scheduled instant, the channel's current is sampled and delivered as a 16-byte record
  to its queue. -/
  | currentSample (channel : Nat) (microamps : Int) (saturated : Bool)
/-- OPEN_LOAD_DETECT (R389). On-state open load, off-state open load or a short to battery is detected and sets
  diagnostic flags only. -/
  | openLoadDetect (channel kind : Nat)
/-- RIPPLE_REPLAN (R378). Masthead re-plans the phases of PHASE_AUTO channels, at most once per 10 ms, after a
  qualifying change. -/
  | rippleReplan
/-- SUPPLY_DIP_START (R406). A feed falling below its warning level after the filter begins a dip, and its channels
  follow their dip-shed policy. -/
  | supplyDipStart (feed mv : Nat)
/-- SUPPLY_DIP_END (R406). A feed rising above its recovery level ends the dip, restores channels as their policy
  gives and raises SUPPLY_DIP. -/
  | supplyDipEnd (feed lowest : Nat)
/-- SHED_RESTORE_DELAY (R407). RESTORE_DELAY_MS after a dip ends, each SHED_RESTORE channel applies its present
  LOAD_SET value again. -/
  | shedRestoreDelay (channel : Nat)
/-- SUPPLY_FEED_LOST (R410). A feed below 4.5 V while VLOGIC stays up is lost; its channels go off with SUPPLY_OFF,
  and SUPPLY_DIP with KIND 0x02 is raised. -/
  | supplyFeedLost (feed mv : Nat)
/-- VLOGIC_LOW (R411). VLOGIC below 4.5 V for 10 µs starts a compute-die reset and opens the hold window. -/
  | vlogicLow (mv : Nat)
/-- POWER_DIE_LOGIC_LOSS (R411). VLOGIC below 3.5 V turns every output off, so that the next rise is a power-up. -/
  | powerDieLogicLoss
/-- SUPPLY_OVERVOLTAGE (R412). A feed that has exceeded the logged over-voltage level and falls back below it raises
  SUPPLY_OVERVOLTAGE with KIND 0x01. -/
  | supplyOvervoltage (feed highest : Nat)
/-- HIGH_VOLTAGE_SHUTDOWN (R413). A feed above the shutdown level switches every channel off and, on the 12 V profile,
  raises the clamps. -/
  | highVoltageShutdown (feed mv : Nat)
/-- HIGH_VOLTAGE_RELEASE (R413). 10 ms after release, channels return to their LOAD_SET values or stay off, and
  SUPPLY_OVERVOLTAGE with KIND 0x02 is raised. -/
  | highVoltageRelease
/-- GROUND_LOSS (R415). The ground rail rising 0.8 V above a monitored blade for 2 µs switches every output off and
  blocks reverse current. -/
  | groundLoss (blades : Nat) (offsetMv : Int)
/-- GROUND_RESTORED (R416). An offset below 0.4 V for 1 ms restores ground, with channels off until commanded, and
  raises GROUND_LOSS. -/
  | groundRestored (largest : Nat)
/-- SUPPLY_REGULATOR (R417). A rail outside its window for 2 µs is one event against 0x1A03 and raises
  SUPPLY_REGULATOR. -/
  | supplyRegulator (rail mv : Nat) (above : Bool)
/-- SENSE_INPUT_CONFIG (R424). Sets a sense input's mode, wetting, range, threshold, hysteresis, debounce and supply
  tie within the wetting budget. -/
  | senseInputConfig (r : Request)
/-- SENSE_STATE_READ (R428). Returns the switch states of the issuer's inputs as one snapshot with the CHANGED mask,
  and clears the mask. -/
  | senseStateRead (r : Request)
/-- SENSE_SAMPLE_SET (R430). Gives an input a sampling schedule and receive queue, or stops it. -/
  | senseSampleSet (r : Request)
/-- SENSE_GANG_SET (R430). Starts, changes or stops a sense gang. -/
  | senseGangSet (r : Request)
/-- SENSE_CAL_RUN (R437). Requests one extra calibration of every converter in rotation order. -/
  | senseCalRun (r : Request)
/-- SENSE_CAL_DONE (R443). When the requested calibration ends, SENSE_CAL_DONE reports its status and any failed
  converters. -/
  | senseCalDone
/-- SENSOR_SUPPLY_SET (R438). Switches a sensor supply output on or off; an enable clears a latch. -/
  | sensorSupplySet (r : Request)
/-- SENSE_QUERY (R441). Returns an input's mode, state, last value, skipped and lost counts and converter states. -/
  | senseQuery (r : Request)
/-- SENSE_COMPARATOR_READ (R426). A comparator reading, every 50 µs or at the end of a wetting pulse, is judged
  against debounce for a switch-state change. -/
  | senseComparatorRead (input : Nat) (high : Bool)
/-- SENSE_SAMPLE (R430). At a sampling instant the input is captured, converted and delivered as a 16-byte record. -/
  | senseSample (input : Nat) (value : Int) (flags : Nat)
/-- CONVERTER_ROTATION (R434). Every ROTATE_MS the converter longest in service leaves for calibration and the
  calibrated one joins. -/
  | converterRotation
/-- CONVERTER_CALIBRATION_DONE (R435). A converter's calibration and cross-checks end; a departure above 8 LSB is one
  event, and the converter waits in STANDBY. -/
  | converterCalibrationDone (converter : Nat) (bad : Bool)
/-- SENSOR_SUPPLY_LIMIT (R438). An output in current limit for 2 ms switches off and restarts after 100 ms up to 3
  times, then latches off. -/
  | sensorSupplyLimit (output : Nat)
/-- SENSOR_SUPPLY_OVERVOLTAGE (R438). An output held above 5.5 V for 1 ms switches off until the level falls below 5.3
  V. -/
  | sensorSupplyOvervoltage (output : Nat)
/-- SENSOR_SUPPLY_UNDERVOLTAGE (R438). An output below 4.5 V while not limiting stays on and raises
  SENSOR_SUPPLY_FAULT. -/
  | sensorSupplyUndervoltage (output : Nat)
/-- SLEEP_ENTER (R340). Checks the sleep-entry conditions and enters Idle, or starts entry to Meadow or Heath. -/
  | sleepEnter (r : Request)
/-- SLEEP_ENTRY_PHASE (R344). Entry runs its next phase once the previous one has ended: NV writes, outputs off,
  commit point, power-down. -/
  | sleepEntryPhase
/-- SLEEP_CANCEL (R348). Stops an entry that has not reached its commit point. -/
  | sleepCancel (r : Request)
/-- WAKE_SOURCE_SET (R360). Sets a wake source's states, filters, limits and backoff, or clears its mute. -/
  | wakeSourceSet (r : Request)
/-- WAKE_SELECTIVE_SET (R350). Sets the selective wake frame filter of a CAN channel. -/
  | wakeSelectiveSet (r : Request)
/-- WAKE_QUERY (R357). Reads a wake record entry, or a source's false-wake state. -/
  | wakeQuery (r : Request)
/-- WAKE_VALIDATE (R359). Marks a wake line's wake as genuine while its validation window is open. -/
  | wakeValidate (r : Request)
/-- RTC_ALARM_SET (R354). Sets or clears the single RTC alarm. -/
  | rtcAlarmSet (r : Request)
/-- RTC_ALARM (R354). At the first RTC tick at or after the alarm instant, the alarm fires, wakes or aborts entry, and
  is cleared. -/
  | rtcAlarm
/-- WAKE_LATCH (R356). A filtered wake of an enabled source aborts an entry before the commit point, or is latched and
  starts the wake sequence. -/
  | wakeLatch (source detail : Nat)
/-- IDLE_EXIT (R342). An exit trigger ends Idle, returns to Run and posts SLEEP_IDLE_EXIT. -/
  | idleExit (cause source : Nat)
/-- WAKE_WINDOW_EXPIRY (R359). A wake whose validation window closes without evidence is false: FALSE_COUNT rises, and
  the source is muted at FALSE_LIMIT. -/
  | wakeWindowExpiry (source : Nat)
/-- WAKE_MUTE_EXPIRY (R360). When a mute's interval expires, the source wakes again. -/
  | wakeMuteExpiry (source : Nat)
/-- TIME_SOURCE_MEASUREMENT (R198). A measured offset from the selected source moves the servo between FREE, ACQUIRING
  and LOCKED and adjusts the rate, raising TIME_STATE_CHANGED. -/
  | timeSourceMeasurement (offset rate : Int)
/-- TIME_SOURCE_LOSS (R198). Three sync intervals without a sync, or 1.1 s without a PPS_IN edge, put the servo in
  HOLDOVER. -/
  | timeSourceLoss
/-- HOLDOVER_LIMIT (R198). After HOLDOVER_LIMIT_S the servo becomes FREE and the increment returns to nominal. -/
  | holdoverLimit
/-- PPS_IN_EDGE (R201). A rising PPS_IN edge is stamped, or rejected and counted when it is far from the expected
  instant while LOCKED. -/
  | ppsInEdge
/-- PPS_OUT_PULSE (R202). PPS_OUT rises when the chosen timescale crosses a whole second and falls after PPS_WIDTH_MS.
  -/
  | ppsOutPulse
/-- D7_TIME_STAMP (R203). A Device Time stamp over Backstay corrects the D7 copy and makes an invalid copy valid. -/
  | d7TimeStamp
/-- D7_COPY_INVALID (R204). After 1 ms without a stamp, the D7 copy becomes invalid and current-sampling flows are
  revoked. -/
  | d7CopyInvalid
/-- D6_COPY_INVALID (R203). After 10 µs without a stamp, the switch's copy of Device Time becomes invalid. -/
  | d6CopyInvalid
/-- TIME_REFERENCE_REFRESH (R196). Masthead refreshes the Heath reference pair T_REF and R_REF once every second. -/
  | timeReferenceRefresh
/-- CLOCK_MONITOR_EXCURSION (R210). A clock missing edges or drifting beyond its limit is one event against its
  clock-domain or Device Time unit. -/
  | clockMonitorExcursion (unit cause : Nat)
/-- BACKSTAY_FRAME_FAIL (R13). A received Backstay frame that fails its check is re-requested and counts an upset;
  four failures in a row are a lasting fault. -/
  | backstayFrameFail
/-- MASTHEAD_HEARTBEAT (R15). Masthead sends a heartbeat every 1.000 ms with a rising count. -/
  | mastheadHeartbeat (count : Nat)
/-- MASTHEAD_HEARTBEAT_TIMEOUT (R467). Stay declares Masthead absent on a missed heartbeat, a Backstay lasting fault
  or a Masthead core fault, freezes the switch, applies the safe states and attempts restarts. -/
  | mastheadHeartbeatTimeout (cause : Nat)
/-- MASTHEAD_RESTART_ATTEMPT (R467). Stay resets the Masthead core, zero-fills its memory, reloads and verifies the
  firmware and releases the core. -/
  | mastheadRestartAttempt
/-- MASTHEAD_RESTART_TIMEOUT (R467). An attempt without a heartbeat within 50 ms fails; the next begins 1 ms later, or
  Hove-to follows the third failure within 60 s. -/
  | mastheadRestartTimeout
/-- CONTROLLER_RETURNED (R469). The first heartbeat of an attempt ends the absence: CONTROLLER_RETURNED is raised,
  held revocations are computed and the switch freeze ends. -/
  | controllerReturned
/-- TRIAL_HOVE_TO_RESET (R591). 1 s after Hove-to is entered with a trial in force, Stay performs a module reset. -/
  | trialHoveToReset
/-- TWIN_PASS_MISMATCH (R461). A mismatch discards unconfirmed results and replays once; a matching replay counts one
  event, and a second mismatch is lasting. -/
  | twinPassMismatch (unit : Nat) (again : Bool)
/-- CPU_CCLASS_WRITE (R448). A write changing HCLASS or VCLASS flushes the core's L1 caches and branch state before
  the next instruction. -/
  | cpuCclassWrite (core : Nat) (value : BitVec 64)
/-- UNIT_EVENT (R39). A detected error of a unit is counted in its window and becomes an upset, or a lasting fault
  that furls the unit. -/
  | unitEvent (unit cause inFlight : Nat) (lasting copyFails : Bool)
/-- FURL_REVOCATION (R46). After a furl Masthead revokes the flows that relied on the lost capacity and posts one
  FLOW_REVOKED per flow. -/
  | furlRevocation
/-- HEALTH_CLASS_SET (R42). Changes a class's threshold N and window W, to apply from the class's next event. -/
  | healthClassSet (r : Request)
/-- HEALTH_UNIT_QUERY (R559). Returns a unit's health state, the time of its last event and the time of its furl. -/
  | healthUnitQuery (r : Request)
/-- UNIT_FURL (R560). P0 furls a unit of a furlable class, with CAUSE 0x03. -/
  | unitFurl (r : Request)
/-- UNIT_UNFURL (R561). Starts a furled unit's unfurl test. -/
  | unitUnfurl (r : Request)
/-- UNFURL_DONE (R561). When the unfurl test ends, the unit returns to service in its reset state or stays furled, and
  UNFURL_DONE is raised. -/
  | unfurlDone (unit : Nat) (passed : Bool)
/-- REEF_PLAN_RUN (R564). Requests a computation of the Reef plan. -/
  | reefPlanRun (r : Request)
/-- REEF_QUERY (R565). Returns the reef level of each domain, the D4 ceiling point and the plan sequence. -/
  | reefQuery (r : Request)
/-- REEF_PLAN (R565). At start-up, every 24 h or on request, Masthead computes levels, guard bands, ceilings, derating
  steps and trims from the ageing monitors. -/
  | reefPlan
/-- REEF_CEILING_APPLY (R570). After the plan's revocations, the lower frequency ceiling takes effect and REEF_CHANGED
  is posted. -/
  | reefCeilingApply
/-- AGEING_MONITOR_SAMPLE (R562). An ageing monitor takes its periodic sample of frequency loss, threshold shift,
  drift, on-resistance or thermal cycles. -/
  | ageingMonitorSample (domain measure index : Nat) (value : Int)
/-- SELFTEST_RUN (R572). Runs the online test of one unit once, or defers it. -/
  | selftestRun (r : Request)
/-- SELFTEST_SCHEDULE_SET (R572). Sets or stops the online test period of a class. -/
  | selftestScheduleSet (r : Request)
/-- SELFTEST_QUERY (R572). Returns a class's online test period, the steps run and failed, and the time of the last
  failure. -/
  | selftestQuery (r : Request)
/-- SELFTEST_SLICE (R571). An online test slice runs on a unit in slack; a failed step is one event with CAUSE 0x04.
  -/
  | selftestSlice (unit : Nat) (failed : Bool)
/-- LIFECYCLE_READ (R495). Returns the life-cycle state, security flags, latched tamper inputs, key revocations,
  FW_MIN_VERSION and DEVICE_UID. -/
  | lifecycleRead (r : Request)
/-- LIFECYCLE_CHALLENGE (R498). Issues a fresh 16-byte challenge for tokens, together with DEVICE_TAG. -/
  | lifecycleChallenge (r : Request)
/-- CHALLENGE_EXPIRY (R498). A challenge expires 60 s after its issue. -/
  | challengeExpiry
/-- LIFECYCLE_ADVANCE (R497). Checks any token, blows the target fuse, destroys the bound slots and unseals the
  Locker, ending with LIFECYCLE_DONE. -/
  | lifecycleAdvance (r : Request)
/-- DEBUG_OPEN (R499). Opens or closes debug access, emptying volatile slots and sealing the Locker until the next
  module reset. -/
  | debugOpen (r : Request)
/-- OTP_WRITE (R475). Writes a CFG key, revokes an FW or CFG key, or raises FW_MIN_VERSION in OTP. -/
  | otpWrite (r : Request)
/-- LIFECYCLE_DONE (R510). When a life-cycle, debug, OTP or tamper-release operation ends, LIFECYCLE_DONE reports its
  status. -/
  | lifecycleDone (blown : Bool)
/-- TAMPER_CONFIG (R502). Sets a tamper input's class, PCLASS, polarity, debounce and detector mask. -/
  | tamperConfig (r : Request)
/-- TAMPER_LOG_READ (R507). Copies tamper log entries from a sequence number to a buffer. -/
  | tamperLogRead (r : Request)
/-- TAMPER_RELEASE (R506). Clears every tamper latch when the inputs are inactive and no erasure is pending, then
  unseals the Locker or resumes start-up. -/
  | tamperRelease (r : Request)
/-- TAMPER_DETECTED (R503). A tamper of class 1 or 2 stops Halyard, aborts key operations, empties keys, seals the
  Locker and logs the event; class 0 only logs. -/
  | tamperDetected (input detail : Nat)
/-- TAMPER_ERASE_DONE (R503). The image areas of the erased persistent classes have been erased, and ERASE_DONE is
  recorded. -/
  | tamperEraseDone
/-- KEY_SLOT_OWNER_SET (R481). Sets a slot's owner mask, rewriting a READY persistent slot. -/
  | keySlotOwnerSet (r : Request)
/-- KEY_GENERATE (R482). Fills a slot with a key drawn from the DRBG. -/
  | keyGenerate (r : Request)
/-- KEY_DERIVE (R484). Fills a slot with a key derived by SP 800-108 from a source slot or the root. -/
  | keyDerive (r : Request)
/-- KEY_UNWRAP (R485). Fills a slot with a key verified and decrypted from a wrapped-key blob. -/
  | keyUnwrap (r : Request)
/-- KEY_IMPORT (R482). Fills a slot with a plain-text key from memory, in Blank, Provisioned and Returned only. -/
  | keyImport (r : Request)
/-- KEY_WRAP (R485). Wraps a slot's key under a wrap slot into a 64-byte blob, drawing a counter value. -/
  | keyWrap (r : Request)
/-- KEY_DESTROY (R492). Empties a slot, zeroing the COMMIT words of a persistent slot and clearing SA keys loaded from
  it. -/
  | keyDestroy (r : Request)
/-- KEY_QUERY (R479). Returns a slot's state, area, ATTR, VERSION and owner mask. -/
  | keyQuery (r : Request)
/-- KEY_COMMITTED (R491). A persistent slot write reaches its commit word, or fails or is abandoned, and KEY_COMMITTED
  is posted. -/
  | keyCommitted (slot : Nat) (ok : Bool)
/-- KEY_AREA_ERASE_DONE (R491). The background erase of a superseded or destroyed image area ends. -/
  | keyAreaEraseDone (slot : Nat) (ok : Bool)
/-- TRNG_HEALTH_FAIL (R476). A failed entropy health test discards its samples, counts one event and makes requests
  wait. -/
  | trngHealthFail
/-- DRBG_RESEED (R476). The DRBG is reseeded every 1 s or every 65 536 requests. -/
  | drbgReseed
/-- COUNTER_HIGH_MARK_WRITE (R520). When the next counter value passes the middle of its block, the Locker writes H as
  the end of the following block in the background. -/
  | counterHighMarkWrite (slot : Nat)
/-- LOCKER_UNSEAL (R492). The Locker judges each persistent slot's image areas, destroys mis-bound slots, resumes
  counters at H and unseals. -/
  | lockerUnseal
/-- CIPHER_RUN (R517). Checks a cipher descriptor, slot, owners, uses and counter, draws the counter value and queues
  the operation, returning ACCEPTED. -/
  | cipherRun (r : Request)
/-- CIPHER_OP_END (R517). When an operation ends, the TZ7 writes its outputs, zero-fills DST on a tag failure or
  fault, then writes STATUS and raises VECTOR. -/
  | cipherOpEnd (operation : Nat)
/-- CIPHER_COUNTER_READ (R520). Returns a slot's next counter value, its high mark and its exhausted and exported
  flags. -/
  | cipherCounterRead (r : Request)
/-- CIPHER_QUERY (R518). Returns strands in service and held, and the issuer's open operations and failure counts. -/
  | cipherQuery (r : Request)
/-- CIPHER_HOLD_SET (R160). Sets which strands are held unbound. -/
  | cipherHoldSet (r : Request)
/-- CVU_CONFIG (R528). Configures a check-value unit's CRC model, counter and fold, and clears its counts. -/
  | cvuConfig (r : Request)
/-- CVU_RUN (R532). Computes or checks a check value over memory, updating the counter state and counts. -/
  | cvuRun (r : Request)
/-- CVU_STREAM_ATTACH (R531). Attaches a CVU to, or detaches it from, a stream filter. -/
  | cvuStreamAttach (r : Request)
/-- CVU_QUERY (R530). Returns a CVU's item, mismatch, repeat, out-of-window and lost counts and its counter, clearing
  the counts with CLEAR. -/
  | cvuQuery (r : Request)
/-- FAIRLEAD_CONFIG (R541). Enables the PCIe link and sets speed, payload sizes, timeouts, identity and BARs. -/
  | fairleadConfig (r : Request)
/-- FAIRLEAD_WINDOW_SET (R543). Configures an outbound or inbound window's size, addresses and attributes. -/
  | fairleadWindowSet (r : Request)
/-- FAIRLEAD_MOVE (R546). Queues an outbound read or write through an owned window and returns ACCEPTED. -/
  | fairleadMove (r : Request)
/-- FAIRLEAD_MOVE_END (R547). An outbound operation ends at acknowledgement, flush return or data arrival, or on an
  error, and its status word is written. -/
  | fairleadMoveEnd (operation status : Nat) (data : List Byte)
/-- FAIRLEAD_FENCE_CLEAR (R552). Clears the write fence of a window. -/
  | fairleadFenceClear (r : Request)
/-- FAIRLEAD_CFG (R542). Reads or writes a configuration register of the far side in root-complex mode. -/
  | fairleadCfg (r : Request)
/-- FAIRLEAD_QUERY (R551). Returns the link state, fences and counters, and copies the posted-error log. -/
  | fairleadQuery (r : Request)
/-- FAIRLEAD_LINK_STATE (R541). The PCIe link trains, comes UP or goes down, and FAIRLEAD_LINK_STATE is raised. -/
  | fairleadLinkState (state speed width : Nat) (progress : List (Nat × Nat))
/-- FAIRLEAD_INBOUND_REQUEST (R544). An inbound read or write is translated through its window into owner memory, or
  discarded or answered with Unsupported Request. -/
  | fairleadInboundRequest (write : Bool) (bar address : Nat) (data : List Byte) (length requester : Nat)
/-- FAIRLEAD_POSTED_ERROR (R551). An error message or unacknowledged TLP is attributed to a window, logged, fences the
  window when set, and raises FAIRLEAD_POSTED_ERROR. -/
  | fairleadPostedError (cause address length : Nat)
/-- FAIRLEAD_BACKOFF (R553). An outbound non-posted request that has waited BACKOFF_US for credits leaves the queue
  head and is retried BACKOFF_US later. -/
  | fairleadBackoff (operation : Nat)
/-- FAIRLEAD_COMPLETION_TIMEOUT (R553). A read not completed within CPL_TIMEOUT_US ends its operation with
  FAIRLEAD_COMPLETION_TIMEOUT. -/
  | fairleadCompletionTimeout (operation : Nat)
/-- PREFETCH_BUFFER_EXPIRY (R549). A window's prefetch buffer is discarded 10 µs after it was filled. -/
  | prefetchBufferExpiry (window : Nat)
/-- CMD_RING_TAIL_WRITE (R65). The doorbell: the TZ7 reads every command entry from HEAD up to the new tail, or sets
  DOORBELL_ERR for an invalid value. -/
  | cmdRingTailWrite (partition ring : Nat) (tail : Word)
/-- CMD_RING_ENABLE (R65). Setting ENABLE of a command ring reads every entry from HEAD up to the tail at once. -/
  | cmdRingEnable (partition ring : Nat) (control : Word)
/-- CMD_RING_DISABLE (R67). Clearing ENABLE of a command ring stops further reads; commands already read still
  complete. -/
  | cmdRingDisable (partition ring : Nat) (control : Word)
/-- CPL_RING_ENABLE (R69). Setting ENABLE of the completion ring resumes command intake and posts held completions. -/
  | cplRingEnable (partition : Nat) (control : Word)
/-- EVT_RING_ENABLE (R75). Setting ENABLE of the event ring writes any held BOOT_REPORT and an EVENT_RING_OVERFLOW for
  events dropped meanwhile. -/
  | evtRingEnable (partition : Nat) (control : Word)
/-- RING_CONFIG_WRITE (R62). While a ring is disabled, a write to its BASE or a change of SIZE_LOG2 resets head, tail
  and phase. -/
  | ringConfigWrite (partition offset : Nat) (value : Word)
/-- CPL_RING_TAIL_WRITE (R69). Advancing the completion ring tail frees space, posts held completions and resumes
  command intake. -/
  | cplRingTailWrite (partition : Nat) (tail : Word)
/-- EVT_RING_TAIL_WRITE (R73). Advancing the event ring tail frees space, so that EVENT_RING_OVERFLOW is written first
  after drops. -/
  | evtRingTailWrite (partition : Nat) (tail : Word)
/-- RING_ACCESS_FAULT_CLEAR (R64). Clearing ACCESS_FAULT restarts a stopped ring: the faulting entry is read again or
  the pending record is written again. -/
  | ringAccessFaultClear (partition offset : Nat)
/-- EVT_RING_DROPPED_READ (R58). A read of EVT_RING_DROPPED returns the count of dropped events and clears it. -/
  | evtRingDroppedRead (partition : Nat)
/-- COMMAND_EXECUTE_F (R85). Masthead takes the next F command in round robin, P0's rings first, and executes it, or
  completes it with CONTROLLER_ABSENT. -/
  | commandExecuteF
/-- INT_STATUS_CLEAR (R96). Writing 1 to an INT_STATUS bit clears it, so that later completions and events raise the
  vector again. -/
  | intStatusClear (partition : Nat) (value : Word)
/-- INT_MASK_WRITE (R97). Clearing an INT_MASK bit while its INT_STATUS bit is set sends one interrupt message at
  once. -/
  | intMaskWrite (partition : Nat) (value : Word)
/-- COALESCE_TIMER (R72). TIME_US after the first completion since the last raise, the completion ring's vector is
  raised. -/
  | coalesceTimer (partition : Nat)
/-- REGISTER_WRITE (R6). A write to a register or field without behaviour of its own acts by its access type;
  reserved, ignored or disabled-window writes have no effect. -/
  | registerWrite (partition address : Nat) (value : Word)
/-- POWER_UP (R583). VLOGIC rising above 4.8 V releases the power die, samples the straps, checks the profile and
  brings up the compute rails. -/
  | powerUp (straps vlogicMv : Nat) (heathLost : Bool)
/-- RESET_N_PULSE (R600). RESET_N held low for at least 10 µs causes a module reset, and the start follows from step 1
  without strap sampling. -/
  | resetNPulse (lengthNs : Nat)
/-- STARTUP_BOOT_ROM (R583). The boot ROM reads the tamper latches, finishes pending erasures, generates the root if
  needed and selects and verifies the banks. -/
  | startupBootRom
/-- STARTUP_SELFTEST (R585). The start-up tests run; failing units are furled, or the start stops for the memory
  controller, fabric or IOMMU. -/
  | startupSelftest (failing : List Nat)
/-- COMMAND_LIST_EXECUTE (R589). The configuration's commands are executed in order as P0 commands until one fails;
  then the application cores start and BOOT_REPORT is held. -/
  | commandListExecute
/-- RECOVERY_IMAGE_RECEIVE (R592). In a recovery start, an image received on UART0 is verified and written to bank A,
  and a module reset follows when both kinds verify. -/
  | recoveryImageReceive (image : List Byte) (writeOk : Bool)
/-- RECOVERY_BEACON (R592). Once per second, a recovery start sends its 8-byte announcement on UART0. -/
  | recoveryBeacon
/-- ISOLATION_CONDITION (R605). Leaving or regaining the life-cycle, tamper or electrical and thermal limits raises
  ISOLATION_CONDITION. -/
  | isolationCondition (outside : Bool)
/-- VLOGIC_RESET_RELEASE (R411). After a compute-die reset caused by VLOGIC below 4.5 V, VLOGIC rising above 4.8 V
  lets the compute die start again. -/
  | vlogicResetRelease
/-- OVER_VOLTAGE_LOGGED (R412). A feed rising above the over-voltage logged level enters the logged over-voltage
  condition, setting STATE bit 4 and fixing the time of the rising crossing. -/
  | overVoltageLogged (feed mv : Nat)
/-- D6_TIME_STAMP (R203). A Device Time stamp arriving at D6 every 1.024 µs corrects the switch's copy and makes an
  invalid copy valid again. -/
  | d6TimeStamp
/-- SENSOR_SUPPLY_RESTART (R438). 100 ms after a sensor supply output was switched off for current limit, it switches
  on again, up to 3 times in 10 s. -/
  | sensorSupplyRestart (output : Nat)
/-- SENSOR_SUPPLY_OVERVOLTAGE_RELEASE (R438). A sensor supply output held off by an outside source switches on again
  once the level falls below 5.3 V. -/
  | sensorSupplyOvervoltageRelease (output : Nat)
/-- SELECTIVE_WAKE_DECODER_FRAME (R349). In Meadow, each frame that the selective decoder sees counts the error
  counter up or down, and the channel wakes with error overflow when the count reaches 32. -/
  | selectiveWakeDecoderFrame (channel : Nat) (ok : Bool) (frame : CanFrame)
/-- DELAYED_ITEM_CONFORMS (R177). A source item held back by its flow's token bucket, such as a ring load command, a
  CAN send release or a cipher operation, conforms once the bucket refills to its size and then goes on. -/
  | delayedItemConforms (kind subject : Nat)
deriving DecidableEq, Repr

end Sys2Proof
end

