-- ==== Sys2Proof/Decode.lean ====
section
/-! DEFINITION. The words of commands. The opcode table gives its rows no bits, so no word spells a command: commands are
packets with the layout of R76, register accesses and events. -/

namespace Sys2Proof

/-- The command that a word spells by the opcode table's bits: the table gives no row any bits. -/
def decodeTableWord (_nbits _w : Nat) : Option Instr := none

end Sys2Proof
end

