-- ==== Sys2Proof/Config.lean ====
section
/-! DEFINITION. What an implementation fixes and the spec leaves open: constants with no body. Nothing can evaluate
them or prove a value of them, so every claim holds for every value. -/

namespace Sys2Proof.Config

/-- The `n`-th free value of the run: a number nothing constrains. -/
opaque freeValue : Nat → Nat

/-- The `n`-th free choice of the run. -/
opaque freeChoice : Nat → Bool

/-- DEVICE_UID of this module (R475). -/
opaque deviceUid : Nat

/-- DEVICE_TAG of this module (R475). -/
opaque deviceTag : Nat

/-- The firmware signing key FW_KEY0 as Ocsavon writes it: x, then y (R475). -/
opaque fwKey0 : Nat

/-- VERSION of the firmware both banks hold when the module leaves Ocsavon (First start of 19). -/
opaque shippedVersion : Nat

/-- The body of the provisioning configuration both banks hold when the module leaves Ocsavon. -/
opaque shippedBody : Nat

/-- The length of that body. -/
opaque shippedLength : Nat

/-- COMPUTE_REV and POWER_REV, in that order (cmd 0x0101). -/
opaque revision : Nat → Nat

/-- The FW_VERSION that a firmware image of a given VERSION reports (cmd 0x0101). -/
opaque firmwareVersion : Nat → Nat

/-- The longest duration in half nanoseconds, under ISO 11898-1:2024, of an FD (first argument 1) or XL (2) frame with the
given payload length, identifier extension, and nominal and data bit times in half nanoseconds (R165). -/
opaque canFrameTime : Nat → Nat → Bool → Nat → Nat → Nat

/-- What LPDDR5X holds after a reset that loses it: address offsets and bytes, for the free-value count of that reset
(R582). -/
opaque lostMemory : Nat → List (Nat × Byte)

/-- The loss in 0.1 % that a domain's stored sensitivity predicts from its NBTI and HCI shifts in mV (R563). -/
opaque predictedLoss : Nat → Nat → Nat → Nat

/-- Whether a MODE byte of LOCAL_PORT_CONFIG makes a GPIO an output: the spec gives the byte no layout (cmd 0x0610). -/
opaque gpioOutput : Nat → Bool

/-- The MAC table set that a VID and an address select; the hash is not stated (R220). -/
opaque macSet : Nat → Nat → Nat

/-- Where in a record of a capsule section of a type byte `i` of what the record holds stands: the spec gives the records of
types 0x01, 0x03, 0x04 and 0x06 a size and a content but no layout (R141). -/
opaque capsulePlace : Nat → Nat → Nat

end Sys2Proof.Config
end

