-- ==== Sys2Proof/Machine/Fields.lean ====
section
/-! DEFINITION. Bit fields and byte fields of registers and records (R8: little-endian, bit 0 least
significant), signed fields, and packing of records. -/

namespace Sys2Proof.Machine

/-- Bits [hi:lo] of a number (R8). -/
def bitsOf (w hi lo : Nat) : Nat := (w / 2 ^ lo) % 2 ^ (hi + 1 - lo)

/-- Bit `i` of a number. -/
def bitOf (w i : Nat) : Bool := decide ((w / 2 ^ i) % 2 = 1)

/-- A flag as a bit. -/
def flag (b : Bool) : Nat := if b then 1 else 0

/-- The little-endian field of `size` bytes at byte `off` of a record (R8). -/
def byteField (w off size : Nat) : Nat := (w / 256 ^ off) % 256 ^ size

/-- A record from its fields `(offset, size, value)`; bytes no field names are zero (R7). -/
def pack : List (Nat × Nat × Nat) → Nat
  | [] => 0
  | (off, size, v) :: rest => (v % 256 ^ size) * 256 ^ off + pack rest

/-- The `n` bytes of a number, least significant first. -/
def toBytes : Nat → Nat → List Byte
  | 0, _ => []
  | n + 1, w => BitVec.ofNat 8 w :: toBytes n (w / 256)

/-- The number whose bytes, least significant first, are given. -/
def ofBytes : List Byte → Nat
  | [] => 0
  | b :: rest => b.toNat + 256 * ofBytes rest

/-- A two's-complement field of `bits` bits. -/
def toSigned (bits w : Nat) : Int :=
  if w % 2 ^ bits < 2 ^ (bits - 1) then (w % 2 ^ bits : Nat) else ((w % 2 ^ bits : Nat) : Int) - ((2 ^ bits : Nat) : Int)

/-- The two's-complement field that spells an integer. -/
def ofSigned (bits : Nat) (i : Int) : Nat := (i % ((2 ^ bits : Nat) : Int)).toNat

/-- Round up to a multiple of a grid. -/
def ceilTo (grid t : Nat) : Nat := if grid = 0 then t else (t + grid - 1) / grid * grid

/-- Division rounded up. -/
def ceilDiv (a b : Nat) : Nat := if b = 0 then 0 else (a + b - 1) / b

/-- Add and hold at the largest value of a counter of `bits` bits. -/
def satAdd (bits a n : Nat) : Nat := min (a + n) (2 ^ bits - 1)

/-- Add and wrap in a counter of `bits` bits. -/
def wrapAdd (bits a n : Nat) : Nat := (a + n) % 2 ^ bits

/-- The list with element `i` replaced. -/
def setAt {α : Type} : List α → Nat → α → List α
  | [], _, _ => []
  | _ :: t, 0, v => v :: t
  | h :: t, i + 1, v => h :: setAt t i v

/-- Element `i` of a list, or a default. -/
def nth {α : Type} (d : α) : List α → Nat → α
  | [], _ => d
  | h :: _, 0 => h
  | _ :: t, i + 1 => nth d t i

/-- The first `n` numbers from `lo`. -/
def span : Nat → Nat → List Nat
  | _, 0 => []
  | lo, n + 1 => lo :: span (lo + 1) n

/-- Set bit `i` of a mask. -/
def setBit (m i : Nat) (b : Bool) : Nat := if bitOf m i = b then m else if b then m + 2 ^ i else m - 2 ^ i

/-- How many of the low `n` bits are set. -/
def popCount : Nat → Nat → Nat
  | 0, _ => 0
  | n + 1, m => m % 2 + popCount n (m / 2)

/-- The first status of the list whose condition holds. -/
def firstOf {σ : Type} : List (Bool × σ) → Option σ
  | [] => none
  | (b, st) :: rest => if b then some st else firstOf rest

end Sys2Proof.Machine
end

