-- ==== Sys2Proof/Machine/Flags.lean ====
section
/-! DEFINITION. The status flags of the command protocol: the STATUS codes (R91-R93 and each group's table),
event severities, and the published feature bits (R102). -/

namespace Sys2Proof.Machine

/-- The statuses a command or an operation can end with (R91, R93, R144, R188, R260, R285, R320, R336, R364,
R399, R442, R509, R537, R557, R577). -/
inductive Status where
  | done | accepted | badOpcode | badParam | notOwner | notPermittedLifecycle | noResource | admissionRefused
  | promiseUnreachable | unitFurled | controllerAbsent | quiesceRequired | keySlotBad | nonceExhausted | tagFail
  | sleepAbortedWake | tamperHeld | internal
  | deadlinePassed | featuresNotCommitted | managerNotCommitted | featuresAlreadyCommitted | bufferFault
  | partitionState | classConflict | queueState | descriptorSkipped | capsuleInvalid | capsuleBufferSmall
  | capsuleMismatch
  | flowIdInUse | pathInvalid | envelopeInvalid | mediumUncontracted | flowState
  | quotaConflict | scheduleConflict | endpointConflict | flowInUse | portFlowsAdmitted | portState
  | objectState | poolFull | channelState | channelFlowsAdmitted | windowSlotInUse | queueAttached
  | linState | linScheduleConflict | portBusy | noAcknowledge | busStuck
  | loadFlowsAdmitted | diagNotPermitted | diagAborted | safeTableInvalid | bridgePair
  | wettingBudget | senseFlowsAdmitted | senseMode | calUnavailable | calFailed
  | keySlotState | keyUseDenied | lockerSealed | signatureInvalid | tamperActive | otpState | rootAbsent
  | cipherUseDenied | cipherLockerSealed | cipherKeyEmpty | cipherAccessFault
  | cvuMismatch | cvuStreamConflict | cvuFlowsAdmitted
  | fairleadLinkDown | fairleadCompletionTimeout | fairleadFarError | fairleadRange | fairleadWindowState
  | fairleadAccessFault
  | sleepPending | sleepNotPending | sleepCommitted | wakeConfigInvalid | sleepFlowsAdmitted | sleepCancelled
  | wakeWindowClosed
  | unitNotFurled | unfurlLocked | unitNotFurlable | reefPlanRunning
  | selftestUnavailable | selftestFail | selftestBusy
deriving DecidableEq, Repr

/-- The STATUS byte of each status. -/
def Status.code : Status → Nat
  | .done => 0x00 | .accepted => 0x01 | .badOpcode => 0x10 | .badParam => 0x11 | .notOwner => 0x12
  | .notPermittedLifecycle => 0x13 | .noResource => 0x20 | .admissionRefused => 0x21
  | .promiseUnreachable => 0x22 | .unitFurled => 0x30 | .controllerAbsent => 0x31 | .quiesceRequired => 0x32
  | .keySlotBad => 0x40 | .nonceExhausted => 0x41 | .tagFail => 0x42 | .sleepAbortedWake => 0x50
  | .tamperHeld => 0x60 | .internal => 0x7F
  | .deadlinePassed => 0x80 | .featuresNotCommitted => 0x81 | .managerNotCommitted => 0x82
  | .featuresAlreadyCommitted => 0x83 | .bufferFault => 0x84
  | .partitionState => 0x87 | .classConflict => 0x88 | .queueState => 0x89 | .descriptorSkipped => 0x8A
  | .capsuleInvalid => 0x8B | .capsuleBufferSmall => 0x8C | .capsuleMismatch => 0x8D
  | .flowIdInUse => 0x8E | .pathInvalid => 0x8F | .envelopeInvalid => 0x90 | .mediumUncontracted => 0x91
  | .flowState => 0x92
  | .quotaConflict => 0x95 | .scheduleConflict => 0x96 | .endpointConflict => 0x97 | .flowInUse => 0x98
  | .portFlowsAdmitted => 0x99 | .portState => 0x9A
  | .objectState => 0x9C | .poolFull => 0x9D | .channelState => 0x9E | .channelFlowsAdmitted => 0x9F
  | .windowSlotInUse => 0xA0 | .queueAttached => 0xA1
  | .linState => 0xA3 | .linScheduleConflict => 0xA4 | .portBusy => 0xA5 | .noAcknowledge => 0xA6
  | .busStuck => 0xA7
  | .loadFlowsAdmitted => 0xAA | .diagNotPermitted => 0xAB | .diagAborted => 0xAC | .safeTableInvalid => 0xAD
  | .bridgePair => 0xAE
  | .wettingBudget => 0xB1 | .senseFlowsAdmitted => 0xB2 | .senseMode => 0xB3 | .calUnavailable => 0xB4
  | .calFailed => 0xB5
  | .keySlotState => 0xB8 | .keyUseDenied => 0xB9 | .lockerSealed => 0xBA | .signatureInvalid => 0xBB
  | .tamperActive => 0xBC | .otpState => 0xBD | .rootAbsent => 0xBE
  | .cipherUseDenied => 0xBF | .cipherLockerSealed => 0xC0 | .cipherKeyEmpty => 0xC1
  | .cipherAccessFault => 0xC2
  | .cvuMismatch => 0xC6 | .cvuStreamConflict => 0xC7 | .cvuFlowsAdmitted => 0xC8
  | .fairleadLinkDown => 0xCD | .fairleadCompletionTimeout => 0xCE | .fairleadFarError => 0xCF
  | .fairleadRange => 0xD0 | .fairleadWindowState => 0xD1 | .fairleadAccessFault => 0xD2
  | .sleepPending => 0xD4 | .sleepNotPending => 0xD5 | .sleepCommitted => 0xD6 | .wakeConfigInvalid => 0xD7
  | .sleepFlowsAdmitted => 0xD8 | .sleepCancelled => 0xD9 | .wakeWindowClosed => 0xDA
  | .unitNotFurled => 0xDB | .unfurlLocked => 0xDC | .unitNotFurlable => 0xDD | .reefPlanRunning => 0xDE
  | .selftestUnavailable => 0xE2 | .selftestFail => 0xE3 | .selftestBusy => 0xE4

/-- The published features (R102), named by word and bit. -/
inductive Feature where
  | sarzuV1 | cmdDeadline | completionSuppress | completionCoalesce | managerRings | directWindows
  | partitionMigration
  | refcountMcast | canXl | framePreemption | frer | macsec | cutThrough | plca | tc10 | sampleMirror
  | canSelectiveWake | gptpSecondDomain
  | loadChannelControl | wireModelParams | ripplePlanner | ledFineOpenLoad | dipShedPolicy | senseAnalog
  | fairleadAckWrites | localPorts
  | keyStore | cipherStrands | cvu | latencyHistogram | pairingKeyWrap | unfurlRequest
deriving DecidableEq, Repr

/-- The feature word and bit of a feature (R102). -/
def Feature.place : Feature → Nat × Nat
  | .sarzuV1 => (0, 0) | .cmdDeadline => (0, 1) | .completionSuppress => (0, 2) | .completionCoalesce => (0, 3)
  | .managerRings => (0, 4) | .directWindows => (0, 5) | .partitionMigration => (0, 6)
  | .refcountMcast => (1, 0) | .canXl => (1, 1) | .framePreemption => (1, 2) | .frer => (1, 3)
  | .macsec => (1, 4) | .cutThrough => (1, 5) | .plca => (1, 6) | .tc10 => (1, 7) | .sampleMirror => (1, 8)
  | .canSelectiveWake => (1, 9) | .gptpSecondDomain => (1, 10)
  | .loadChannelControl => (2, 0) | .wireModelParams => (2, 1) | .ripplePlanner => (2, 2)
  | .ledFineOpenLoad => (2, 3) | .dipShedPolicy => (2, 4) | .senseAnalog => (2, 5) | .fairleadAckWrites => (2, 6)
  | .localPorts => (2, 7)
  | .keyStore => (3, 0) | .cipherStrands => (3, 1) | .cvu => (3, 2) | .latencyHistogram => (3, 3)
  | .pairingKeyWrap => (3, 4) | .unfurlRequest => (3, 5)

/-- The published value of FEATn (R102): every listed bit is 1. -/
def featWord : Nat → Nat
  | 0 => 0x7F
  | 1 => 0x7FF
  | 2 => 0xFF
  | 3 => 0x3F
  | _ => 0

/-- The device-scope bits of FEATn, which only P0 may accept (R100, R102). -/
def deviceScope : Nat → Nat
  | 0 => 0x50
  | 1 => 0x7FD
  | 2 => 0x56
  | 3 => 0x30
  | _ => 0

end Sys2Proof.Machine
end

