-- ==== Sys2Proof/Machine/Table.lean ====
section
/-! DEFINITION. Sparse tables in canonical form: reading, writing, the canonical-form predicate. -/

namespace Sys2Proof.Machine

/-- The value at key `i`; an unlisted key holds the default `d`. -/
def Table.get {α : Type} (d : α) : Table α → Nat → α
  | [], _ => d
  | (k, v) :: t, i => if i = k then v else Table.get d t i

/-- Insert `(i, v)` before the first larger key. -/
def Table.insertSorted {α : Type} (i : Nat) (v : α) : Table α → Table α
  | [] => [(i, v)]
  | (k, w) :: t => if i < k then (i, v) :: (k, w) :: t else (k, w) :: Table.insertSorted i v t

/-- The table without key `i`. -/
def Table.erase {α : Type} (i : Nat) : Table α → Table α
  | [] => []
  | (k, w) :: t => if k = i then Table.erase i t else (k, w) :: Table.erase i t

/-- The table with `v` at key `i`; writing the default removes the entry. -/
def Table.put {α : Type} [DecidableEq α] (d : α) (t : Table α) (i : Nat) (v : α) : Table α :=
  if v = d then Table.erase i t else Table.insertSorted i v (Table.erase i t)

/-- Change the value at one key. -/
def Table.modify {α : Type} [DecidableEq α] (d : α) (t : Table α) (i : Nat) (f : α → α) : Table α :=
  Table.put d t i (f (Table.get d t i))

/-- Every key of the table lies above `lo`, keys rise strictly and no value is the default. -/
def Table.wfAbove {α : Type} [DecidableEq α] (d : α) : Nat → Table α → Bool
  | _, [] => true
  | lo, (k, v) :: t => decide (lo ≤ k) && !decide (v = d) && Table.wfAbove d (k + 1) t

/-- The canonical form: keys strictly rising and no entry equal to the default. -/
def Table.wf {α : Type} [DecidableEq α] (d : α) (t : Table α) : Bool := Table.wfAbove d 0 t

end Sys2Proof.Machine
end

