-- ==== Sys2Proof/Machine/Parts/Io.lean ====
section
/-! DEFINITION. The part of the state that posting, translation and interrupts touch: memory, Device Time, the
IOMMU, the function windows with their rings, the partition table, event sequences, and the watch registers. -/

namespace Sys2Proof.Machine

/-- The register block of one ring (R58-R64). `fault` is ACCESS_FAULT; the ring is stopped while it is set. -/
structure Ring where
  base        : Nat  := 0
  enable      : Bool := false
  sizeLog2    : Nat  := 4
  vector      : Nat  := 0
  head        : Nat  := 0
  tail        : Nat  := 0
  fault       : Bool := false
  doorbellErr : Bool := false
  phase       : Bool := true
deriving DecidableEq, Repr

/-- One entry of the interrupt vector table (R95). -/
structure Vector where
  addr  : Nat  := 0
  data  : Nat  := 0
  toInt : Bool := false
deriving DecidableEq, Repr

/-- The function window of one partition and what the TZ7 holds for its rings: entries read and not yet executed
(`blocked`: the first of them is waiting for its bucket or for its flow's last item), completions and events that could
not be posted. -/
structure Window where
  cmd           : Table Ring := []
  cpl           : Ring := {}
  evt           : Ring := {}
  coalesceUs    : Nat := 0
  coalesceCount : Nat := 1
  sinceRaise    : Nat := 0
  firstSince    : Nat := 0
  overflow      : Bool := false
  dropped       : Nat := 0
  unreported    : Nat := 0
  firstDrop     : Nat := 0
  intStatus     : BitVec 32 := 0
  intMask       : BitVec 32 := 0xFFFFFFFF#32
  vectors       : Table Vector := []
  accept        : Table Nat := []
  committed     : Bool := false
  intake        : Table (List Packet) := []
  blocked       : Table Bool := []
  heldCpl       : List Nat := []
  heldEvt       : List Nat := []
  bootReports   : List Nat := []
  msgFaultAt    : Table Nat := []
deriving DecidableEq, Repr

/-- The states of a partition (R106). -/
inductive PState where
  | free | active | quiescing | quiet
deriving DecidableEq, Repr

/-- A row of the partition table (R106, R147) with what a quiesce in progress holds (R133, R145). -/
structure Part where
  state          : PState := .free
  cacheClass     : Nat := 0
  drain          : Bool := false
  holdSafe       : Bool := false
  drainUntil     : Nat := 0
  drainExpired   : Bool := false
  writesIgnored  : Nat := 0
  drained        : Nat := 0
deriving DecidableEq, Repr

/-- The root of one translation stage (R115, R149). -/
structure Root where
  enable : Bool := false
  addr   : Nat := 0
deriving DecidableEq, Repr

/-- Owner and SHARED of one 2 MiB memory unit (R110). -/
structure UnitOwner where
  owner  : Nat := 0
  shared : Bool := false
deriving DecidableEq, Repr

/-- A cache class (R112, R148). -/
structure CacheClass where
  wayMask     : Nat := 0
  colourFirst : Nat := 0
  colourLast  : Nat := 0
deriving DecidableEq, Repr

/-- A cached translation of one 4 KiB page (R119). -/
structure TlbEntry where
  part    : Nat
  cls     : Nat
  page    : Nat
  gpaPage : Nat
  paPage  : Nat
  read    : Bool
  write   : Bool
deriving DecidableEq, Repr

/-- Dirty logging of one partition (R137-R139, R150). -/
structure DirtyLog where
  running : Bool := false
  error   : Bool := false
  activeB : Bool := false
  base    : Nat := 0
  size2M  : Nat := 0
  bitmapA : Nat := 0
  bitmapB : Nat := 0
deriving DecidableEq, Repr

/-- An application core's watch register (R446, R450). -/
structure Watch where
  enable : Bool := false
  page   : Nat := 0
  file   : Nat := 0
deriving DecidableEq, Repr

/-- The event record's fields before sequence and phase are added (R81). -/
structure Event where
  unit      : Nat
  code      : Nat
  partition : Nat := 0
  severity  : Nat := 1
  detail    : Nat := 0
deriving DecidableEq, Repr

/-- A translation fault (R123). -/
structure XFault where
  manager : Bool
  write   : Bool
  cause   : Nat
  address : Nat
deriving DecidableEq, Repr

/-- Device Time, memory, translation, windows and event sequences. `time` is Device Time in units of 2⁻³² ns (R194,
R195); `incr` is the increment of one 500 MHz cycle in the same units. `free` counts the free values drawn. -/
structure Io where
  time         : Nat := 0
  incr         : Nat := 2 * 2 ^ 32
  free         : Nat := 0
  dramBytes    : Nat := 8 * 2 ^ 30
  mem          : Table Byte := []
  windows      : Table Window := []
  parts        : Table Part := [(0, { state := .active })]
  psRoot       : Table Root := []
  msRoot       : Table Root := []
  memOwner     : Table UnitOwner := []
  classes      : Table CacheClass := [(0, { wayMask := 0xFFFF, colourFirst := 0, colourLast := 0xFF })]
  iotlb        : List TlbEntry := []
  dirty        : Table DirtyLog := []
  seq          : Table Nat := []
  appWatch     : Table Watch := []
  imsic        : Table Nat := []
  safetyPart   : Table (Option Nat) := []
  safetyWatch  : Table Watch := []
  vpend        : Table Nat := []
deriving DecidableEq, Repr

end Sys2Proof.Machine
end

