-- ==== Sys2Proof/Machine/Mmu.lean ====
section
/-! DEFINITION. Memory bytes, the two-stage translation of device accesses with its IOTLB, and invalidation
(R109-R123). -/

namespace Sys2Proof.Machine

/-- Where LPDDR5X begins (R109). -/
def dramBase : Nat := 0x2_0000_0000

/-- What a byte of LPDDR5X that nothing has written reads as. DESIGN CHOICE (log entry 6): zero. -/
def blankByte : Byte := 0

/-- One byte of memory. -/
def Io.readByte (io : Io) (pa : Nat) : Byte := Table.get blankByte io.mem pa

/-- Write one byte of memory. -/
def Io.writeByte (io : Io) (pa : Nat) (b : Byte) : Io := { io with mem := Table.put blankByte io.mem pa b }

/-- `n` bytes at a physical address, little-endian (R8). -/
def Io.readPhys (io : Io) : Nat → Nat → Nat
  | _, 0 => 0
  | pa, n + 1 => (io.readByte pa).toNat + 256 * io.readPhys (pa + 1) n

/-- Write the `n` bytes of a table of memory at a physical address, little-endian (R8). -/
def memWrite (m : Table Byte) : Nat → Nat → Nat → Table Byte
  | _, 0, _ => m
  | pa, n + 1, w => memWrite (Table.put blankByte m pa (BitVec.ofNat 8 w)) (pa + 1) n (w / 256)

/-- Write `n` bytes at a physical address, little-endian (R8). -/
def Io.writePhys (io : Io) (pa n w : Nat) : Io := { io with mem := memWrite io.mem pa n w }

/-- The canonical form of memory: addresses rising, no entry equal to a blank byte. -/
def Memory.wf (m : Table Byte) : Bool := Table.wf blankByte m

/-- Whether `n` bytes at a physical address lie in LPDDR5X (R109). -/
def Io.inDram (io : Io) (pa n : Nat) : Bool := decide (dramBase ≤ pa) && decide (pa + n ≤ dramBase + io.dramBytes)

/-- TIME_NS of Device Time (R194). -/
def Io.now (io : Io) : Nat := io.time / 2 ^ 32 % 2 ^ 64

/-- A partition's row (R106). -/
def Io.part (io : Io) (p : Nat) : Part := Table.get {} io.parts p

/-- A partition's function window. -/
def Io.window (io : Io) (p : Nat) : Window := Table.get {} io.windows p

/-- Set a partition's function window. -/
def Io.setWindow (io : Io) (p : Nat) (w : Window) : Io := { io with windows := Table.put {} io.windows p w }

/-- Change a partition's function window. -/
def Io.mapWindow (io : Io) (p : Nat) (f : Window → Window) : Io := io.setWindow p (f (io.window p))

/-- The cache class of a partition (R112). -/
def Io.classOf (io : Io) (p : Nat) : Nat := (io.part p).cacheClass

/-- A cache class's row (R148). -/
def Io.cacheClass (io : Io) (c : Nat) : CacheClass := Table.get {} io.classes c

/-- A memory unit's row (R110). -/
def Io.unitOwner (io : Io) (u : Nat) : UnitOwner := Table.get {} io.memOwner u

/-- The leaf a walk ends on: output address of the accessed byte, base and size of the page, permissions. -/
structure Leaf where
  out   : Nat
  base  : Nat
  size  : Nat
  read  : Bool
  write : Bool
deriving DecidableEq, Repr

/-- The reserved bits of an entry that is not the S64 leaf: bits [63:48] and [7:4] always, ATTR, S64, W and R as its
type and stage give (R117). -/
def entryReserved (manager : Bool) (e : Nat) : Bool :=
  decide (bitsOf e 63 48 ≠ 0) || decide (bitsOf e 7 4 ≠ 0) ||
  (if bitsOf e 1 0 = 1 then decide (bitsOf e 11 8 ≠ 0) || decide (bitsOf e 3 2 ≠ 0)
   else if manager then decide (1 < bitsOf e 10 8) else decide (bitsOf e 10 8 ≠ 0))

/-- Whether the bits of ADDR below the page size are set (R117). -/
def leafLow (e size : Nat) : Bool := decide ((e % size) / 4096 ≠ 0)

/-- Make the leaf an entry gives for an address. -/
def mkLeaf (e addr size : Nat) : Leaf :=
  let base := bitsOf e 47 12 * 4096 / size * size
  { out := base + addr % size, base := base, size := size, read := bitOf e 2, write := bitOf e 3 }

/-- One stage's walk from level `level` (R116-R118); `fetch` reads an entry, or says why it cannot. The causes of an
entry are judged in the order invalid, reserved, type; DEDUCED (log entry 7). -/
def walk (manager : Bool) (addr : Nat) (write : Bool) (fetch : Nat → Except XFault Nat) :
    Nat → Nat → Except XFault Leaf
  | 0, table =>
    let idx := bitsOf addr 20 12
    let bad (c : Nat) : Except XFault Leaf := .error { manager := manager, write := write, cause := c, address := addr }
    match fetch (table + 8 * (idx / 16 * 16)) with
    | .error f => .error f
    | .ok probe =>
      if bitsOf probe 1 0 ≠ 0 ∧ entryReserved manager probe then bad 4
      else if bitsOf probe 1 0 = 3 ∧ bitOf probe 11 then
        if leafLow probe 0x10000 then bad 4 else .ok (mkLeaf probe addr 0x10000)
      else
        match fetch (table + 8 * idx) with
        | .error f => .error f
        | .ok e =>
          if bitsOf e 1 0 = 0 then bad 1
          else if bitsOf e 1 0 = 2 ∨ entryReserved manager e then bad 4
          else if bitsOf e 1 0 = 1 then bad 5
          else if bitOf e 11 then bad 4
          else .ok (mkLeaf e addr 4096)
  | level + 1, table =>
    let idx := (addr / 2 ^ (12 + 9 * (level + 1))) % 512
    let bad (c : Nat) : Except XFault Leaf := .error { manager := manager, write := write, cause := c, address := addr }
    match fetch (table + 8 * idx) with
    | .error f => .error f
    | .ok e =>
      if bitsOf e 1 0 = 0 then bad 1
      else if bitsOf e 1 0 = 2 ∨ entryReserved manager e then bad 4
      else if bitsOf e 1 0 = 1 then walk manager addr write fetch level (bitsOf e 47 12 * 4096)
      else if level + 1 ≠ 1 then bad 5
      else if bitOf e 11 ∨ leafLow e 0x200000 then bad 4
      else .ok (mkLeaf e addr 0x200000)

/-- Whether every 4 KiB page of a leaf has a colour inside the class's range (R112, R113). -/
def coloursInside (cc : CacheClass) (base size : Nat) : Bool :=
  if cc.colourFirst = 0 ∧ cc.colourLast = 255 then true
  else decide (size ≤ 0x10000) && decide (cc.colourFirst ≤ bitsOf base 19 12) &&
    decide (bitsOf base 19 12 + size / 4096 ≤ cc.colourLast + 1)

/-- The manager stage: GPA to PA (R110, R113, R115). P0's is the identity onto LPDDR5X. -/
def Io.managerStage (io : Io) (p gpa : Nat) (write : Bool) : Except XFault Leaf :=
  let bad (c : Nat) : Except XFault Leaf := .error { manager := true, write := write, cause := c, address := gpa }
  if p = 0 then
    if io.inDram gpa 1 then
      .ok { out := gpa, base := gpa / 4096 * 4096, size := 4096, read := true, write := true }
    else bad 6
  else
    let root := Table.get {} io.msRoot p
    if ¬ root.enable then bad 1
    else
      let fetch (a : Nat) : Except XFault Nat :=
        if io.inDram a 8 then .ok (io.readPhys a 8)
        else .error { manager := true, write := write, cause := 6, address := gpa }
      match walk true gpa write fetch 3 root.addr with
      | .error f => .error f
      | .ok leaf =>
        if write ∧ ¬ leaf.write then bad 3
        else if ¬ write ∧ ¬ leaf.read then bad 2
        else if ¬ io.inDram leaf.base leaf.size then bad 6
        else
          let u := io.unitOwner ((leaf.base - dramBase) / 0x200000)
          if u.owner ≠ p ∧ ¬ u.shared then bad 7
          else if coloursInside (io.cacheClass (io.classOf p)) leaf.base leaf.size then .ok leaf
          else bad 8

/-- The partition stage: IOVA to GPA (R115, R116). Its tables lie at GPAs and are read through the manager stage. -/
def Io.partitionStage (io : Io) (p iova : Nat) (write : Bool) : Except XFault Leaf :=
  let root := Table.get {} io.psRoot p
  if ¬ root.enable then
    .ok { out := iova, base := iova / 4096 * 4096, size := 4096, read := true, write := true }
  else
    let fetch (a : Nat) : Except XFault Nat :=
      match io.managerStage p a false with
      | .error f => .error f
      | .ok l => .ok (io.readPhys l.out 8)
    match walk false iova write fetch 3 root.addr with
    | .error f => .error f
    | .ok leaf =>
      if write ∧ ¬ leaf.write then .error { manager := false, write := write, cause := 3, address := iova }
      else if ¬ write ∧ ¬ leaf.read then .error { manager := false, write := write, cause := 2, address := iova }
      else .ok leaf

/-- A translated address. -/
structure Place where
  gpa : Nat
  pa  : Nat
deriving DecidableEq, Repr

/-- Both stages, walked in memory: the place and the IOTLB entry it allows (R115, R119). -/
def Io.walkBoth (io : Io) (p iova : Nat) (write : Bool) : Except XFault (Place × TlbEntry) :=
  match io.partitionStage p iova write with
  | .error f => .error f
  | .ok l1 =>
    match io.managerStage p l1.out write with
    | .error f => .error f
    | .ok l2 =>
      .ok ({ gpa := l1.out, pa := l2.out },
        { part := p, cls := io.classOf p, page := iova / 4096, gpaPage := l1.out / 4096, paPage := l2.out / 4096,
          read := l1.read && l2.read, write := l1.write && l2.write })

/-- Entries of one cache class in the IOTLB (R119). -/
def tlbPerClass : Nat := 256

/-- Put an entry into the IOTLB: it replaces the page's own entry, and only entries of its class go (R119). -/
def tlbInsert (tlb : List TlbEntry) (e : TlbEntry) : List TlbEntry :=
  let others := tlb.filter fun x => !(x.part == e.part && x.page == e.page)
  let own := (others.filter fun x => x.cls == e.cls).take (tlbPerClass - 1)
  e :: own ++ others.filter fun x => x.cls != e.cls

/-- Translate one address of a partition (R115-R121). A cached translation that permits the access may or may not
still be in use: a free choice. A fault is never cached. -/
def Io.translate (io : Io) (p iova : Nat) (write : Bool) : Io × Except XFault Place :=
  let hit := io.iotlb.find? fun e => e.part == p && e.page == iova / 4096 && (if write then e.write else e.read)
  let walked : Io × Except XFault Place :=
    match io.walkBoth p iova write with
    | .error f => (io, .error f)
    | .ok (pl, e) =>
      if p = 0 ∧ ¬ (Table.get {} io.psRoot p).enable then (io, .ok pl)
      else ({ io with iotlb := tlbInsert io.iotlb e }, .ok pl)
  match hit with
  | none => walked
  | some e =>
    if Config.freeChoice io.free then
      ({ io with free := io.free + 1 },
        .ok { gpa := e.gpaPage * 4096 + iova % 4096, pa := e.paPage * 4096 + iova % 4096 })
    else ({ walked.1 with free := io.free + 1 }, walked.2)

/-- The pieces of an access that lie in one page each: `(iova, offset, length)`. -/
def pagePieces (iova : Nat) : Nat → Nat → Nat → List (Nat × Nat × Nat)
  | 0, _, _ => []
  | fuel + 1, off, n =>
    if n = 0 then []
    else
      let len := min n (4096 - (iova + off) % 4096)
      (iova + off, off, len) :: pagePieces iova fuel (off + len) (n - len)

/-- The pieces of an access of `n` bytes. -/
def pieces (iova n : Nat) : List (Nat × Nat × Nat) := pagePieces iova (n / 4096 + 2) 0 n

/-- A translated piece of an access. -/
structure Piece where
  gpa : Nat
  pa  : Nat
  off : Nat
  len : Nat
deriving DecidableEq, Repr

/-- Translate every page of an access before any byte moves (R127). -/
def Io.translateAll (io : Io) (p : Nat) (write : Bool) :
    List (Nat × Nat × Nat) → Io × Except XFault (List Piece)
  | [] => (io, .ok [])
  | (a, off, len) :: rest =>
    match io.translate p a write with
    | (io1, .error f) => (io1, .error f)
    | (io1, .ok pl) =>
      match io1.translateAll p write rest with
      | (io2, .error f) => (io2, .error f)
      | (io2, .ok ps) => (io2, .ok ({ gpa := pl.gpa, pa := pl.pa, off := off, len := len } :: ps))

/-- The number an access reads from its pieces. -/
def Io.gather (io : Io) : List Piece → Nat
  | [] => 0
  | q :: rest => io.readPhys q.pa q.len * 256 ^ q.off + io.gather rest

/-- Read `n` bytes at an IOVA of a partition, as a device. -/
def Io.devRead (io : Io) (p iova n : Nat) : Io × Except XFault Nat :=
  match io.translateAll p false (pieces iova n) with
  | (io1, .error f) => (io1, .error f)
  | (io1, .ok ps) => (io1, .ok (io1.gather ps))

/-- Invalidate IOTLB entries (R121). -/
def Io.invalidate (io : Io) (drop : TlbEntry → Bool) : Io := { io with iotlb := io.iotlb.filter fun e => !drop e }

end Sys2Proof.Machine
end

