-- ==== Sys2Proof/Machine/Post.lean ====
section
/-! DEFINITION. Device writes with dirty logging and watched pages, interrupt vectors, event records, and the
posting of completions and events to rings (R66-R82, R95-R97, R137-R139, R446, R455). Everything here acts on `Io`
alone. -/

namespace Sys2Proof.Machine

/-- What is still to be posted: an event record for a partition's event ring, or a vector to raise. -/
inductive Task where
  | post (p record : Nat)
  | vector (p v : Nat)
deriving DecidableEq, Repr

/-- The fields of an event record (R81). The sequence and TIME are fixed when the unit raises it (R28). -/
def eventRecord (e : Event) (now seq : Nat) : Nat :=
  pack [(0, 8, now), (8, 2, e.unit), (10, 2, e.code), (12, 1, e.partition % 64), (13, 1, e.severity % 8),
    (14, 2, seq), (16, 16, e.detail)]

/-- The list without repeats, last places kept: each partition gets one copy of an event (R82). -/
def dedup : List Nat → List Nat
  | [] => []
  | a :: t => if t.contains a then dedup t else a :: dedup t

/-- Raise an event: number it in its unit's sequence and address a copy to each partition (R28, R82). -/
def Io.newEvent (io : Io) (e : Event) (targets : List Nat) : Io × List Task :=
  let seq := Table.get 0 io.seq e.unit
  ({ io with seq := Table.put 0 io.seq e.unit ((seq + 1) % 2 ^ 16) },
    (dedup targets).map fun p => .post p (eventRecord e io.now seq))

/-- The IOMMU_FAULT record of a fault (R123). -/
def faultEvent (f : XFault) (queue requester offset owner : Nat) : Event :=
  { unit := 0x0A00, code := 0x0201, severity := 2, partition := owner,
    detail := pack [(0, 8, f.address), (8, 2, queue), (10, 1, requester),
      (11, 1, flag f.manager * 128 + flag f.write * 64 + f.cause), (12, 4, offset)] }

/-- Report a fault: the owner for the partition stage, P0 alone for the manager stage (R122, R123). -/
def Io.reportFault (io : Io) (f : XFault) (p queue requester offset : Nat) : Io × List Task :=
  io.newEvent (faultEvent f queue requester offset p) [if f.manager then 0 else p]

/-- Record a device write of one page in the partition's active bitmap; a fault stops the logging (R137-R139). -/
def Io.markDirty (io : Io) (p gpa : Nat) : Io × List Task :=
  let d := Table.get {} io.dirty p
  if d.running ∧ d.base ≤ gpa ∧ gpa < d.base + d.size2M * 0x200000 then
    let page := (gpa - d.base) / 4096
    match io.translate 0 ((if d.activeB then d.bitmapB else d.bitmapA) + page / 8) true with
    | (io1, .ok pl) => (io1.writeByte pl.pa (io1.readByte pl.pa ||| BitVec.ofNat 8 (2 ^ (page % 8))), [])
    | (io1, .error f) =>
      { io1 with dirty := Table.put {} io1.dirty p { d with running := false, error := true } }.newEvent
        (faultEvent f 0xFFFF 0x05 0 0) [0]
  else (io, [])

/-- An application core's watch: a 32-bit write of the first word of the watched page sets an IMSIC identity (R446). -/
def Io.appWatchHit (io : Io) (pa w : Nat) : List Nat → Io
  | [] => io
  | k :: rest =>
    let x := Table.get {} io.appWatch k
    let key := k / 8 * 8 + x.file
    let io1 := if x.enable ∧ x.page = pa / 4096 ∧ 0 < w ∧ w ≤ 2047 then
        { io with imsic := Table.put 0 io.imsic key (setBit (Table.get 0 io.imsic key) w true) } else io
    io1.appWatchHit pa w rest

/-- A safety core's watch: a 32-bit write of its partition to the first word of the watched IOVA page sets a bit of
SCPU_VPEND (R455). -/
def Io.safetyWatchHit (io : Io) (p iova w : Nat) : List Nat → Io
  | [] => io
  | k :: rest =>
    let x := Table.get {} io.safetyWatch k
    let io1 := if x.enable ∧ x.page = iova / 4096 ∧ Table.get none io.safetyPart (k / 4) = some p then
        { io with vpend := Table.put 0 io.vpend (k / 4) (setBit (Table.get 0 io.vpend (k / 4)) (w % 32) true) } else io
    io1.safetyWatchHit p iova w rest

/-- Keys of the application cores' watches: four cores of eight. -/
def appWatchKeys : List Nat := span 0 32

/-- Keys of the safety cores' watches: eight cores of four. -/
def safetyWatchKeys : List Nat := span 0 32

/-- Write the translated pieces, log them as dirty and strike the watches (R137, R446, R455). -/
def Io.scatter (io : Io) (p iova n w : Nat) : List Piece → Io × List Task
  | [] => (io, [])
  | q :: rest =>
    let io1 := io.writePhys q.pa q.len (byteField w q.off q.len)
    let io2 := if n = 4 ∧ iova % 4096 = 0 then
        (io1.appWatchHit q.pa w appWatchKeys).safetyWatchHit p iova w safetyWatchKeys else io1
    let (io3, ts1) := io2.markDirty p q.gpa
    let (io4, ts2) := io3.scatter p iova n w rest
    (io4, ts1 ++ ts2)

/-- Write `n` bytes at an IOVA of a partition, as a device: every page is translated before any byte is written. -/
def Io.devWrite (io : Io) (p iova n w : Nat) : Io × Option XFault × List Task :=
  match io.translateAll p true (pieces iova n) with
  | (io1, .error f) => (io1, some f, [])
  | (io1, .ok ps) => let (io2, ts) := io1.scatter p iova n w ps; (io2, none, ts)

/-- Entries of a ring. -/
def Ring.size (r : Ring) : Nat := 2 ^ r.sizeLog2

/-- A ring is full when its producer index plus one is its consumer index. -/
def Ring.full (r : Ring) : Bool := decide ((r.head + 1) % r.size = r.tail)

/-- The ring after its producer has written one entry: the phase turns at the wrap (R70). -/
def Ring.advance (r : Ring) : Ring :=
  if r.head + 1 = r.size then { r with head := 0, phase := !r.phase } else { r with head := r.head + 1 }

/-- A ring that can take a record now. -/
def Ring.open (r : Ring) : Bool := r.enable && !r.fault && !r.full

/-- The partition's interrupt message: VEC_DATA to VEC_ADDR. A fault loses it and is reported at most once per vector
per 100 ms (R95). -/
def Io.sendMessage (io : Io) (p v : Nat) : Io × List Task :=
  let w := io.window p
  let x := Table.get {} w.vectors v
  match io.devWrite p x.addr 4 x.data with
  | (io1, none, ts) => (io1, ts)
  | (io1, some f, ts) =>
    let last := Table.get 0 w.msgFaultAt v
    if last ≠ 0 ∧ io.now < last - 1 + 100000000 then (io1, ts)
    else
      let (io2, ts2) := (io1.mapWindow p fun w => { w with msgFaultAt := Table.put 0 w.msgFaultAt v (io.now + 1) }).reportFault
        f p 0xFFFF 0x08 0
      (io2, ts ++ ts2)

/-- Raise vector `v` of a partition: set its INT_STATUS bit and, when unmasked, send the message (R95). -/
def Io.raiseVector (io : Io) (p v : Nat) : Io × List Task :=
  let io1 := io.mapWindow p fun w => { w with intStatus := w.intStatus ||| BitVec.ofNat 32 (2 ^ v) }
  if (io.window p).intMask.getLsbD v then (io1, []) else io1.sendMessage p v

/-- Count an event dropped at a ring (R73, R75). -/
def Window.drop (w : Window) (now : Nat) (full : Bool) : Window :=
  { w with dropped := (w.dropped + 1) % 2 ^ 32, unreported := w.unreported + 1,
           firstDrop := if w.unreported = 0 then now else w.firstDrop, overflow := w.overflow || full }

/-- Write one event record into an open event ring and raise the ring's vector; a fault stops the ring, raises the
vector and is reported to P0 as EVENT_RING_ERROR (R74, R81). -/
def Io.writeEvent (io : Io) (p record : Nat) : Io × List Task :=
  let r := (io.window p).evt
  match io.devWrite p (r.base + 32 * r.head) 32 (record + flag r.phase * 2 ^ 111) with
  | (io1, none, ts) =>
    (io1.mapWindow p fun w => { w with evt := w.evt.advance }, ts ++ [.vector p r.vector])
  | (io1, some _, ts) =>
    let io2 := io1.mapWindow p fun w =>
      { (w.drop io.now false) with evt := { w.evt with fault := true } }
    let (io3, ts3) := io2.newEvent
      { unit := 0, code := 0x0105, severity := 3, detail := pack [(1, 1, p), (8, 8, r.base + 32 * r.head)] } [0]
    (io3, ts ++ [.vector p r.vector] ++ ts3)

/-- Whether a partition is between quiesce and resume, when records are held rather than dropped (R134). -/
def Io.holding (io : Io) (p : Nat) : Bool :=
  (io.part p).state == .quiescing || (io.part p).state == .quiet

/-- Post one event record to a partition (R73-R75, R134). -/
def Io.postEvent (io : Io) (p record : Nat) : Io × List Task :=
  let w := io.window p
  if w.evt.open ∧ w.heldEvt = [] then io.writeEvent p record
  else if w.evt.enable ∧ io.holding p then
    (io.mapWindow p fun w => { w with heldEvt := w.heldEvt ++ [record] }, [])
  else (io.mapWindow p fun w => w.drop io.now w.evt.enable, [])

/-- Carry out what is to be posted, each task's own tasks before the next. The fuel bounds the chains of faults that
posting itself can raise; `runTasks` gives enough for every chain. -/
def Io.runFuel : Nat → List Task → Io → Io
  | 0, _, io => io
  | _ + 1, [], io => io
  | fuel + 1, .post p record :: rest, io =>
    Io.runFuel fuel ((io.postEvent p record).2 ++ rest) (io.postEvent p record).1
  | fuel + 1, .vector p v :: rest, io =>
    Io.runFuel fuel ((io.raiseVector p v).2 ++ rest) (io.raiseVector p v).1

/-- Carry out every task. One posting sets off at most a message, its fault record, the record's own message and the
report of a ring error, so sixteen tasks per given one are enough. -/
def Io.runTasks (io : Io) (ts : List Task) : Io := Io.runFuel (16 * ts.length + 1) ts io

/-- Raise an event and post its copies (R28, R82). -/
def Io.raise (io : Io) (e : Event) (targets : List Nat) : Io :=
  (io.newEvent e targets).1.runTasks (io.newEvent e targets).2

/-- Report a translation fault to whom R122 names. -/
def Io.raiseFault (io : Io) (f : XFault) (p queue requester offset : Nat) : Io :=
  (io.reportFault f p queue requester offset).1.runTasks (io.reportFault f p queue requester offset).2

/-- Raise a vector of a partition and send its message (R95). -/
def Io.vector (io : Io) (p v : Nat) : Io := io.runTasks [.vector p v]

/-- Write as a device of a partition and carry out what the write sets off. -/
def Io.write (io : Io) (p iova n w : Nat) : Io × Option XFault :=
  ((io.devWrite p iova n w).1.runTasks (io.devWrite p iova n w).2.2, (io.devWrite p iova n w).2.1)

/-- The partitions whose event ring is enabled, in ascending order. -/
def Io.listeners (io : Io) : List Nat := (span 0 64).filter fun p => (io.window p).evt.enable

/-- Count a posted completion and raise the ring's vector as CPL_RING_COALESCE sets (R72). -/
def Io.countCompletion (io : Io) (p : Nat) : Io × List Task :=
  let w := io.window p
  if w.coalesceCount ≤ 1 ∨ w.coalesceCount ≤ w.sinceRaise + 1 then
    (io.mapWindow p fun w => { w with sinceRaise := 0 }, [.vector p w.cpl.vector])
  else
    (io.mapWindow p fun w =>
      { w with sinceRaise := w.sinceRaise + 1, firstSince := if w.sinceRaise = 0 then io.now else w.firstSince }, [])

/-- Write one completion into an open ring; a fault stops the ring, keeps the completion and raises
COMPLETION_RING_ERROR to the partition and to P0 (R71). -/
def Io.writeCompletion (io : Io) (p record : Nat) : Io :=
  let r := (io.window p).cpl
  match io.devWrite p (r.base + 32 * r.head) 32 (record + flag r.phase * 2 ^ 56) with
  | (io1, none, ts) =>
    let (io2, ts2) := (io1.mapWindow p fun w => { w with cpl := w.cpl.advance }).countCompletion p
    io2.runTasks (ts ++ ts2)
  | (io1, some _, ts) =>
    ((io1.mapWindow p fun w => { w with cpl := { w.cpl with fault := true }, heldCpl := record :: w.heldCpl }).runTasks
      ts).raise { unit := 0, code := 0x0104, severity := 3, detail := pack [(1, 1, p), (8, 8, r.base + 32 * r.head)] } [p, 0]

/-- Post a completion, or hold it until the ring can take it (R68, R69). -/
def Io.postCompletion (io : Io) (p record : Nat) : Io :=
  if (io.window p).cpl.open ∧ (io.window p).heldCpl = [] then io.writeCompletion p record
  else io.mapWindow p fun w => { w with heldCpl := w.heldCpl ++ [record] }

/-- Post held completions in their order while the ring takes them (R69, R71, R134). -/
def Io.flushCompletions : Nat → Nat → Io → Io
  | 0, _, io => io
  | fuel + 1, p, io =>
    match (io.window p).heldCpl with
    | [] => io
    | record :: rest =>
      if (io.window p).cpl.open then
        Io.flushCompletions fuel p ((io.mapWindow p fun w => { w with heldCpl := rest }).writeCompletion p record)
      else io

/-- Write the EVENT_RING_OVERFLOW record that drops have left, when the ring can take it (R73, R75). -/
def Io.reportOverflow (io : Io) (p : Nat) : Io :=
  let w := io.window p
  if 0 < w.unreported ∧ w.evt.open then
    let (io1, ts) := (io.mapWindow p fun w => { w with unreported := 0 }).newEvent
      { unit := 0, code := 0x0102, severity := 2, detail := pack [(0, 4, w.unreported), (4, 8, w.firstDrop)] } [p]
    match ts with
    | .post _ record :: _ => let (io2, ts2) := io1.writeEvent p record; io2.runTasks ts2
    | _ => io1
  else io

/-- Post held events in their order while the ring takes them (R134). -/
def Io.flushEvents : Nat → Nat → Io → Io
  | 0, _, io => io
  | fuel + 1, p, io =>
    match (io.window p).heldEvt with
    | [] => io
    | record :: rest =>
      if (io.window p).evt.open then
        let (io1, ts) := (io.mapWindow p fun w => { w with heldEvt := rest }).writeEvent p record
        Io.flushEvents fuel p (io1.runTasks ts)
      else io

/-- Post the BOOT_REPORTs held for P0, ahead of every other event (R75, R596). -/
def Io.bootReports (io : Io) (p : Nat) : Io :=
  let w := io.window p
  if w.evt.open then
    w.bootReports.foldl (fun io1 record => io1.runTasks [.post p record])
      (io.mapWindow p fun w => { w with bootReports := [] })
  else io

/-- What follows when an event ring gains space or is enabled: held BOOT_REPORTs, the overflow record, then held records
(R73, R75, R134, R596). -/
def Io.eventSpace (io : Io) (p : Nat) : Io :=
  let io1 := (io.bootReports p).reportOverflow p
  Io.flushEvents (io1.window p).heldEvt.length p io1

end Sys2Proof.Machine
end

