-- ==== Sys2Proof/Machine/Parts/Boot.lean ====
section
/-! DEFINITION. The state of start-up: banks, the boot record, the start in progress, and the isolation conditions
(19, R33). -/

namespace Sys2Proof.Machine

/-- A bank's verified image (R500, R586, R587): which key signed it, its VERSION, and its body. -/
structure BankImage where
  cfgKey   : Bool := false
  keyIndex : Nat := 0
  version  : Nat := 0
  body     : Nat := 0
  length   : Nat := 0
deriving DecidableEq, Repr

/-- The boot record of one kind (R590). -/
structure BootRecord where
  preferredB : Bool := false
  trial      : Bool := false
  triesLeft  : Nat := 0
deriving DecidableEq, Repr

/-- Where a start stands (R583, R585, R592): `off` unpowered, `released` the boot ROM is next, `selected` banks chosen
and tests next, `tested` the Locker is next, `unsealed` the list is next, `run` Run entered, `stopped` a start that a
failed memory-controller, fabric or IOMMU test ended, `recovery` a recovery start, `held` the compute die is held in
reset until VLOGIC returns (R411). -/
inductive StartPhase where
  | off | held | released | selected | tested | unsealed | run | stopped | recovery
deriving DecidableEq, Repr

/-- A bank write in progress (R595). -/
structure BankWrite where
  config   : Bool
  bankB    : Bool
  activate : Bool
  image    : BankImage
deriving DecidableEq, Repr

/-- Start-up and reset. `start` and `cause` are BOOT_REPORT's START and CAUSE. `list` holds the commands still to
execute, `waiting` the opcode of one that has not ended, `sent` what the boot ROM
last sent on UART0 in a recovery start, `executed` and `failed` what BOOT_REPORT tells of those executed. -/
structure BootState where
  phase         : StartPhase := .released
  start         : Nat := 1
  cause         : Nat := 0
  straps        : Nat := 0
  fwA           : Option BankImage := none
  fwB           : Option BankImage := none
  cfgA          : Option BankImage := none
  cfgB          : Option BankImage := none
  fwRecord      : BootRecord := {}
  cfgRecord     : BootRecord := {}
  cfgMinVersion : Nat := 0
  useFwB        : Bool := false
  useCfgB       : Bool := false
  fwFallback    : Bool := false
  cfgFallback   : Bool := false
  rootGenerated : Bool := false
  tamperHeld    : Bool := false
  list          : List Packet := []
  waiting       : Option Nat := none
  executed      : Nat := 0
  failed        : Nat := 0
  reported      : Bool := false
  recovery      : Nat := 0
  beaconAt      : Nat := 0
  bankWrites    : List BankWrite := []
  sent          : List Byte := []
  hoveAt        : Option Nat := none
  lostLife      : Bool := false
  lostTamper    : Bool := false
  lostLimits    : Bool := false
  limitsSince   : Nat := 0
deriving DecidableEq, Repr

end Sys2Proof.Machine
end

