-- ==== Sys2Proof/Machine/Parts/Can.lean ====
section
/-! DEFINITION. The state of the CAN channels and message objects (08), and of LIN channels and local ports (09). -/

namespace Sys2Proof.Machine

/-- The states of a CAN channel (R291). -/
inductive CanState where
  | disabled | integrating | errorActive | errorPassive | busOff | recovering | monitoring | furled
deriving DecidableEq, Repr

/-- The code of a channel state (cmd 0x0504). -/
def CanState.code : CanState → Nat
  | .disabled => 0 | .integrating => 1 | .errorActive => 2 | .errorPassive => 3 | .busOff => 4 | .recovering => 5
  | .monitoring => 6 | .furled => 7

/-- One phase's bit timing (R288): `tdc` is the transmitter delay compensation offset. -/
structure BitTiming where
  brp   : Nat := 0
  tseg1 : Nat := 0
  tseg2 : Nat := 0
  sjw   : Nat := 0
  tdc   : Nat := 0
deriving DecidableEq, Repr

/-- The modes of a CAN transceiver (R290). -/
inductive Transceiver where
  | normal | fast | receiveOnly | standby | wakeDetect | off
deriving DecidableEq, Repr

/-- The code of a transceiver mode (cmd 0x0504); the modes of Meadow and Heath have none, no query runs there. -/
def Transceiver.code : Transceiver → Nat
  | .normal => 0 | .fast => 1 | .receiveOnly => 2 | .standby => 3 | .wakeDetect => 3 | .off => 3

/-- A CAN channel (R287-R294). `backAt` is when it last returned to ERROR_ACTIVE, plus one. -/
structure CanChannel where
  state        : CanState := .disabled
  enable       : Bool := false
  autoRecover  : Bool := false
  peh          : Bool := false
  tms          : Bool := false
  format       : Nat := 0
  mode         : Nat := 0
  nominal      : BitTiming := {}
  fd           : BitTiming := {}
  xl           : BitTiming := {}
  tec          : Nat := 0
  rec_         : Nat := 0
  lastError    : Nat := 0
  errorFrames  : Nat := 0
  noMatch      : Nat := 0
  tooLong      : Nat := 0
  exceptions   : Nat := 0
  busOffCount  : Nat := 0
  transceiver  : Transceiver := .standby
  backAt       : Nat := 0
deriving DecidableEq, Repr

/-- A received frame in a buffer (R306): its Device Time of the last bit of EOF, spill buffer and check result. -/
structure CanRxBuf where
  frame     : CanFrame
  time      : Nat
  buf       : Nat
  checkFail : Bool
deriving DecidableEq, Repr

/-- A frame released for sending (R308): when it was released, when it joined the arbitration candidates (`none` while
its bucket holds it back), and the stamping error of its release. -/
structure CanTx where
  frame      : CanFrame
  releasedAt : Nat
  joinedAt   : Option Nat
  stampError : Nat
deriving DecidableEq, Repr

/-- A message object (R295-R316): configuration, slot registers, buffers, pending frame, counters and event limiters.
`armedAt` is the instant of an armed TT 1 frame; `armed` an armed TT 2 object. -/
structure CanObject where
  direction    : Nat := 0
  oneShot      : Bool := false
  tt           : Nat := 0
  repeat_      : Bool := false
  intNew       : Bool := false
  intFail      : Bool := false
  formats      : Nat := 0
  vector       : Nat := 0
  slot         : Option Nat := none
  cvu          : Option Nat := none
  id           : Nat := 0
  mask         : Nat := 0
  vcid         : Nat := 0
  vcidMask     : Nat := 0
  cvuOffset    : Nat := 0
  xlBytes      : Nat := 0
  spill        : Nat := 0
  poolBlock    : Nat := 0
  queue        : Option Nat := none
  regId        : Nat := 0
  regInfo      : Nat := 0
  regXl        : Nat := 0
  regAf        : Nat := 0
  regTime      : Nat := 0
  regData      : Nat := 0
  visible      : Option CanRxBuf := none
  shadow       : Option CanRxBuf := none
  new          : Bool := false
  locked       : Bool := false
  writeIgnored : Bool := false
  pending      : Bool := false
  armed        : Bool := false
  armedAt      : Option Nat := none
  tx           : Option CanTx := none
  lastFrame    : Option CanFrame := none
  abort        : Bool := false
  lastCause    : Nat := 0
  attempts     : Nat := 0
  errors       : Nat := 0
  frames       : Nat := 0
  overrun      : Nat := 0
  failed       : Nat := 0
  skipped      : Nat := 0
  checkFails   : Nat := 0
  sfAt         : Nat := 0
  sfCount      : Nat := 0
  orAt         : Nat := 0
  orCount      : Nat := 0
deriving DecidableEq, Repr

/-- The CAN channels and objects; object `n` of channel `c` is `128·c + n` (R295). -/
structure CanTables where
  channels : Table CanChannel := []
  objects  : Table CanObject := []
deriving DecidableEq, Repr

/-- One entry of a LIN schedule table (R324). -/
structure LinEntry where
  id       : Nat
  dir      : Nat
  length   : Nat
  enhanced : Bool
  int      : Bool
  delayMs  : Nat
deriving DecidableEq, Repr

/-- An entry's data buffer (R327). -/
structure LinBuf where
  data     : Nat := 0
  written  : Bool := false
  new      : Bool := false
  length   : Nat := 0
  overruns : Nat := 0
  time     : Nat := 0
  wroteAt  : Nat := 0
deriving DecidableEq, Repr

/-- A LIN channel (R322-R330): configuration, table, running slot, buffers, error counters. `entry` and `slotAt` are the next
slot and its start, `current` and `frameAt` the frame in progress or last. -/
structure LinChannel where
  enable     : Bool := false
  commander  : Bool := false
  vector     : Nat := 0
  bitRate    : Nat := 0
  table      : List LinEntry := []
  nextTable  : Option (List LinEntry) := none
  running    : Bool := false
  entry      : Nat := 0
  slotAt     : Nat := 0
  current    : Nat := 0
  frameAt    : Nat := 0
  inFrame    : Bool := false
  stopAfter  : Bool := false
  sleepAfter : Bool := false
  asleep     : Bool := false
  restartAt  : Option Nat := none
  bufs       : Table LinBuf := []
  checksum   : Nat := 0
  noResponse : Nat := 0
  framing    : Nat := 0
  bitErrors  : Nat := 0
  errAt      : Nat := 0
  errCount   : Nat := 0
deriving DecidableEq, Repr

/-- A transfer running on the SPI or I²C port (cmd 0x0611). -/
structure Transfer where
  address  : Nat
  writeLen : Nat
  readLen  : Nat
  writeBuf : Nat
  readBuf  : Nat
deriving DecidableEq, Repr

/-- A local port (R331-R334): SPI 0, I²C 1, UART 2-3, GPIO 4-9. Queues are held as their number plus one, 0 for none. -/
structure LocalPort where
  enable    : Bool := false
  rate      : Nat := 0
  mode      : Nat := 0
  debounce  : Nat := 0
  txQueue   : Nat := 0
  rxQueue   : Nat := 0
  vector    : Nat := 0
  edge      : Nat := 0
  transfer  : Option Transfer := none
  outLevel  : Bool := false
  pinLevel  : Bool := false
  latched   : Bool := false
  held      : List Byte := []
  overruns  : Nat := 0
  errors    : Nat := 0
  lastByte  : Nat := 0
deriving DecidableEq, Repr

end Sys2Proof.Machine
end

