-- ==== Sys2Proof/Machine/Parts/Cipher.lean ====
section
/-! DEFINITION. The state of the cipher strands and of the check-value units (16). -/

namespace Sys2Proof.Machine

/-- An operation begun and not ended (R517, R518): its issuer, ring and flow, its descriptor (R515), the counter value
drawn, the key taken at its start (R489), and its strand. `conforms` is false while its flow's bucket holds it back. -/
structure CipherOp where
  issuer   : Nat
  ring     : Nat
  flow     : Option Nat
  desc     : Nat
  counter  : Option Nat
  key      : Nat
  bits256  : Bool
  strand   : Nat
  begunAt  : Nat
  conforms : Bool
  repeated : Bool
deriving DecidableEq, Repr

/-- A check-value unit (R528-R532): the fields of its block, its counts, what it has reported and whether the next
checked item is the first since CVU_CONFIG. -/
structure Cvu where
  preset      : Nat := 0
  width       : Nat := 0
  flags       : Nat := 0
  fold        : Nat := 0
  counterBits : Nat := 0
  maxDelta    : Nat := 0
  checkOffset : Nat := 0
  poly        : Nat := 0
  init        : Nat := 0
  xorOut      : Nat := 0
  dataId      : Nat := 0
  counterPos  : Nat := 0
  foldBytes   : Nat := 0
  counter     : Nat := 0
  first       : Bool := true
  items       : Nat := 0
  mismatches  : Nat := 0
  repeats     : Nat := 0
  outOfWindow : Nat := 0
  lost        : Nat := 0
  eventAt     : Nat := 0
  eventCount  : Nat := 0
  eventLost   : Nat := 0
  verdict     : Nat := 0
deriving DecidableEq, Repr

/-- Strands, open operations in the order they began, each partition's failure counts, and the CVUs. -/
structure CipherState where
  held         : Nat := 0xC00000
  ops          : List CipherOp := []
  tagFails     : Table Nat := []
  accessFaults : Table Nat := []
  cvus         : Table Cvu := []
deriving DecidableEq, Repr

end Sys2Proof.Machine
end

