-- ==== Sys2Proof/Machine/Parts/Cpu.lean ====
section
/-! DEFINITION. The state of the cores, of Masthead as Stay sees it, of Stay and of Backstay (01, 14). -/

namespace Sys2Proof.Machine

/-- CPU_CCLASS of an application core (R448). -/
structure CClass where
  check  : Bool := false
  hClass : Nat  := 0
  vClass : Nat  := 0
deriving DecidableEq, Repr

/-- A safety core (R453-R457): its TCM, translation base, restart entry, what its last start put into a0 and a1, and
the CSRs SCPU_VEN and SCPU_UPSETS. Its partition is `Io.safetyPart`, its watches `Io.safetyWatch`. -/
structure SafetyCore where
  running      : Bool := false
  tcm          : Table Byte := []
  iovaBase     : Nat := 0
  restartEntry : Nat := 0
  a0           : Nat := 0
  a1           : Nat := 0
  ven          : Nat := 0
  upsets       : Nat := 0
deriving DecidableEq, Repr

/-- Masthead as Stay sees it (R15, R466-R470): heartbeats since the last release, the absence, and the restart attempts
with the times they began. `expected` is the next count, `none` before the first heartbeat after a release. -/
structure Masthead where
  present     : Bool := true
  hoveTo      : Bool := false
  hoveOwed    : Option Nat := none
  cause       : Nat := 0
  absentAt    : Nat := 0
  expected    : Option Nat := none
  lastBeat    : Nat := 0
  releasedAt  : Nat := 0
  attempts    : List Nat := []
  attempting  : Option Nat := none
  nextAttempt : Option Nat := none
  used        : Nat := 0
  returned    : Bool := false
deriving DecidableEq, Repr

/-- Where the application cores started: APP_ENTRY_PA, and what a1 held (R589). -/
structure AppStart where
  entry : Nat
  body  : Nat
deriving DecidableEq, Repr

/-- The clusters, Masthead, the ring whose turn is next with Masthead (R85), and the count of consecutive failures of the
Backstay frame in flight (R13). -/
structure CpuState where
  cclass        : Table CClass := []
  apps          : Option AppStart := none
  dvfsRequest   : Nat := 0
  safety        : Table SafetyCore := []
  spare         : Option Nat := some 7
  masthead      : Masthead := {}
  turn          : Nat := 0
  backstayFails : Nat := 0
deriving DecidableEq, Repr

end Sys2Proof.Machine
end

