-- ==== Sys2Proof/Machine/Parts/Dma.lean ====
section
/-! DEFINITION. The state of the DMA queues and engines (03, R124-R132). -/

namespace Sys2Proof.Machine

/-- The states of a DMA queue (R129). -/
inductive QState where
  | disabled | idle | running | waiting | parkedFault | parkedQuiesce
deriving DecidableEq, Repr

/-- The code of a queue state (R129). -/
def QState.code : QState → Nat
  | .disabled => 0 | .idle => 1 | .running => 2 | .waiting => 3 | .parkedFault => 4 | .parkedQuiesce => 5

/-- The device a queue is attached to (R124). -/
inductive Attach where
  | none
  | endpointTx (e cls : Nat)
  | endpointRx (e cls : Nat)
  | canObject (o : Nat)
  | sense (i : Nat)
  | load (n : Nat)
  | sample
  | uart (i : Nat)
deriving DecidableEq, Repr

/-- A descriptor as read from memory (R125). -/
structure Descriptor where
  source   : Nat
  dest     : Nat
  length   : Nat
  flags    : Nat
  reserved : Nat
deriving DecidableEq, Repr

/-- A queue context (R128-R131): `desc` is the descriptor at HEAD once fetched, `conforms` whether it has passed its
flow's bucket, `postedAt` the times its descriptors were posted, `collected` the bytes an attached device has taken,
`cplStatus` the status whose CPL write faulted. -/
structure DmaQueue where
  state     : QState := .disabled
  base      : Nat := 0
  sizeLog2  : Nat := 4
  vector    : Nat := 0
  head      : Nat := 0
  tail      : Nat := 0
  offset    : Nat := 0
  cause     : Nat := 0
  faultAddr : Nat := 0
  desc      : Option Descriptor := none
  conforms  : Bool := false
  conformAt : Nat := 0
  delayed   : Bool := false
  postedAt  : List Nat := []
  collected : List Byte := []
  cplStatus : Option Nat := none
  attach    : Attach := .none
  engine    : Nat := 0
deriving DecidableEq, Repr

/-- A capsule operation that has returned ACCEPTED (cmds 0x0212, 0x0213): its partition, pairing slot and buffer, and what an export
writes there. -/
structure CapsuleOp where
  outward   : Bool
  partition : Nat
  slot      : Option Nat
  length    : Nat
  buffer    : Nat
  data      : Nat
deriving DecidableEq, Repr

end Sys2Proof.Machine
end

