-- ==== Sys2Proof/Machine/Parts/Fairlead.lean ====
section
/-! DEFINITION. The state of the Fairlead bridge (17). -/

namespace Sys2Proof.Machine

/-- The states of the PCIe link (R541, cmd 0x0C06). -/
inductive FairLink where
  | disabled | training | up | furled
deriving DecidableEq, Repr

/-- The code of a link state (cmd 0x0C06). -/
def FairLink.code : FairLink → Nat
  | .disabled => 0 | .training => 1 | .up => 2 | .furled => 3

/-- FAIRLEAD_CONFIG's settings (cmd 0x0C01, R542). -/
structure FairConfig where
  enable    : Bool := false
  maxSpeed  : Nat := 4
  mps       : Nat := 0
  mrrs      : Nat := 0
  timeoutUs : Nat := 10000
  backoffUs : Nat := 50
  vendorId  : Nat := 0
  deviceId  : Nat := 0
  classCode : Nat := 0
  bar0Log2  : Nat := 0
  bar2Log2  : Nat := 0
deriving DecidableEq, Repr

/-- A window's prefetch buffer (R549): first far offset, bytes, and when it was filled. -/
structure Prefetch where
  start    : Nat
  bytes    : List Byte
  filledAt : Nat
deriving DecidableEq, Repr

/-- A window (R543, R549, R552): outbound 0 to 15, inbound 16 to 31. -/
structure FairWindow where
  enable    : Bool := false
  prefetch  : Bool := false
  ack       : Bool := false
  fenceOn   : Bool := false
  read      : Bool := false
  write     : Bool := false
  bar       : Nat := 0
  sizeLog2  : Nat := 12
  farBase   : Nat := 0
  localBase : Nat := 0
  fenced    : Bool := false
  buffer    : Option Prefetch := none
deriving DecidableEq, Repr

/-- An outbound operation, queued or running (R546-R553): its command, since when it has run and its request has waited for
credits, until when that request is off the head of its queue, whether a fence has cut it off, the size its TLPs are cut at, and the
bytes that the prefetch buffer gave it. -/
structure FairOp where
  issuer       : Nat
  ring         : Nat
  window       : Nat
  write        : Bool
  offset       : Nat
  length       : Nat
  local_       : Nat
  statusIova   : Nat
  vector       : Option Nat
  begunAt      : Option Nat := none
  waitingFrom  : Nat := 0
  backoffUntil : Option Nat := none
  cut          : Bool := false
  limit        : Nat := 128
  taken        : List Byte := []
deriving DecidableEq, Repr

/-- A write that went out through a window (R550): whose it was, its far address, window offset and length. -/
structure FairSent where
  issuer : Nat
  window : Nat
  far    : Nat
  offset : Nat
  length : Nat
deriving DecidableEq, Repr

/-- An entry of the posted-error log (R551). -/
structure PostedError where
  seq       : Nat
  window    : Nat
  cause     : Nat
  partition : Nat
  fenced    : Bool
  address   : Nat
  time      : Nat
  length    : Nat
deriving DecidableEq, Repr

/-- The link, its settings, windows, operations in the order they were queued, the writes sent (newest first), the error log and the
counters. `errorSeq` is the newest ERROR_SEQ. -/
structure FairState where
  link        : FairLink := .disabled
  config      : FairConfig := {}
  speed       : Nat := 0
  width       : Nat := 0
  windows     : Table FairWindow := []
  ops         : List FairOp := []
  sent        : List FairSent := []
  log         : List PostedError := []
  errorSeq    : Nat := 0
  drops       : Nat := 0
  unmatched   : Nat := 0
  overwritten : Nat := 0
  lostStatus  : Nat := 0
deriving DecidableEq, Repr

end Sys2Proof.Machine
end

