-- ==== Sys2Proof/Machine/Parts/Flow.lean ====
section
/-! DEFINITION. The state of flows, their token buckets, the medium contracts and deferred maintenance (04). -/

namespace Sys2Proof.Machine

/-- A resource reference of a path (R154). -/
structure Res where
  type : Nat
  qual : Nat
  inst : Nat
deriving DecidableEq, Repr

/-- What a flow declares (R151), without its ID. -/
structure FlowDecl where
  type        : Nat := 0
  priority    : Nat := 0
  maxSize     : Nat := 0
  minInterval : Nat := 0
  burst       : Nat := 0
  tight       : Bool := false
  cutThrough  : Bool := false
  bound       : Nat := 0
  path        : List Res := []
  retryBudget : Nat := 0
deriving DecidableEq, Repr

/-- The states of a flow ID (R174). -/
inductive FlowState where
  | free | admitted | held | revoked
deriving DecidableEq, Repr

/-- The code of a flow state (R191). -/
def FlowState.code : FlowState → Nat
  | .free => 0 | .admitted => 1 | .held => 2 | .revoked => 3

/-- One flow ID: declaration, promise, and measures against it (R171-R179). `order` numbers admissions, `strand` is
the strand of a CIPHER flow (R160), `releasing` is a release that waits for the last item on the path (R186). -/
structure Flow where
  state       : FlowState := .free
  owner       : Nat := 0
  decl        : FlowDecl := {}
  promise     : Nat := 0
  computed    : Nat := 0
  admitTime   : Nat := 0
  order       : Nat := 0
  strand      : Nat := 0
  bins        : Table Nat := []
  watermark   : Nat := 0
  violations  : Nat := 0
  measured    : Nat := 0
  delayed     : Nat := 0
  dropExcess  : Nat := 0
  dropOver    : Nat := 0
  since       : Nat := 0
  eeAt        : Nat := 0
  eeDropped   : Nat := 0
  eeDelayed   : Nat := 0
  lvAt        : Nat := 0
  lvCount     : Nat := 0
  lvMax       : Nat := 0
  lvUnit      : Nat := 0
  lvCharged   : Bool := false
  lvItems     : Nat := 0
  releasing   : Option Request := none
deriving DecidableEq, Repr

/-- A token bucket: its level in units of size times MIN_INTERVAL, and when it was last filled (R175). A fresh bucket
is full. -/
structure Bucket where
  level : Nat := 0
  at_   : Nat := 0
deriving DecidableEq, Repr

/-- A medium's contract (R164) and the window measures of the other nodes (R168). -/
structure Contract where
  enable      : Bool := false
  utilPpm     : Nat := 0
  burstNs     : Nat := 0
  maxFrame    : Nat := 0
  lowestKey   : Nat := 0
  nodeCount   : Nat := 0
  toTimer     : Nat := 0
  cycleNs     : Nat := 0
  excessFrom  : Nat := 0
  excessUntil : Nat := 0
deriving DecidableEq, Repr

/-- A deferred maintenance activity (R180, R181): what it is, for which unit or channel, who asked, since when it has
been tried. -/
structure Maintenance where
  kind      : Nat
  subject   : Nat
  detail    : Nat
  requester : Nat
  triedAt   : Nat
deriving DecidableEq, Repr

/-- A revocation that is left to Masthead (R46, R50, R184): the unit, the time, the cause, and the flows to revoke
besides those that R183 chooses. -/
structure OwedRevocation where
  unit  : Nat
  at_   : Nat
  cause : Nat
  flows : List Nat
deriving DecidableEq, Repr

/-- Flows, buckets (key: the flow, or 4096 plus the stream filter), contracts, maintenance. -/
structure FlowTables where
  flows       : Table Flow := []
  buckets     : Table Bucket := []
  contracts   : Table Contract := []
  admissions  : Nat := 0
  maintenance : List Maintenance := []
  owed        : List OwedRevocation := []
deriving DecidableEq, Repr

end Sys2Proof.Machine
end

