-- ==== Sys2Proof/Machine/Parts/Health.lean ====
section
/-! DEFINITION. The state of the health blocks, of the Reef plan, and of self-tests (18). -/

namespace Sys2Proof.Machine

/-- A class's counting parameters (R39): threshold N and window W in ms. -/
structure ClassParams where
  threshold : Nat := 3
  windowMs  : Nat := 10000
deriving DecidableEq, Repr

/-- A unit's health (R39, R44, R48, R580). `history` holds the times of its counted events, newest first; `count` is
the count at the furl. `testing` is set while an unfurl test runs, `pendingTest` while a requested online test waits. -/
structure UnitHealth where
  furled       : Bool := false
  furls        : Nat := 0
  selftestFail : Bool := false
  upsets       : Nat := 0
  history      : List Nat := []
  count        : Nat := 0
  lastEvent    : Nat := 0
  furlTime     : Nat := 0
  testing      : Bool := false
  pendingTest  : Bool := false
deriving DecidableEq, Repr

/-- A domain's ageing and its plan (R562-R565): monitor readings in 0.1 % and the level in force with its guard band
and ceiling. -/
structure DomainReef where
  replica  : Nat := 0
  nbti     : Nat := 0
  hci      : Nat := 0
  slack    : Nat := 0
  level    : Nat := 0
  ceiling  : Nat := 100
  guardMv  : Nat := 0
  driftPpm : Int := 0
deriving DecidableEq, Repr

/-- A channel's derating (R567). -/
structure ChannelReef where
  drift    : Nat := 0
  ocPct    : Nat := 100
  retryCap : Nat := 15
  step     : Nat := 0
  cycles   : Nat := 0
deriving DecidableEq, Repr

/-- A plan that has been computed and whose changes are being applied (R570): its trigger, the domains whose level rose,
the channels whose step rose, the flows it revoked, the domains whose ceiling waits,
whether trims changed, and whether NV_WEAR or END_OF_MARGIN rose. -/
structure PlanRun where
  trigger   : Nat
  raised    : Nat := 0
  steps     : Nat := 0
  revoked   : Nat := 0
  computed  : Bool := false
  ceilings  : List (Nat × Nat) := []
  trims     : Bool := false
  marks     : Bool := false
deriving DecidableEq, Repr

/-- The online tests of a class (R571, R572): its period if one has been set, steps run and failed, last failure. -/
structure ClassTest where
  period   : Option Nat := none
  run      : Nat := 0
  failed   : Nat := 0
  lastFail : Nat := 0
deriving DecidableEq, Repr

/-- Health, Reef and self-tests. `planDue` is the trigger of a plan that waits, `record` the furls that the health record keeps. -/
structure HealthState where
  classes   : Table ClassParams := []
  units     : Table UnitHealth := []
  domains   : Table DomainReef := []
  channels  : Table ChannelReef := []
  wear      : Table Nat := []
  nvWear    : Bool := false
  endMargin : Bool := false
  planSeq   : Nat := 0
  planTime  : Nat := 0
  plan      : Option PlanRun := none
  planDue   : Option Nat := some 1
  tests     : Table ClassTest := []
  record    : List (Nat × Nat) := []
deriving DecidableEq, Repr

end Sys2Proof.Machine
end

