-- ==== Sys2Proof/Machine/Parts/Keys.lean ====
section
/-! DEFINITION. The state of the OTP, the Locker with its 512 slots, the life cycle, and the tamper monitor (15). -/

namespace Sys2Proof.Machine

/-- One root area: its START and DONE fuses and its contents (R475, R477). -/
structure RootArea where
  start    : Bool := false
  done     : Bool := false
  contents : Nat := 0
deriving DecidableEq, Repr

/-- The OTP (R475). Keys are x then y; the fuses of a key are `written` and `revoked`. -/
structure OtpKey where
  key     : Nat := 0
  written : Bool := false
  revoked : Bool := false
deriving DecidableEq, Repr

/-- The OTP fields (R475). LC_FUSES is the highest life-cycle fuse blown: 1 Blank to 5 Scrapped. -/
structure Otp where
  deviceUid    : Nat := 0
  deviceTag    : Nat := 0
  lifecycle    : Nat := 1
  root0        : RootArea := {}
  root1        : RootArea := {}
  fwKeys       : Table OtpKey := []
  fwMinVersion : Nat := 0
  cfgKeys      : Table OtpKey := []
deriving DecidableEq, Repr

/-- One image area of a persistent slot, as the Locker judges it (R490-R492): erased, or an image with its fields, its
COMMIT word, and whether its tag verifies. -/
structure KeyImage where
  version : Nat
  attr    : Nat
  owners  : Nat
  key     : Nat
  nonce   : Nat
  commit  : Nat
  intact  : Bool
deriving DecidableEq, Repr

/-- The states of a slot (R479). -/
inductive SlotState where
  | empty | ready | committing | bad
deriving DecidableEq, Repr

/-- The code of a slot state (cmd 0x0917). -/
def SlotState.code : SlotState → Nat
  | .empty => 0 | .ready => 1 | .committing => 2 | .bad => 3

/-- A persistent write that has not reached its end (R491): the command's low opcode byte and issuer, what it writes
(`none` for KEY_DESTROY), the version it will have, the counter the slot will have (`none`: as it is), and the state that the
slot was in. -/
structure KeyWrite where
  opcode  : Nat
  issuer  : Nat
  key     : Option Nat
  attr    : Nat
  owners  : Nat
  version : Nat
  counter : Option Nat
  was     : SlotState
deriving DecidableEq, Repr

/-- A key slot (R479-R492, R519-R521): state, attributes, owners, key in force, image areas A and B (`none` while
erased), the areas still being erased, the invocation counter with its high mark, and the partition with which it has been exported
(R140). -/
structure KeySlot where
  state     : SlotState := .empty
  attr      : Nat := 0
  owners    : Nat := 0
  key       : Nat := 0
  version   : Nat := 0
  imageA    : Option KeyImage := none
  imageB    : Option KeyImage := none
  erasingA  : Bool := false
  erasingB  : Bool := false
  area      : Option Bool := none
  counter   : Nat := 0
  high      : Nat := 0
  exported  : Option Nat := none
  writing   : Option KeyWrite := none
deriving DecidableEq, Repr

/-- A life-cycle, debug, OTP or tamper-release operation that has returned ACCEPTED (R508): the opcode, byte 0 of its
parameters, INDEX and the data of an OTP_WRITE. -/
structure LifeOp where
  opcode : Nat
  target : Nat
  index  : Nat
  value  : Nat
deriving DecidableEq, Repr

/-- A tamper input's configuration and latch (R501-R503, R506), and when it last was active. -/
structure TamperInput where
  cls        : Nat := 0xFF
  pclass     : Nat := 1
  activeLow  : Bool := false
  debounce   : Nat := 1
  mask       : Nat := 0
  latched    : Bool := false
  lastActive : Nat := 0
deriving DecidableEq, Repr

/-- An entry of the tamper log (R507). -/
structure TamperEntry where
  seq        : Nat
  input      : Nat
  detector   : Nat
  cls        : Nat
  pclass     : Nat
  state      : Nat
  lifecycle  : Nat
  flags      : Nat
  erased     : Nat
  time       : Nat
  count      : Nat
deriving DecidableEq, Repr

/-- The reset configuration of the tamper inputs (R502): 0, 3 and 4 class 1 with every detector, 1 and 2 disabled. -/
def tamperDefaults : Table TamperInput :=
  [(0, { cls := 1 }), (3, { cls := 1, mask := 0xF }), (4, { cls := 1, mask := 0xF })]

/-- The OTP, the Locker, the challenge, debug access and the tamper monitor. `drbgRequests` and `drbgAt` count toward the
next reseed (R476); `trngWaiting` is set while requests wait for good output. `erasePending` is the highest TAMPER_CLASS that a
tamper erasure still has to erase, `owedEvents` the events kept for Masthead's return (R505). -/
structure KeyState where
  otp          : Otp := {}
  slots        : Table KeySlot := []
  sealed       : Bool := true
  unsealedOnce : Bool := false
  debugOpen    : Bool := false
  debugSealed  : Bool := false
  ops          : List LifeOp := []
  challenge    : Option Nat := none
  challengeAt  : Nat := 0
  drbgRequests : Nat := 0
  drbgAt       : Nat := 0
  trngWaiting  : Bool := false
  tamper       : Table TamperInput := tamperDefaults
  log          : List TamperEntry := []
  nextSeq      : Nat := 0
  overwritten  : Nat := 0
  erasePending : Nat := 0
  owedEvents   : List (Event × List Nat) := []
deriving DecidableEq, Repr

end Sys2Proof.Machine
end

