-- ==== Sys2Proof/Machine/Parts/Power.lean ====
section
/-! DEFINITION. The state of the power die: load channels (11), feeds and supplies (12), sense inputs (13), sleep and
wake (10). -/

namespace Sys2Proof.Machine

/-- The four classes of load channels (R366). -/
inductive LoadClass where
  | heavy | medium | light | leg
deriving DecidableEq, Repr

/-- The class of a channel (R366). -/
def loadClass (n : Nat) : LoadClass :=
  if n < 4 then .heavy else if n < 16 then .medium else if n < 40 then .light else .leg

/-- The class's over-current threshold at reset, in 0.1 mA (R366). -/
def LoadClass.ocReset : LoadClass → Nat
  | .heavy => 1000000 | .medium => 400000 | .light => 100000 | .leg => 400000

/-- The SECTION code of the class's default wire (R366, R385). -/
def LoadClass.section_ : LoadClass → Nat
  | .heavy => 6 | .medium => 3 | .light => 0 | .leg => 4

/-- The τ of the class's default wire in 0.1 s (R366). -/
def LoadClass.tau : LoadClass → Nat
  | .heavy => 750 | .medium => 250 | .light => 120 | .leg => 350

/-- Wire parameters (R384, R385): TAU in 0.1 s. -/
structure WireParams where
  section_   : Nat := 0
  insulation : Nat := 1
  tripPct    : Nat := 90
  tau        : Nat := 120
  ambient    : Int := 70
  restartPct : Nat := 50
deriving DecidableEq, Repr

/-- I_50 of a cross-section in A (R385). -/
def i50Of : Nat → Nat
  | 0 => 9 | 1 => 11 | 2 => 14 | 3 => 17 | 4 => 22 | 5 => 30 | 6 => 40 | 7 => 52 | _ => 72

/-- T_ins of an insulation code in °C (R385). -/
def insulationOf : Nat → Nat
  | 0 => 85 | 1 => 105 | 2 => 125 | _ => 150

/-- One kelvin in the model's fixed point; DESIGN CHOICE (log entry 12). -/
def kelvin : Nat := 2 ^ 32

/-- θ_trip in the model's fixed point (R384). -/
def WireParams.trip (w : WireParams) : Nat :=
  ((insulationOf w.insulation : Int) - w.ambient).toNat * w.tripPct * kelvin / 100

/-- θ_restart in the model's fixed point (R384). -/
def WireParams.restart (w : WireParams) : Nat := w.trip * w.restartPct / 100

/-- A measurement schedule of a channel (R380). With SYNC, `anchor` is the start of the period of the next instant. `waiting`
holds records that wait for a descriptor. -/
structure Measure where
  queue    : Nat
  sync     : Bool
  sampleAt : Nat
  mult     : Nat
  period   : Nat
  anchor   : Nat
  nextAt   : Nat
  waiting  : List Nat
deriving DecidableEq, Repr

/-- A diagnostic check in progress or deferred (R390, R391). -/
structure Diag where
  kind     : Nat
  pulseUs  : Nat
  deferred : Bool
  startAt  : Nat
deriving DecidableEq, Repr

/-- A channel's dip-shed policy (R407, R408): POLICY, RESTORE_DELAY_MS, DUTY_CAP. -/
structure DipPolicy where
  kind      : Nat := 0
  restoreMs : Nat := 10
  cap       : Nat := 0xFFF
deriving DecidableEq, Repr

/-- Why a channel is off by a supply condition and what brings it back (R407, R410, R413, R416). -/
inductive Shed where
  | none
  | dip
  | restore (at_ : Nat)
  | untilItem
deriving DecidableEq, Repr

/-- What a channel is asked to do: ON, BRIDGE and DUTY (R369, R371), by LOAD_SET or in place of it (R392, R393). -/
structure Drive where
  on     : Bool := false
  bridge : Nat := 0
  duty   : Nat := 0
deriving DecidableEq, Repr

/-- A load channel: LOAD_SET, state, flags, measurements, configuration, protection history, wire model, measurement
schedule, diagnostics, dip policy, safe-state and hold bookkeeping (R366-R397, R407, R408). `forced` drives the output in place of LOAD_SET; `dutyItem` is
the ingress and QUALIFIER of an item whose new duty waits for its period. `appOn`, `appBridge`,
`appDuty`, `appPeriod`, `appPhase` are what the gate driver applies now. -/
structure LoadChannel where
  on            : Bool := false
  bridge        : Nat := 0
  duty          : Nat := 0xFFF
  appOn         : Bool := false
  appBridge     : Nat := 0
  appDuty       : Nat := 0
  appPeriod     : Nat := 5000000
  appPhase      : Nat := 0
  periodAt      : Nat := 0
  reversalUntil : Nat := 0
  latched       : Bool := false
  tripped       : Bool := false
  held          : Bool := false
  safe          : Bool := false
  supplyOff     : Bool := false
  oc            : Bool := false
  ot            : Bool := false
  dt            : Bool := false
  wire          : Bool := false
  openOn        : Bool := false
  openOff       : Bool := false
  stb           : Bool := false
  flags         : BitVec 32 := 0
  currentUa     : Int := 0
  tj            : Int := 0
  deltaT        : Int := 0
  voutMv        : Int := 0
  restartAuto   : Bool := true
  fine          : Bool := false
  offProbe      : Bool := false
  testPermit    : Bool := false
  phaseAuto     : Bool := false
  intProtect    : Bool := false
  intDiag       : Bool := false
  vector        : Nat := 0
  ocThreshold   : Nat := 0
  retryMax      : Nat := 3
  restartDelay  : Nat := 10
  retryWindow   : Nat := 10000
  olFilter      : Nat := 10
  olFine        : Nat := 10
  pwmPeriod     : Nat := 5000000
  phaseUnits    : Nat := 0
  deadTime      : Nat := 40
  reversalMs    : Nat := 2
  theta         : Nat := 0
  params        : WireParams := {}
  restarts      : List Nat := []
  tripAt        : Nat := 0
  trips         : Nat := 0
  dropped       : Nat := 0
  lpAt          : Nat := 0
  lpCount       : Nat := 0
  measure       : Option Measure := none
  diag          : Option Diag := none
  policy        : DipPolicy := {}
  dipPolicy     : DipPolicy := {}
  capped        : Bool := false
  shed          : Shed := .none
  forced        : Option Drive := none
  dutyItem      : Option (Nat × Nat) := none
  reclaimed     : Bool := false
  settled       : Bool := false
  settledDuty   : Nat := 0
  settledUa     : Int := 0
deriving DecidableEq, Repr

/-- A channel at power-up: class defaults, and θ at θ_restart because the wire's history is unknown (R386, cmd 0x0701). -/
def LoadChannel.atReset (n : Nat) : LoadChannel :=
  let p : WireParams := { section_ := (loadClass n).section_, tau := (loadClass n).tau }
  { ocThreshold := (loadClass n).ocReset, params := p, theta := p.restart }

/-- One entry of the safe-state table (R393). -/
structure SafeEntry where
  mode : Nat := 0
  duty : Nat := 0
deriving DecidableEq, Repr

/-- The safe-state table, its NV copies and a write in progress (R393, R395); the hold window (R392). -/
structure LoadTables where
  channels   : List LoadChannel := (span 0 48).map LoadChannel.atReset
  safeTable  : Table SafeEntry := []
  safeVer    : Nat := 0
  copyBad    : Nat := 0
  badOwed    : Bool := false
  nextTable  : Option (Table SafeEntry × Nat) := none
  holdMs     : Nat := 200
  holdOpen   : Bool := false
  holdAt     : Nat := 0
  endOwed    : Option (Nat × Nat) := none
  planAt     : Nat := 0
  allOff     : Bool := false
deriving DecidableEq, Repr

/-- One battery feed (R401-R413). Warning level in 10 mV, voltages in mV; `above` says that it has exceeded the shutdown
level and not yet been released. -/
structure Feed where
  warn      : Nat := 700
  inDip     : Bool := false
  dipAt     : Nat := 0
  lost      : Bool := false
  logged    : Bool := false
  loggedAt  : Nat := 0
  loggedMax : Nat := 0
  above     : Bool := false
deriving DecidableEq, Repr

/-- A chain of overlapping dips that will raise one SUPPLY_DIP (R406). -/
structure DipChain where
  feeds : Nat
  start : Nat
  min10 : Nat
deriving DecidableEq, Repr

/-- An event with its addressees, held for Masthead (R420). -/
structure HeldEvent where
  unit     : Nat
  code     : Nat
  severity : Nat
  detail   : Nat
  targets  : List Nat
deriving DecidableEq, Repr

/-- Battery feeds and supply supervision (12). `feedA` and `feedB` are VBAT_A and VBAT_B. -/
structure SupplyState where
  profile48   : Bool := false
  feedA       : Feed := {}
  feedB       : Feed := {}
  filterUs    : Nat := 10
  min10       : Nat := 0xFFFF
  max10       : Nat := 0
  dips        : Nat := 0
  chain       : Option DipChain := none
  shutdown    : Bool := false
  shutdownAt  : Nat := 0
  shutdownMax : Nat := 0
  shutFeeds   : Nat := 0
  groundLost  : Bool := false
  groundAt    : Nat := 0
  groundMax   : Nat := 0
  groundMask  : Nat := 0
  mismatch    : Bool := false
  mismatchOwed : Option Nat := none
  clampRaised : Bool := false
  vlogicLow   : Bool := false
  unpowered   : Bool := false
  held        : List HeldEvent := []
  heldLost    : Nat := 0
  conditionAt : Nat := 0
  regFurls    : Nat := 0
deriving DecidableEq, Repr

/-- A sense input (R424-R441). `waiting` holds records that wait for a descriptor. -/
structure SenseInput where
  mode      : Nat := 0
  pulsed    : Bool := false
  intChange : Bool := false
  ratio     : Bool := false
  vector    : Nat := 0
  wetMa     : Nat := 0
  range     : Nat := 0
  threshold : Nat := 0
  hyst      : Nat := 0
  debounce  : Nat := 0
  pollMs    : Nat := 0
  supply    : Nat := 0xFF
  high      : Bool := false
  closed    : Bool := false
  runSince  : Option Nat := none
  lastPulse : Option Bool := none
  changed   : Bool := false
  chAt      : Nat := 0
  chCount   : Nat := 0
  value     : Int := 0
  skipped   : Nat := 0
  lost      : Nat := 0
  queue     : Option Nat := none
  gang      : Bool := false
  period    : Nat := 0
  anchor    : Nat := 0
  nextAt    : Nat := 0
  waiting   : List Nat := []
deriving DecidableEq, Repr

/-- The states of a sense converter (R434). -/
inductive ConvState where
  | inService | calibrating | standby | furled
deriving DecidableEq, Repr

/-- The code of a converter state (cmd 0x0807). -/
def ConvState.code : ConvState → Nat
  | .inService => 0 | .calibrating => 1 | .standby => 2 | .furled => 3

/-- A sense converter: since when it is in service and when it was last calibrated (R434-R436). -/
structure Converter where
  state  : ConvState := .inService
  since  : Nat := 0
  calAt  : Nat := 0
deriving DecidableEq, Repr

/-- A sensor supply output (R438). -/
structure SensorSupply where
  on        : Bool := false
  latched   : Bool := false
  heldOff   : Bool := false
  restartAt : Option Nat := none
  restarts  : List Nat := []
deriving DecidableEq, Repr

/-- A calibration run that was asked for (R437): converters still to do and failures so far. -/
structure CalRun where
  left     : List Nat
  failed   : Nat
  deferred : Bool
deriving DecidableEq, Repr

/-- Sense inputs, converters and sensor supplies (13). DESIGN CHOICE (log entry 11): converter 4 begins in STANDBY. -/
structure SenseState where
  inputs     : List SenseInput := (span 0 32).map fun _ => {}
  converters : List Converter := [{}, {}, {}, {}, { state := .standby }]
  rotateMs   : Nat := 250
  rotateAt   : Nat := 0
  calRun     : Option CalRun := none
  supplies   : List SensorSupply := [{}, {}, {}, {}]
deriving DecidableEq, Repr

/-- The power states (R20, R338); Off is the loss of supply. -/
inductive PowerState where
  | run | idle | meadow | heath
deriving DecidableEq, Repr

/-- A wake source's configuration and false-wake state (R339, R357-R361, cmd 0x0D03). -/
structure WakeSource where
  meadow      : Bool := false
  heath       : Bool := false
  selective   : Bool := false
  activeLow   : Bool := false
  muteExempt  : Bool := false
  debounce    : Nat := 33
  bitRate     : Nat := 0
  falseLimit  : Nat := 4
  validMs     : Nat := 200
  backoffS    : Nat := 900
  falseCount  : Nat := 0
  muted       : Bool := false
  muteUntil   : Nat := 0
  muteS       : Nat := 0
  mutes       : Nat := 0
  windowOpen  : Bool := false
  validated   : Bool := false
  windowAt    : Option Nat := none
  lastWake    : Nat := 0
  reportOwed  : Bool := false
  errorCount  : Nat := 0
deriving DecidableEq, Repr

/-- A selective wake frame filter (R350, cmd 0x0D04). -/
structure SelectiveFilter where
  ide      : Bool := false
  id       : Nat := 0
  idMask   : Nat := 0
  dlc      : Nat := 0
  dataMask : Nat := 0
deriving DecidableEq, Repr

/-- An entry of the wake record (R357). -/
structure WakeRecord where
  source : Nat
  detail : Nat
  late   : Bool
  left   : Nat
  time   : Nat
deriving DecidableEq, Repr

/-- A sleep entry in progress (R344): its target, its phase and since when, the channels that phase 2 switched off, and whether
the commit point has passed. -/
structure SleepEntry where
  target    : Nat
  phase     : Nat
  phaseAt   : Nat
  offCount  : Nat
  committed : Bool
deriving DecidableEq, Repr

/-- Sleep, wake and the Heath domain's records (10). `pendingWake` is the source of a wake that waits for the entry's end,
`endOwed` the target, phase and channel count of an entry that Masthead's absence ended, `genuine` that a wake since the commit
point is known to be genuine, `falseSince` the false wakes since the last genuine one, `thetas` the θ kept at the commit point. -/
structure SleepState where
  power       : PowerState := .run
  entry       : Option SleepEntry := none
  commitAt    : Nat := 0
  leftState   : Nat := 0
  pendingWake : Option Nat := none
  unpoweredAt : Nat := 0
  endOwed     : Option (Nat × Nat × Nat) := none
  sources     : Table WakeSource := [(0x30, { meadow := true, heath := true }), (0x31, { meadow := true, heath := true }),
    (0x32, { meadow := true, heath := true }), (0x33, { meadow := true, heath := true })]
  filters     : Table SelectiveFilter := []
  record      : List WakeRecord := []
  overflow    : Bool := false
  genuine     : Bool := false
  falseSince  : Nat := 0
  alarm       : Nat := 0
  thetas      : List Nat := []
deriving DecidableEq, Repr

end Sys2Proof.Machine
end

