-- ==== Sys2Proof/Machine/Parts/Switch.lean ====
section
/-! DEFINITION. The state of the switch core (06) and of the Ethernet PHYs (07). -/

namespace Sys2Proof.Machine

/-- One entry of a gate control list (R239). -/
structure GateEntry where
  interval : Nat
  mask     : Nat
deriving DecidableEq, Repr

/-- A gate control list (R239). -/
structure GateList where
  entries : List GateEntry := []
  cycle   : Nat := 0
  base    : Nat := 0
deriving DecidableEq, Repr

/-- A switch port's configuration and counters (cmd 0x0401, R217, R239-R245). `nextList` is a list (or a removal) that waits
for its instant, `credits` and `creditAt` each shaped class's credit in 10⁻⁶ bit and when it stood there, `busyUntil` and
`busyClass` the end of the frame in transmission and its class. -/
structure SwPort where
  enable     : Bool := false
  learn      : Bool := false
  unprotGptp : Bool := false
  omitSci    : Bool := false
  stripRtag  : Bool := false
  pvid       : Nat := 0
  pcpMap     : Nat := 0
  defaultPcp : Nat := 0
  vlanDrops  : Nat := 0
  ctStomped  : Nat := 0
  gates      : Option GateList := none
  nextAt     : Nat := 0
  nextList   : Option (Option GateList) := none
  gateMask   : Nat := 0xFF
  slopes     : Table Nat := []
  credits    : Table Int := []
  creditAt   : Table Nat := []
  busyUntil  : Nat := 0
  busyClass  : Nat := 0
  express    : Nat := 0
  addFrag    : Nat := 0
  preempt    : Bool := false
  verifyMs   : Nat := 0
  preActive  : Bool := false
  verifyFail : Nat := 0
  macHeld    : Bool := false
deriving DecidableEq, Repr

/-- A VLAN's member and untag masks (R217, cmd 0x0402). -/
structure Vlan where
  member : Nat := 0
  untag  : Nat := 0
deriving DecidableEq, Repr

/-- Where a MAC entry points: one port, one endpoint, or a port mask (R219, R220). -/
inductive MacTarget where
  | port (p : Nat)
  | endpoint (e : Nat)
  | mask (m : Nat)
deriving DecidableEq, Repr

/-- A MAC table entry (R220). `endpointOwn` marks an endpoint's own static entry. -/
structure MacEntry where
  vid         : Nat
  addr        : Nat
  fixed       : Bool
  endpointOwn : Bool
  target      : MacTarget
  seenAt      : Nat
deriving DecidableEq, Repr

/-- An internal endpoint (R222, R223). Port 0 means free; a queue is held as its number plus one, 0 for none. -/
structure Endpoint where
  port       : Nat := 0
  partition  : Nat := 0
  addr       : Nat := 0
  vids       : List Nat := []
  trap       : Bool := false
  txQueue    : Table Nat := []
  rxQueue    : Table Nat := []
  spoofDrops : Nat := 0
  rxTooLong  : Nat := 0
  noQueue    : Nat := 0
deriving DecidableEq, Repr

/-- A cell account (R226-R230). -/
structure Account where
  quota       : Nat := 0
  occupancy   : Nat := 0
  peak        : Nat := 0
  drops       : Nat := 0
  frozenDrops : Nat := 0
  since       : Nat := 0
deriving DecidableEq, Repr

/-- A frame copy (or pointer) in the buffer: what it is, where it goes, and how many of its cells have been matched
(R226-R238). `group` links the pointers of one stored frame under reference counts (R233), `banks` masks the banks that hold
its cells, `ingressAt` is its ingress event and `stamp` the TIME of its record. A copy for port 15 is a sample, of the direction that `direction` gives (R254). -/
structure QFrame where
  serial     : Nat
  group      : Nat
  shared     : Bool
  frame      : EthFrame
  length     : Nat
  cells      : Nat
  banks      : Nat
  ingress    : Nat
  ingressAt  : Nat
  stamp      : Nat
  egress     : Nat
  endpoint   : Option Nat
  srcEp      : Option Nat
  cls        : Nat
  vid        : Nat
  pcp        : Nat
  admitted   : Bool
  flows      : List Nat
  account    : Nat
  secured    : Bool
  recovered  : Bool
  cutThrough : Bool
  moved      : Nat
  started    : Bool
  direction  : Nat
deriving DecidableEq, Repr

/-- A MACsec SA (R246-R248, cmd 0x040D). Counters: frames verified, failed, late. -/
structure MacsecSa where
  installed : Bool := false
  slot      : Nat := 0
  enable    : Bool := false
  encrypt   : Bool := false
  validate  : Nat := 0
  sci       : Nat := 0
  nextPn    : Nat := 0
  threshold : Nat := 0
  window    : Nat := 0
  key       : List Byte := []
  exhausted : Bool := false
  lost      : Nat := 0
  okFrames  : Nat := 0
  badFrames : Nat := 0
  lateFrames : Nat := 0
deriving DecidableEq, Repr

/-- A stream filter (R249, R250, cmd 0x040B) with its own meter for unadmitted traffic (level in 10⁻⁹ byte), its count of
frames dropped and the CVU attached (R531). -/
structure Filter where
  mode      : Nat := 0
  partition : Nat := 0
  addr      : Nat := 0
  vid       : Nat := 0
  endpoint  : Nat := 0
  ports     : Nat := 0
  maxSdu    : Nat := 0
  cir       : Nat := 0
  cbs       : Nat := 0
  level     : Nat := 0
  levelAt   : Nat := 0
  drops     : Nat := 0
  cvu       : Option Nat := none
deriving DecidableEq, Repr

/-- A sequence generation or recovery function (R251, cmd 0x040C). -/
structure FrerFn where
  kind        : Nat := 0
  history     : Nat := 0
  filter      : Nat := 0
  resetMs     : Nat := 0
  latentMs    : Nat := 0
  latentDiff  : Nat := 0
  seq         : Nat := 0
  seen        : List Nat := []
  started     : Bool := false
  lastAt      : Nat := 0
  passed      : Nat := 0
  discarded   : Nat := 0
  resets      : Nat := 0
  checkedAt   : Nat := 0
  passedThen  : Nat := 0
  discardThen : Nat := 0
deriving DecidableEq, Repr

/-- One port's gPTP settings in one of the two gPTP domains (R252, cmd 0x040F). -/
structure GptpPort where
  domain      : Nat := 0
  role        : Nat := 0
  syncLog     : Int := 0
  pdelayLog   : Int := 0
  staticDelay : Nat := 0xFFFFFFFF
deriving DecidableEq, Repr

/-- Sampling of one direction of one port (R253, cmd 0x040E): frames left before the next sample. -/
structure Sampler where
  every  : Nat := 0
  random : Bool := false
  left   : Nat := 0
deriving DecidableEq, Repr

/-- What a mark sweep found (R255, R256). -/
structure SweepFind where
  cells  : List Nat := []
  counts : Nat := 0
deriving DecidableEq, Repr

/-- The switch core. Keys: SA `((port·2 + direction)·16 + sc)·4 + an`; FRER function `n` generation, `512 + n` recovery;
sampler `port·2 + direction`; gPTP `which·16 + port`. -/
structure SwitchState where
  ports         : Table SwPort := []
  ageS          : Nat := 300
  vlans         : Table Vlan := []
  macs          : List MacEntry := []
  learnFailed   : Nat := 0
  endpoints     : Table Endpoint := []
  accounts      : Table Account := (0, { quota := 8192 }) :: (span 64 12).map fun a => (a, { quota := 512 })
  queue         : List QFrame := []
  serial        : Nat := 0
  free          : Nat := 16384
  withdrawn     : Nat := 0
  banksOut      : Nat := 0
  nextBank      : Nat := 0
  portPointer   : Nat := 0
  inputPointers : Table Nat := []
  grantPtrs     : Table Nat := []
  acceptPtrs    : Table Nat := []
  sas           : Table MacsecSa := []
  filters       : Table Filter := []
  frer          : Table FrerFn := []
  gptp          : Table GptpPort := []
  samplers      : Table Sampler := []
  sampleQueue   : Nat := 0
  samplesLost   : Nat := 0
  auditEnable   : Bool := true
  auditPeriod   : Nat := 1000
  auditAt       : Nat := 0
  mismatch      : Bool := false
  reclaimed     : Nat := 0
  sweeping      : Bool := false
  lastFind      : Option SweepFind := none
  frozen        : Bool := false
deriving DecidableEq, Repr

/-- The link states of a port (R269). -/
inductive LinkState where
  | disabled | training | up | sleep | diag | furled
deriving DecidableEq, Repr

/-- The code of a link state (cmd 0x0441). -/
def LinkState.code : LinkState → Nat
  | .disabled => 0 | .training => 1 | .up => 2 | .sleep => 3 | .diag => 4 | .furled => 5

/-- A PHY port: link, options, counters (R266-R283, cmd 0x0446) and PLCA (R280, R281). -/
structure EthPort where
  link         : LinkState := .disabled
  enable       : Bool := false
  master       : Bool := false
  tc10         : Bool := false
  acceptSleep  : Bool := false
  wakeForward  : Bool := false
  changed      : Nat := 0
  sleepPending : Bool := false
  sleepAt      : Nat := 0
  framesOk     : Nat := 0
  fcsErrors    : Nat := 0
  runts        : Nat := 0
  oversize     : Nat := 0
  symbolErrors : Nat := 0
  fecCorr      : Nat := 0
  fecUncorr    : Nat := 0
  linkDrops    : Nat := 0
  downDrops    : Nat := 0
  collisions   : Nat := 0
  beaconsLost  : Nat := 0
  tc10Wakes    : Nat := 0
  since        : Nat := 0
  plca         : Bool := false
  nodeId       : Nat := 0
  nodeCount    : Nat := 0
  toTimer      : Nat := 0
  plcaLost     : Bool := false
  requestHeld  : Bool := false
deriving DecidableEq, Repr

end Sys2Proof.Machine
end

