-- ==== Sys2Proof/Machine/Parts/Time.lean ====
section
/-! DEFINITION. The state of Device Time's servo, copies and reference, of PPS, and of gangs (05, R194-R212). Device
Time itself is `Io.time`. -/

namespace Sys2Proof.Machine

/-- The states of the time servo (R198). -/
inductive ServoState where
  | free | acquiring | locked | holdover
deriving DecidableEq, Repr

/-- The code of a servo state (TIME_READ). -/
def ServoState.code : ServoState → Nat
  | .free => 0 | .acquiring => 1 | .locked => 2 | .holdover => 3

/-- One gang member: channel or input number, offset in 256ths of the period, and its next instant's index (R206). -/
structure GangMember where
  member : Nat
  units  : Nat
  nextK  : Nat
deriving DecidableEq, Repr

/-- A gang's timing and members (R206-R208). -/
structure GangBlock where
  period  : Nat := 0
  anchor  : Nat := 0
  members : List GangMember := []
deriving DecidableEq, Repr

/-- A gang: the block in force and a change that waits for its instant (R208). -/
structure Gang where
  running  : Bool := false
  owner    : Nat := 0
  block    : GangBlock := {}
  changeAt : Nat := 0
  change   : Option GangBlock := none
deriving DecidableEq, Repr

/-- A running mean's sample: when it was taken and the rate in ppb (R198). -/
structure RateSample where
  at_  : Nat
  rate : Int
deriving DecidableEq, Repr

/-- The servo, the network-time offsets (in 2⁻¹⁶ ns), PPS, the D6 and D7 copies and the Heath reference pair.
`halfRateUntil` is the Device Time at which a half rate ends (R212). -/
structure TimeState where
  servo          : ServoState := .free
  source         : Nat := 0
  lockNs         : Nat := 1
  maxAdjPpb      : Nat := 1
  holdoverLimitS : Nat := 1
  run            : List Int := []
  lockMean       : Int := 0
  rate           : Int := 0
  rateAt         : Nat := 0
  rates          : List RateSample := []
  lastSync       : Nat := 0
  holdoverAt     : Nat := 0
  offsetA        : Int := 0
  offsetB        : Int := 0
  offsetAtA      : Nat := 0
  offsetAtB      : Nat := 0
  everLockedA    : Bool := false
  everLockedB    : Bool := false
  ppsEnable      : Bool := false
  ppsScale       : Nat := 0
  ppsWidthMs     : Nat := 1
  ppsHigh        : Bool := false
  ppsRiseAt      : Nat := 0
  ppsNext        : Int := 0
  ppsRejected    : Nat := 0
  ppsLastEdge    : Nat := 0
  d6Valid        : Bool := true
  d6Stamp        : Nat := 0
  d7Valid        : Bool := true
  d7Stamp        : Nat := 0
  rtc            : Nat := 0
  rtcPhase       : Nat := 0
  tRef           : Nat := 0
  rRef           : Nat := 0
  rtcFallback    : Bool := false
  backupOsc      : Bool := false
  halfRateUntil  : Nat := 0
  discontinuity  : Bool := false
  canGangs       : Table Gang := []
  pwmGangs       : Table Gang := []
  senseGangs     : Table Gang := []
deriving DecidableEq, Repr

end Sys2Proof.Machine
end

