-- ==== Sys2Proof/Machine/State.lean ====
section
/-! DEFINITION. The state of the TZ7, its state right after reset, and the reasons a step can stop. -/

namespace Sys2Proof.Machine

/-- The state of the TZ7: the queue of waiting commands and every part of the device. `owners` is keyed by the kind code
of R107 times 65 536 plus the object number; an object it does not list belongs to P0. -/
structure State where
  pending : List Instr := []
  io      : Io := {}
  time    : TimeState := {}
  flow    : FlowTables := {}
  sw      : SwitchState := {}
  eth     : Table EthPort := []
  dma     : Table DmaQueue := []
  capsules : List CapsuleOp := []
  can     : CanTables := {}
  lin     : Table LinChannel := []
  ports   : Table LocalPort := []
  load    : LoadTables := {}
  supply  : SupplyState := {}
  sense   : SenseState := {}
  sleep   : SleepState := {}
  cpu     : CpuState := {}
  keys    : KeyState := {}
  cipher  : CipherState := {}
  fair    : FairState := {}
  health  : HealthState := {}
  boot    : BootState := {}
  owners  : Table Nat := []
deriving DecidableEq, Repr

/-- The TZ7 right after a power-up reset (R582): every register at its reset value, the boot ROM next. -/
def State.reset : State :=
  { keys := { otp := { deviceUid := Config.deviceUid, deviceTag := Config.deviceTag,
                       fwKeys := [(0, { key := Config.fwKey0, written := true })] } },
    boot := { fwA := some { version := Config.shippedVersion },
              fwB := some { version := Config.shippedVersion },
              cfgA := some { body := Config.shippedBody, length := Config.shippedLength },
              cfgB := some { body := Config.shippedBody, length := Config.shippedLength } } }

/-- What stops the block with a fault. No command of this model raises one: the block reports every error through a
status, an event or a counter. -/
inductive Fault where
  /-- Never raised. -/
  | none
deriving DecidableEq, Repr

/-- What the model refuses. `notModelled` is raised by the dispatch for a command that has no meaning yet; it is safe,
because nothing is claimed of such a step. -/
inductive Refusal where
  /-- Raised by an arm of the dispatch for a command that has no meaning yet; safe. -/
  | notModelled (mnemonic : String)
deriving DecidableEq, Repr

end Sys2Proof.Machine
end

