-- ==== Sys2Proof/Machine/Ops.lean ====
section
/-! DEFINITION. The named operations over the state that every family shares: time, events, interrupts, ownership,
furl state, life cycle, features, free values, and memory on a partition's behalf. -/

namespace Sys2Proof.Machine

/-- TIME_NS of Device Time (R194). -/
def State.now (s : State) : Nat := s.io.now

/-- Raise an event to the partitions given (R28, R82). -/
def State.raise (s : State) (e : Event) (targets : List Nat) : State := { s with io := s.io.raise e targets }

/-- Raise an event to every partition whose event ring is enabled. -/
def State.raiseAll (s : State) (e : Event) : State := s.raise e s.io.listeners

/-- Raise a vector of a partition (R95). -/
def State.vector (s : State) (p v : Nat) : State := { s with io := s.io.vector p v }

/-- Report a translation fault of a partition's access (R122, R123). -/
def State.raiseFault (s : State) (f : XFault) (p queue requester offset : Nat) : State :=
  { s with io := s.io.raiseFault f p queue requester offset }

/-- Draw a free value: a number nothing constrains. -/
def State.draw (s : State) : Nat × State :=
  (Config.freeValue s.io.free, { s with io := { s.io with free := s.io.free + 1 } })

/-- Draw a free choice. -/
def State.choose (s : State) : Bool × State :=
  (Config.freeChoice s.io.free, { s with io := { s.io with free := s.io.free + 1 } })

/-- Read `n` bytes at an IOVA of a partition. -/
def State.read (s : State) (p iova n : Nat) : State × Except XFault Nat :=
  ({ s with io := (s.io.devRead p iova n).1 }, (s.io.devRead p iova n).2)

/-- Write `n` bytes at an IOVA of a partition. -/
def State.write (s : State) (p iova n w : Nat) : State × Option XFault :=
  ({ s with io := (s.io.write p iova n w).1 }, (s.io.write p iova n w).2)

/-- The object kinds of R107. -/
def kindQueue : Nat := 1
/-- Kind code of CAN message objects (R107). -/
def kindCan : Nat := 3
/-- Kind code of load channels (R107). -/
def kindLoad : Nat := 4
/-- Kind code of sense inputs (R107). -/
def kindSense : Nat := 5
/-- Kind code of CVUs (R107). -/
def kindCvu : Nat := 6
/-- Kind code of LIN channels (R107). -/
def kindLin : Nat := 7
/-- Kind code of local ports (R107). -/
def kindPort : Nat := 8
/-- Kind code of Fairlead windows (R107). -/
def kindWindow : Nat := 9

/-- How many objects a kind has (R107). -/
def kindCount : Nat → Nat
  | 1 => 1024 | 2 => 4096 | 3 => 1536 | 4 => 48 | 5 => 32 | 6 => 16 | 7 => 8 | 8 => 10 | 9 => 32 | _ => 0

/-- The owner of an object (R107). -/
def State.owner (s : State) (kind n : Nat) : Nat := Table.get 0 s.owners (kind * 65536 + n)

/-- Give an object to a partition. -/
def State.setOwner (s : State) (kind n p : Nat) : State :=
  { s with owners := Table.put 0 s.owners (kind * 65536 + n) p }

/-- A unit's health record. -/
def State.unitHealth (s : State) (u : Nat) : UnitHealth := Table.get {} s.health.units u

/-- Change a unit's health record. -/
def State.mapUnit (s : State) (u : Nat) (f : UnitHealth → UnitHealth) : State :=
  { s with health := { s.health with units := Table.modify {} s.health.units u f } }

/-- Whether a unit is furled (R44). -/
def State.furled (s : State) (u : Nat) : Bool := (s.unitHealth u).furled

/-- Instances of each unit class (R37). -/
def classCount : Nat → Nat
  | 0x00 => 1 | 0x01 => 4 | 0x02 => 8 | 0x03 => 1 | 0x04 => 1 | 0x05 => 1 | 0x06 => 16 | 0x07 => 1 | 0x08 => 1
  | 0x09 => 1 | 0x0A => 1 | 0x0B => 16 | 0x0C => 16 | 0x0D => 16 | 0x0E => 1 | 0x0F => 12 | 0x10 => 12 | 0x11 => 8
  | 0x12 => 10 | 0x13 => 40 | 0x14 => 8 | 0x15 => 6 | 0x16 => 48 | 0x17 => 32 | 0x18 => 5 | 0x19 => 4 | 0x1A => 4
  | 0x1B => 4 | 0x1C => 1 | 0x1D => 1 | 0x1E => 24 | 0x1F => 4 | 0x20 => 16 | 0x21 => 1 | 0x22 => 5 | 0x23 => 1
  | 0x24 => 10 | 0x25 => 1 | 0x26 => 1 | 0x27 => 2 | _ => 0

/-- Whether a unit exists (R37); clock domains begin at 1. -/
def unitExists (u : Nat) : Bool :=
  decide (u % 256 < classCount (u / 256)) && !(u / 256 == 0x24 && u % 256 == 0)

/-- The Unit ID of a class's instance (R36). -/
def unitId (cls inst : Nat) : Nat := cls * 256 + inst

/-- The unit of a load channel: high-side channels 0 to 39, legs 40 to 47 (R37). -/
def loadUnit (n : Nat) : Nat := if n < 40 then unitId 0x13 n else unitId 0x14 (n - 40)

/-- Masthead is absent or in Hove-to, so F commands are not executed (R103, R104). -/
def State.absent (s : State) : Bool := !s.cpu.masthead.present || s.cpu.masthead.hoveTo

/-- Any tamper latch is set (R503). -/
def State.tamperHeld (s : State) : Bool :=
  (span 0 5).any fun i => (Table.get {} s.keys.tamper i).latched

/-- The life-cycle state's code (R475, cmd 0x0101). -/
def State.lifecycle (s : State) : Nat := s.keys.otp.lifecycle

/-- The accept word FEAT_ACCEPTn as committed or written so far (R98). -/
def State.acceptWord (s : State) (p n : Nat) : Nat := Table.get 0 (s.io.window p).accept n

/-- Whether a feature is in force for a partition: its own commit for partition scope, P0's for device scope (R100). -/
def State.has (s : State) (p : Nat) (f : Feature) : Bool :=
  let (w, b) := f.place
  let from_ := if bitOf (deviceScope w) b then 0 else p
  (s.io.window from_).committed && bitOf (s.acceptWord from_ w) b

/-- Whether the compute die runs: not unpowered, not held in reset, not asleep (R20, R583). -/
def State.computeOn (s : State) : Bool :=
  (s.sleep.power == .run || s.sleep.power == .idle) && s.boot.phase != .off && s.boot.phase != .held

/-- Whether the TZ7 is in Meadow or Heath, where the power-stage domain neither drives nor measures (R20, R344). -/
def State.asleep (s : State) : Bool := s.sleep.power == .meadow || s.sleep.power == .heath

/-- Whether a partition's function window is enabled (R57): P0's always, a guest's unless it is FREE. -/
def State.windowOn (s : State) (p : Nat) : Bool := s.computeOn && decide (p < 64) && (s.io.part p).state != .free

/-- Whether a partition is between quiesce and resume (R133). -/
def State.quiescing (s : State) (p : Nat) : Bool := s.io.holding p

/-- A flow's record. -/
def State.flowOf (s : State) (f : Nat) : Flow := Table.get {} s.flow.flows f

/-- Change a flow's record. -/
def State.mapFlow (s : State) (f : Nat) (g : Flow → Flow) : State :=
  { s with flow := { s.flow with flows := Table.modify {} s.flow.flows f g } }

/-- A DMA queue's context. -/
def State.queueOf (s : State) (q : Nat) : DmaQueue := Table.get {} s.dma q

/-- Change a DMA queue's context. -/
def State.mapQueue (s : State) (q : Nat) (g : DmaQueue → DmaQueue) : State :=
  { s with dma := Table.modify {} s.dma q g }

/-- A key slot. -/
def State.slotOf (s : State) (k : Nat) : KeySlot := Table.get {} s.keys.slots k

/-- Change a key slot. -/
def State.mapSlot (s : State) (k : Nat) (g : KeySlot → KeySlot) : State :=
  { s with keys := { s.keys with slots := Table.modify {} s.keys.slots k g } }

/-- Whether a partition is in a slot's owner mask (R481). -/
def State.ownsSlot (s : State) (p k : Nat) : Bool := bitOf (s.slotOf k).owners p

/-- The partitions of an owner mask. -/
def maskPartitions (m : Nat) : List Nat := (span 0 64).filter fun p => bitOf m p

/-- A CAN channel. -/
def State.canOf (s : State) (c : Nat) : CanChannel := Table.get {} s.can.channels c

/-- Change a CAN channel. -/
def State.mapCan (s : State) (c : Nat) (g : CanChannel → CanChannel) : State :=
  { s with can := { s.can with channels := Table.modify {} s.can.channels c g } }

/-- A CAN message object. -/
def State.objOf (s : State) (o : Nat) : CanObject := Table.get {} s.can.objects o

/-- Change a CAN message object. -/
def State.mapObj (s : State) (o : Nat) (g : CanObject → CanObject) : State :=
  { s with can := { s.can with objects := Table.modify {} s.can.objects o g } }

/-- A LIN channel. -/
def State.linOf (s : State) (c : Nat) : LinChannel := Table.get {} s.lin c

/-- Change a LIN channel. -/
def State.mapLin (s : State) (c : Nat) (g : LinChannel → LinChannel) : State :=
  { s with lin := Table.modify {} s.lin c g }

/-- A local port. -/
def State.portOf (s : State) (i : Nat) : LocalPort := Table.get {} s.ports i

/-- Change a local port. -/
def State.mapPort (s : State) (i : Nat) (g : LocalPort → LocalPort) : State :=
  { s with ports := Table.modify {} s.ports i g }

/-- A load channel. -/
def State.loadOf (s : State) (n : Nat) : LoadChannel := nth (LoadChannel.atReset n) s.load.channels n

/-- Change a load channel. -/
def State.mapLoad (s : State) (n : Nat) (g : LoadChannel → LoadChannel) : State :=
  { s with load := { s.load with channels := setAt s.load.channels n (g (s.loadOf n)) } }

/-- A sense input. -/
def State.senseOf (s : State) (i : Nat) : SenseInput := nth {} s.sense.inputs i

/-- Change a sense input. -/
def State.mapSense (s : State) (i : Nat) (g : SenseInput → SenseInput) : State :=
  { s with sense := { s.sense with inputs := setAt s.sense.inputs i (g (s.senseOf i)) } }

/-- A sensor supply output. -/
def State.sensorOf (s : State) (o : Nat) : SensorSupply := nth {} s.sense.supplies o

/-- Change a sensor supply output. -/
def State.mapSensor (s : State) (o : Nat) (g : SensorSupply → SensorSupply) : State :=
  { s with sense := { s.sense with supplies := setAt s.sense.supplies o (g (s.sensorOf o)) } }

/-- A sense converter. -/
def State.convOf (s : State) (c : Nat) : Converter := nth {} s.sense.converters c

/-- Change a sense converter. -/
def State.mapConv (s : State) (c : Nat) (g : Converter → Converter) : State :=
  { s with sense := { s.sense with converters := setAt s.sense.converters c (g (s.convOf c)) } }

/-- A wake source. -/
def State.wakeOf (s : State) (w : Nat) : WakeSource := Table.get {} s.sleep.sources w

/-- Change a wake source. -/
def State.mapWake (s : State) (w : Nat) (g : WakeSource → WakeSource) : State :=
  { s with sleep := { s.sleep with sources := Table.modify {} s.sleep.sources w g } }

/-- An Ethernet PHY port. -/
def State.ethOf (s : State) (p : Nat) : EthPort := Table.get {} s.eth p

/-- Change an Ethernet PHY port. -/
def State.mapEth (s : State) (p : Nat) (g : EthPort → EthPort) : State :=
  { s with eth := Table.modify {} s.eth p g }

/-- A switch port. -/
def State.swOf (s : State) (p : Nat) : SwPort := Table.get {} s.sw.ports p

/-- Change a switch port. -/
def State.mapSw (s : State) (p : Nat) (g : SwPort → SwPort) : State :=
  { s with sw := { s.sw with ports := Table.modify {} s.sw.ports p g } }

/-- A cell account. -/
def State.accountOf (s : State) (a : Nat) : Account := Table.get {} s.sw.accounts a

/-- Change a cell account. -/
def State.mapAccount (s : State) (a : Nat) (g : Account → Account) : State :=
  { s with sw := { s.sw with accounts := Table.modify {} s.sw.accounts a g } }

/-- An internal endpoint of the switch. -/
def State.endpointOf (s : State) (e : Nat) : Endpoint := Table.get {} s.sw.endpoints e

/-- Change an internal endpoint of the switch. -/
def State.mapEndpoint (s : State) (e : Nat) (g : Endpoint → Endpoint) : State :=
  { s with sw := { s.sw with endpoints := Table.modify {} s.sw.endpoints e g } }

/-- A stream filter. -/
def State.filterOf (s : State) (f : Nat) : Filter := Table.get {} s.sw.filters f

/-- Change a stream filter. -/
def State.mapFilter (s : State) (f : Nat) (g : Filter → Filter) : State :=
  { s with sw := { s.sw with filters := Table.modify {} s.sw.filters f g } }

/-- Whether a check-value unit is attached to a stream filter (R531). -/
def State.cvuOnStream (s : State) (c : Nat) : Bool := s.sw.filters.any fun f => f.2.cvu == some c

/-- A check-value unit. -/
def State.cvuOf (s : State) (c : Nat) : Cvu := Table.get {} s.cipher.cvus c

/-- Change a check-value unit. -/
def State.mapCvu (s : State) (c : Nat) (g : Cvu → Cvu) : State :=
  { s with cipher := { s.cipher with cvus := Table.modify {} s.cipher.cvus c g } }

/-- A safety core. -/
def State.coreOf (s : State) (c : Nat) : SafetyCore := Table.get {} s.cpu.safety c

/-- Change a safety core. -/
def State.mapCore (s : State) (c : Nat) (g : SafetyCore → SafetyCore) : State :=
  { s with cpu := { s.cpu with safety := Table.modify {} s.cpu.safety c g } }

/-- A Fairlead window. -/
def State.fairWindow (s : State) (w : Nat) : FairWindow := Table.get {} s.fair.windows w

/-- Change a Fairlead window. -/
def State.mapFairWindow (s : State) (w : Nat) (g : FairWindow → FairWindow) : State :=
  { s with fair := { s.fair with windows := Table.modify {} s.fair.windows w g } }

/-- The reef state of a domain. -/
def State.domainOf (s : State) (d : Nat) : DomainReef := Table.get {} s.health.domains d

/-- The derating of a channel. -/
def State.reefOf (s : State) (n : Nat) : ChannelReef := Table.get {} s.health.channels n

/-- By how much one cycle moves Device Time, in 2⁻³² ns (R195): at half rate while it stands ahead of the counter that goes on after a
fault of the Device Time unit (R212). -/
def State.increment (s : State) : Nat := if s.now < s.time.halfRateUntil then s.io.incr / 2 else s.io.incr

/-- One cycle of the 500 MHz clock with nothing to do: Device Time advances by its increment, and the RTC by its share of
a 32.768 kHz tick (R194, R196). DESIGN CHOICE (log entry 2). -/
def State.tick (s : State) : State :=
  let phase := s.time.rtcPhase + 65536
  { s with
    io := { s.io with time := s.io.time + s.increment },
    time := { s.time with
      rtc := if 1000000000 ≤ phase then (s.time.rtc + 1) % 2 ^ 64 else s.time.rtc,
      rtcPhase := phase % 1000000000 } }

/-- An operation that had returned ACCEPTED ends with a status: a command list that waits for it goes on or ends (R589). -/
def State.opEnd (s : State) (opcode : Nat) (st : Status) : State :=
  if s.boot.waiting = some opcode then
    { s with boot := { s.boot with waiting := none, failed := st.code, list := if st = .done then s.boot.list else [] } }
  else s

/-- The one partition of a list, or 0 (R81). -/
def onlyOne : List Nat → Nat
  | [] => 0
  | p :: rest => if rest.all fun q => q == p then p else 0

/-- Fold a state change over a list. -/
def State.each {α : Type} (s : State) (l : List α) (f : State → α → State) : State := l.foldl f s

/-- Fill a range of a partition with zeros as far as translation allows, page by page (R523). -/
def State.zeroFill (s : State) (p iova n : Nat) : State :=
  s.each (pieces iova n) fun s1 x => (s1.write p x.1 x.2.2 0).1

end Sys2Proof.Machine
end

