-- ==== Sys2Proof/Machine/Operands.lean ====
section
/-! DEFINITION. The operand forms of commands: fields of PARAMS, reserved parameter bits, IOVAs (R7, R8, R76, R77,
R621). -/

namespace Sys2Proof

/-- The little-endian field of `size` bytes at byte `off` of PARAMS (R8, R76). -/
def Request.field (r : Request) (off size : Nat) : Nat := Machine.byteField r.params.toNat off size

/-- Byte `off` of PARAMS. -/
def Request.byte (r : Request) (off : Nat) : Nat := r.field off 1

/-- Bit `b` of byte `off` of PARAMS. -/
def Request.bit (r : Request) (off b : Nat) : Bool := Machine.bitOf (r.byte off) b

/-- Bits [hi:lo] of byte `off` of PARAMS. -/
def Request.bits (r : Request) (off hi lo : Nat) : Nat := Machine.bitsOf (r.byte off) hi lo

/-- The signed field of `size` bytes at byte `off` of PARAMS. -/
def Request.signed (r : Request) (off size : Nat) : Int := Machine.toSigned (8 * size) (r.field off size)

/-- The ring's issuer as a number. -/
def Request.issuer (r : Request) : Nat := r.partition.val

/-- DEADLINE_VALID (R76). -/
def Request.deadlineValid (r : Request) : Bool := r.flags.getLsbD 0

/-- SUPPRESS_DONE (R76). -/
def Request.suppressDone (r : Request) : Bool := r.flags.getLsbD 1

namespace Machine

/-- The mask of bits that a parameter table uses, from its fields `(byte offset, lowest bit, number of bits)`. -/
def usedBits : List (Nat × Nat × Nat) → Nat
  | [] => 0
  | (off, lo, n) :: rest => (2 ^ n - 1) * 2 ^ (8 * off + lo) ||| usedBits rest

/-- Whether a number has bits outside a mask. -/
def outside (w mask : Nat) : Bool := decide (w &&& mask ≠ w)

/-- Whether an IOVA field of 8 bytes stays within 48 bits (R621). -/
def iovaOk (a : Nat) : Bool := decide (a < 2 ^ 48)

/-- Whether a number is a multiple of another. -/
def aligned (a n : Nat) : Bool := decide (a % n = 0)

/-- A value within bounds, both inclusive. -/
def within (x lo hi : Nat) : Bool := decide (lo ≤ x) && decide (x ≤ hi)

end Machine

end Sys2Proof
end

