-- ==== Sys2Proof/Machine/Command.lean ====
section
/-! DEFINITION. The execution of one ring command: the checks in the order of R89, its effect, and its completion
(R68, R76-R80, R86-R90, R622). -/

namespace Sys2Proof.Machine

/-- How a command that passed the gate ends: refused with no effect, finished with its effect (`after` is what follows
the completion), ended by a fault of a buffer that it names, or held back until a later event finishes it. -/
inductive Answer where
  | refuse (st : Status) (results : Nat)
  | finish (st : Status) (results : Nat) (s : State) (after : State → State)
  | fault (f : XFault) (s : State)
  | wait (s : State)

/-- Refused with a status and zero results. -/
def Answer.no (st : Status) : Answer := .refuse st 0

/-- DONE with results. -/
def Answer.done (results : Nat) (s : State) : Answer := .finish .done results s id

/-- ACCEPTED with results. -/
def Answer.accepted (results : Nat) (s : State) : Answer := .finish .accepted results s id

/-- The static facts of a command and its effect. `used` lists the parameter bits it defines, `iovas` the offsets of its
IOVA fields, `shape` says which fields another field's value makes reserved, `range` whether the parameters are in range
(item 11 of R89); `always` marks the three commands of R99; `spends` those that take a token (R498);
`tamperFree` the commands a held tamper never refuses and `tamperKeys` those it refuses even after the unseal (R504);
`hoveTo` an H command that Hove-to refuses (R470); `checks` the conditions of the command's own statuses. -/
structure Command where
  opcode     : Nat
  fast       : Bool := false
  paramLen   : Nat := 0
  used       : List (Nat × Nat × Nat) := []
  iovas      : List Nat := []
  shape      : Request → Bool := fun _ => true
  range      : Request → Bool := fun _ => true
  always     : Bool := false
  manager    : Bool := false
  feature    : Option Feature := none
  featureBad : Request → State → Bool := fun _ _ => false
  tamperFree : Bool := false
  tamperKeys : Request → Bool := fun _ => false
  lifecycle  : Request → State → Bool := fun _ _ => false
  spends     : Bool := false
  owns       : Request → State → Bool := fun _ _ => true
  hoveTo     : Bool := false
  furled     : Request → State → Bool := fun _ _ => false
  checks     : Request → State → List (Bool × Status) := fun _ _ => []
  run        : Request → State → Answer

/-- Whether a packet is well formed for a command: FLAGS, PARAM_LEN and reserved bits (R7, R76, R77, R621). -/
def Command.wellFormed (c : Command) (r : Request) : Bool :=
  decide (r.flags.toNat < 4) && decide (r.paramLen.toNat = c.paramLen) && !outside r.params.toNat (usedBits c.used) &&
  (r.deadlineValid || decide (r.deadline = 0)) && (c.iovas.all fun off => iovaOk (r.field off 8)) && c.shape r

/-- Whether a held tamper refuses the command (R504). -/
def Command.tamperRefused (c : Command) (r : Request) (s : State) : Bool :=
  s.tamperHeld && !c.tamperFree && (!s.keys.unsealedOnce || c.tamperKeys r)

/-- The statuses that a command meets before those of its own, in the order of R89. -/
def Command.gate (c : Command) (r : Request) (s : State) : Option Status :=
  firstOf [
    (!c.wellFormed r, .badParam),
    (!c.always && !(s.io.window r.issuer).committed, .featuresNotCommitted),
    (match c.feature with | some f => !s.has r.issuer f | none => false, .badOpcode),
    (r.deadlineValid && (s.io.window r.issuer).committed && !s.has r.issuer .cmdDeadline, .badParam),
    (r.suppressDone && (s.io.window r.issuer).committed && !s.has r.issuer .completionSuppress, .badParam),
    (c.featureBad r s, .badParam),
    (c.tamperRefused r s, .tamperHeld),
    (c.lifecycle r s, .notPermittedLifecycle),
    ((c.manager && decide (r.issuer ≠ 0)) || !c.owns r s, .notOwner),
    (r.deadlineValid && decide (r.deadline.toNat < s.now), .deadlinePassed),
    ((!c.fast && s.absent) || (c.hoveTo && s.cpu.masthead.hoveTo), .controllerAbsent),
    (c.furled r s, .unitFurled)]

/-- The first status that applies, the command's own conditions last (R89, item 11). Where several of its own apply, the
first in the order of `checks`: DESIGN CHOICE (log entry 4). -/
def Command.refusal (c : Command) (r : Request) (s : State) : Option Status :=
  match c.gate r s with
  | some st => some st
  | none => firstOf ((!c.range r, .badParam) :: c.checks r s)

/-- The completion record without its phase (R80). -/
def completionRecord (r : Request) (opcode : Nat) (st : Status) (results : Nat) : Nat :=
  pack [(0, 4, r.tag.toNat), (4, 2, opcode), (6, 1, st.code), (7, 1, 2 * r.ring.val), (8, 24, results)]

/-- Post the completion of a command unless SUPPRESS_DONE drops it (R68, R79). -/
def State.complete (s : State) (r : Request) (opcode : Nat) (st : Status) (results : Nat) : State :=
  if r.suppressDone ∧ st = .done then s
  else { s with io := s.io.postCompletion r.issuer (completionRecord r opcode st results) }

/-- What a command does to the state, and the status it ends with; `none` while it is held back. -/
structure Ended where
  status : Option Status
  state  : State

/-- Hold a command back at the front of its ring's intake (R86, R176, R186). -/
def State.hold (s : State) (r : Request) (opcode : Nat) : State :=
  { s with io := s.io.mapWindow r.issuer fun w =>
      { w with intake := Table.modify [] w.intake r.ring.val fun l => { opcode := opcode, req := r } :: l,
               blocked := Table.put false w.blocked r.ring.val true } }

/-- Whether a command of a ring is one that has been held back before. -/
def State.resumed (s : State) (r : Request) : Bool := Table.get false (s.io.window r.issuer).blocked r.ring.val

/-- End a command with its answer (R88, R622). -/
def Command.finish (c : Command) (r : Request) (s : State) : Answer → Ended
  | .refuse st results => { status := some st, state := s.complete r c.opcode st results }
  | .finish st results s1 after => { status := some st, state := after (s1.complete r c.opcode st results) }
  | .fault f s1 =>
    { status := some .bufferFault,
      state := (s1.raiseFault f r.issuer 0xFFFF 0x07 0).complete r c.opcode .bufferFault 0 }
  | .wait s1 => { status := none, state := s1.hold r c.opcode }

/-- A command of the manager that takes a token uses up the challenge, whatever its outcome (R498). -/
def Command.spent (c : Command) (r : Request) (s : State) : State :=
  if c.spends && decide (r.issuer = 0) then { s with keys := { s.keys with challenge := none } } else s

/-- Execute a command: the gate, then its effect (R89). -/
def Command.exec (c : Command) (r : Request) (s : State) : Ended :=
  let e := match c.refusal r s with
    | some st => c.finish r s (.no st)
    | none => c.finish r s (c.run r s)
  { status := e.status, state := c.spent r e.state }

/-- A command's step: nothing happens when the issuer has no window to issue it from (R57). -/
def Command.step (c : Command) (r : Request) (s : State) : Host.Outcome State Fault Refusal :=
  if s.windowOn r.issuer then .next (c.exec r s).state else .next s

end Sys2Proof.Machine
end

