-- ==== Sys2Proof/Machine/Device.lean ====
section
/-! DEFINITION. The meanings of the device commands of 02: identify, features commit, no-operation (R98-R102). -/

namespace Sys2Proof.Machine

/-- The firmware image in use. -/
def State.firmware (s : State) : BankImage :=
  match if s.boot.useFwB then s.boot.fwB else s.boot.fwA with
  | some i => i
  | none => {}

/-- The configuration image in use. -/
def State.configuration (s : State) : BankImage :=
  match if s.boot.useCfgB then s.boot.cfgB else s.boot.cfgA with
  | some i => i
  | none => {}

/-- DEVICE_IDENTIFY (cmd 0x0101). -/
def cmdDeviceIdentify : Command where
  opcode := 0x0101
  fast := true
  always := true
  tamperFree := true
  run r s :=
    .done (pack [(0, 4, 0x00070C5A), (4, 2, Config.revision 0), (6, 2, Config.revision 1),
      (8, 2, Config.firmwareVersion s.firmware.version), (10, 1, flag s.boot.useFwB),
      (11, 1, if s.io.dramBytes = 8 * 2 ^ 30 then 1 else 2), (12, 1, if s.supply.profile48 then 0x30 else 0x0C),
      (13, 1, s.lifecycle), (14, 1, r.issuer), (15, 1, s.io.classOf r.issuer), (16, 8, s.now)]) s

/-- DEVICE_IDENTIFY. -/
def execDeviceIdentify (r : Request) (s : State) : Host.Outcome State Fault Refusal := cmdDeviceIdentify.step r s

/-- Whether an accept set is one a partition may commit (R101): only published bits, SARZU_V1, and no device-scope bit in
a guest. -/
def acceptable (p : Nat) (w : Nat → Nat) : Bool :=
  bitOf (w 0) 0 &&
  (span 0 4).all fun n => !outside (w n) (featWord n) && (decide (p = 0) || decide (w n &&& deviceScope n = 0))

/-- Commit a partition's accept set (R98). -/
def State.commit (s : State) (p : Nat) : State := { s with io := s.io.mapWindow p fun w => { w with committed := true } }

/-- DEVICE_FEATURES_COMMIT (cmd 0x0102, R101). -/
def cmdDeviceFeaturesCommit : Command where
  opcode := 0x0102
  always := true
  tamperFree := true
  checks r s := [
    ((s.io.window r.issuer).committed, .featuresAlreadyCommitted),
    (!acceptable r.issuer (s.acceptWord r.issuer), .badParam),
    (decide (r.issuer ≠ 0) && !(s.io.window 0).committed, .managerNotCommitted)]
  run r s := .done (pack [(0, 8, s.now)]) (s.commit r.issuer)

/-- DEVICE_FEATURES_COMMIT. -/
def execDeviceFeaturesCommit (r : Request) (s : State) : Host.Outcome State Fault Refusal :=
  cmdDeviceFeaturesCommit.step r s

/-- DEVICE_NOP (cmd 0x0103). -/
def cmdDeviceNop : Command where
  opcode := 0x0103
  fast := true
  always := true
  tamperFree := true
  run _ s := .done (pack [(0, 8, s.now)]) s

/-- DEVICE_NOP. -/
def execDeviceNop (r : Request) (s : State) : Host.Outcome State Fault Refusal := cmdDeviceNop.step r s

end Sys2Proof.Machine
end

