-- ==== Sys2Proof/Machine/Crypto.lean ====
section
/-! DEFINITION. The standard algorithms the spec names by their standards and does not restate: SHA-256 (FIPS 180-4), AES
(FIPS 197) in CTR, CBC, CMAC, GCM and CCM (SP 800-38A to D), and ECDSA P-256 verification (FIPS 186). PRESUMED (log entry 23).
Octet strings are lists of numbers below 256, first octet first. -/

namespace Sys2Proof.Machine.Crypto

/-- The integer of an octet string, first octet most significant. -/
def toInt (l : List Nat) : Nat := l.foldl (fun n b => 256 * n + b % 256) 0

/-- The octet string of `n` octets, first octet most significant. -/
def toOctets (n w : Nat) : List Nat := (span 0 n).map fun i => w / 256 ^ (n - 1 - i) % 256

/-- Exclusive or of two octet strings, as long as the shorter. -/
def xorOctets (a b : List Nat) : List Nat := List.zipWith (fun x y => x ^^^ y) a b

/-- Cut a string into blocks of `n` octets, the last perhaps short. -/
def blocksOf (n : Nat) : Nat → List Nat → List (List Nat)
  | 0, _ => []
  | fuel + 1, l => if l = [] then [] else l.take n :: blocksOf n fuel (l.drop n)

/-- The blocks of 16 octets of a string. -/
def blocks16 (l : List Nat) : List (List Nat) := blocksOf 16 (l.length / 16 + 1) l

/-- Zero octets. -/
def zeros (n : Nat) : List Nat := List.replicate n 0

/-- A string filled with zero octets to a whole number of blocks. -/
def padded (l : List Nat) : List Nat := l ++ zeros ((16 - l.length % 16) % 16)

/-- Rotate a 32-bit word right. -/
def rotr (x n : Nat) : Nat := (x / 2 ^ n + x * 2 ^ (32 - n)) % 2 ^ 32

/-- The round constants of SHA-256. -/
def shaK : List Nat :=
  [0x428a2f98, 0x71374491, 0xb5c0fbcf, 0xe9b5dba5, 0x3956c25b, 0x59f111f1, 0x923f82a4, 0xab1c5ed5] ++
  [0xd807aa98, 0x12835b01, 0x243185be, 0x550c7dc3, 0x72be5d74, 0x80deb1fe, 0x9bdc06a7, 0xc19bf174] ++
  [0xe49b69c1, 0xefbe4786, 0x0fc19dc6, 0x240ca1cc, 0x2de92c6f, 0x4a7484aa, 0x5cb0a9dc, 0x76f988da] ++
  [0x983e5152, 0xa831c66d, 0xb00327c8, 0xbf597fc7, 0xc6e00bf3, 0xd5a79147, 0x06ca6351, 0x14292967] ++
  [0x27b70a85, 0x2e1b2138, 0x4d2c6dfc, 0x53380d13, 0x650a7354, 0x766a0abb, 0x81c2c92e, 0x92722c85] ++
  [0xa2bfe8a1, 0xa81a664b, 0xc24b8b70, 0xc76c51a3, 0xd192e819, 0xd6990624, 0xf40e3585, 0x106aa070] ++
  [0x19a4c116, 0x1e376c08, 0x2748774c, 0x34b0bcb5, 0x391c0cb3, 0x4ed8aa4a, 0x5b9cca4f, 0x682e6ff3] ++
  [0x748f82ee, 0x78a5636f, 0x84c87814, 0x8cc70208, 0x90befffa, 0xa4506ceb, 0xbef9a3f7, 0xc67178f2]

/-- The initial hash value of SHA-256. -/
def shaInit : List Nat :=
  [0x6a09e667, 0xbb67ae85, 0x3c6ef372, 0xa54ff53a, 0x510e527f, 0x9b05688c, 0x1f83d9ab, 0x5be0cd19]

/-- Extend a message schedule by `n` words; the words stand newest first. -/
def shaExtend : Nat → List Nat → List Nat
  | 0, w => w
  | n + 1, w =>
    let w15 := nth 0 w 14
    let w2 := nth 0 w 1
    let s0 := rotr w15 7 ^^^ rotr w15 18 ^^^ (w15 / 2 ^ 3)
    let s1 := rotr w2 17 ^^^ rotr w2 19 ^^^ (w2 / 2 ^ 10)
    shaExtend n ((nth 0 w 15 + s0 + nth 0 w 6 + s1) % 2 ^ 32 :: w)

/-- One round of SHA-256. -/
def shaRound (h : List Nat) (kw : Nat × Nat) : List Nat :=
  let a := nth 0 h 0
  let e := nth 0 h 4
  let s1 := rotr e 6 ^^^ rotr e 11 ^^^ rotr e 25
  let ch := (e &&& nth 0 h 5) ^^^ ((2 ^ 32 - 1 - e) &&& nth 0 h 6)
  let t1 := (nth 0 h 7 + s1 + ch + kw.1 + kw.2) % 2 ^ 32
  let s0 := rotr a 2 ^^^ rotr a 13 ^^^ rotr a 22
  let maj := (a &&& nth 0 h 1) ^^^ (a &&& nth 0 h 2) ^^^ (nth 0 h 1 &&& nth 0 h 2)
  [(t1 + s0 + maj) % 2 ^ 32, a, nth 0 h 1, nth 0 h 2, (nth 0 h 3 + t1) % 2 ^ 32, e, nth 0 h 5, nth 0 h 6]

/-- The hash value after one block of 64 octets. -/
def shaBlock (h : List Nat) (block : List Nat) : List Nat :=
  let w := shaExtend 48 ((blocksOf 4 17 block).map toInt).reverse
  let r := (shaK.zip w.reverse).foldl shaRound h
  List.zipWith (fun a b => (a + b) % 2 ^ 32) h r

/-- SHA-256 of an octet string, as 32 octets. -/
def sha256 (l : List Nat) : List Nat :=
  let m := l ++ 0x80 :: zeros ((119 - l.length % 64) % 64) ++ toOctets 8 (8 * l.length)
  (((blocksOf 64 (m.length / 64 + 1) m).foldl shaBlock shaInit).map (toOctets 4)).flatten

/-- Multiply by x in the AES field. -/
def xtime (a : Nat) : Nat := if a < 128 then 2 * a else (2 * a % 256) ^^^ 0x1b

/-- Multiply in the AES field by the low `n` bits of `b`. -/
def gmul : Nat → Nat → Nat → Nat
  | 0, _, _ => 0
  | n + 1, a, b => (if b % 2 = 1 then a else 0) ^^^ gmul n (xtime a) (b / 2)

/-- The AES S-box (FIPS 197), one row of 16 octets to a numeral, the first octet least significant. -/
def sboxRows : List Nat :=
  [0x76abd7fe2b670130c56f6bf27b777c63, 0xc072a49cafa2d4adf04759fa7dc982ca,
   0x1531d871f1e5a534ccf73f362693fdb7, 0x75b227ebe28012079a059618c323c704,
   0x842fe329b3d63b52a05a6e1b1a2c8309, 0xcf584c4a39becb6a5bb1fc20ed00d153,
   0xa89f3c507f02f94585334d43fbaaefd0, 0xd2f3ff1021dab6bcf5389d928f40a351,
   0x73195d643d7ea7c41744975fec130ccd, 0xdb0b5ede14b8ee4688902a22dc4f8160,
   0x79e4959162acd3c25c2406490a3a32e0, 0x08ae7a65eaf4566ca94ed58d6d37c8e7,
   0x8a8bbd4b1f74dde8c6b4a61c2e2578ba, 0x9e1dc186b95735610ef6034866b53e70,
   0xdf2855cee9871e9b948ed9691198f8e1, 0x16bb54b00f2d99416842e6bf0d89a18c]

/-- The inverse S-box, in the same form. -/
def invSboxRows : List Nat :=
  [0xfbd7f3819ea340bf38a53630d56a0952, 0xcbe9dec444438e3487ff2f9b8239e37c,
   0x4ec3fa420b954cee3d23c2a632947b54, 0x25d18b6d49a25b76b224d92866a12e08,
   0x92b6655dcc5ca4d41698688664f6f872, 0x849d8da75746155edab9edfd5048706c,
   0x0645b3b80558e4f70ad3bc8c00abd890, 0x6b8a130103bdafc1020f3fca8f1e2cd0,
   0x73e6b4f0cecff297eadc674f4111913a, 0x6edf751ce837f9e28535ade72274ac96,
   0x1bbe18aa0e62b76f89c5291d711af147, 0xf45acd78fec0db9a2079d2c64b3e56fc,
   0x5fec8027591012b131c7078833a8dd1f, 0xef9cc9939f7ae52d0d4ab519a97f5160,
   0x619953833cbbebc8b0f52aae4d3be0a0, 0x7d0c2155631469e126d677ba7e042b17]

/-- The AES S-box. -/
def sbox (a : Nat) : Nat := nth 0 sboxRows (a / 16) / 256 ^ (a % 16) % 256

/-- The inverse S-box. -/
def invSbox (a : Nat) : Nat := nth 0 invSboxRows (a / 16) / 256 ^ (a % 16) % 256

/-- Extend an AES key schedule; words stand newest first, `i` is the index of the next word, `nk` the key's words. -/
def keyExtend (nk : Nat) : Nat → Nat → Nat → List (List Nat) → List (List Nat)
  | 0, _, _, w => w
  | n + 1, i, rcon, w =>
    let t := nth [] w 0
    let r := (t.drop 1 ++ t.take 1).map sbox
    let u := if i % nk = 0 then xorOctets r [rcon, 0, 0, 0] else if 6 < nk ∧ i % nk = 4 then t.map sbox else t
    keyExtend nk n (i + 1) (if i % nk = 0 then xtime rcon else rcon) (xorOctets (nth [] w (nk - 1)) u :: w)

/-- The round keys of a key of 16 or 32 octets. -/
def roundKeys (key : List Nat) : List (List Nat) :=
  let nk := key.length / 4
  let w := keyExtend nk (4 * (nk + 7) - nk) nk 1 (blocksOf 4 (nk + 1) key).reverse
  blocksOf 16 (nk + 8) w.reverse.flatten

/-- Row shift of a state held column by column; `dir` 1 is forward, 3 inverse. -/
def shiftRows (dir : Nat) (s : List Nat) : List Nat :=
  (span 0 16).map fun i => nth 0 s ((i + 4 * dir * (i % 4)) % 16)

/-- Column mixing with a circulant matrix given by its first row. -/
def mixColumns (row : List Nat) (s : List Nat) : List Nat :=
  (span 0 16).map fun i =>
    ((span 0 4).map fun j => gmul 8 (nth 0 s (i / 4 * 4 + j)) (nth 0 row ((j + 4 - i % 4) % 4))).foldl (· ^^^ ·) 0

/-- AES encryption of one block. -/
def aesEncrypt (key block : List Nat) : List Nat :=
  let ks := roundKeys key
  let last := ks.length - 1
  let s := (span 1 (last - 1)).foldl (fun s r =>
    xorOctets (mixColumns [2, 3, 1, 1] (shiftRows 1 (s.map sbox))) (nth [] ks r)) (xorOctets block (nth [] ks 0))
  xorOctets (shiftRows 1 (s.map sbox)) (nth [] ks last)

/-- AES decryption of one block. -/
def aesDecrypt (key block : List Nat) : List Nat :=
  let ks := roundKeys key
  let last := ks.length - 1
  let s := (span 1 (last - 1)).foldl (fun s r =>
    mixColumns [14, 11, 13, 9] (xorOctets ((shiftRows 3 s).map invSbox) (nth [] ks (last - r))))
    (xorOctets block (nth [] ks last))
  xorOctets ((shiftRows 3 s).map invSbox) (nth [] ks 0)

/-- A counter block raised by `i` in its low 32 bits. -/
def incr32 (ctr : List Nat) (i : Nat) : List Nat := ctr.take 12 ++ toOctets 4 ((toInt (ctr.drop 12) + i) % 2 ^ 32)

/-- Counter mode from a first counter block. -/
def ctrMode (key ctr data : List Nat) : List Nat :=
  (((blocks16 data).zipIdx).map fun b => xorOctets b.1 (aesEncrypt key (incr32 ctr b.2))).flatten

/-- CBC encryption of whole blocks. -/
def cbcEncrypt (key iv data : List Nat) : List Nat :=
  ((blocks16 data).foldl (fun (acc : List (List Nat) × List Nat) b =>
    let c := aesEncrypt key (xorOctets b acc.2)
    (acc.1 ++ [c], c)) ([], iv)).1.flatten

/-- CBC decryption of whole blocks. -/
def cbcDecrypt (key iv data : List Nat) : List Nat :=
  ((blocks16 data).foldl (fun (acc : List (List Nat) × List Nat) b =>
    (acc.1 ++ [xorOctets (aesDecrypt key b) acc.2], b)) ([], iv)).1.flatten

/-- Doubling in the CMAC field. -/
def cmacDouble (l : List Nat) : List Nat :=
  let v := 2 * toInt l
  toOctets 16 (if v < 2 ^ 128 then v else (v % 2 ^ 128) ^^^ 0x87)

/-- The last block of a CMAC: masked whole, or padded and masked. -/
def cmacLast (k1 k2 b : List Nat) : List Nat :=
  if b.length = 16 then xorOctets b k1 else xorOctets (b ++ 0x80 :: zeros (15 - b.length)) k2

/-- AES-CMAC. -/
def cmac (key data : List Nat) : List Nat :=
  let k1 := cmacDouble (aesEncrypt key (zeros 16))
  let bs := blocks16 data
  let x := bs.dropLast.foldl (fun x b => aesEncrypt key (xorOctets x b)) (zeros 16)
  aesEncrypt key (xorOctets x (cmacLast k1 (cmacDouble k1) (bs.getLastD [])))

/-- Multiplication in the GCM field over the top `n` bits of `x`, most significant first. -/
def ghashMul : Nat → Nat → Nat → Nat
  | 0, _, _ => 0
  | n + 1, x, v =>
    (if bitOf x n then v else 0) ^^^ ghashMul n x (if v % 2 = 1 then (v / 2) ^^^ (0xE1 * 2 ^ 120) else v / 2)

/-- GHASH of whole blocks. -/
def ghash (h : Nat) (data : List Nat) : Nat :=
  (blocks16 data).foldl (fun y b => ghashMul 128 (y ^^^ toInt b) h) 0

/-- The GCM counter block of an IV of 12 octets. -/
def gcmStart (iv : List Nat) : List Nat := iv ++ [0, 0, 0, 1]

/-- The GCM tag of a ciphertext and its associated data. -/
def gcmTag (key iv aad ct : List Nat) : List Nat :=
  let h := toInt (aesEncrypt key (zeros 16))
  let s := ghash h (padded aad ++ padded ct ++ toOctets 8 (8 * aad.length) ++ toOctets 8 (8 * ct.length))
  xorOctets (toOctets 16 s) (aesEncrypt key (gcmStart iv))

/-- GCM en- or decryption of the data alone. -/
def gcmCrypt (key iv data : List Nat) : List Nat := ctrMode key (incr32 (gcmStart iv) 1) data

/-- The CCM tag, before truncation, of a nonce of 7 to 13 octets, with tag length `t`. -/
def ccmTag (key nonce aad pt : List Nat) (t : Nat) : List Nat :=
  let q := 15 - nonce.length
  let b0 := ((if aad = [] then 0 else 64) + 8 * ((t - 2) / 2) + (q - 1)) :: nonce ++ toOctets q pt.length
  let a := if aad = [] then []
    else if aad.length < 0xFF00 then padded (toOctets 2 aad.length ++ aad)
    else padded ([0xFF, 0xFE] ++ toOctets 4 aad.length ++ aad)
  let x := (blocks16 (b0 ++ a ++ padded pt)).foldl (fun x b => aesEncrypt key (xorOctets x b)) (zeros 16)
  (xorOctets x (aesEncrypt key ((q - 1) :: nonce ++ zeros q))).take t

/-- CCM en- or decryption of the data alone. -/
def ccmCrypt (key nonce data : List Nat) : List Nat :=
  let q := 15 - nonce.length
  ctrMode key ((q - 1) :: nonce ++ toOctets q 1) data

/-- A power modulo a number, by `n` bits of the exponent. -/
def powMod : Nat → Nat → Nat → Nat → Nat
  | 0, _, _, m => 1 % m
  | n + 1, b, e, m =>
    let h := powMod n (b * b % m) (e / 2) m
    if e % 2 = 1 then b * h % m else h

/-- The field prime of P-256. -/
def p256 : Nat := 0xFFFFFFFF00000001000000000000000000000000FFFFFFFFFFFFFFFFFFFFFFFF
/-- The group order of P-256. -/
def n256 : Nat := 0xFFFFFFFF00000000FFFFFFFFFFFFFFFFBCE6FAADA7179E84F3B9CAC2FC632551
/-- The coefficient b of P-256. -/
def b256 : Nat := 0x5AC635D8AA3A93E7B3EBBD55769886BC651D06B0CC53B0F63BCE3C3E27D2604B
/-- The base point of P-256. -/
def g256 : Nat × Nat :=
  (0x6B17D1F2E12C4247F8BCE6E563A440F277037D812DEB33A0F4A13945D898C296,
   0x4FE342E2FE1A7F9B8EE7EB4A7C0F9E162BCE33576B315ECECBB6406837BF51F5)

/-- The inverse modulo a prime. -/
def invMod (a m : Nat) : Nat := powMod 256 (a % m) (m - 2) m

/-- Addition on P-256; `none` is the point at infinity. -/
def addPoint (a b : Option (Nat × Nat)) : Option (Nat × Nat) :=
  match a, b with
  | none, q => q
  | p, none => p
  | some (x1, y1), some (x2, y2) =>
    if x1 = x2 ∧ (y1 + y2) % p256 = 0 then none
    else
      let l := if x1 = x2 then (3 * x1 * x1 + (p256 - 3)) * invMod (2 * y1) p256 % p256
        else (y2 + p256 - y1) * invMod (x2 + p256 - x1) p256 % p256
      let x3 := (l * l + 2 * p256 - x1 - x2) % p256
      some (x3, (l * (x1 + p256 - x3) + p256 - y1) % p256)

/-- A multiple of a point, by `n` bits of the scalar. -/
def mulPoint : Nat → Nat → Option (Nat × Nat) → Option (Nat × Nat)
  | 0, _, _ => none
  | n + 1, k, q =>
    let h := mulPoint n (k / 2) (addPoint q q)
    if k % 2 = 1 then addPoint q h else h

/-- Whether a point lies on P-256. -/
def onCurve (x y : Nat) : Bool :=
  decide (x < p256) && decide (y < p256) && decide (y * y % p256 = (x * x * x + (p256 - 3) * x + b256) % p256)

/-- ECDSA P-256 verification of a signature (r then s, 64 octets) over SHA-256 of a message; the public key is x then y. -/
def verify (key : List Nat) (message signature : List Nat) : Bool :=
  let x := toInt (key.take 32)
  let y := toInt (key.drop 32)
  let r := toInt (signature.take 32)
  let s := toInt ((signature.drop 32).take 32)
  let e := toInt (sha256 message)
  let w := invMod s n256
  if r = 0 ∨ n256 ≤ r ∨ s = 0 ∨ n256 ≤ s ∨ ¬ onCurve x y then false
  else
    match addPoint (mulPoint 256 (e * w % n256) (some g256)) (mulPoint 256 (r * w % n256) (some (x, y))) with
    | some (x3, _) => decide (x3 % n256 = r)
    | none => false

end Sys2Proof.Machine.Crypto
end

