-- ==== Sys2Proof/Machine/Curves.lean ====
section
/-! DEFINITION. The service-curve figures of the resources of a flow's path (R155-R161, R164-R167): cost, rate, latency,
share, and what other settings they depend on. Rates and latencies are exact rationals. -/

namespace Sys2Proof.Machine

/-- Resource types (R155). -/
def rStream : Nat := 0x01
/-- SWITCH_FABRIC (R155). -/
def rFabric : Nat := 0x02
/-- EGRESS_QUEUE (R155). -/
def rEgress : Nat := 0x03
/-- DMA_QUEUE (R155). -/
def rDma : Nat := 0x04
/-- FABRIC_SLICE (R155). -/
def rSlice : Nat := 0x05
/-- CAN_OBJECT (R155). -/
def rObject : Nat := 0x06
/-- CAN_BUS (R155). -/
def rBus : Nat := 0x07
/-- T1S_SEGMENT (R155). -/
def rT1s : Nat := 0x08
/-- LIN_SLOT (R155). -/
def rLin : Nat := 0x09
/-- LOAD_COMMAND (R155). -/
def rLoad : Nat := 0x0A
/-- SENSE_SAMPLE (R155). -/
def rSense : Nat := 0x0B
/-- CURRENT_SAMPLE (R155). -/
def rCurrent : Nat := 0x0C
/-- CIPHER_STRAND (R155). -/
def rStrand : Nat := 0x0D
/-- CVU (R155). -/
def rCvu : Nat := 0x0E

/-- The figures of a switch port (R156): rate in Mbit/s, ingress latency, T_tx, blocking, blocking of an express class. -/
structure PortFigures where
  mbps    : Nat
  ingress : Nat
  tx      : Nat
  block   : Nat
  express : Nat

/-- The port table of R156. -/
def portFigures (p : Nat) : PortFigures :=
  if p < 2 then ⟨10000, 600, 500, 1260, 124⟩
  else if p < 6 then ⟨1000, 1200, 1000, 12336, 1240⟩
  else if p < 10 then ⟨100, 2400, 2000, 123360, 12400⟩
  else if p < 12 then ⟨10, 6400, 4000, 1233600, 1233600⟩
  else if p = 12 then ⟨10000, 200, 200, 1234, 1234⟩
  else if p = 13 then ⟨2500, 200, 200, 4935, 4935⟩
  else ⟨1000, 200, 200, 12336, 12336⟩

/-- The rate of a port in bit/ns. -/
def portRate (p : Nat) : Rat := mkRat (portFigures p).mbps 1000

/-- The gate lists a flow must hold under: the running list and a list that awaits its instant (R157, R241). -/
def SwPort.lists (x : SwPort) : List GateList :=
  (match x.gates with | some l => [l] | none => []) ++
  (match x.nextList with | some (some l) => [l] | _ => [])

/-- The time a class's gate is open in one cycle of a list (R157). -/
def openTime (q : Nat) (l : List GateEntry) : Nat :=
  (l.map fun e => if bitOf e.mask q then e.interval else 0).foldl (· + ·) 0

/-- The closed run at the head of a list of entries. -/
def closedHead (q : Nat) : List GateEntry → Nat
  | [] => 0
  | e :: rest => if bitOf e.mask q then 0 else e.interval + closedHead q rest

/-- The longest closed run inside a list of entries. -/
def closedRun (q : Nat) : List GateEntry → Nat
  | [] => 0
  | e :: rest => max (closedHead q (e :: rest)) (closedRun q rest)

/-- The longest closed interval of a class, measured cyclically (R157, R239). -/
def closedLongest (q : Nat) (l : List GateEntry) : Nat := min (closedRun q (l ++ l)) ((l.map (·.interval)).foldl (· + ·) 0)

/-- The closed interval of a class that spans the change from one list to the next (R241). -/
def closedSpan (q : Nat) (x : SwPort) : Nat :=
  match x.nextList with
  | none => 0
  | some next =>
    (match x.gates with | some l => closedHead q l.entries.reverse | none => 0) +
    (match next with | some l => closedHead q l.entries | none => 0)

/-- Whether a class of a port is gated: its gate is closed for part of an admitted list (R157). -/
def State.gated (s : State) (p q : Nat) : Bool :=
  (s.swOf p).lists.any fun l => l.entries.any fun e => !bitOf e.mask q && decide (0 < e.interval)

/-- Rate and latency of an egress class (R155-R157, R243). -/
def State.egressCurve (s : State) (p q : Nat) : Rat × Rat :=
  let x := s.swOf p
  let fig := portFigures p
  if s.gated p q then
    let shares := x.lists.map fun l => mkRat (openTime q l.entries) (max 1 l.cycle)
    let share := shares.foldl (fun a b => if b < a then b else a) 1
    let closed := (x.lists.map fun l => closedLongest q l.entries).foldl max (closedSpan q x)
    (portRate p * share, ((fig.tx + closed : Nat) : Rat))
  else (portRate p, ((fig.tx + (if x.preActive && bitOf x.express q then fig.express else fig.block) : Nat) : Rat))

/-- A frequency ceiling as a fraction (R566). -/
def State.ceiling (s : State) (d : Nat) : Rat := mkRat (s.domainOf d).ceiling 100

/-- A curve under a frequency ceiling (R566): c · ρ and ⌈θ / c⌉. -/
def derate (c : Rat) (curve : Rat × Rat) : Rat × Rat :=
  if c ≤ 0 then (0, curve.2) else (c * curve.1, ((curve.2 / c).ceil : Rat))

/-- DMA engines in service (R161). -/
def State.engines (s : State) : Nat := ((span 0 16).filter fun e => !s.furled (unitId 0x0B e)).length

/-- The lowest θ of DMA queues with the engines in service (R161). -/
def State.dmaLatency (s : State) : Nat := if 12 ≤ s.engines then 3000 else ceilDiv 36000 s.engines

/-- The current ADC that serves a channel (R155, R379, R396): its own, or, after a furl, one of the remaining in ascending
channel order. -/
def State.adcOf (s : State) (n : Nat) : Nat :=
  let alive := (span 0 6).filter fun a => !s.furled (unitId 0x15 a)
  let moved := (span 0 48).filter fun m => s.furled (unitId 0x15 (m % 6))
  if !s.furled (unitId 0x15 (n % 6)) ∨ alive = [] then n % 6
  else nth 0 alive ((moved.findIdx (· == n)) % alive.length)

/-- Rate of the sense array (R436). -/
def State.senseRate (s : State) : Rat :=
  match ((span 0 5).filter fun c => !s.furled (unitId 0x18 c)).length with
  | 5 => mkRat 8 1000
  | 4 => mkRat 8 1000
  | 3 => mkRat 6 1000
  | n => mkRat (2 * n) 1000

/-- The PWM period a channel uses, in 12.5 ns steps: that of its gang, or its own (R376, R377). -/
def State.pwmSteps (s : State) (n : Nat) : Nat :=
  let gang := s.time.pwmGangs.find? fun g => g.2.running && g.2.block.members.any fun m => m.member == n
  let ns := match gang with | some g => g.2.block.period | none => (s.loadOf n).pwmPeriod
  (2 * ns * 2 + 25) / 50

/-- The medium number of a shared resource (R164). -/
def mediumOf (r : Res) : Nat :=
  if r.type = rBus then r.inst else if r.type = rT1s then r.inst + 2 else 14 + r.inst

/-- A medium's contract. -/
def State.contract (s : State) (m : Nat) : Contract := Table.get {} s.flow.contracts m

/-- A bit time in half nanoseconds (R288): a quantum is BRP · 12.5 ns. -/
def BitTiming.half (b : BitTiming) : Nat := 25 * b.brp * (1 + b.tseg1 + b.tseg2)

/-- The longest duration in half nanoseconds of a classical frame (R165). -/
def classicalHalf (ext : Bool) (len tBit : Nat) : Nat :=
  let g := if ext then 54 else 34
  (g + 8 * len + 13 + (g + 8 * len - 1) / 4) * tBit

/-- The largest payload of a format. -/
def formatMax : Nat → Nat
  | 0 => 8
  | 1 => 64
  | _ => 2048

/-- τ in half nanoseconds of a frame of `len` bytes on a channel (R165): the longest of the formats the channel sends it
in. FD and XL durations are ISO 11898-1's and not stated by the spec; DESIGN CHOICE (log entry 13). -/
def CanChannel.tau (c : CanChannel) (ext : Bool) (len : Nat) : Nat :=
  let classical := if len ≤ 8 then classicalHalf ext len c.nominal.half else 0
  let fd := if 1 ≤ c.format ∧ len ≤ 64 then Config.canFrameTime 1 len ext c.nominal.half c.fd.half else 0
  let xl := if 2 ≤ c.format ∧ len ≤ 2048 then Config.canFrameTime 2 len false c.nominal.half c.xl.half else 0
  max classical (max fd xl)

/-- τ of the longest frame a channel's FORMAT permits (R165). -/
def CanChannel.longest (c : CanChannel) : Nat :=
  max (classicalHalf true 8 c.nominal.half)
    (max (if 1 ≤ c.format then Config.canFrameTime 1 64 true c.nominal.half c.fd.half else 0)
      (if 2 ≤ c.format then Config.canFrameTime 2 2048 false c.nominal.half c.xl.half else 0))

/-- The arbitration key of an identifier (R164): base identifier in [29:19], bit 18 for 29 bits, extension in [17:0]. -/
def arbitrationKey (ide : Bool) (id : Nat) : Nat :=
  if ide then bitsOf id 28 18 * 2 ^ 19 + 2 ^ 18 + bitsOf id 17 0 else bitsOf id 10 0 * 2 ^ 19

/-- The arbitration key of a send object, from OBJ_ID or its configured identity (R297). -/
def CanObject.key (o : CanObject) : Nat := arbitrationKey (bitOf o.id 29) (bitsOf o.id 28 0)

/-- T_MAX in bit times (R323). -/
def linTMax (len : Nat) : Nat := ceilDiv (14 * (34 + 10 * (len + 1))) 10

/-- T_MAX in ns at a bit rate (R323). -/
def linTMaxNs (len bitRate : Nat) : Nat := ceilDiv (linTMax len * 1000000000) bitRate

/-- The cycle of a LIN channel in ns (R167, R324). -/
def State.linCycle (s : State) (c : Nat) : Nat :=
  let ch := s.linOf c
  if ch.commander then (ch.table.map fun e => e.delayMs * 1000000).foldl (· + ·) 0
  else (s.contract (14 + c)).cycleNs

/-- The length of a LIN slot in ns (R325). -/
def State.linSlotNs (s : State) (c q : Nat) : Nat :=
  let ch := s.linOf c
  match ch.table[q]? with
  | some e => if ch.commander then e.delayMs * 1000000 else linTMaxNs e.length ch.bitRate
  | none => 0

/-- The bytes that one item of a flow costs on a resource: sampling items write a 16-byte record (R155). -/
def itemSize (d : FlowDecl) (r : Res) : Nat :=
  if (d.type = 0x06 ∨ d.type = 0x07) ∧ (r.type = rDma ∨ r.type = rSlice) then 16 else d.maxSize

/-- The cost c(L) of one item of a flow on a resource (R155, R165). -/
def State.cost (s : State) (d : FlowDecl) (r : Res) : Rat :=
  let len := itemSize d r
  let bytes : Nat :=
    if r.type = rFabric ∨ r.type = rT1s then 8 * (len + 20)
    else if r.type = rEgress then 8 * (len + 20) + (if r.inst < 2 && s.has 0 .macsec then 256 else 0)
    else if r.type = rDma ∨ r.type = rSlice ∨ r.type = rCvu then 8 * len
    else if r.type = rStrand then 128 * ((len + 15) / 16) + 128
    else 1
  if r.type = rBus then
    let ch := s.canOf r.inst
    let ext := match d.path.find? fun q => q.type == rObject with
      | some q => bitOf (s.objOf q.inst).id 29
      | none => false
    let tau := mkRat (ch.tau ext len) 2
    let tBit := mkRat ch.nominal.half 2
    tau + (d.retryBudget : Rat) * (tau + 31 * tBit)
  else (bytes : Rat)

/-- The worst PLCA cycle in ns and the rate of a T1S segment (R166), given the largest MAX_SIZE of the TZ7's flows. -/
def State.t1sCurve (s : State) (port largest : Nat) : Rat × Rat :=
  let c := s.contract (port + 2)
  let y := 100 * (20 + (c.nodeCount - 1) * max (8 * (c.maxFrame + 20)) c.toTimer + 8 * (largest + 20))
  (mkRat (8 * largest) y, (y : Rat))

/-- Rate ρ and latency θ of a resource other than STREAM_INGRESS and CAN_BUS (R155), for a flow's own qualifier. `largest`
is the largest MAX_SIZE of the TZ7's flows on a T1S segment. -/
def State.curve (s : State) (r : Res) (largest : Nat) : Rat × Rat :=
  match r.type with
  | 0x02 => derate (s.ceiling 6) (160, 160)
  | 0x03 => s.egressCurve r.inst r.qual
  | 0x04 => derate (s.ceiling 3) (64, (s.dmaLatency : Rat))
  | 0x05 => derate (s.ceiling 3)
      (match r.inst with | 0 => mkRat 768 10 | 1 => mkRat 128 10 | _ => mkRat 256 10, 250)
  | 0x06 => (mkRat 1 1000, 1000)
  | 0x08 => s.t1sCurve r.inst largest
  | 0x09 =>
    let cy := s.linCycle r.inst
    (mkRat 1 (max 1 cy), ((cy + s.linSlotNs r.inst r.qual : Nat) : Rat))
  | 0x0A => (mkRat 2 10000, ((if r.qual = 0 then 1500 else 3500 : Nat) : Rat) + mkRat (25 * s.pwmSteps r.inst) 2)
  | 0x0B => (s.senseRate, 1500)
  | 0x0C => (mkRat 1 1000, 2500)
  | 0x0D => derate (s.ceiling 8) (mkRat 512 1000, 1250)
  | 0x0E => derate (s.ceiling 3) (mkRat 192 10, 200)
  | _ => (1, 0)

/-- The share U of a resource that admitted flows may reserve (R155). -/
def share (r : Res) : Rat :=
  match r.type with
  | 0x02 => mkRat 8 10
  | 0x03 => mkRat 9 10
  | 0x05 => mkRat 9 10
  | 0x07 => mkRat 9 10
  | 0x08 => mkRat 9 10
  | 0x0B => mkRat 9 10
  | 0x0C => mkRat 8 10
  | 0x0D => mkRat 9 10
  | 0x0E => mkRat 9 10
  | _ => 1

end Sys2Proof.Machine
end

