-- ==== Sys2Proof/Machine/Loads.lean ====
section
/-! DEFINITION. The shared operations of the load channels: what drives an output, items, trips, safe-state entries, the
hold window (R366-R396, R407-R419). -/

namespace Sys2Proof.Machine

/-- The channel whose settings govern: a bridge's even leg (R369). -/
def lead (n : Nat) : Nat := if n < 40 then n else n / 2 * 2

/-- The channels that form one output: a bridge's two legs, or the channel alone. -/
def outputs (n : Nat) : List Nat := if n < 40 then [n] else [lead n, lead n + 1]

/-- The feed of a channel: 0 VBAT_A, 1 VBAT_B (R401). -/
def feedOf (n : Nat) : Nat :=
  if n ≤ 1 ∨ (4 ≤ n ∧ n ≤ 9) ∨ (16 ≤ n ∧ n ≤ 27) ∨ (40 ≤ n ∧ n ≤ 43) then 0 else 1

/-- A battery feed. -/
def State.feed (s : State) (f : Nat) : Feed := if f = 0 then s.supply.feedA else s.supply.feedB

/-- Change a battery feed. -/
def State.mapFeed (s : State) (f : Nat) (g : Feed → Feed) : State :=
  { s with supply := if f = 0 then { s.supply with feedA := g s.supply.feedA }
                     else { s.supply with feedB := g s.supply.feedB } }

/-- The step of the over-current threshold of a class, its lowest and highest value, in tenths of a milliampere (R366). -/
def ocRange : LoadClass → Nat × Nat × Nat
  | .heavy => (5000, 200000, 1200000)
  | .medium => (2500, 60000, 480000)
  | .light => (625, 10000, 120000)
  | .leg => (2500, 80000, 500000)

/-- The shortest PWM period of a class in ns (R366, R376). -/
def shortestPeriod : LoadClass → Nat
  | .heavy => 1000000
  | .medium => 200000
  | .light => 40000
  | .leg => 40000

/-- The rating of a class in mA (R366). -/
def ratedMa : LoadClass → Nat
  | .heavy => 25000
  | .medium => 8000
  | .light => 2500
  | .leg => 10000

/-- The shortest on-time and off-time of a class, in half nanoseconds (R366). -/
def shortestOn : LoadClass → Nat
  | .heavy => 100000
  | .medium => 40000
  | .light => 4000
  | .leg => 2000

/-- The effective over-current threshold in tenths of a milliampere (R366, R567). -/
def State.ocEffective (s : State) (n : Nat) : Nat :=
  let (step, low, _) := ocRange (loadClass n)
  max low ((s.loadOf n).ocThreshold * (s.reefOf n).ocPct / 100 / step * step)

/-- RETRIES_LEFT (R387, R567). -/
def State.retriesLeft (s : State) (n : Nat) : Nat :=
  let c := s.loadOf (lead n)
  let recent := c.restarts.filter fun t => decide (s.now < t + c.retryWindow * 1000000)
  min c.retryMax (s.reefOf (lead n)).retryCap - recent.length

/-- A supply condition keeps the output off (R404, R407, R410, R413, R415, R416, R419). -/
def State.supplyCut (s : State) (n : Nat) : Bool :=
  let c := s.loadOf (lead n)
  c.shed != .none || (s.feed (feedOf n)).lost || s.supply.shutdown || s.supply.groundLost || s.supply.mismatch ||
  s.furled (unitId 0x1A 2) || decide (2 ≤ s.supply.regFurls) ||
  (s.furled (unitId 0x1A (feedOf n)) && decide (c.policy.kind ≠ 3))

/-- The output's duty is capped (R407, R419). -/
def State.dutyCapped (s : State) (n : Nat) : Bool :=
  let c := s.loadOf (lead n)
  ((s.feed (feedOf n)).inDip && decide (c.dipPolicy.kind = 3)) ||
  (s.furled (unitId 0x1A (feedOf n)) && decide (c.policy.kind = 3))

/-- A protection keeps the output off: a trip or latch on either leg of a bridge (R369, R383). -/
def State.protectedOff (s : State) (n : Nat) : Bool :=
  (outputs n).any fun m => (s.loadOf m).tripped || (s.loadOf m).latched

/-- What the channel is asked to do. -/
def LoadChannel.want (c : LoadChannel) : Drive := c.forced.getD { on := c.on, bridge := c.bridge, duty := c.duty }

/-- The running PWM gang that a channel belongs to (R377, R208). -/
def State.pwmGangOf (s : State) (n : Nat) : Option Gang :=
  (s.time.pwmGangs.find? fun g => g.2.running && g.2.block.members.any fun m => m.member == n).map (·.2)

/-- The owner's sight of new conditions: sticky flags, and the vectors of INT_PROTECT and INT_DIAG (R372, cmd 0x0701). -/
def State.setFlags (s : State) (n mask : Nat) : State :=
  let c := s.loadOf n
  let fresh := BitVec.ofNat 32 mask &&& ~~~c.flags
  let s1 := s.mapLoad n fun c => { c with flags := c.flags ||| BitVec.ofNat 32 mask }
  let s2 := if c.intProtect ∧ bitsOf fresh.toNat 23 20 ≠ 0 then s1.vector (s.owner kindLoad n) c.vector else s1
  if c.intDiag ∧ bitsOf fresh.toNat 19 17 ≠ 0 then s2.vector (s.owner kindLoad n) c.vector else s2

/-- The duty that a period begun now uses (R371, R407). -/
def State.dutyNow (s : State) (n : Nat) : Nat :=
  let c := s.loadOf (lead n)
  let cap := if (s.feed (feedOf n)).inDip then c.dipPolicy.cap else c.policy.cap
  if s.dutyCapped n then min c.want.duty cap else c.want.duty

/-- Begin a PWM period with the duty and timing in force. -/
def State.beginPeriod (s : State) (n : Nat) : State :=
  let duty := s.dutyNow n
  let steps := s.pwmSteps n
  s.mapLoad n fun c => { c with appDuty := duty, appPeriod := steps * 25 / 2, appPhase := c.phaseUnits, periodAt := s.now }

/-- Make one output follow what it is asked to do and what keeps it off (R369, R374). A change of direction coasts for
REVERSAL_MS; a channel switched on begins a period at once unless a gang gives it its instants. -/
def State.driveLead (s : State) (e : Nat) : State :=
  let c := s.loadOf e
  let off := s.supplyCut e || s.protectedOff e || s.load.allOff || s.supply.unpowered
  let mode := if off then 0 else c.want.bridge
  let on := if off then false else if e < 40 then c.want.on else decide (mode ≠ 0)
  let reversing := decide (c.appBridge ≠ 0) && decide (c.appBridge ≤ 2) && decide (mode ≠ 0) && decide (mode ≤ 2) &&
    decide (c.appBridge ≠ mode)
  if !on then s.mapLoad e fun c => { c with appOn := false, appBridge := 0, appDuty := 0 }
  else if reversing then
    s.mapLoad e fun c =>
      { c with appOn := false, appBridge := 0, appDuty := 0, reversalUntil := s.now + c.reversalMs * 1000000 }
  else if s.now < c.reversalUntil then s.mapLoad e fun c => { c with appOn := false, appBridge := 0, appDuty := 0 }
  else if c.appOn then s.mapLoad e fun c => { c with appBridge := mode }
  else if (s.pwmGangOf e).isSome then s
  else (s.beginPeriod e).mapLoad e fun c => { c with appOn := true, appBridge := mode }

/-- Mirror a bridge's output onto its odd leg, and SUPPLY_OFF with its sticky flag onto every leg (R372, R407). -/
def State.mirror (s : State) (n : Nat) : State :=
  let e := lead n
  let cut := s.supplyCut e
  let cap := s.dutyCapped e
  s.each (outputs n) fun s1 m =>
    let old := s1.loadOf m
    let x := s1.loadOf e
    let s2 := s1.mapLoad m fun c =>
      { c with supplyOff := cut, capped := cap, appOn := x.appOn, appBridge := x.appBridge, appDuty := x.appDuty }
    if (cut && !old.supplyOff) || (cap && !old.capped) then s2.setFlags m (2 ^ 16) else s2

/-- Recompute a channel's output after a change of what it is asked to do or of what keeps it off. -/
def State.redrive (s : State) (n : Nat) : State := (s.driveLead (lead n)).mirror n

/-- Recompute every output. -/
def State.redriveAll (s : State) : State := s.each (span 0 40 ++ [40, 42, 44, 46]) State.redrive

/-- A PWM period starts on a channel: the duty, period and phase in force apply, a channel that waits for its instant
comes on, and a finished reversal gives its direction (R369, R374, R376). -/
def State.startPeriod (s : State) (n : Nat) : State :=
  let e := lead n
  let s1 := s.beginPeriod e
  let c := s1.loadOf e
  let off := s1.supplyCut e || s1.protectedOff e || s1.load.allOff || s1.supply.unpowered
  let mode := if off then 0 else c.want.bridge
  let on := !off && (if e < 40 then c.want.on else decide (mode ≠ 0)) && decide (c.reversalUntil ≤ s.now)
  (if on then s1.mapLoad e fun c => { c with appOn := true, appBridge := mode }
   else s1.mapLoad e fun c => { c with appOn := false, appBridge := 0, appDuty := 0 }).mirror e

/-- Whether an output is driven on, or PWM runs with on-time (R372). -/
def LoadChannel.out (c : LoadChannel) : Bool := c.appOn && decide (c.appDuty ≠ 0 ∨ 3 ≤ c.appBridge)

/-- LOAD_STATE (R372). -/
def State.loadState (s : State) (n : Nat) : Nat :=
  let c := s.loadOf n
  flag c.out * 2 ^ 31 + flag c.latched * 2 ^ 30 + flag c.tripped * 2 ^ 29 + flag c.held * 2 ^ 28 + flag c.safe * 2 ^ 27 +
  flag c.supplyOff * 2 ^ 26 + flag c.fine * 2 ^ 25 + flag c.oc * 2 ^ 23 + flag c.ot * 2 ^ 22 + flag c.dt * 2 ^ 21 +
  flag c.wire * 2 ^ 20 + flag c.openOn * 2 ^ 19 + flag c.openOff * 2 ^ 18 + flag c.stb * 2 ^ 17 +
  s.retriesLeft n % 16 * 2 ^ 12 + c.appDuty % 4096

/-- LOAD_WIRE (R373): the percentage saturates, θ in 0.01 K. -/
def LoadChannel.wireReg (c : LoadChannel) : Nat :=
  min 255 (c.theta * 100 / max 1 c.params.trip) * 2 ^ 24 + c.theta * 100 / kelvin % 2 ^ 16

/-- The LOAD_SET register as read (R371). -/
def LoadChannel.setReg (c : LoadChannel) : Nat := flag c.on * 2 ^ 31 + c.bridge % 8 * 2 ^ 27 + c.duty % 4096

/-- Whether a LOAD_SET value is one the channel takes (R7, R371): no reserved bit, ON only on high-side channels, BRIDGE
only on legs and at most 4. -/
def loadValueOk (n v : Nat) : Bool :=
  decide (bitsOf v 26 12 = 0) &&
  (if n < 40 then decide (bitsOf v 29 27 = 0) else !bitOf v 31 && decide (bitsOf v 29 27 ≤ 4))

/-- Clear the latch, the pending causes and the retry history (R388). -/
def State.clearLatch (s : State) (n : Nat) : State :=
  s.each (outputs n) fun s1 m => s1.mapLoad m fun c => { c with latched := false, restarts := [] }

/-- Whether a running check of a channel pulses its output (R390). -/
def LoadChannel.pulsing (c : LoadChannel) : Bool :=
  match c.diag with
  | some d => !d.deferred && ((d.kind == 1 && !c.appOn) || (d.kind == 2 && c.appOn && c.appDuty == 0xFFF))
  | none => false

/-- The unit of a load event. -/
def loadEventUnit (n : Nat) : Nat := loadUnit n

/-- Raise LOAD_DIAG_DONE to the owner (R391, R400). -/
def State.diagDone (s : State) (n kind : Nat) (st : Status) (bits ua ron vout : Nat) : State :=
  (s.raise { unit := loadEventUnit n, code := 0x0702, partition := s.owner kindLoad n,
             detail := pack [(0, 1, n), (1, 1, kind), (2, 1, st.code), (3, 1, bits), (4, 4, ua), (8, 4, ron), (12, 4, vout)] }
    [s.owner kindLoad n]).opEnd 0x0707 st

/-- End a channel's check with a status and no result. -/
def State.endDiag (s : State) (n : Nat) (st : Status) : State :=
  match (s.loadOf n).diag with
  | some d => (s.mapLoad n fun c => { c with diag := none }).diagDone n d.kind st 0 0 0 0
  | none => s

/-- One LOAD_SET item on a channel (R371, R374, R388, R392, R394, R407): record the value, reclaim the output, end a shed
that waits for an item, clear the latch if asked, cancel a restart when switched off, and drive the output. -/
def State.loadItem (s : State) (n v : Nat) : State :=
  let s0 := if (s.loadOf n).pulsing then s.endDiag n .diagAborted else s
  let s1 := if bitOf v 30 then s0.clearLatch n else s0
  let offNow := if n < 40 then !bitOf v 31 else decide (bitsOf v 29 27 = 0)
  let dip := (s1.feed (feedOf n)).inDip || s1.supply.groundLost || s1.supply.shutdown || (s1.feed (feedOf n)).lost
  let s2 := s1.each (outputs n) fun s3 m => s3.mapLoad m fun c =>
    { c with safe := false, forced := none, held := false, reclaimed := true,
             tripped := c.tripped && (c.latched || !offNow),
             shed := if c.shed = .untilItem ∧ ¬ dip then .none else c.shed }
  let s3 := s2.mapLoad n fun c => { c with on := bitOf v 31, bridge := bitsOf v 29 27, duty := bitsOf v 11 0 }
  s3.redrive n

/-- Set a trip's cause on a channel. -/
def LoadChannel.tripCause (c : LoadChannel) (cause : Nat) : LoadChannel :=
  match cause with
  | 0 => { c with oc := true }
  | 1 => { c with ot := true }
  | 2 => { c with dt := true }
  | _ => { c with wire := true }

/-- Raise LOAD_PROTECTION to the owner and P0, at most once per channel per 10 ms (R400). -/
def State.reportTrip (s : State) (n cause : Nat) : State :=
  let c := s.loadOf n
  if c.lpAt ≠ 0 ∧ s.now < c.lpAt - 1 + 10000000 then s.mapLoad n fun c => { c with lpCount := c.lpCount + 1 }
  else
    (s.mapLoad n fun c => { c with lpAt := s.now + 1, lpCount := 0 }).raise
      { unit := loadEventUnit n, code := 0x0701, severity := 2, partition := s.owner kindLoad n,
        detail := pack [(0, 1, n), (1, 1, 2 ^ cause), (2, 1, flag c.latched), (3, 1, s.retriesLeft n),
          (4, 4, ofSigned 32 c.currentUa), (8, 2, ofSigned 16 c.tj), (10, 2, c.lpCount + 1)] }
      [s.owner kindLoad n, 0]

/-- A protection trip with its cause: 0 over-current, 1 thermal, 2 ΔT, 3 wire (R369, R383, R387). -/
def State.trip (s : State) (n cause : Nat) : State :=
  let e := lead n
  let latch := decide (cause = 3) || !(s.loadOf e).restartAuto || decide (s.retriesLeft e = 0)
  let s1 := s.each (outputs n) fun s2 m => s2.mapLoad m fun c =>
    { c with tripped := true, latched := c.latched || latch, tripAt := s.now }
  let s2 := s1.mapLoad n fun c => { (c.tripCause cause) with trips := (c.trips + 1) % 2 ^ 16 }
  ((s2.redrive n).setFlags n (2 ^ (23 - cause))).reportTrip n cause

/-- Whether a tripped channel may restart now (R388). -/
def State.mayRestart (s : State) (n : Nat) : Bool :=
  let e := lead n
  let c := s.loadOf e
  (outputs n).any (fun m => (s.loadOf m).tripped) && (outputs n).all (fun m => !(s.loadOf m).latched) &&
  (if e < 40 then c.want.on else decide (c.want.bridge ≠ 0)) &&
  ((outputs n).all fun m =>
    let x := s.loadOf m
    decide (x.tj < 1600) && decide (x.deltaT < 450) && decide (x.theta ≤ x.params.restart) &&
    decide (x.tripAt + c.restartDelay * 1000000 ≤ s.now)) &&
  decide (0 < s.retriesLeft e)

/-- A restart uses one retry (R388). -/
def State.restart (s : State) (n : Nat) : State :=
  let e := lead n
  let s1 := s.each (outputs n) fun s2 m => s2.mapLoad m fun c =>
    { c with tripped := false, oc := false, ot := false, dt := false, wire := false }
  (s1.mapLoad e fun c => { c with restarts := s.now :: c.restarts }).redrive n

/-- The safe-state entry of a channel: H0 to H39, then the bridges (R393). -/
def State.safeEntry (s : State) (n : Nat) : SafeEntry :=
  if s.load.copyBad = 2 then {} else Table.get {} s.load.safeTable (if n < 40 then n else 40 + (n - 40) / 2)

/-- What an entry asks of a channel (R393, R394). HOLD keeps the present output. -/
def State.entryDrive (s : State) (n : Nat) : Drive :=
  let e := lead n
  let x := s.safeEntry e
  let c := s.loadOf e
  let now : Drive := { on := c.appOn, bridge := c.appBridge, duty := c.want.duty }
  let drive : Drive :=
    if e < 40 then
      match x.mode with
      | 1 => { on := true, duty := 0xFFF }
      | 2 => now
      | 3 => { on := true, duty := x.duty }
      | _ => {}
    else
      match x.mode with
      | 1 => { bridge := 3 }
      | 2 => { bridge := 4 }
      | 3 => now
      | _ => {}
  if (outputs e).any fun m => s.furled (unitId 0x16 m) then
    if drive.duty = 0xFFF ∨ 3 ≤ drive.bridge then drive else {}
  else drive

/-- Apply a channel's safe-state entry (R393, R394). -/
def State.applyEntry (s : State) (n : Nat) : State :=
  let d := s.entryDrive n
  (s.each (outputs n) fun s1 m => s1.mapLoad m fun c => { c with forced := some d, safe := true, held := false }).redrive n

/-- The channels that the safe-state table's 44 entries name. -/
def entryChannels : List Nat := span 0 40 ++ [40, 42, 44, 46]

/-- Apply every safe-state entry. -/
def State.applyAllEntries (s : State) : State := s.each entryChannels State.applyEntry

/-- Turn every output off (R392, R404, R467). -/
def State.turnAllOff (s : State) : State := ({ s with load := { s.load with allOff := true } } : State).redriveAll

/-- Open the hold window unless one is open (R392). -/
def State.openHold (s : State) : State :=
  if s.load.holdOpen then s
  else
    let s1 : State := { s with load := { s.load with holdOpen := true, holdAt := s.now } }
    s1.each (span 0 48) fun s2 m => s2.mapLoad m fun c => { c with held := true, reclaimed := false }

end Sys2Proof.Machine
end

