-- ==== Sys2Proof/Machine/Admission.lean ====
section
/-! DEFINITION. The composition of bounds and the admission checks (R162-R173), and the choice of flows to revoke (R183).
Everything here only reads the state. -/

namespace Sys2Proof.Machine

/-- A flow whose reservation counts: its ID and record. -/
abbrev Reserved := Nat × Flow

/-- The flows that hold a reservation: ADMITTED and HELD (R133, R174). -/
def State.reserved (s : State) : List Reserved :=
  s.flow.flows.filter fun f => f.2.state == .admitted || f.2.state == .held

/-- Whether two references of flows name one resource: a strand is the one its flow is bound to (R160), SENSE_SAMPLE is one
pool, a current ADC serves several channels, both LOAD_COMMAND qualifiers share a channel (R155). -/
def State.sameResource (s : State) (f : Flow) (a : Res) (g : Flow) (b : Res) : Bool :=
  a.type == b.type &&
  (if a.type = rStrand then f.strand == g.strand
   else if a.type = rSense then true
   else if a.type = rCurrent then s.adcOf a.inst == s.adcOf b.inst
   else if a.type = rLoad then a.inst == b.inst
   else a.inst == b.inst && a.qual == b.qual)

/-- The reference of `g`'s path on the resource of reference `a` of flow `f`, with its index. -/
def State.onResource (s : State) (f : Flow) (a : Res) (g : Flow) : Option (Nat × Res) :=
  match g.decl.path.findIdx? fun b => s.sameResource f a g b with
  | some k => some (k, nth a g.decl.path k)
  | none => none

/-- The arbitration key of a flow's CAN object (R165). -/
def State.keyOf (s : State) (f : Flow) : Nat :=
  match f.decl.path.find? fun q => q.type == rObject with
  | some q => (s.objOf q.inst).key
  | none => 0

/-- The reference of `g`'s path that interferes with reference `a` of `f` (R165, R169): on one resource, ranking at or above
it; on an egress port, any flow of a higher class; on a CAN bus, a lower key. -/
def State.interferes (s : State) (f : Flow) (a : Res) (g : Flow) : Option (Nat × Res) :=
  if a.type = rEgress then
    match g.decl.path.findIdx? fun b => b.type == rEgress && b.inst == a.inst with
    | some k =>
      let b := nth a g.decl.path k
      if a.qual < b.qual ∨ (a.qual = b.qual ∧ f.decl.priority ≤ g.decl.priority) then some (k, b) else none
    | none => none
  else
    match s.onResource f a g with
    | some (k, b) =>
      if a.type = rBus then
        if s.keyOf g < s.keyOf f then some (k, b) else none
      else if f.decl.priority ≤ g.decl.priority then some (k, b) else none
    | none => none

/-- The rate of a flow's arrival curve on a resource (R169). -/
def State.rate (s : State) (d : FlowDecl) (r : Res) : Rat := s.cost d r / (max 1 d.minInterval : Nat)

/-- Where a delay has no bound. -/
def unbounded : Nat := 2 ^ 64

/-- A delay in whole ns, rounded up, from a numerator and the rate left; with no rate left it has no bound. -/
def delayOf (num left : Rat) : Nat :=
  if left ≤ 0 then unbounded else min unbounded (num / left).ceil.toNat

/-- The burst of a flow's arrival curve on a resource, given its upstream delay (R169). -/
def State.burst (s : State) (d : FlowDecl) (r : Res) (upstream : Nat) : Rat :=
  (1 + d.burst : Nat) * s.cost d r + ((s.rate d r * (upstream : Nat)).ceil : Rat)

/-- The per-stage delays held for each flow. -/
abbrev Delays := List (Nat × List Nat)

/-- The sum of the first `k` delays of a flow. -/
def upstreamOf (delays : Delays) (id k : Nat) : Nat :=
  match delays.lookup id with
  | some l => (l.take k).foldl (· + ·) 0
  | none => 0

/-- The largest MAX_SIZE of the TZ7's flows on a T1S segment (R166). -/
def largestOn (flows : List Reserved) (f : Flow) (port : Nat) : Nat :=
  let on (g : Flow) : Nat := if g.decl.path.any fun r => r.type == rT1s && r.inst == port then g.decl.maxSize else 0
  (flows.map fun g => on g.2).foldl max (on f)

/-- The STREAM_INGRESS delay of a filter (R158). -/
def State.ingressDelay (s : State) (d : FlowDecl) (filter : Nat) : Nat :=
  let ports := (span 0 15).filter fun p => bitOf (s.filterOf filter).ports p
  let latency := (ports.map fun p => (portFigures p).ingress).foldl max 0
  let store (p : Nat) : Nat :=
    ((((8 * (d.maxSize + (if p < 2 then 32 else 0)) : Nat) : Rat) / portRate p).ceil).toNat
  latency + (if d.cutThrough then 0 else (ports.map store).foldl max 0)

/-- The delay of a flow on a CAN bus (R165). -/
def State.busDelay (s : State) (flows : List Reserved) (delays : Delays) (id : Nat) (f : Flow) (r : Res)
    (upstream : Nat) : Nat :=
  let ch := s.canOf r.inst
  let c := s.contract r.inst
  let own := s.keyOf f
  let others := flows.filter fun g => g.1 != id && g.2.decl.path.any fun q => q.type == rBus && q.inst == r.inst
  let higher := others.filter fun g => decide (s.keyOf g.2 < own)
  let lower := others.filter fun g => decide (own < s.keyOf g.2)
  let extOf (h : Flow) : Bool := match h.decl.path.find? fun q => q.type == rObject with
    | some q => bitOf (s.objOf q.inst).id 29
    | none => false
  let tauOf (h : Flow) : Rat := mkRat (ch.tau (extOf h) h.decl.maxSize) 2
  let beta := (lower.map fun g => tauOf g.2).foldl max (max (c.maxFrame : Rat) (mkRat ch.longest 2))
  let othersHigher := decide (c.lowestKey < own)
  let rateOf (g : Reserved) : Rat := s.rate g.2.decl r
  let burstOf (g : Reserved) : Rat :=
    let k := g.2.decl.path.findIdx fun q => q.type == rBus
    s.burst g.2.decl r (upstreamOf delays g.1 k)
  let left := 1 - (higher.map rateOf).foldl (· + ·) 0 - (if othersHigher then mkRat c.utilPpm 1000000 else 0)
  let sum := beta + (higher.map burstOf).foldl (· + ·) 0 + (if othersHigher then (c.burstNs : Rat) else 0)
  if left ≤ 0 then unbounded else min unbounded ((sum / left + s.burst f.decl r upstream / left).ceil).toNat

/-- The delay of a flow on one resource of its path (R169). -/
def State.stageDelay (s : State) (flows : List Reserved) (delays : Delays) (id : Nat) (f : Flow) (r : Res)
    (upstream : Nat) : Nat :=
  if r.type = rStream then s.ingressDelay f.decl r.inst
  else if r.type = rBus then s.busDelay flows delays id f r upstream
  else
    let hits := flows.filterMap fun g =>
      if g.1 = id then none
      else match s.interferes f r g.2 with
        | some (k, b) => some (s.rate g.2.decl b, s.burst g.2.decl b (upstreamOf delays g.1 k))
        | none => none
    let (rho, theta) := s.curve r (largestOn flows f r.inst)
    delayOf (rho * theta + (hits.map (·.2)).foldl (· + ·) 0 + s.burst f.decl r upstream)
      (rho - (hits.map (·.1)).foldl (· + ·) 0)

/-- The delays of a flow along its path, its own upstream delay growing as it goes (R169). -/
def State.pathDelays (s : State) (flows : List Reserved) (delays : Delays) (id : Nat) (f : Flow) :
    List Res → Nat → List Nat
  | [], _ => []
  | r :: rest, upstream =>
    let d := s.stageDelay flows delays id f r upstream
    d :: s.pathDelays flows delays id f rest (upstream + d)

/-- One recomputation of every flow's delays from those held (R169). -/
def State.delayRound (s : State) (flows : List Reserved) (delays : Delays) : Delays :=
  flows.map fun g => (g.1, s.pathDelays flows delays g.1 g.2 g.2.decl.path 0)

/-- Recompute until nothing changes. Upstream bounds reach downstream one flow a round, so as many rounds as the flows have
stages settle every set without circular growth; one still growing then has no bound. DEDUCED (log entry 14). -/
def State.settle (s : State) (flows : List Reserved) : Nat → Delays → Delays
  | 0, delays => delays.map fun d => (d.1, d.2.map fun _ => unbounded)
  | fuel + 1, delays =>
    let next := s.delayRound flows delays
    if next = delays then delays else s.settle flows fuel next

/-- The delays of a set of flows sharing the resources. -/
def State.delays (s : State) (flows : List Reserved) : Delays :=
  s.settle flows (6 * flows.length + 2) (flows.map fun g => (g.1, g.2.decl.path.map fun _ => 0))

/-- The bound of a flow in a set of delays: the sum of its stages. -/
def boundOf (delays : Delays) (id : Nat) : Nat :=
  match delays.lookup id with
  | some l => l.foldl (· + ·) 0
  | none => 0

/-- The flows that share a pool of rate with a reference: all classes of an egress port together (R155). -/
def State.pooled (s : State) (f : Flow) (a : Res) (g : Flow) : Option Res :=
  if a.type = rEgress then g.decl.path.find? fun b => b.type == rEgress && b.inst == a.inst
  else match s.onResource f a g with
    | some (_, b) => some b
    | none => none

/-- The reserved rate on a reference's pool. -/
def State.reservedRate (s : State) (flows : List Reserved) (f : Flow) (a : Res) : Rat :=
  (flows.filterMap fun g => match s.pooled f a g.2 with
    | some b => some (s.rate g.2.decl b)
    | none => none).foldl (· + ·) 0

/-- Whether the reserved rate of a set of flows stays within a reference's share (R155, R170 step 9). -/
def State.shareOk (s : State) (flows : List Reserved) (f : Flow) (a : Res) : Bool :=
  if a.type = rStream then true
  else
    let total := s.reservedRate flows f a
    if a.type = rBus then
      decide (total + mkRat (s.contract a.inst).utilPpm 1000000 ≤ share a)
    else if a.type = rEgress then decide (total ≤ share a * portRate a.inst)
    else decide (total ≤ share a * (s.curve a (largestOn flows f a.inst)).1)

/-- Whether a flow keeps some rate on a reference after those that interfere (R170 step 9). -/
def State.rateLeft (s : State) (flows : List Reserved) (id : Nat) (f : Flow) (a : Res) : Bool :=
  if a.type = rStream then true
  else
    let hits := flows.filterMap fun g =>
      if g.1 = id then none
      else match s.interferes f a g.2 with
        | some (_, b) => some (s.rate g.2.decl b)
        | none => none
    let sum := hits.foldl (· + ·) 0
    if a.type = rBus then
      let c := s.contract a.inst
      let own := s.keyOf f
      decide (sum + (if c.lowestKey < own then mkRat c.utilPpm 1000000 else 0) < 1)
    else decide (sum < (s.curve a (largestOn flows f a.inst)).1)

/-- The cells a flow reserves for a promise (R229). -/
def cellsFor (d : FlowDecl) (promise : Nat) : Nat :=
  if d.type = 0x01 then (1 + d.burst + ceilDiv promise d.minInterval) * ceilDiv d.maxSize 256 else 0

/-- The cells reserved on an account by a set of flows (R229). -/
def reservedCells (flows : List Reserved) (account : Nat) : Nat :=
  (flows.map fun g => if g.2.owner = account then cellsFor g.2.decl g.2.promise else 0).foldl (· + ·) 0

/-- The path shapes of R162, as the types in order. -/
def shapes : Nat → List (List Nat)
  | 0x01 =>
    [[1, 2, 3], [4, 5, 2, 3], [1, 2, 3, 8], [4, 5, 2, 3, 8], [1, 2, 3, 4, 5], [4, 5, 2, 3, 4, 5]]
  | 0x02 =>
    [[6], [6, 7], [14, 6], [14, 6, 7], [4, 5, 6], [4, 5, 6, 7], [4, 5, 14, 6], [4, 5, 14, 6, 7]]
  | 0x03 => [[6], [6, 14], [6, 4, 5], [6, 14, 4, 5]]
  | 0x04 => [[9]]
  | 0x05 => [[10]]
  | 0x06 => [[11, 4, 5]]
  | 0x07 => [[12, 4, 5]]
  | 0x08 => [[4, 5]]
  | 0x09 => [[13, 5]]
  | 0x0A => [[14], [14, 5]]
  | _ => []

/-- Whether every fabric slice of a path is that of the resource before it (R159). -/
def slicesOk : Option Nat → List Res → Bool
  | _, [] => true
  | prev, r :: rest =>
    (if r.type = rSlice then decide (r.inst = if prev = some rDma then 0 else 3) else true) &&
      slicesOk (some r.type) rest

/-- The first reference of a type. -/
def pathOf (path : List Res) (type : Nat) : Option Res := path.find? fun r => r.type == type

/-- Whether a reference's instance and qualifier exist (R154, R155). -/
def refOk (r : Res) : Bool :=
  match r.type with
  | 0x01 => decide (r.inst < 1024) && decide (r.qual = 0)
  | 0x02 => decide (r.inst = 0) && decide (r.qual = 0)
  | 0x03 => decide (r.inst < 15) && decide (r.qual < 8)
  | 0x04 => decide (r.inst < 1024) && decide (r.qual = 0)
  | 0x05 => decide (r.inst < 4) && decide (r.qual = 0)
  | 0x06 => decide (r.inst < 1536) && decide (r.qual = 0)
  | 0x07 => decide (r.inst < 12) && decide (r.qual = 0)
  | 0x08 => within r.inst 10 11 && decide (r.qual = 0)
  | 0x09 => decide (r.inst < 8) && decide (r.qual < 64)
  | 0x0A => decide (r.inst < 48) && decide (r.qual < 2)
  | 0x0B => decide (r.inst < 32) && decide (r.qual = 0)
  | 0x0C => decide (r.inst < 48) && decide (r.qual = 0)
  | 0x0D => decide (r.inst = 0xFFFF) && decide (r.qual = 0)
  | 0x0E => decide (r.inst < 16) && decide (r.qual = 0)
  | _ => false
where within (x lo hi : Nat) : Bool := decide (lo ≤ x) && decide (x ≤ hi)

/-- Step 1 of R170: the block's ranges (R151). -/
def declOk (d : FlowDecl) : Bool :=
  decide (1 ≤ d.type ∧ d.type ≤ 0x0A) && decide (1 ≤ d.maxSize ∧ d.maxSize ≤ 16777216) &&
  (!(decide (0x05 ≤ d.type ∧ d.type ≤ 0x07)) || decide (d.maxSize = 1)) &&
  decide (10 ≤ d.minInterval) && decide (d.burst ≤ 1023) && decide (1 ≤ d.path.length ∧ d.path.length ≤ 6) &&
  decide (1 ≤ d.bound) && d.path.all refOk &&
  (decide (d.retryBudget = 0) ||
    (decide (d.type = 0x02) && (pathOf d.path rBus).isSome && decide (d.retryBudget ≤ 7)))

/-- The ports of a filter's ingress mask. -/
def State.filterPorts (s : State) (f : Nat) : List Nat := (span 0 15).filter fun p => bitOf (s.filterOf f).ports p

/-- Step 3 of R170: shape, slice, stream-filter, odd-leg, CUT_THROUGH, T1S, LIN-slot, sampling-queue and stream-CVU rules
(R158, R159, R162, R166, R245, R325, R430, R531). -/
def State.pathOk (s : State) (d : FlowDecl) : Bool :=
  (shapes d.type).contains (d.path.map (·.type)) && slicesOk none d.path &&
  (match pathOf d.path rStream with
    | some r => decide ((s.filterOf r.inst).mode ≠ 0) && !(s.filterPorts r.inst).isEmpty
    | none => true) &&
  (match pathOf d.path rEgress with
    | some e =>
      (match pathOf d.path rT1s with
        | some t => decide (t.inst = e.inst) && s.has 0 .plca
        | none => true) &&
      (!decide ((d.path.getLast?.map (·.type)) = some rSlice) || decide (12 ≤ e.inst))
    | none => true) &&
  (match pathOf d.path rBus, pathOf d.path rObject with
    | some b, some o => decide (b.inst = o.inst / 128)
    | _, _ => true) &&
  (match pathOf d.path rLoad with
    | some r => !(decide (40 ≤ r.inst) && decide (r.inst % 2 = 1))
    | none => true) &&
  (match pathOf d.path rLin with
    | some r => (s.linOf r.inst).enable && decide (r.qual < (s.linOf r.inst).table.length)
    | none => true) &&
  (match pathOf d.path rSense, pathOf d.path rDma with
    | some i, some q => decide ((s.senseOf i.inst).queue = some q.inst)
    | _, _ => true) &&
  (match pathOf d.path rCvu with
    | some c => !s.cvuOnStream c.inst
    | none => true) &&
  (!d.cutThrough ||
    match pathOf d.path rStream, pathOf d.path rEgress with
    | some i, some e =>
      s.has 0 .cutThrough && s.gated e.inst e.qual && decide ((s.filterOf i.inst).cvu = none) &&
      (s.filterPorts i.inst).all fun p => decide (2 ≤ p) && decide ((portFigures e.inst).mbps ≤ (portFigures p).mbps)
    | _, _ => false)

/-- Step 4 of R170: who owns the objects of a path (R162, R250). -/
def State.pathOwned (s : State) (p : Nat) (d : FlowDecl) : Bool :=
  d.path.all fun r =>
    if r.type = rStream then decide ((s.filterOf r.inst).partition = p)
    else if r.type = rDma then decide (s.owner kindQueue r.inst = p)
    else if r.type = rObject then decide (s.owner kindCan r.inst = p)
    else if r.type = rLoad ∨ r.type = rCurrent then decide (s.owner kindLoad r.inst = p)
    else if r.type = rSense then decide (s.owner kindSense r.inst = p)
    else if r.type = rLin then decide (s.owner kindLin r.inst = p)
    else if r.type = rCvu then decide (s.owner kindCvu r.inst = p)
    else true

/-- Whether a unit serves nothing: it is furled, or stopped by a lasting fault of a clock domain (R212). -/
def State.stopped (s : State) (u : Nat) : Bool :=
  let c := u / 256
  s.furled u ||
  (s.furled 0x2402 && (c == 0x0F || c == 0x10 || c == 0x11 || c == 0x23)) ||
  (s.furled 0x2406 && c == 0x0E) ||
  (s.furled 0x2408 && (c == 0x1E || c == 0x1F)) ||
  (s.furled 0x2409 && (c == 0x23 || c == 0x0F))

/-- The strands in service. -/
def State.strands (s : State) : List Nat := (span 0 24).filter fun t => !s.stopped (unitId 0x1E t)

/-- The units of a channel's output: its own, and a leg's partner (R37). -/
def loadUnits (n : Nat) : List Nat := if n < 40 then [unitId 0x13 n] else [loadUnit (lead n), loadUnit (lead n + 1)]

/-- The units whose furl leaves a resource of a flow without capacity (R183); for a pooled class, none. -/
def State.unitsOf (s : State) (r : Res) : List Nat :=
  let port (p : Nat) : List Nat := unitId 0x0C p :: (if p < 12 then [unitId 0x0F p] else [])
  match r.type with
  | 0x01 => match s.filterPorts r.inst with
    | [p] => port p ++ (if p < 2 ∧ s.has 0 .macsec then [unitId 0x1F (2 * p + 1)] else [])
    | _ => []
  | 0x02 => [unitId 0x0E 0]
  | 0x03 => port r.inst ++ (if r.inst < 2 ∧ s.has 0 .macsec then [unitId 0x1F (2 * r.inst)] else [])
  | 0x05 => [unitId 0x08 0]
  | 0x06 => [unitId 0x10 (r.inst / 128)]
  | 0x07 => [unitId 0x10 r.inst]
  | 0x08 => port r.inst
  | 0x09 => [unitId 0x11 r.inst]
  | 0x0A => loadUnits r.inst ++ [unitId 0x16 r.inst, unitId 0x1A (feedOf r.inst)]
  | 0x0B => [unitId 0x17 r.inst]
  | 0x0C => loadUnits r.inst ++ [unitId 0x15 (s.adcOf r.inst), unitId 0x1A (feedOf r.inst)]
  | 0x0D => [unitId 0x21 0, unitId 0x1D 0]
  | 0x0E => [unitId 0x20 r.inst]
  | _ => []

/-- Step 5 of R170: a furled resource on the path. -/
def State.pathFurled (s : State) (d : FlowDecl) : Bool :=
  d.path.any fun r =>
    (s.unitsOf r).any s.stopped ||
    (decide (r.type = rDma) && decide (s.engines = 0)) ||
    (decide (r.type = rStrand) && s.strands.isEmpty) ||
    (decide (r.type = rSense) && decide (s.senseRate = 0)) ||
    (decide (r.type = rStream) && (s.filterPorts r.inst).all fun p => s.stopped (unitId 0x0C p) || (decide (p < 12) && s.stopped (unitId 0x0F p)))

/-- Step 6 of R170: contracts (R163). -/
def State.contracted (s : State) (d : FlowDecl) : Bool :=
  d.path.all fun r =>
    if r.type = rBus ∨ r.type = rT1s ∨ (r.type = rLin ∧ ¬ (s.linOf r.inst).commander) then
      (s.contract (mediumOf r)).enable
    else true

/-- The interval between the scheduled samples of a sense input. -/
def State.senseInterval (s : State) (i : Nat) : Option Nat :=
  let x := s.senseOf i
  if x.gang then (s.time.senseGangs.find? fun g => g.2.running && g.2.block.members.any fun m => m.member == i).map
    fun g => g.2.block.period
  else if x.queue.isSome then some x.period else none

/-- The interval between the scheduled samples of a load channel's current (R380). -/
def State.measureInterval (s : State) (n : Nat) : Option Nat :=
  match (s.loadOf n).measure with
  | none => none
  | some m => some (if m.sync then m.mult * s.pwmSteps n * 25 / 2 else m.period)

/-- Step 7 of R170: an envelope the path can carry (R167, R215, R250, R300, R325; sampling schedules). Frame and payload
limits are DEDUCED (log entry 15). -/
def State.envelopeOk (s : State) (id : Nat) (d : FlowDecl) : Bool :=
  (!decide (d.type = 0x01) || decide (64 ≤ d.maxSize ∧ d.maxSize ≤ 1522)) &&
  (match pathOf d.path rStream with
    | some r => s.reserved.all fun g => g.1 == id || !(g.2.decl.path.any fun q => q.type == rStream && q.inst == r.inst) ||
        (g.2.decl.maxSize == d.maxSize && g.2.decl.minInterval == d.minInterval && g.2.decl.burst == d.burst)
    | none => true) &&
  (match pathOf d.path rObject with
    | some o =>
      decide (d.maxSize ≤ formatMax (s.canOf (o.inst / 128)).format) &&
      (!(decide (d.type = 0x03) && decide ((pathOf d.path rDma) = none) &&
          decide ((s.objOf o.inst).spill ≠ 0) && decide ((s.objOf o.inst).queue = none)) || decide (d.maxSize ≤ 64))
    | none => true) &&
  (match pathOf d.path rLin with
    | some r =>
      decide (s.linCycle r.inst ≤ d.minInterval) && decide (d.burst = 0) &&
      (match (s.linOf r.inst).table[r.qual]? with
        | some e => decide (d.maxSize ≤ e.length) && decide (e.dir ≠ 0)
        | none => false)
    | none => true) &&
  (match pathOf d.path rSense with
    | some i => (match s.senseInterval i.inst with | some n => decide (d.minInterval ≤ n) | none => true)
    | none => true) &&
  (match pathOf d.path rCurrent with
    | some n => (match s.measureInterval n.inst with | some t => decide (d.minInterval ≤ t) | none => true)
    | none => true)

/-- What the composition of R169 says of a candidate: its bound with no other flow, its bound, the first entry that fails,
the flow whose promise would break, and the strand it is bound to. -/
structure Verdict where
  floor   : Nat
  bound   : Nat
  status  : Option Status
  entry   : Nat
  broken  : Nat
  strand  : Nat
  delays  : Delays

/-- The first entry of a path where a running sum of delays passes a limit. -/
def firstOver (limit : Nat) : Nat → Nat → List Nat → Nat
  | k, _, [] => k - 1
  | k, sum, d :: rest => if limit < sum + d then k else firstOver limit (k + 1) (sum + d) rest

/-- The first entry of a flow's path on a resource that another flow's path crosses. -/
def State.sharedEntry (s : State) (f g : Flow) : Nat :=
  match f.decl.path.findIdx? fun r => (s.pooled f r g).isSome with
  | some k => k
  | none => 0

/-- Steps 8 to 10 of R170 for a flow with a given strand (R229). -/
def State.judge (s : State) (id : Nat) (f : Flow) : Verdict :=
  let others := s.reserved.filter fun g => g.1 != id
  let alone := s.pathDelays [(id, f)] [] id f f.decl.path 0
  let floor := alone.foldl (· + ·) 0
  let all := others ++ [(id, f)]
  let delays := s.delays all
  let own := match delays.lookup id with | some l => l | none => []
  let bound := own.foldl (· + ·) 0
  let base : Verdict :=
    { floor := floor, bound := bound, status := none, entry := 0, broken := 0xFFFF, strand := f.strand, delays := delays }
  if f.decl.bound < floor then
    { base with status := some .promiseUnreachable, entry := firstOver f.decl.bound 0 0 alone }
  else
    match f.decl.path.findIdx? fun r => !s.shareOk all f r || !s.rateLeft all id f r with
    | some k => { base with status := some .admissionRefused, entry := k }
    | none =>
      if f.decl.bound < bound then
        { base with status := some .admissionRefused, entry := firstOver f.decl.bound 0 0 own }
      else
        match others.find? fun g => decide (g.2.promise < boundOf delays g.1) with
        | some g => { base with status := some .admissionRefused, entry := s.sharedEntry f g.2, broken := g.1 }
        | none =>
          let promise := if f.decl.tight then bound else f.decl.bound
          if (s.accountOf f.owner).quota < reservedCells others f.owner + cellsFor f.decl promise then
            let fabric := (f.decl.path.findIdx? fun r => r.type == rFabric).getD 0
            { base with status := some .admissionRefused, entry := fabric }
          else base

/-- Of two verdicts on strands, the one to keep: admitted before refused, then the lower bound (R160). -/
def betterStrand (a b : Verdict) : Verdict :=
  if a.status = none ∧ b.status ≠ none then a
  else if b.status = none ∧ a.status ≠ none then b
  else if b.bound < a.bound then b else a

/-- Steps 8 to 10 of R170: a CIPHER flow is bound to the strand in service, not held, that gives the lowest bound, the
lowest-numbered among equals (R160). -/
def State.verdict (s : State) (id : Nat) (f : Flow) : Verdict :=
  if f.decl.type = 0x09 then
    match s.strands.filter fun t => !bitOf s.cipher.held t with
    | [] =>
      let v := s.judge id f
      { v with status := some .admissionRefused, entry := 0 }
    | t :: rest =>
      rest.foldl (fun v u => betterStrand v (s.judge id { f with strand := u })) (s.judge id { f with strand := t })
  else s.judge id f

/-- Whether every flow of a set keeps its promise, its share and its cells: what a setting that recomputes admitted flows
requires (R172). -/
def State.promisesHold (s : State) : Bool :=
  let flows := s.reserved
  let delays := s.delays flows
  flows.all fun g =>
    decide (boundOf delays g.1 ≤ g.2.promise) &&
    g.2.decl.path.all fun r => s.shareOk flows g.2 r && s.rateLeft flows g.1 g.2 r

/-- The flows of a set that are broken: over a share, without capacity, or with a bound above their promise (R183). -/
def State.brokenIn (s : State) (flows : List Reserved) (delays : Delays) (g : Reserved) : Bool :=
  decide (g.2.promise < boundOf delays g.1) || s.pathFurled g.2.decl || !s.contracted g.2.decl ||
  g.2.decl.path.any fun r => !s.shareOk flows g.2 r || !s.rateLeft flows g.1 g.2 r

/-- Whether two flows share a resource. -/
def State.sharing (s : State) (f g : Flow) : Bool := f.decl.path.any fun r => (s.pooled f r g).isSome

/-- Of two candidates, the one revoked first: the lower priority, then the one admitted last (R183). -/
def revokeFirst (a b : Reserved) : Reserved :=
  if b.2.decl.priority < a.2.decl.priority then b
  else if a.2.decl.priority < b.2.decl.priority then a
  else if a.2.order < b.2.order then b else a

/-- The flows to revoke, in order (R183): each time the candidate with the lowest priority, first among those that have no
capacity left or are `gone`, until nothing is broken. -/
def State.toRevoke (s : State) (gone : List Nat) : Nat → List Reserved → List Reserved
  | 0, _ => []
  | fuel + 1, flows =>
    let delays := s.delays flows
    let broken := flows.filter fun g => gone.contains g.1 || s.brokenIn flows delays g
    match broken with
    | [] => []
    | _ =>
      let dead := broken.filter fun g => gone.contains g.1 || s.pathFurled g.2.decl || !s.contracted g.2.decl
      let candidates := if dead = [] then
          flows.filter fun g => broken.any fun b => b.1 == g.1 || s.sharing b.2 g.2
        else dead
      match candidates with
      | [] => []
      | c :: rest =>
        let worst := rest.foldl revokeFirst c
        worst :: s.toRevoke gone fuel (flows.filter fun g => g.1 != worst.1)

end Sys2Proof.Machine
end

