-- ==== Sys2Proof/Machine/Items.lean ====
section
/-! DEFINITION. Items of flows at their sources: token buckets, enforcement counts (R175-R177, R185), the items on a path
(R186), and revocation (R174, R182-R185). -/

namespace Sys2Proof.Machine

/-- The flows, not FREE, whose source is a resource (R24, R25, R175). -/
def State.sourceFlows (s : State) (pick : Res → Bool) : List Nat :=
  (s.flow.flows.filter fun f => f.2.state != .free &&
    match f.2.decl.path with
    | r :: _ => pick r
    | [] => false).map (·.1)

/-- The flows of a resource type and instance at the source. -/
def State.flowsFrom (s : State) (type inst : Nat) : List Nat := s.sourceFlows fun r => r.type == type && r.inst == inst

/-- The bucket of a flow: that of its stream filter where it has one (R175). -/
def Flow.bucketKey (f : Flow) (id : Nat) : Nat :=
  match f.decl.path with
  | r :: _ => if r.type = rStream then 4096 + r.inst else id
  | [] => id

/-- What a full bucket holds, in bytes times ns (R175). -/
def FlowDecl.bucketTop (d : FlowDecl) : Nat := (1 + d.burst) * d.maxSize * d.minInterval

/-- The level of a flow's bucket now (R175). -/
def State.bucketLevel (s : State) (id : Nat) : Nat :=
  let f := s.flowOf id
  let b := Table.get {} s.flow.buckets (f.bucketKey id)
  min f.decl.bucketTop (b.level + (s.now - b.at_) * f.decl.maxSize)

/-- What an item of a size takes from its flow's bucket: a payload longer than MAX_SIZE counts as several items (R175). -/
def FlowDecl.charge (d : FlowDecl) (size : Nat) : Nat :=
  (if size ≤ d.maxSize then size else ceilDiv size d.maxSize * d.maxSize) * d.minInterval

/-- Whether an item conforms to the envelopes of all its flows (R175). -/
def State.conforms (s : State) (ids : List Nat) (size : Nat) : Bool :=
  ids.all fun id => decide ((s.flowOf id).decl.charge size ≤ s.bucketLevel id)

/-- Fill a flow's bucket: at admission (R175). -/
def State.fillBucket (s : State) (id : Nat) : State :=
  let f := s.flowOf id
  { s with flow := { s.flow with
      buckets := Table.put {} s.flow.buckets (f.bucketKey id) { level := f.decl.bucketTop, at_ := s.now } } }

/-- A conforming item takes its size out of its flows' buckets, each bucket once (R175). -/
def State.takeTokens (s : State) (ids : List Nat) (size : Nat) : State :=
  let firsts := ids.filter fun id =>
    (ids.find? fun other => (s.flowOf other).bucketKey other == (s.flowOf id).bucketKey id) == some id
  s.each firsts fun s1 id =>
    let f := s1.flowOf id
    let b : Bucket := { level := s1.bucketLevel id - f.decl.charge size, at_ := s1.now }
    { s1 with flow := { s1.flow with buckets := Table.put {} s1.flow.buckets (f.bucketKey id) b } }

/-- Raise ENVELOPE_EXCEEDED to the owner, at most once per flow per 100 ms (R177). -/
def State.reportEnvelope (s : State) (id : Nat) : State :=
  let f := s.flowOf id
  if f.eeAt ≠ 0 ∧ s.now < f.eeAt - 1 + 100000000 then s
  else
    (s.mapFlow id fun f => { f with eeAt := s.now + 1, eeDropped := 0, eeDelayed := 0 }).raise
      { unit := 0xFFFF, code := 0x0303, severity := 2, partition := f.owner,
        detail := pack [(0, 2, id), (4, 4, f.eeDropped), (8, 4, f.eeDelayed)] } [f.owner]

/-- An item of flows is delayed by its bucket (R176, R177). -/
def State.countDelayed (s : State) (ids : List Nat) : State :=
  s.each ids fun s1 id =>
    (s1.mapFlow id fun f => { f with delayed := satAdd 32 f.delayed 1, eeDelayed := f.eeDelayed + 1 }).reportEnvelope id

/-- An item of flows is dropped, for excess or as oversize (R176, R177). -/
def State.countDropped (s : State) (ids : List Nat) (oversize : Bool) : State :=
  s.each ids fun s1 id =>
    (s1.mapFlow id fun f =>
      { f with dropExcess := if oversize then f.dropExcess else satAdd 32 f.dropExcess 1,
               dropOver := if oversize then satAdd 32 f.dropOver 1 else f.dropOver,
               eeDropped := f.eeDropped + 1 }).reportEnvelope id

/-- How many items of a flow are between ingress and delivery (R186). -/
def State.itemsOn (s : State) (id : Nat) : Nat :=
  let f := s.flowOf id
  let frames := (s.sw.queue.filter fun q => q.flows.contains id).length
  let operations := (s.cipher.ops.filter fun o => o.flow == some id).length
  let at_ (r : Res) : Nat :=
    if r.type = rDma then (if (s.queueOf r.inst).desc.isSome then 1 else 0)
    else if r.type = rObject then (if (s.objOf r.inst).tx.isSome then 1 else 0)
    else if r.type = rLoad then (if (s.loadOf r.inst).dutyItem = none then 0 else 1)
    else if r.type = rSense then (s.senseOf r.inst).waiting.length
    else 0
  frames + operations + (f.decl.path.map at_).foldl (· + ·) 0

/-- Recompute and store the bounds of every flow that holds a reservation (R169). -/
def State.recompute (s : State) : State :=
  let flows := s.reserved
  let delays := s.delays flows
  s.each flows fun s1 g => s1.mapFlow g.1 fun f => { f with computed := boundOf delays g.1 }

/-- Revoke one flow (R174, R185, R189): its reservation goes, ID, owner and bucket stay. -/
def State.revokeOne (s : State) (id unit cause time : Nat) : State :=
  let f := s.flowOf id
  (s.mapFlow id fun f => { f with state := .revoked, promise := 0 }).raise
    { unit := unit, code := 0x0301, severity := 2, partition := f.owner,
      detail := pack [(0, 2, id), (2, 1, cause), (3, 1, f.decl.priority), (4, 4, f.promise), (8, 8, time)] }
    [f.owner, 0]

/-- Revoke a list of flows in its order, then recompute the rest. -/
def State.revokeList (s : State) (ids : List Nat) (unit cause time : Nat) : State :=
  (s.each ids fun s1 id => s1.revokeOne id unit cause time).recompute

/-- The flows that R183 chooses in the present state, in order; `gone` are revoked in any case. -/
def State.chosen (s : State) (gone : List Nat) : List Nat :=
  (s.toRevoke gone s.reserved.length s.reserved).map (·.1)

/-- Leave a revocation to Masthead (R46, R50). -/
def State.owe (s : State) (unit cause : Nat) (flows : List Nat) : State :=
  { s with flow := { s.flow with owed := s.flow.owed ++ [{ unit := unit, at_ := s.now, cause := cause, flows := flows }] } }

/-- Of the revocations owed, the one that a flow's revocation is laid to: the first whose flows or unit name it, else the
first. -/
def State.blame (s : State) (owed : List OwedRevocation) (id : Nat) : OwedRevocation :=
  let f := s.flowOf id
  match owed.find? fun o => o.flows.contains id || f.decl.path.any fun r => (s.unitsOf r).contains o.unit with
  | some o => o
  | none => nth { unit := 0, at_ := 0, cause := 1, flows := [] } owed 0

/-- Masthead carries out the revocations owed (R46, R183, R184). -/
def State.settleOwed (s : State) : State :=
  let owed := s.flow.owed
  let ids := s.chosen (owed.map (·.flows)).flatten
  let s1 := s.each ids fun s2 id =>
    let o := s.blame owed id
    s2.revokeOne id o.unit o.cause o.at_
  ({ s1 with flow := { s1.flow with owed := [] } } : State).recompute

/-- The flows, ADMITTED or HELD, whose path has a resource of a medium (R168). -/
def State.mediumFlows (s : State) (m : Nat) : List Reserved :=
  s.reserved.filter fun g => g.2.decl.path.any fun r =>
    (r.type == rBus || r.type == rT1s || r.type == rLin) && mediumOf r == m

/-- The unit of a medium (R189). -/
def mediumUnit (m : Nat) : Nat :=
  if m < 12 then unitId 0x10 m else if m < 14 then unitId 0x0C (m - 2) else unitId 0x11 (m - 14)

/-- Raise MEDIUM_CONTRACT_EXCEEDED to P0 and the owners of flows on the medium (R168, R189). -/
def State.contractExceeded (s : State) (m measure value finish : Nat) : State :=
  s.raise { unit := mediumUnit m, code := 0x0304, severity := 2,
            detail := pack [(0, 1, m), (1, 1, measure), (4, 4, value), (8, 8, finish)] }
    (0 :: (s.mediumFlows m).map fun g => g.2.owner)

/-- A command that was held back at the front of its ring's intake leaves it (R86). -/
def State.unblock (s : State) (r : Request) : State :=
  let w := s.io.window r.issuer
  match Table.get [] w.intake r.ring.val with
  | x :: rest =>
    if Table.get false w.blocked r.ring.val ∧ x.req = r then
      { s with io := s.io.mapWindow r.issuer fun w =>
          { w with intake := Table.put [] w.intake r.ring.val rest, blocked := Table.put false w.blocked r.ring.val false } }
    else s
  | [] => s

/-- Forget a flow: its ID becomes FREE and its bucket goes (R174). -/
def State.freeFlow (s : State) (id : Nat) : State :=
  let key := (s.flowOf id).bucketKey id
  let s1 := s.mapFlow id fun _ => {}
  let shared := s1.flow.flows.any fun g => g.2.bucketKey g.1 == key
  if shared then s1 else { s1 with flow := { s1.flow with buckets := Table.put {} s1.flow.buckets key {} } }

end Sys2Proof.Machine
end

