-- ==== Sys2Proof/Machine/KeyRules.lean ====
section
/-! DEFINITION. What a use of a key slot needs: attributes, the Locker's state, the slot's state (R480, R481, R487, R494). -/

namespace Sys2Proof.Machine

/-- USES bits (R480). -/
def useEncrypt : Nat := 1
/-- DECRYPT (R480). -/
def useDecrypt : Nat := 2
/-- MAC_GEN (R480). -/
def useMacGen : Nat := 4
/-- MAC_VERIFY (R480). -/
def useMacVerify : Nat := 8
/-- DERIVE (R480). -/
def useDerive : Nat := 16
/-- WRAP (R480). -/
def useWrap : Nat := 32
/-- UNWRAP (R480). -/
def useUnwrap : Nat := 64

/-- Whether ATTR permits every use of a mask (R480). -/
def permits (attr mask : Nat) : Bool := decide (bitsOf attr 6 0 &&& mask = mask)

/-- Whether ATTR makes the slot persistent (R480). -/
def persistent (attr : Nat) : Bool := bitOf attr 10

/-- Whether ATTR gives the slot an invocation counter (R480). -/
def counted (attr : Nat) : Bool := bitOf attr 11

/-- Whether ATTR says 256 bits (R480). -/
def bits256 (attr : Nat) : Bool := bitOf attr 9

/-- LC_BIND (R480). -/
def lcBind (attr : Nat) : Nat := bitsOf attr 13 12

/-- TAMPER_CLASS (R480). -/
def tamperClass (attr : Nat) : Nat := bitsOf attr 15 14

/-- The state of a slot, or while a write of it is open the state it was in (R479, R494). -/
def KeySlot.inForce (k : KeySlot) : SlotState :=
  match k.writing with
  | some w => w.was
  | none => k.state

/-- Whether a slot holds a key in force: READY, or COMMITTING over an old one (R479, R494). -/
def KeySlot.hasKey (k : KeySlot) : Bool := k.inForce == .ready

/-- The octets of a key, the low-addressed first; 16 or 32 as KEY_BITS says. -/
def keyOctets (key : Nat) (wide : Bool) : List Nat := (toBytes (if wide then 32 else 16) key).map (·.toNat)

/-- The octets of a number read from memory, lowest address first. -/
def octets (n w : Nat) : List Nat := (span 0 n).map fun i => byteField w i 1

/-- The number that octets, lowest address first, spell. -/
def fromOctets : List Nat → Nat
  | [] => 0
  | b :: rest => b % 256 + 256 * fromOctets rest

/-- The keys that verify what the configuration-signing key signs: CFG keys written and not revoked (R395, R498). -/
def State.cfgKeys (s : State) : List (List Nat) :=
  s.keys.otp.cfgKeys.filterMap fun k =>
    if k.2.written && !k.2.revoked then some (Crypto.toOctets 64 k.2.key) else none

/-- The statuses of group 0x09 that a use of a slot can meet (R479, R481, R487, R494). -/
def State.keyChecks (s : State) (slot uses : Nat) (draws : Bool) : List (Bool × Status) :=
  let k := s.slotOf slot
  [(s.keys.sealed, .lockerSealed),
   (k.inForce == .bad, .keySlotBad),
   (!k.hasKey, .keySlotState),
   (!permits k.attr uses || (draws && !counted k.attr), .keyUseDenied)]

end Sys2Proof.Machine
end

