-- ==== Sys2Proof/Machine/KeyStore.lean ====
section
/-! DEFINITION. The Locker's slots at work: emptying them, persistent writes and their images, invocation counters, the unseal,
integrity failures, and the DRBG (R476, R479-R494, R519-R521). -/

namespace Sys2Proof.Machine

/-- Whether the xSPI controller is furled, so NV takes no write (R37). -/
def State.nvFurled (s : State) : Bool := s.furled (unitId 0x09 0)

/-- Whether the Locker or Halyard is furled, so key use is refused (R37). -/
def State.keysFurled (s : State) : Bool := s.furled (unitId 0x1C 0) || s.furled (unitId 0x1D 0)

/-- Draw from the DRBG: a number that nothing constrains (R476). -/
def State.drbg (s : State) (bits : Nat) : Nat × State :=
  let (v, s1) := s.draw
  (v % 2 ^ bits, { s1 with keys := { s1.keys with drbgRequests := s1.keys.drbgRequests + 1 } })

/-- Raise an event, or keep it until Masthead returns (R505). -/
def State.raiseOrHold (s : State) (hold : Bool) (e : Event) (targets : List Nat) : State :=
  if hold then { s with keys := { s.keys with owedEvents := s.keys.owedEvents ++ [(e, targets)] } } else s.raise e targets

/-- Report a slot that went BAD, EMPTY or back to an older image (R510). -/
def State.keyInvalid (s : State) (slot cause : Nat) (hold : Bool) : State :=
  let owners := maskPartitions (s.slotOf slot).owners
  s.raiseOrHold hold
    { unit := unitId 0x1C 0, code := 0x0902, severity := 3, partition := onlyOne owners,
      detail := pack [(0, 2, slot), (2, 1, cause), (8, 8, s.now)] } (owners ++ [0])

/-- A slot without a key; its owners and its image areas stay (R479). -/
def KeySlot.emptied (k : KeySlot) : KeySlot :=
  { ({} : KeySlot) with owners := k.owners, imageA := k.imageA, imageB := k.imageB, erasingA := k.erasingA,
                        erasingB := k.erasingB, exported := k.exported }

/-- Clear the MACsec key registers loaded from the slots that a condition picks (R489, R503). -/
def State.clearSas (s : State) (pick : Nat → Bool) : State :=
  { s with sw := { s.sw with sas := s.sw.sas.foldl (fun t a =>
      Table.put {} t a.1 (if pick a.2.slot then { a.2 with key := [] } else a.2)) [] } }

/-- The end of the 4 096-value block that holds a counter value (R520). -/
def blockEnd (counter : Nat) : Nat := (counter / 4096 + 1) * 4096

/-- Whether a slot can give no more counter values (R521); `stuck` says that its high mark cannot be raised. -/
def KeySlot.exhausted (k : KeySlot) (stuck : Bool) : Bool :=
  k.exported.isSome || decide (2 ^ 64 ≤ k.counter) || (persistent k.attr && decide (k.high ≤ k.counter) && stuck)

/-- Whether a slot's counter is exhausted now (R521). -/
def State.nonceExhausted (s : State) (slot : Nat) : Bool := (s.slotOf slot).exhausted s.nvFurled

/-- Draw the next value of a slot's invocation counter, its high mark raised where the block ran out (R519, R520). -/
def State.drawCounter (s : State) (slot : Nat) : Nat × State :=
  let k := s.slotOf slot
  (k.counter, s.mapSlot slot fun k =>
    { k with counter := k.counter + 1,
             high := if persistent k.attr ∧ k.high ≤ k.counter then blockEnd k.counter else k.high })

/-- The Locker raises a slot's high mark in the background once the next value is past the middle of its block (R520). -/
def State.raiseMark (s : State) (slot : Nat) : State :=
  let k := s.slotOf slot
  if !s.nvFurled && k.hasKey && persistent k.attr && decide (2048 < k.counter % 4096) && decide (k.counter < k.high) &&
      decide (k.high ≤ blockEnd k.counter) then s.mapSlot slot fun k => { k with high := blockEnd k.counter + 4096 }
  else s

/-- The area that the next write of a slot goes to: A when there is no current image (R491). -/
def KeySlot.targetB (k : KeySlot) : Bool := k.area == some false

/-- Put an image, or nothing, into an area. -/
def KeySlot.setImage (k : KeySlot) (b : Bool) (i : Option KeyImage) : KeySlot :=
  if b then { k with imageB := i } else { k with imageA := i }

/-- Say whether an area is being erased. -/
def KeySlot.setErasing (k : KeySlot) (b e : Bool) : KeySlot :=
  if b then { k with erasingB := e } else { k with erasingA := e }

/-- Whether an area is being erased. -/
def KeySlot.erasing (k : KeySlot) (b : Bool) : Bool := if b then k.erasingB else k.erasingA

/-- Make both COMMIT words zero, so that no image is in force, and erase both areas (R492, R503). -/
def KeySlot.destroyImages (k : KeySlot) : KeySlot :=
  let void (i : Option KeyImage) : Option KeyImage := i.map fun x => { x with commit := 0 }
  { k with imageA := void k.imageA, imageB := void k.imageB,
           erasingA := k.erasingA || k.imageA.isSome, erasingB := k.erasingB || k.imageB.isSome }

/-- Erase an image area as far as it was to be erased: what the background erase leaves (R491). -/
def KeySlot.erased (k : KeySlot) : KeySlot :=
  { k with imageA := if k.erasingA then none else k.imageA, imageB := if k.erasingB then none else k.imageB,
           erasingA := false, erasingB := false }

/-- Tell the issuer that a persistent write has ended (R510), and a waiting command list with it (R589). -/
def State.keyCommitted (s : State) (slot : Nat) (w : KeyWrite) (st : Status) : State :=
  let s1 := s.raise { unit := unitId 0x1C 0, code := 0x0903, severity := 1, partition := w.issuer,
                      detail := pack [(0, 2, slot), (2, 1, st.code), (3, 1, w.opcode), (4, 4, w.version), (8, 8, s.now)] }
    [w.issuer]
  if w.issuer = 0 then s1.opEnd (0x0900 + w.opcode) st else s1

/-- A persistent write ends without reaching its commit point: the old key stands, and the target's uncommitted image is to be
erased (R479, R491, R492). -/
def State.abandonWrite (s : State) (slot : Nat) (st : Status) : State :=
  match (s.slotOf slot).writing with
  | none => s
  | some w =>
    (s.mapSlot slot fun k =>
      let k1 : KeySlot := { k with state := w.was, writing := none }
      if w.key.isSome then (k1.setImage k.targetB none).setErasing k.targetB true else k1).keyCommitted slot w st

/-- Empty a slot; a persistent write that was open on it ends without its key: DESIGN CHOICE (log entry 38). -/
def State.emptyNow (s : State) (slot : Nat) : State := (s.abandonWrite slot .internal).mapSlot slot KeySlot.emptied

/-- A persistent write reaches its commit point (R491), or a KEY_DESTROY its end (R492). -/
def State.commitWrite (s : State) (slot : Nat) : State :=
  match (s.slotOf slot).writing with
  | none => s
  | some w =>
    match w.key with
    | none =>
      ((s.mapSlot slot fun k => k.destroyImages.emptied).clearSas fun n => n == slot).keyCommitted slot w .done
    | some key =>
      let (nonce, s1) := s.drbg 32
      let b := (s.slotOf slot).targetB
      let image : KeyImage :=
        { version := w.version, attr := w.attr, owners := w.owners, key := key, nonce := nonce,
          commit := 2 ^ 32 - 1 - w.version % 2 ^ 32, intact := true }
      (s1.mapSlot slot fun k =>
        let start := match w.counter with | some c => c | none => k.counter
        let high := match w.counter with | some c => blockEnd c | none => k.high
        let k1 : KeySlot :=
          { k with state := .ready, attr := w.attr, owners := w.owners, key := key, version := w.version, area := some b,
                   counter := start, high := high, writing := none }
        (k1.setImage b (some image)).setErasing (!b) (k.area.isSome)).keyCommitted slot w .done

/-- Begin a persistent write: the slot is COMMITTING (R491, R508). -/
def State.beginWrite (s : State) (slot : Nat) (w : KeyWrite) : State :=
  s.mapSlot slot fun k => { k with state := .committing, writing := some w }

/-- Put a key into a volatile slot at once (R479, R481); images of a persistent key that stood there go, DESIGN CHOICE (log
entry 38). -/
def State.fillVolatile (s : State) (slot attr key counter : Nat) : State :=
  s.mapSlot slot fun k =>
    { k.destroyImages.emptied with state := .ready, attr := attr, key := key, counter := counter }

/-- The life-cycle codes that LC_BIND can name (R480): that of the present state, where there is one. -/
def State.bindCode (s : State) : Nat := if s.lifecycle ≤ 3 then s.lifecycle else 0

/-- Whether an image or key bound to a life-cycle state has to go in the present one (R480, R497). -/
def State.misbound (s : State) (attr : Nat) : Bool := decide (lcBind attr ≠ 0) && decide (lcBind attr ≠ s.bindCode)

/-- How the Locker judges an image area (R492): whether it is valid, and whether it is bad. -/
def KeyImage.valid (i : KeyImage) : Bool := decide (i.commit = 2 ^ 32 - 1 - i.version % 2 ^ 32) && i.intact

/-- A committed image that does not verify (R492). -/
def KeyImage.bad (i : KeyImage) : Bool := decide (i.commit = 2 ^ 32 - 1 - i.version % 2 ^ 32) && !i.intact

/-- The two images of a slot with the area each stands in. -/
def KeySlot.images (k : KeySlot) : List (Bool × KeyImage) :=
  (match k.imageA with | some i => [(false, i)] | none => []) ++ (match k.imageB with | some i => [(true, i)] | none => [])

/-- The valid image with the higher VERSION (R492). -/
def KeySlot.best (k : KeySlot) : Option (Bool × KeyImage) :=
  (k.images.filter fun x => x.2.valid).foldl (fun a x =>
    match a with
    | some y => if y.2.version < x.2.version then some x else some y
    | none => some x) none

/-- A stored image may have decayed since it was written: a free choice at each unseal, the spec gives no rule (R492, log entry 39). -/
def State.ageImages (s : State) (slot : Nat) : State :=
  let (a, s1) := s.choose
  let (b, s2) := s1.choose
  let age (x : Bool) (i : KeyImage) : KeyImage := { i with intact := i.intact && x }
  s2.mapSlot slot fun k => { k with imageA := k.imageA.map (age a), imageB := k.imageB.map (age b) }

/-- Destroy a slot whose key is bound to a life-cycle state that has been left (R496, R497). -/
def State.unbind (s : State) (slot : Nat) : State :=
  let k := s.slotOf slot
  let lost := (k.hasKey && s.misbound k.attr) || (k.images.any fun x => s.misbound x.2.attr && x.2.valid)
  let void (i : Option KeyImage) : Option KeyImage := i.map fun x => if s.misbound x.attr then { x with commit := 0 } else x
  let gone (i : Option KeyImage) : Bool := match i with | some x => s.misbound x.attr | none => false
  let s1 := s.mapSlot slot fun k =>
    let k1 : KeySlot :=
      { k with imageA := void k.imageA, imageB := void k.imageB,
               erasingA := k.erasingA || gone k.imageA, erasingB := k.erasingB || gone k.imageB }
    if s.misbound k.attr then k1.emptied else k1
  if lost then s1.keyInvalid slot 0x04 false else s1

/-- The judgement of one slot at the unseal (R492, R494, R520): the image in force, the counter resumed at its high mark. -/
def State.judgeSlot (s : State) (slot : Nat) : State :=
  let s1 := (s.ageImages slot).unbind slot
  let k := s1.slotOf slot
  let bads := k.images.filter fun x => x.2.bad
  match k.best with
  | some (b, i) =>
    let s2 := s1.mapSlot slot fun k =>
      { k with state := .ready, attr := i.attr, owners := i.owners, key := i.key, version := i.version, area := some b,
               counter := k.high, high := if s1.nvFurled then k.high else blockEnd k.high, writing := none }
    if bads.any fun x => decide (i.version < x.2.version) then s2.keyInvalid slot 0x03 false else s2
  | none =>
    match bads with
    | [] => s1
    | x :: _ => (s1.mapSlot slot fun k => { k.emptied with state := .bad, attr := x.2.attr, owners := x.2.owners }).keyInvalid slot 0x02 false

/-- The slots that the table lists. -/
def State.slotNumbers (s : State) : List Nat := s.keys.slots.map fun k => k.1

/-- The unseal (R487, R492, R497): the Locker judges the stored images and serves. In Scrapped, and while debug access has
sealed it, it stays SEALED (R497, R499). -/
def State.unseal (s : State) : State :=
  if s.lifecycle = 5 ∨ s.keys.debugSealed then { s with keys := { s.keys with unsealedOnce := true } }
  else
    let s1 := s.each s.slotNumbers State.judgeSlot
    { s1 with keys := { s1.keys with sealed := false, unsealedOnce := true } }

/-- The Locker serves again after a seal that kept its slots (R497, R506). -/
def State.serveAgain (s : State) : State :=
  if s.lifecycle = 5 ∨ s.keys.debugSealed ∨ s.tamperHeld then s else { s with keys := { s.keys with sealed := false } }

/-- A working copy fails its check (R487): a volatile slot goes BAD, a persistent one is reloaded and goes BAD when the reloaded
copy fails too. -/
def State.keyMismatch (s : State) (slot : Nat) (reloadFails : Bool) : State :=
  let k := s.slotOf slot
  if !k.hasKey || s.keys.sealed || (persistent k.attr && !reloadFails) then s
  else
    (s.mapSlot slot fun k =>
      { k with state := if k.state = .committing then .committing else .bad,
               writing := k.writing.map fun w => { w with was := .bad } }).keyInvalid slot 0x01 false

/-- The root secret: the area that has its DONE fuse blown (R477); none once it is erased (R495). -/
def Otp.root (o : Otp) : Option Nat :=
  if o.lifecycle = 5 then none else if o.root0.done then some o.root0.contents else if o.root1.done then some o.root1.contents else none

/-- Every bit of a root area programmed to 1. -/
def RootArea.spoil (a : RootArea) : RootArea := { a with contents := 2 ^ 256 - 1 }

/-- The root at a start in which no area is DONE (R477): draw it into the lower-numbered area not yet started. Whether its three
copies read back is a free choice. -/
def State.generateRoot (s : State) : State × Bool :=
  let o := s.keys.otp
  if o.root.isSome || decide (o.lifecycle = 5) then (s, false)
  else
    let clean (a : RootArea) : RootArea := if a.start ∧ ¬ a.done then a.spoil else a
    let a0 := clean o.root0
    let a1 := clean o.root1
    let put (st : State) (x y : RootArea) : State :=
      { st with keys := { st.keys with otp := { st.keys.otp with root0 := x, root1 := y } } }
    if a0.start ∧ a1.start then (put s a0 a1, false)
    else
      let (v, s1) := s.drbg 256
      let (ok, s2) := s1.choose
      let area : RootArea := { start := true, done := ok, contents := if ok then v else 2 ^ 256 - 1 }
      (if a0.start then put s2 a0 area else put s2 area a1, ok)

end Sys2Proof.Machine
end

