-- ==== Sys2Proof/Machine/Stay.lean ====
section
/-! DEFINITION. What Stay does when Masthead is absent: the takeover, restart attempts and Hove-to (R15, R103, R104,
R466-R470). -/

namespace Sys2Proof.Machine

/-- Change Masthead's record. -/
def State.mapMasthead (s : State) (f : Masthead → Masthead) : State :=
  { s with cpu := { s.cpu with masthead := f s.cpu.masthead } }

/-- Restart attempts begun in the last 60 s. -/
def State.recentAttempts (s : State) : Nat :=
  (s.cpu.masthead.attempts.filter fun t => decide (s.now < t + 60000000000)).length

/-- Enter Hove-to and raise HOVE_TO_ENTERED (R470, R473). -/
def State.enterHoveTo (s : State) (cause : Nat) : State :=
  let s1 := s.mapMasthead fun m =>
    { m with present := false, hoveTo := true, hoveOwed := none, cause := cause, attempting := none, nextAttempt := none }
  let s2 : State := { s1 with boot := { s1.boot with hoveAt := some s.now } }
  s2.raiseAll { unit := 0x0300, code := 0x0131, severity := 4,
                detail := pack [(0, 1, cause), (1, 1, s.cpu.masthead.used), (8, 8, s.now)] }

/-- Enter Hove-to now, or after the hold window that is open (R470). -/
def State.hoveTo (s : State) (cause : Nat) : State :=
  if s.load.holdOpen then s.mapMasthead fun m => { m with hoveOwed := some cause, attempting := none, nextAttempt := none }
  else s.enterHoveTo cause

/-- FLOW_RELEASE commands that wait for a last item end with CONTROLLER_ABSENT and no effect (R103). -/
def State.endReleases (s : State) : State :=
  s.each s.flow.flows fun s1 g =>
    match g.2.releasing with
    | some r =>
      ((s1.mapFlow g.1 fun f => { f with releasing := none }).complete r 0x0303 .controllerAbsent 0).unblock r
    | none => s1

/-- A sleep entry that has not committed is abandoned; its SLEEP_ENTRY_END waits for Masthead's return (R348). -/
def State.dropEntry (s : State) : State :=
  match s.sleep.entry with
  | some e =>
    if e.committed then s
    else { s with sleep := { s.sleep with entry := none, pendingWake := none, endOwed := some (e.target, e.phase, e.offCount) } }
  | none => s

/-- Stay declares Masthead absent with a cause: 1 heartbeat, 2 Backstay, 3 Masthead's core (R104, R467). -/
def State.mastheadLost (s : State) (cause : Nat) : State :=
  if !s.cpu.masthead.present then s
  else
    let s1 := s.mapMasthead fun m =>
      { m with present := false, cause := cause, absentAt := s.now, used := 0, expected := none, nextAttempt := none,
               attempts := m.attempts.filter fun t => decide (s.now < t + 60000000000) }
    let s2 : State := { s1 with sw := { s1.sw with frozen := true } }
    let s3 := s2.endReleases.dropEntry
    let s4 := s3.raiseAll { unit := 0x0300, code := 0x0106, severity := 3,
                            detail := pack [(0, 1, cause), (1, 1, s3.recentAttempts)] }
    if s4.furled (unitId 0x04 0) then s4.turnAllOff.hoveTo 0x04
    else
      let s5 := if s4.load.holdOpen then s4 else s4.applyAllEntries
      if 2 ≤ cause ∨ 3 ≤ s5.recentAttempts then s5.hoveTo cause
      else s5.mapMasthead fun m => { m with nextAttempt := some (s.now + 1000000) }

/-- A restart attempt begins (R467). -/
def State.beginAttempt (s : State) : State :=
  s.mapMasthead fun m =>
    { m with attempting := some s.now, nextAttempt := none, attempts := s.now :: m.attempts, used := m.used + 1 }

/-- An attempt fails: the next begins 1 ms later, or Hove-to follows the third within 60 s (R467). -/
def State.attemptFailed (s : State) : State :=
  let s1 := s.mapMasthead fun m => { m with attempting := none }
  if 3 ≤ s1.recentAttempts then s1.hoveTo s1.cpu.masthead.cause
  else s1.mapMasthead fun m => { m with nextAttempt := some (s.now + 1000000) }

/-- Every learned MAC entry restarts its age as the freeze ends (R258). -/
def State.thaw (s : State) : State :=
  { s with sw := { s.sw with
      frozen := false
      macs := s.sw.macs.map fun m => if m.fixed then m else { m with seenAt := s.now } } }

end Sys2Proof.Machine
end

