-- ==== Sys2Proof/Machine/Resets.lean ====
section
/-! DEFINITION. What each kind of reset leaves (R196, R581, R582). The start that follows is in `Startup`. -/

namespace Sys2Proof.Machine

/-- Write the bytes of a list of offsets into memory, those inside LPDDR5X only. -/
def fillMemory (dram : Nat) : List (Nat × Byte) → Table Byte → Table Byte
  | [], m => m
  | (off, b) :: rest, m => fillMemory dram rest (if off < dram then Table.put blankByte m (dramBase + off) b else m)

/-- TIME_NS at which Device Time resumes (R196), never below a value already issued. -/
def State.resumeTime (s : State) : Nat :=
  max s.now (s.time.tRef + (s.time.rtc - s.time.rRef) * 1000000000 / 32768 + 1000000)

/-- Refresh the reference pair (R196). -/
def State.refreshReference (s : State) : State :=
  { s with time := { s.time with tRef := s.now, rRef := s.time.rtc } }

/-- The switch core at its reset: furled banks stay withdrawn (R582). -/
def SwitchState.cleared (x : SwitchState) : SwitchState :=
  { free := 16384 - x.withdrawn, withdrawn := x.withdrawn, banksOut := x.banksOut }

/-- The PHYs at their reset: a furled one stays FURLED, and from sleep a link in SLEEP stays there (R269, R278). -/
def State.resetLinks (s : State) (fromSleep : Bool) : Table EthPort :=
  (span 0 12).foldl (fun t p =>
    let x := s.ethOf p
    let y : EthPort :=
      if s.furled (unitId 0x0F p) then { link := .furled } else if fromSleep ∧ x.link = .sleep then x else {}
    Table.put {} t p y) []

/-- The CAN channels at their reset: a furled one stays FURLED. -/
def State.resetCan (s : State) : Table CanChannel :=
  (span 0 12).foldl (fun t c =>
    let y : CanChannel := if s.furled (unitId 0x10 c) then { state := .furled } else {}
    Table.put {} t c y) []

/-- A persistent slot whose write was cut off waits for the unseal to judge its images; a volatile slot is empty
(R486, R491). -/
def KeySlot.afterReset (k : KeySlot) : KeySlot :=
  let cut := match k.writing with | some w => w.key.isSome | none => false
  { ({} : KeySlot) with imageA := k.imageA, imageB := k.imageB,
                        erasingA := k.erasingA || (cut && k.area != some false),
                        erasingB := k.erasingB || (cut && k.area == some false),
                        counter := k.high, high := k.high, exported := k.exported }

/-- Everything that lives in the compute die and LPDDR5X, at its reset; the power die, the Heath domain and every NV
area stay (R582). Device Time resumes as in R196. -/
def State.clearCompute (s : State) (fromSleep : Bool) : State :=
  let io : Io :=
    { time := s.resumeTime * 2 ^ 32, free := s.io.free + 1, dramBytes := s.io.dramBytes,
      mem := fillMemory s.io.dramBytes (Config.lostMemory s.io.free) [] }
  let time : TimeState :=
    { tRef := s.time.tRef, rRef := s.time.rRef, rtc := s.time.rtc, rtcPhase := s.time.rtcPhase,
      rtcFallback := s.time.rtcFallback, backupOsc := s.time.backupOsc, discontinuity := s.time.discontinuity,
      pwmGangs := s.time.pwmGangs, d6Stamp := s.resumeTime, d7Stamp := s.resumeTime, rateAt := s.resumeTime }
  let stuck := s.cpu.masthead.hoveTo && s.furled (unitId 0x04 0)
  let masthead : Masthead :=
    if stuck then s.cpu.masthead else { releasedAt := s.resumeTime, attempts := s.cpu.masthead.attempts }
  let keys : KeyState :=
    { s.keys with
      slots := s.keys.slots.foldl (fun t k => Table.put {} t k.1 k.2.afterReset) []
      sealed := true, unsealedOnce := false, ops := [], drbgRequests := 0, drbgAt := s.resumeTime,
      trngWaiting := false, owedEvents := if fromSleep then s.keys.owedEvents else [] }
  { pending := s.pending
    io := io
    time := time
    sw := { s.sw.cleared with frozen := stuck }
    eth := s.resetLinks fromSleep
    can := { channels := s.resetCan }
    ports := s.ports.foldl (fun t p =>
      let y : LocalPort := { pinLevel := p.2.pinLevel }
      Table.put {} t p.1 y) []
    load := { s.load with channels := s.load.channels.map fun c => { c with measure := none, diag := none, dutyItem := none } }
    supply := s.supply
    sense := { s.sense with inputs := ({} : SenseState).inputs, calRun := none }
    sleep := { s.sleep with power := .run, entry := none, pendingWake := none }
    cpu := { masthead := masthead, spare := if s.furled (unitId 0x02 7) then none else some 7 }
    keys := keys
    fair := { link := if s.furled (unitId 0x23 0) then .furled else .disabled }
    health := { s.health with
      plan := none, planDue := some 1
      units := s.health.units.foldl (fun t u => Table.put {} t u.1 { u.2 with testing := false, pendingTest := false }) [] }
    boot := { s.boot with
      phase := .released, cause := 0, list := [], waiting := none, executed := 0, failed := 0,
      reported := false, rootGenerated := false, tamperHeld := false, bankWrites := [], sent := [], hoveAt := none, recovery := 0 } }

/-- A compute-die reset with its cause: 1 supply, 2 furl, 3 command (R392, R581, R582). `held` keeps the compute die in
reset until VLOGIC returns (R411). A stopped start stays stopped (R585). -/
def State.computeReset (s : State) (cause : Nat) (held : Bool) : State :=
  let s1 := s.refreshReference.openHold.clearCompute false
  if s.boot.phase = .stopped then s
  else { s1 with boot := { s1.boot with start := 3, cause := cause, phase := if held then .held else .released } }

/-- The power die at its reset: outputs off, settings and furls at their reset values; NV, the board profile with its
check, and the straps stay (R582). How many copies of a written safe-state table fail their CRC by now is free (R395, log entry 39). -/
def State.clearPower (s0 : State) : State :=
  let (v, s) := s0.draw
  let bad := if s.load.safeVer = 0 then 0 else max s.load.copyBad (v % 3)
  { s with
    load := { ({} : LoadTables) with
      safeTable := s.load.safeTable, safeVer := s.load.safeVer, copyBad := bad, badOwed := decide (bad ≠ 0) }
    supply :=
      let f : Feed := { warn := if s.supply.profile48 then 3000 else 700 }
      { ({} : SupplyState) with
        profile48 := s.supply.profile48, mismatch := s.supply.mismatch, mismatchOwed := s.supply.mismatchOwed,
        feedA := f, feedB := f, vlogicLow := s.supply.vlogicLow }
    sense := {}
    time := { s.time with pwmGangs := [], backupOsc := false, rtcFallback := false }
    cpu := { masthead := { releasedAt := s.now } }
    eth := []
    can := {}
    sw := {}
    fair := {}
    keys := { s.keys with debugOpen := false, debugSealed := false, challenge := none }
    health := { s.health with classes := [], units := [], tests := [], planDue := some 1 } }

/-- A module reset (R581, R582). -/
def State.moduleReset (s : State) : State :=
  let s1 := (s.clearCompute false).clearPower.redriveAll
  { s1 with boot := { s1.boot with start := 2, phase := if s.supply.vlogicLow then .held else .released } }

/-- The Heath domain at its reset, and Device Time at 0 (R196, R582). -/
def State.heathReset (s : State) : State :=
  { s with
    io := { s.io with time := 0 }
    time := { s.time with rtc := 0, rtcPhase := 0, tRef := 0, rRef := 0, d6Stamp := 0, d7Stamp := 0, rateAt := 0, discontinuity := true }
    sleep := {}
    cpu := { s.cpu with masthead := { s.cpu.masthead with releasedAt := 0, attempts := [] } }
    keys := { s.keys with
      drbgAt := 0, tamper := s.keys.tamper.foldl (fun t x => Table.put {} t x.1 { x.2 with latched := false, lastActive := 0 }) [] } }

/-- A power-up with the straps and VLOGIC in mV as they are sampled (R334, R404, R581-R584). The Heath domain starts afresh where it
lost power too; that it keeps its state otherwise is DEDUCED from R411 and R582 (log entry 46). -/
def State.powerUp (s : State) (straps mv : Nat) (heathLost : Bool) : State :=
  let bad := !bitOf straps 0 && decide (20000 < mv)
  let y : SupplyState :=
    { s.supply with profile48 := bitOf straps 0, mismatch := bad, mismatchOwed := if bad then some (mv / 10) else none,
                    vlogicLow := false }
  let s1 := ({ s with supply := y } : State).moduleReset
  let s2 := if heathLost then s1.heathReset else s1
  { s2 with boot := { s2.boot with start := 1, straps := straps % 8 } }

end Sys2Proof.Machine
end

