-- ==== Sys2Proof/Machine/Banks.lean ====
section
/-! DEFINITION. Firmware and configuration banks: the verification of images, bank writes and the boot record (R500, R586-R595). -/

namespace Sys2Proof.Machine

/-- The keys that verify images of a kind: while no CFG key is written, configuration images are verified against the FW keys
(R500, R586). -/
def State.cfgKeysWritten (s : State) : Bool := s.keys.otp.cfgKeys.any fun k => k.2.written

/-- The key that a KEY_INDEX names for a kind, when it is written and not revoked. -/
def State.imageKey (s : State) (config : Bool) (index : Nat) : Option Nat :=
  let k := Table.get {} (if config && s.cfgKeysWritten then s.keys.otp.cfgKeys else s.keys.otp.fwKeys) index
  if k.written && !k.revoked then some k.key else none

/-- The lowest VERSION accepted for a kind (R500, R586). -/
def State.minVersion (s : State) (config : Bool) : Nat := if config then s.boot.cfgMinVersion else s.keys.otp.fwMinVersion

/-- MAGIC of a kind (R500, R586). -/
def imageMagic (config : Bool) : Nat := if config then 0x43375A54 else 0x46375A54

/-- The size of a bank of a kind in bytes (R586). -/
def bankBytes (config : Bool) : Nat := if config then 32 * 2 ^ 20 else 4 * 2 ^ 20

/-- What is wrong with an image of `n` bytes, as RESULTS byte 0 of FW_BANK_WRITE: 1 header, 2 key, 3 signature, 4 digest, 5 version;
0 where it is accepted (R500, R586). -/
def State.judgeImage (s : State) (config : Bool) (w n : Nat) : Nat :=
  let length := byteField w 12 4
  if n < 128 + length ∨ byteField w 0 4 ≠ imageMagic config then 1
  else
    match s.imageKey config (byteField w 4 1) with
    | none => 2
    | some key =>
      if !Crypto.verify (Crypto.toOctets 64 key) (octets 64 w) (octets 64 (byteField w 64 64)) then 3
      else if Crypto.sha256 (octets length (byteField w 128 length)) ≠ octets 32 (byteField w 20 32) then 4
      else if byteField w 8 4 < s.minVersion config then 5
      else 0

/-- The image as a bank holds it. -/
def State.bankImage (s : State) (config : Bool) (w : Nat) : BankImage :=
  let length := byteField w 12 4
  { cfgKey := config && s.cfgKeysWritten, keyIndex := byteField w 4 1, version := byteField w 8 4, body := byteField w 128 length,
    length := length }

/-- Whether a stored image verifies now: its key still stands and its VERSION suffices (R500, R586, R594). -/
def State.imageStands (s : State) (config : Bool) (i : BankImage) : Bool :=
  (i.cfgKey == (config && s.cfgKeysWritten)) && (s.imageKey config i.keyIndex).isSome && decide (s.minVersion config ≤ i.version)

/-- A bank of a kind. -/
def State.bank (s : State) (config b : Bool) : Option BankImage :=
  match config, b with
  | false, false => s.boot.fwA
  | false, true => s.boot.fwB
  | true, false => s.boot.cfgA
  | true, true => s.boot.cfgB

/-- Put an image, or nothing, into a bank. -/
def State.setBank (s : State) (config b : Bool) (i : Option BankImage) : State :=
  { s with boot := match config, b with
      | false, false => { s.boot with fwA := i }
      | false, true => { s.boot with fwB := i }
      | true, false => { s.boot with cfgA := i }
      | true, true => { s.boot with cfgB := i } }

/-- Whether a bank verifies. -/
def State.bankStands (s : State) (config b : Bool) : Bool :=
  match s.bank config b with
  | some i => s.imageStands config i
  | none => false

/-- The bank of a kind in use is B. -/
def State.inUse (s : State) (config : Bool) : Bool := if config then s.boot.useCfgB else s.boot.useFwB

/-- The boot record of a kind. -/
def State.record (s : State) (config : Bool) : BootRecord := if config then s.boot.cfgRecord else s.boot.fwRecord

/-- Set the boot record of a kind. -/
def State.setRecord (s : State) (config : Bool) (x : BootRecord) : State :=
  { s with boot := if config then { s.boot with cfgRecord := x } else { s.boot with fwRecord := x } }

/-- What a start does to a boot record before the banks are judged (R590). -/
def BootRecord.atStart (x : BootRecord) : BootRecord :=
  if x.trial && decide (x.triesLeft = 0) then { x with preferredB := !x.preferredB, trial := false }
  else if x.trial then { x with triesLeft := x.triesLeft - 1 }
  else x

/-- DEVICE_RESET (cmd 0x0140). -/
def cmdDeviceReset : Command where
  opcode := 0x0140
  fast := true
  paramLen := 4
  used := [(0, 0, 8)]
  manager := true
  range r := decide (r.byte 0 ≤ 1)
  run r s := .finish .done (pack [(0, 8, s.now)]) s fun t => if r.byte 0 = 0 then t.moduleReset else t.computeReset 3 false

/-- DEVICE_RESET. -/
def execDeviceReset (r : Request) (s : State) : Host.Outcome State Fault Refusal := cmdDeviceReset.step r s

/-- FW_BANK_WRITE (cmd 0x0141). The bank not in use does not verify again before the write has ended. -/
def cmdFwBankWrite : Command where
  opcode := 0x0141
  paramLen := 24
  used := [(0, 0, 9), (4, 0, 96)]
  iovas := [8]
  manager := true
  lifecycle _ s := decide (s.lifecycle = 5)
  range r := decide (r.byte 0 ≤ 1) && aligned (r.field 8 8) 4096 && decide (r.field 4 4 ≤ bankBytes (r.byte 0 == 1))
  furled _ s := s.nvFurled
  run r s :=
    let config := r.byte 0 == 1
    match s.read r.issuer (r.field 8 8) (r.field 4 4) with
    | (s1, .error f) => .fault f s1
    | (s1, .ok w) =>
      match s1.judgeImage config w (r.field 4 4) with
      | 0 =>
        let b := !s1.inUse config
        let x : BankWrite := { config := config, bankB := b, activate := r.bit 1 0, image := s1.bankImage config w }
        let s2 := s1.setBank config b none
        .accepted 0 { s2 with boot := { s2.boot with bankWrites := s2.boot.bankWrites ++ [x] } }
      | code => .refuse .badParam code

/-- FW_BANK_WRITE. -/
def execFwBankWrite (r : Request) (s : State) : Host.Outcome State Fault Refusal := cmdFwBankWrite.step r s

/-- FW_BANK_WRITTEN (R595, R596): the oldest write ends; a write that was read back well puts the image into its bank, and on trial
with ACTIVATE. While Masthead is absent it ends with CONTROLLER_ABSENT (R103). -/
def execFwBankWritten (readBackOk : Bool) (s : State) : Host.Outcome State Fault Refusal :=
  match s.boot.bankWrites with
  | [] => .next s
  | x :: rest =>
    if !s.computeOn then .next s
    else
      let st : Status := if s.absent then .controllerAbsent else if readBackOk && !s.nvFurled then .done else .internal
      let s0 : State := { s with boot := { s.boot with bankWrites := rest } }
      let s1 := if st = .done then s0.setBank x.config x.bankB (some x.image) else s0
      let active := x.activate && decide (st = .done)
      let s2 := if active then s1.setRecord x.config { preferredB := x.bankB, trial := true, triesLeft := 3 } else s1
      .next ((s2.raise { unit := 0, code := 0x0141,
                         detail := pack [(0, 1, flag x.config), (1, 1, flag x.bankB), (2, 1, st.code), (3, 1, flag active),
                           (4, 4, x.image.version), (8, 8, s.now)] } [0]).opEnd 0x0141 st)

/-- BOOT_CONFIRM (cmd 0x0142, R591). -/
def cmdBootConfirm : Command where
  opcode := 0x0142
  manager := true
  run _ s :=
    let v := s.configuration.version
    let b := s.boot
    let s1 : State := { s with boot := { b with
      fwRecord := { b.fwRecord with trial := false }, cfgRecord := { b.cfgRecord with trial := false }, cfgMinVersion := v } }
    .done (pack [(0, 1, flag b.fwRecord.preferredB + 2 * flag b.cfgRecord.preferredB), (4, 4, v)]) s1

/-- BOOT_CONFIRM. -/
def execBootConfirm (r : Request) (s : State) : Host.Outcome State Fault Refusal := cmdBootConfirm.step r s

end Sys2Proof.Machine
end

