-- ==== Sys2Proof/Machine/Bridge.lean ====
section
/-! DEFINITION. The shared operations of the Fairlead bridge: the link and its events, outbound operations, posted-write errors and
the fence (R541, R546-R554). -/

namespace Sys2Proof.Machine

/-- The role strapped on GPIO1: root complex (R334, R539). -/
def State.rootComplex (s : State) : Bool := bitOf s.boot.straps 1

/-- Fairlead cannot run: its unit is furled, or a clock that it needs is lost (R37, R212). -/
def State.fairStopped (s : State) : Bool :=
  s.furled (unitId 0x23 0) || s.furled (unitId 0x24 2) || s.furled (unitId 0x24 9)

/-- P0 and the owners of enabled windows (R558). -/
def State.fairOwners (s : State) : List Nat :=
  0 :: (s.fair.windows.filter fun w => w.2.enable).map fun w => s.owner kindWindow w.1

/-- The link changes its state; FAIRLEAD_LINK_STATE tells of it (R541, R558). A link-down is a change from UP. -/
def State.moveFair (s : State) (next : FairLink) (speed width : Nat) : State :=
  let old := s.fair.link
  if old = next then s
  else
    let down := old == .up
    let s1 : State := { s with
      fair := { s.fair with link := next, speed := speed, width := width, drops := satAdd 32 s.fair.drops (flag down) } }
    s1.raise { unit := unitId 0x23 0, code := 0x0C03, severity := if down then 2 else 1,
               detail := pack [(0, 1, old.code), (1, 1, next.code), (2, 1, speed), (3, 1, width), (4, 4, s1.fair.drops), (8, 8, s.now)] }
      s1.fairOwners

/-- The TLPs of a transfer as far address and length: cut at every 4 KiB boundary of the far address and at a size (R548). -/
def tlps (limit : Nat) : Nat → Nat → Nat → List (Nat × Nat)
  | 0, _, _ => []
  | fuel + 1, far, length =>
    let n := min length (min limit (4096 - far % 4096))
    if n = 0 then [] else (far, n) :: tlps limit fuel (far + n) (length - n)

/-- The TLPs of an operation. -/
def State.tlpsOf (s : State) (o : FairOp) : List (Nat × Nat) :=
  tlps o.limit o.length ((s.fairWindow o.window).farBase + o.offset) o.length

/-- The bytes of TLPs. -/
def tlpBytes (l : List (Nat × Nat)) : Nat := l.foldl (fun n t => n + t.2) 0

/-- An operation ends: its status word, then its vector (R546). A status word that faults counts as lost (R554). -/
def State.endFair (s : State) (o : FairOp) (st : Status) (bytes : Nat) : State :=
  let s1 :=
    match s.write o.issuer o.statusIova 8 (pack [(0, 4, 0x80000000 + st.code), (4, 4, bytes)]) with
    | (t, none) => (match o.vector with | some v => t.vector o.issuer v | none => t)
    | (t, some _) => { t with fair := { t.fair with lostStatus := satAdd 16 t.fair.lostStatus 1 } }
  if o.issuer = 0 then s1.opEnd 0x0C03 st else s1

/-- A read ends with another status than DONE: its local range is zero-filled (R547). DONE_BYTES of such a read is not stated: a free
value. -/
def State.failRead (s : State) (o : FairOp) (st : Status) : State :=
  let (bytes, s1) := (s.zeroFill o.issuer o.local_ o.length).draw
  s1.endFair o st bytes

/-- The newest write that covers a far address (R550). -/
def State.sender (s : State) (address : Nat) : Option FairSent :=
  s.fair.sent.find? fun w => decide (w.far ≤ address) && decide (address < w.far + w.length)

/-- A window is fenced: writes queued on it that have not begun are cut off (R552). -/
def State.fence (s : State) (w : Nat) : State :=
  let s1 := s.mapFairWindow w fun x => { x with fenced := true }
  { s1 with fair := { s1.fair with
      ops := s1.fair.ops.map fun o => if o.window = w ∧ o.write ∧ o.begunAt = none then { o with cut := true } else o } }

/-- A failed posted write is attributed: numbered, logged, the window fenced when it asks for it, and reported (R550-R552). What
PARTITION and OFFSET_16 hold where no window matches is not stated: free values. -/
def State.postError (s : State) (w : Option FairSent) (cause address length : Nat) : State :=
  let (blank, s0) := s.draw
  let window := match w with | some x => x.window | none => 0xFF
  let partition := match w with | some x => x.issuer | none => blank
  let offset := match w with | some x => (x.offset + (address - x.far)) / 16 | none => blank
  let fenced := w.isSome && (s0.fairWindow window).fenceOn && !(s0.fairWindow window).fenced
  let seq := (s0.fair.errorSeq + 1) % 2 ^ 16
  let entry : PostedError := { seq := seq, window := window, cause := cause, partition := partition % 256, fenced := fenced,
                               address := address, time := s.now, length := length }
  let log := s0.fair.log ++ [entry]
  let s1 : State := { s0 with
    fair := { s0.fair with
      errorSeq := seq, log := log.drop (log.length - 16),
      overwritten := satAdd 16 s0.fair.overwritten (flag (decide (16 < log.length))) } }
  (if fenced then s1.fence window else s1).raise
    { unit := unitId 0x23 0, code := 0x0C01, severity := 2, partition := if w.isSome then partition else 0,
      detail := pack [(0, 2, seq), (2, 1, window), (3, 1, cause + 128 * flag fenced), (4, 4, offset), (8, 8, s.now)] }
    (if w.isSome then [partition, 0] else [0])

/-- What the prefetch buffer of a window holds for a read that starts at an offset (R549). -/
def State.prefetched (s : State) (w offset length : Nat) : List Byte :=
  match (s.fairWindow w).buffer with
  | some b =>
    if b.start ≤ offset ∧ offset < b.start + b.bytes.length ∧ s.now < b.filledAt + 10000 then
      (b.bytes.drop (offset - b.start)).take length
    else []
  | none => []

/-- The size that an operation's TLPs are cut at (R542, R548): as configured in a root complex; in an endpoint, what the host has set,
which is free. -/
def State.tlpLimit (s : State) (write : Bool) : Nat × State :=
  if s.rootComplex then (128 * 2 ^ (if write then s.fair.config.mps else s.fair.config.mrrs), s)
  else (128 * 2 ^ (s.draw.1 % 3), s.draw.2)

/-- The position of the first operation that waits and has none of its ring before it (R546). -/
def readyOp (ops : List FairOp) : Option Nat :=
  (span 0 ops.length).find? fun i =>
    match ops[i]? with
    | some o => o.begunAt.isNone && !((ops.take i).any fun x => x.issuer == o.issuer && x.ring == o.ring)
    | none => false

/-- An operation leaves the list. -/
def State.dropOp (s : State) (i : Nat) : State := { s with fair := { s.fair with ops := s.fair.ops.eraseIdx i } }

/-- An operation begins (R549, R552). -/
def State.beginFair (s : State) (i : Nat) (o : FairOp) : State :=
  if o.write && o.cut then
    (s.dropOp i).endFair o .unitFurled 0
  else
    let (limit, s1) := s.tlpLimit o.write
    let o1 : FairOp := { o with begunAt := some s.now, waitingFrom := s.now, limit := limit,
                                taken := if o.write then [] else s.prefetched o.window o.offset o.length }
    let s2 : State := { s1 with fair := { s1.fair with ops := setAt s1.fair.ops i o1 } }
    if o.write then
      let w : FairSent := { issuer := o.issuer, window := o.window, far := (s.fairWindow o.window).farBase + o.offset,
                            offset := o.offset, length := o.length }
      let s3 := s2.mapFairWindow o.window fun x => { x with buffer := none }
      { s3 with fair := { s3.fair with sent := w :: s3.fair.sent } }
    else s2

/-- Begin every operation that can begin. -/
def State.startFair : Nat → State → State
  | 0, s => s
  | fuel + 1, s =>
    match readyOp s.fair.ops with
    | none => s
    | some i =>
      match s.fair.ops[i]? with
      | some o => State.startFair fuel (s.beginFair i o)
      | none => s

/-- Begin what can begin, with room for every operation queued. -/
def State.advanceFair (s : State) : State := State.startFair (s.fair.ops.length + 1) s

/-- The unacknowledged TLPs of a posted write are logged with cause 0x03 (R550). -/
def State.postUnacked (s : State) (w : FairSent) : List (Nat × Nat) → State
  | [] => s
  | t :: rest => State.postUnacked (s.postError (some w) 0x03 t.1 t.2) w rest

/-- What the link's loss does to an operation of which so many TLPs were sent and acknowledged (R554). -/
def State.loseOp (s : State) (o : FairOp) (progress : Nat × Nat) : State :=
  if !o.write then s.failRead o .fairleadLinkDown
  else if o.begunAt.isNone then s.endFair o (if o.cut then .unitFurled else .fairleadLinkDown) 0
  else
    let sent := (s.tlpsOf o).take progress.1
    let w : FairSent := { issuer := o.issuer, window := o.window, far := (s.fairWindow o.window).farBase + o.offset,
                          offset := o.offset, length := o.length }
    let s1 := if (s.fairWindow o.window).ack then s else s.postUnacked w (sent.drop progress.2)
    s1.endFair o .fairleadLinkDown (tlpBytes sent)

/-- The operations that the link's loss ends, each with its progress. -/
def loseOps : List FairOp → List (Nat × Nat) → State → State
  | [], _, s => s
  | o :: rest, [], s => loseOps rest [] (s.loseOp o (0, 0))
  | o :: rest, g :: more, s => loseOps rest more (s.loseOp o g)

/-- The link goes down, or is taken down: operations end and prefetch buffers are discarded (R549, R554). -/
def State.dropFair (s : State) (next : FairLink) (progress : List (Nat × Nat)) : State :=
  let ops := s.fair.ops
  let s1 := s.moveFair next 0 0
  let s2 := s1.each (s1.fair.windows.map fun w => w.1) fun t w => t.mapFairWindow w fun x => { x with buffer := none }
  loseOps ops progress ({ s2 with fair := { s2.fair with ops := [] } })

/-- Fairlead stops, furled or without its clock (R37, R212): how far the operations had come is free. -/
def State.stopFair (s : State) : State :=
  let progress := (span 0 s.fair.ops.length).map fun i =>
    (Config.freeValue (s.io.free + 2 * i), Config.freeValue (s.io.free + 2 * i + 1))
  let s1 : State := { s with io := { s.io with free := s.io.free + 2 * progress.length } }
  s1.dropFair (if s.furled (unitId 0x23 0) then .furled else .disabled) progress

end Sys2Proof.Machine
end

