-- ==== Sys2Proof/Machine/Cells.lean ====
section
/-! DEFINITION. The cell buffer and its accounts: charging, placing and freeing the copies of frames (R226-R233), and what
the furl of a port or a bank takes (R231, R257). -/

namespace Sys2Proof.Machine

/-- Change the switch core. -/
def State.mapSwitch (s : State) (f : SwitchState → SwitchState) : State := { s with sw := f s.sw }

/-- Cells of a frame of a length (R226). -/
def cellsOf (length : Nat) : Nat := ceilDiv length 256

/-- The copies charged to an account. -/
def State.charged (s : State) (a : Nat) : List QFrame := s.sw.queue.filter fun q => q.account == a

/-- The cells that admitted copies of a flow hold. -/
def State.flowCells (s : State) (id : Nat) : Nat :=
  ((s.sw.queue.filter fun q => q.admitted && q.flows.contains id).map (·.cells)).foldl (· + ·) 0

/-- The cells of an account that its flows' reservations cover, `more` cells of one flow included (R229). -/
def State.covered (s : State) (a : Nat) (more : Option (Nat × Nat)) : Nat :=
  ((s.reserved.filter fun g => decide (g.2.owner = a)).map fun g =>
    let extra := match more with | some (id, n) => if id = g.1 then n else 0 | none => 0
    min (s.flowCells g.1 + extra) (cellsFor g.2.decl g.2.promise)).foldl (· + ·) 0

/-- Whether an account can take the cells of a copy: those of a flow's reservation first, then unreserved ones (R228,
R229). -/
def State.canCharge (s : State) (a cells : Nat) (flow : Option Nat) : Bool :=
  let x := s.accountOf a
  let free := x.quota - reservedCells s.reserved a
  decide (x.occupancy + cells ≤ x.quota) &&
  decide (x.occupancy + cells ≤ s.covered a (flow.map fun id => (id, cells)) + free)

/-- The banks in service, from one of them on, in turn (R226). -/
def State.banksFrom (s : State) (b : Nat) : List Nat :=
  ((span b 16).map fun k => k % 16).filter fun k => !bitOf s.sw.banksOut k

/-- Put a copy into the buffer: its cells go to successive banks, unless they are those of a stored frame that it shares
(R226, R232, R233). -/
def State.enqueue (s : State) (q : QFrame) : State :=
  let same := if q.shared then s.sw.queue.find? fun x => x.shared && x.group == q.group else none
  let s1 := s.mapAccount q.account fun a =>
    { a with occupancy := a.occupancy + q.cells, peak := max a.peak (a.occupancy + q.cells) }
  match same with
  | some x => s1.mapSwitch fun w => { w with queue := w.queue ++ [{ q with serial := w.serial, banks := x.banks }],
                                             serial := w.serial + 1 }
  | none =>
    let banks := (s.banksFrom s.sw.nextBank).take q.cells
    let mask := banks.foldl (fun m k => setBit m k true) 0
    s1.mapSwitch fun w =>
      { w with queue := w.queue ++ [{ q with serial := w.serial, banks := mask }], serial := w.serial + 1,
               free := w.free - q.cells, nextBank := (banks.getLastD (w.nextBank + 15) + 1) % 16 }

/-- Count a copy that an account could not take (R230). -/
def State.countDrop (s : State) (a : Nat) : State := s.mapAccount a fun x => { x with drops := satAdd 32 x.drops 1 }

/-- Take one copy out of the buffer; its cells are free once no pointer to them is left (R230, R233). -/
def State.removeFrame (s : State) (q : QFrame) : State :=
  let rest := s.sw.queue.filter fun x => x.serial != q.serial
  let last := !q.shared || rest.all fun x => !(x.shared && x.group == q.group)
  (s.mapSwitch fun w => { w with queue := rest, free := if last then w.free + q.cells else w.free }).mapAccount q.account
    fun a => { a with occupancy := a.occupancy - q.cells }

/-- Take every copy that a condition picks out of the buffer. -/
def State.removeFrames (s : State) (pick : QFrame → Bool) : State := s.each (s.sw.queue.filter pick) State.removeFrame

/-- The limits of all accounts together. -/
def State.quotas (s : State) : Nat := ((span 0 76).map fun a => (s.accountOf a).quota).foldl (· + ·) 0

/-- Cells that no limit holds. -/
def State.unassigned (s : State) : Nat := 16384 - s.sw.withdrawn - s.quotas

/-- Lower an account's limit and tell its owner and P0 (R231, R261). -/
def State.lowerQuota (s : State) (unit a target : Nat) : State :=
  let old := (s.accountOf a).quota
  if target = old then s
  else
    let owner := if a < 64 then a else 0
    (s.mapAccount a fun x => { x with quota := target }).raise
      { unit := unit, code := 0x0402, partition := owner, detail := pack [(0, 1, a), (2, 2, old), (4, 2, target)] } [0, owner]

/-- Lower the limits until they fit the cells left: the ingress pools, largest first (R231). -/
def State.lowerPools (s : State) (unit : Nat) : Nat → State
  | 0 => s
  | fuel + 1 =>
    let above := s.quotas - (16384 - s.sw.withdrawn)
    let largest := (span 64 12).foldl (fun b a => if (s.accountOf b).quota < (s.accountOf a).quota then a else b) 64
    let x := s.accountOf largest
    if above = 0 ∨ x.quota = 0 then s
    else (s.lowerQuota unit largest (x.quota - above)).lowerPools unit fuel

/-- Then the unreserved part of each partition's limit, from P63 down (R231). -/
def State.lowerPartitions (s : State) (unit : Nat) : State :=
  s.each (span 0 64).reverse fun s1 a =>
    let above := s1.quotas - (16384 - s1.sw.withdrawn)
    let x := s1.accountOf a
    let res := reservedCells s1.reserved a
    s1.lowerQuota unit a (max (min x.quota res) (x.quota - above))

/-- Then the flows whose reservations do not fit, worst first; each takes its cells out of its owner's limit (R183, R231). -/
def State.lowerFlows (s : State) (unit : Nat) : Nat → List Reserved → State × List Nat
  | 0, _ => (s, [])
  | fuel + 1, flows =>
    let above := s.quotas - (16384 - s.sw.withdrawn)
    match flows.filter fun g => decide (0 < cellsFor g.2.decl g.2.promise) with
    | [] => (s, [])
    | c :: rest =>
      if above = 0 then (s, [])
      else
        let worst := rest.foldl revokeFirst c
        let x := s.accountOf worst.2.owner
        let s1 := s.lowerQuota unit worst.2.owner (x.quota - min above (cellsFor worst.2.decl worst.2.promise))
        let (s2, ids) := s1.lowerFlows unit fuel (flows.filter fun g => g.1 != worst.1)
        (s2, worst.1 :: ids)

/-- A buffer bank is withdrawn: its frames are lost and the limits follow (R231, R257). The flows to revoke come with it. -/
def State.withdrawBank (s : State) (k : Nat) : State × List Nat :=
  let s1 := (s.removeFrames fun q => bitOf q.banks k).mapSwitch fun w =>
    { w with banksOut := setBit w.banksOut k true, withdrawn := w.withdrawn + 1024, free := w.free - 1024 }
  let s2 := (s1.lowerPools (unitId 0x0D k) 12).lowerPartitions (unitId 0x0D k)
  s2.lowerFlows (unitId 0x0D k) s2.reserved.length s2.reserved

/-- A furled bank returns to service: its cells are free and unassigned. -/
def State.returnBank (s : State) (k : Nat) : State :=
  s.mapSwitch fun w =>
    { w with banksOut := setBit w.banksOut k false, withdrawn := w.withdrawn - 1024, free := w.free + 1024 }

/-- A switch port stops: frames queued to it are lost and a gate list that waits is discarded (R257). -/
def State.stopSwitchPort (s : State) (p : Nat) : State :=
  (s.removeFrames fun q => q.egress == p).mapSw p fun x => { x with nextList := none }

end Sys2Proof.Machine
end

