-- ==== Sys2Proof/Machine/CheckUnits.lean ====
section
/-! DEFINITION. What a check-value unit computes: the CRC model, folds, the alive counter, generation and check of an item
(R528-R534), and its counts and event (R530, R538). -/

namespace Sys2Proof.Machine

/-- The bits of a number in reverse order over a width. -/
def reflect : Nat → Nat → Nat
  | 0, _ => 0
  | w + 1, x => x % 2 * 2 ^ w + reflect w (x / 2)

/-- A CRC in the catalogues' parameterised model (R529). -/
structure Crc where
  width  : Nat
  poly   : Nat
  init   : Nat
  refIn  : Bool
  refOut : Bool
  xorOut : Nat
deriving DecidableEq, Repr

/-- Feed `n` bits, most significant first. -/
def Crc.feedBits (c : Crc) : Nat → Nat → Nat → Nat
  | 0, _, reg => reg
  | n + 1, bits, reg =>
    let top := decide (bitOf reg (c.width - 1) ≠ bitOf bits n)
    let shifted := reg * 2 % 2 ^ c.width
    c.feedBits n bits (if top then shifted ^^^ (c.poly % 2 ^ c.width) else shifted)

/-- Feed one byte (R529). -/
def Crc.feed (c : Crc) (reg : Nat) (b : Nat) : Nat := c.feedBits 8 (if c.refIn then reflect 8 b else b) reg

/-- Feed bytes in order. -/
def Crc.feedAll (c : Crc) (reg : Nat) (bytes : List Nat) : Nat := bytes.foldl c.feed reg

/-- The check value from the register: REFOUT, then XOROUT (R529). -/
def Crc.finish (c : Crc) (reg : Nat) : Nat :=
  (if c.refOut then reflect c.width reg else reg) ^^^ (c.xorOut % 2 ^ c.width)

/-- A 16-bit field, sign-extended to 64 bits (R528). -/
def extend16 (v : Nat) : Nat := if v < 2 ^ 15 then v else v + (2 ^ 64 - 2 ^ 16)

/-- ENABLE of a CVU block. -/
def Cvu.enabled (c : Cvu) : Bool := bitOf c.flags 6

/-- The layout that a block or its preset gives: CRC, check field, counter field and fold (R528, R534). -/
structure CvuLayout where
  crc         : Crc
  checkOffset : Nat
  bigEndian   : Bool
  counterBits : Nat
  counterPos  : Nat
  alive       : Bool
  fold        : Nat
  foldBytes   : Nat
  foldAfter   : Bool
deriving DecidableEq, Repr

/-- The layout in force: a preset's where PRESET is not 0 (R534). -/
def Cvu.layout (c : Cvu) : CvuLayout :=
  let ones (w : Nat) : Nat := 2 ^ w - 1
  match c.preset with
  | 0 =>
    { crc := { width := c.width, poly := c.poly, init := extend16 c.init % 2 ^ c.width, refIn := bitOf c.flags 0,
               refOut := bitOf c.flags 1, xorOut := extend16 c.xorOut % 2 ^ c.width },
      checkOffset := c.checkOffset, bigEndian := bitOf c.flags 4, counterBits := c.counterBits,
      counterPos := c.counterPos, alive := bitOf c.flags 2, fold := bitsOf c.fold 6 5, foldBytes := c.foldBytes,
      foldAfter := bitOf c.fold 7 }
  | 2 => ⟨⟨32, 0xF4ACFB13, ones 32, true, true, ones 32⟩, 8, true, 16, 4, true, 0, 0, false⟩
  | 3 => ⟨⟨16, 0x1021, 0xFFFF, false, false, 0⟩, 0, false, 8, 4, true, 1, 2, true⟩
  | 4 => ⟨⟨16, 0x1021, 0xFFFF, false, false, 0⟩, 0, true, 8, 8, true, 1, 2, true⟩
  | 5 => ⟨⟨64, 0x42F0E1EBA9EA3693, ones 64, true, true, ones 64⟩, 0, true, 32, 24, true, 0, 0, false⟩
  | _ => ⟨⟨8, 0x1D, 0xFF, false, false, 0xFF⟩, 0, false, 4, 2, false, 1, 2, false⟩

/-- Bytes of the check field. -/
def CvuLayout.checkBytes (l : CvuLayout) : Nat := (l.crc.width + 7) / 8

/-- Byte `i` of an item; what lies past its end comes from a free value. -/
def itemByte (data : List Byte) (stray i : Nat) : Nat :=
  match data[i]? with
  | some b => b.toNat
  | none => stray / 256 ^ (i % 8) % 256

/-- A field of an item in a byte order. -/
def itemField (data : List Byte) (stray off n : Nat) (big : Bool) : Nat :=
  let bytes := (span off n).map (itemByte data stray)
  (if big then bytes.reverse else bytes).foldr (fun b acc => b + 256 * acc) 0

/-- Write a field of an item in a byte order; bytes past the end stay away. -/
def putField (data : List Byte) (off n : Nat) (big : Bool) (v : Nat) : List Byte :=
  (span 0 n).foldl
    (fun d i => setAt d (off + i) (BitVec.ofNat 8 (v / 256 ^ (if big then n - 1 - i else i)))) data

/-- The alive counter field of an item (R530). -/
def CvuLayout.counterOf (l : CvuLayout) (data : List Byte) (stray : Nat) : Nat :=
  if l.counterBits ≤ 4 then
    itemByte data stray (l.counterPos / 2) / (if l.counterPos % 2 = 0 then 1 else 16) % 2 ^ l.counterBits
  else itemField data stray (l.counterPos / 2) ((l.counterBits + 7) / 8) l.bigEndian % 2 ^ l.counterBits

/-- Write the alive counter field (R530): a field of 4 bits or fewer takes its nibble. -/
def CvuLayout.putCounter (l : CvuLayout) (data : List Byte) (v : Nat) : List Byte :=
  if l.counterBits ≤ 4 then
    let i := l.counterPos / 2
    let b := itemByte data 0 i
    putField data i 1 false (if l.counterPos % 2 = 0 then b / 16 * 16 + v % 16 else v % 16 * 16 + b % 16)
  else putField data (l.counterPos / 2) ((l.counterBits + 7) / 8) l.bigEndian v

/-- The bytes of a number, least significant first, as numbers. -/
def lowBytes (n v : Nat) : List Nat := (span 0 n).map fun i => v / 256 ^ i % 256

/-- The check value over an item with its check field at an offset (R529). -/
def CvuLayout.checkValue (l : CvuLayout) (foldValue off : Nat) (data : List Byte) : Nat :=
  let body := (span 0 data.length).filterMap fun i =>
    if off ≤ i ∧ i < off + l.checkBytes then none else (data[i]?).map (·.toNat)
  let extra := if l.fold = 0 then [] else lowBytes l.foldBytes foldValue
  l.crc.finish (l.crc.feedAll l.crc.init ((if l.foldAfter then [] else extra) ++ body ++ (if l.foldAfter then extra else [])))

/-- The fold value of an item: the data ID, the address its place gives, or the sequence (R529). -/
def Cvu.foldValue (c : Cvu) (address : Nat) : Nat :=
  match c.layout.fold with
  | 1 => c.dataId
  | 2 => address
  | 3 => c.counter
  | _ => 0

/-- COUNTER one higher, modulo 2 to the power of COUNTER_BITS. -/
def Cvu.stepCounter (c : Cvu) : Cvu :=
  let l := c.layout
  { c with counter := (c.counter + 1) % 2 ^ l.counterBits }

/-- Report a mismatch: the vector, and CVU_MISMATCH at most once per unit per 100 ms (R530, R538). -/
def State.cvuMismatch (s : State) (n verdict : Nat) : State :=
  let c := s.cvuOf n
  let owner := s.owner kindCvu n
  let s1 := if bitOf c.flags 3 then s.vector owner (bitsOf c.fold 4 0) else s
  if c.eventAt ≠ 0 ∧ s.now < c.eventAt - 1 + 100000000 then
    s1.mapCvu n fun c => { c with eventCount := c.eventCount + 1, verdict := verdict }
  else
    (s1.mapCvu n fun c => { c with eventAt := s.now + 1, eventCount := 0, eventLost := 0,
                                   verdict := verdict }).raise
      { unit := unitId 0x20 n, code := 0x0B01, partition := owner,
        detail := pack [(0, 1, n), (1, 1, verdict), (2, 2, c.eventCount + 1), (4, 4, c.eventLost), (8, 8, s.now)] } [owner]

/-- What a check found: check value, field or expected value, verdict, items lost in it, counter or sequence value. -/
structure Checked where
  value   : Nat
  field   : Nat
  verdict : Nat
  lost    : Nat
  counter : Nat
deriving DecidableEq, Repr

/-- The verdict of an item that a CVU checks, judged from the top of R530's table. `expected` takes the field's place. -/
def Cvu.judge (c : Cvu) (address off stray : Nat) (data : List Byte) (expected : Option Nat) (compare alive : Bool) :
    Checked :=
  let l := c.layout
  let value := l.checkValue (c.foldValue address) off data
  let field := match expected with
    | some e => e
    | none => itemField data stray off l.checkBytes l.bigEndian
  let v := if l.alive then l.counterOf data stray else c.counter
  let delta := (v + 2 ^ l.counterBits - c.counter % 2 ^ l.counterBits) % 2 ^ l.counterBits
  let verdict :=
    if compare && decide (field ≠ value) then 1
    else if !(l.alive && alive) || c.first then 0
    else if delta = 0 then 2
    else if delta ≤ c.maxDelta then 0
    else 3
  { value := value, field := field, verdict := verdict,
    lost := if l.alive && alive && !c.first && decide (verdict = 0) then delta - 1 else 0, counter := v }

/-- The unit after an item with its verdict (R529, R530). -/
def Cvu.after (c : Cvu) (x : Checked) (alive : Bool) : Cvu :=
  let l := c.layout
  let c1 := { c with
    items := satAdd 32 c.items 1,
    mismatches := if x.verdict = 1 then satAdd 32 c.mismatches 1 else c.mismatches,
    repeats := if x.verdict = 2 then satAdd 32 c.repeats 1 else c.repeats,
    outOfWindow := if x.verdict = 3 then satAdd 32 c.outOfWindow 1 else c.outOfWindow,
    lost := satAdd 32 c.lost x.lost, eventLost := c.eventLost + x.lost,
    first := if alive && decide (x.verdict ≠ 1) then false else c.first,
    counter := if l.alive && alive && decide (x.verdict = 0 ∨ x.verdict = 3) then x.counter else c.counter }
  if l.fold = 3 ∧ x.verdict ≠ 1 then c1.stepCounter else c1

/-- A CVU takes an item: check value against field or `expected`, counter, counts, and the mismatch report. -/
def State.cvuItem (s : State) (n address off : Nat) (data : List Byte) (expected : Option Nat) (compare alive : Bool) :
    State × Checked :=
  let (stray, s1) := s.draw
  let x := (s1.cvuOf n).judge address off stray data expected compare alive
  let s2 := s1.mapCvu n fun c => c.after x alive
  (if x.verdict ≠ 0 then s2.cvuMismatch n x.verdict else s2, x)

/-- A CVU checks a received item (R530). -/
def State.cvuCheck (s : State) (n address off : Nat) (data : List Byte) : State × Checked :=
  s.cvuItem n address off data none true true

/-- A CVU generates: counter field, check field, and the counter one higher (R529, R530). -/
def State.cvuGenerate (s : State) (n address off : Nat) (data : List Byte) : State × List Byte :=
  let c := s.cvuOf n
  let l := c.layout
  let data1 := if l.alive then l.putCounter data (c.counter % 2 ^ l.counterBits) else data
  let value := l.checkValue (c.foldValue address) off data1
  let s1 := s.mapCvu n fun c =>
    let c1 := { c with items := satAdd 32 c.items 1 }
    if l.alive ∨ l.fold = 3 then c1.stepCounter else c1
  (s1, putField data1 off l.checkBytes l.bigEndian value)

/-- The block of a CVU as its 32 bytes (R528). -/
def Cvu.block (c : Cvu) (n : Nat) : Nat :=
  pack [(0, 1, n), (1, 1, c.preset), (2, 1, c.width), (3, 1, c.flags), (4, 1, c.fold), (5, 1, c.counterBits),
    (6, 1, c.maxDelta), (7, 1, c.checkOffset), (8, 8, c.poly), (16, 2, c.init), (18, 2, c.xorOut), (20, 4, c.dataId),
    (24, 1, c.counterPos), (25, 1, c.foldBytes), (28, 4, c.counter)]

/-- The lowest-numbered sibling of a furled CVU: same owner, disabled, in service (R533). -/
def State.cvuSibling (s : State) (n : Nat) : Option Nat :=
  (span 0 16).find? fun m => m != n && decide (s.owner kindCvu m = s.owner kindCvu n) && !(s.cvuOf m).enabled &&
    !s.furled (unitId 0x20 m)

/-- The CVU furled: its block goes to the sibling, with every object and filter that named it (R533). Without a sibling
nothing is left to run on. -/
def State.moveCvu (s : State) (n : Nat) : State :=
  match s.cvuSibling n with
  | none => s
  | some m =>
    let c := s.cvuOf n
    let s1 := (s.mapCvu m fun _ => c).mapCvu n fun x => { x with flags := x.flags % 64 }
    let s2 := s1.each (s1.can.objects.map (·.1)) fun s3 o =>
      if (s3.objOf o).cvu = some n then s3.mapObj o fun x => { x with cvu := some m } else s3
    s2.each (s2.sw.filters.map (·.1)) fun s3 f =>
      if (s3.filterOf f).cvu = some n then s3.mapFilter f fun x => { x with cvu := some m } else s3

end Sys2Proof.Machine
end

