-- ==== Sys2Proof/Machine/Channels.lean ====
section
/-! DEFINITION. The shared operations of the CAN channels and gangs: state transitions, send failures, leaving a gang, and
what stops a channel (R209, R291-R294, R314, R318). -/

namespace Sys2Proof.Machine

/-- A gang without a member; an empty gang stops (R209). -/
def Gang.without (g : Gang) (m : Nat) : Gang :=
  let drop (b : GangBlock) : GangBlock := { b with members := b.members.filter fun x => x.member != m }
  let g1 : Gang := { g with block := drop g.block, change := g.change.map drop }
  { g1 with running := g.running && !g1.block.members.isEmpty }

/-- A member leaves whatever gang of a kind it is in (R209). -/
def leaveGang (gangs : Table Gang) (m : Nat) : Table Gang :=
  gangs.foldl (fun t g => Table.put {} t g.1 (g.2.without m)) []

/-- The flows, not FREE, whose path has a CAN object. -/
def State.objectFlows (s : State) (o : Nat) : List Nat :=
  (s.flow.flows.filter fun g => g.2.state != .free && g.2.decl.path.any fun r => r.type == rObject && r.inst == o).map (·.1)

/-- FLOW_ID of an object's failure: its flow, or none. -/
def State.objectFlow (s : State) (o : Nat) : Nat :=
  match s.objectFlows o with
  | id :: _ => id
  | [] => 0xFFFF

/-- The objects of a channel that exist in the table. -/
def State.channelObjects (s : State) (c : Nat) : List Nat := (s.can.objects.map (·.1)).filter fun o => o / 128 == c

/-- Those a CAN_CHANNEL_STATE goes to: P0 and the owners of flows with an object of the channel (R291). -/
def State.channelListeners (s : State) (c : Nat) : List Nat :=
  0 :: (s.reserved.filter fun g => g.2.decl.path.any fun r => r.type == rObject && r.inst / 128 == c).map fun g => g.2.owner

/-- The transceiver mode of a channel's state (R290). -/
def transceiverOf (state : CanState) (mode : Nat) : Transceiver :=
  match state with
  | .disabled => .standby
  | .furled => .receiveOnly
  | .monitoring => .receiveOnly
  | _ => if mode = 1 then .receiveOnly else .normal

/-- A channel transition and its event (R291, R321). -/
def State.moveCan (s : State) (c : Nat) (next : CanState) : State :=
  let old := (s.canOf c).state
  let s1 := s.mapCan c fun x =>
    { x with
      state := next, transceiver := transceiverOf next x.mode,
      busOffCount := if next = .busOff then satAdd 16 x.busOffCount 1 else x.busOffCount,
      tec := if next = .errorActive ∧ (old = .busOff ∨ old = .recovering) then 0 else x.tec,
      rec_ := if next = .errorActive ∧ (old = .busOff ∨ old = .recovering) then 0 else x.rec_,
      backAt := if next = .errorActive ∧ (old = .errorPassive ∨ old = .busOff ∨ old = .recovering) then s.now + 1 else x.backAt }
  let x := s1.canOf c
  s1.raise { unit := unitId 0x10 c, code := 0x0502, severity := if next = .busOff then 3 else 1,
             detail := pack [(0, 1, c), (1, 1, old.code), (2, 1, next.code), (3, 1, min 255 x.tec), (4, 1, min 255 x.rec_),
               (5, 1, x.lastError), (6, 2, x.busOffCount)] } (s1.channelListeners c)

/-- A send frame fails (R308, R314): PENDING clears, LAST_CAUSE, counts, vector, and CAN_SEND_FAILED at most once per
object per 1 ms. -/
def State.failSend (s : State) (o cause : Nat) : State :=
  let x := s.objOf o
  let owner := s.owner kindCan o
  let s1 := s.mapObj o fun x =>
    { x with pending := false, armed := false, armedAt := none, tx := none, abort := false, lastCause := cause,
             failed := satAdd 32 x.failed 1 }
  let s2 := if x.intFail then s1.vector owner x.vector else s1
  if x.sfAt ≠ 0 ∧ s.now < x.sfAt - 1 + 1000000 then s2.mapObj o fun x => { x with sfCount := x.sfCount + 1 }
  else
    (s2.mapObj o fun x => { x with sfAt := s.now + 1, sfCount := 0 }).raise
      { unit := unitId 0x10 (o / 128), code := 0x0501, partition := owner,
        detail := pack [(0, 2, o), (2, 1, cause), (3, 1, min 255 x.attempts), (4, 2, s.objectFlow o),
          (6, 2, x.sfCount + 1), (8, 8, s.now)] } [owner]

/-- Fail every pending or armed frame of a channel that a choice names. -/
def State.failPending (s : State) (c cause : Nat) (pick : CanObject → Bool) : State :=
  s.each (s.channelObjects c) fun s1 o => if (s1.objOf o).pending && pick (s1.objOf o) then s1.failSend o cause else s1

/-- Enter BUS_OFF (R293). -/
def State.enterBusOff (s : State) (c : Nat) : State :=
  let s1 := s.moveCan c .busOff
  s1.failPending c 0x8 fun x => !(s1.canOf c).autoRecover || x.oneShot

/-- The pending frames of a channel. -/
def State.pendingOn (s : State) (c : Nat) : Nat := ((s.channelObjects c).filter fun o => (s.objOf o).pending).length

/-- A channel stops because its unit is furled or its clock is lost (R212, R318): frames fail, gang membership ends. -/
def State.stopCan (s : State) (c : Nat) (standby : Bool) : State :=
  let s1 := s.failPending c 0xA fun _ => true
  let s2 : State := { s1 with time := { s1.time with canGangs := leaveGang s1.time.canGangs c } }
  let s3 := if (s2.canOf c).state = .furled then s2 else s2.moveCan c .furled
  if standby then s3.mapCan c fun x => { x with transceiver := .standby } else s3

end Sys2Proof.Machine
end

