-- ==== Sys2Proof/Machine/LinBus.lean ====
section
/-! DEFINITION. The shared operations of the LIN channels: protected identifiers and checksums, schedules, errors, and what
stops a channel (R322-R330). -/

namespace Sys2Proof.Machine

/-- The protected ID of a frame ID: two parity bits above it (ISO 17987-3). PRESUMED (log entry 17). -/
def protectedId (id : Nat) : Nat :=
  let b (i : Nat) : Nat := id / 2 ^ i % 2
  let p0 := (b 0 + b 1 + b 2 + b 4) % 2
  let p1 := 1 - (b 1 + b 3 + b 4 + b 5) % 2
  id % 64 + 64 * p0 + 128 * p1

/-- The LIN checksum: the inverted sum with carry of the data, and of the protected ID when enhanced (ISO 17987-3).
PRESUMED (log entry 17). -/
def linChecksum (enhanced : Bool) (id : Nat) (data : List Byte) : Nat :=
  255 - (data.foldl (fun acc b => let x := acc + b.toNat; if 255 < x then x - 255 else x)
    (if enhanced then protectedId id else 0))

/-- An entry of a channel's table. -/
def LinChannel.entryAt (c : LinChannel) (q : Nat) : Option LinEntry := c.table[q]?

/-- An entry's buffer. -/
def LinChannel.buf (c : LinChannel) (q : Nat) : LinBuf := Table.get {} c.bufs q

/-- Change an entry's buffer. -/
def LinChannel.mapBuf (c : LinChannel) (q : Nat) (f : LinBuf → LinBuf) : LinChannel :=
  { c with bufs := Table.modify {} c.bufs q f }

/-- The flows, not FREE, on a slot of a channel. -/
def State.linFlows (s : State) (c q : Nat) : List Nat :=
  (s.flow.flows.filter fun g => g.2.state != .free &&
    g.2.decl.path.any fun r => r.type == rLin && r.inst == c && r.qual == q).map (·.1)

/-- Whether an ADMITTED or HELD flow uses a channel. -/
def State.linReserved (s : State) (c : Nat) : Bool :=
  s.reserved.any fun g => g.2.decl.path.any fun r => r.type == rLin && r.inst == c

/-- Count a bus error: 1 checksum, 2 no response, 3 framing, 4 bit (R328, R337). LIN_ERROR at most once per channel per
100 ms. -/
def State.linError (s : State) (c q kind : Nat) : State :=
  let s1 := s.mapLin c fun x =>
    { x with
      inFrame := false,
      checksum := if kind = 1 then satAdd 32 x.checksum 1 else x.checksum,
      noResponse := if kind = 2 then satAdd 32 x.noResponse 1 else x.noResponse,
      framing := if kind = 3 then satAdd 32 x.framing 1 else x.framing,
      bitErrors := if kind = 4 then satAdd 32 x.bitErrors 1 else x.bitErrors,
      errCount := x.errCount + 1 }
  let x := s1.linOf c
  if x.errAt ≠ 0 ∧ s.now < x.errAt - 1 + 100000000 then s1
  else
    (s1.mapLin c fun x => { x with errAt := s.now + 1, errCount := 0 }).raise
      { unit := unitId 0x11 c, code := 0x0601, partition := s.owner kindLin c,
        detail := pack [(0, 1, c), (1, 1, q), (2, 1, kind), (4, 4, x.errCount)] } [s.owner kindLin c]

/-- Start the table of a commander channel at entry 0. -/
def State.startSchedule (s : State) (c : Nat) : State :=
  s.mapLin c fun x =>
    { x with running := x.enable && x.commander && !x.table.isEmpty, entry := 0, slotAt := s.now, inFrame := false,
             stopAfter := false, sleepAfter := false, asleep := false, restartAt := none }

/-- A channel stops: its unit is furled or its clock is lost (R212, R330). -/
def State.stopLin (s : State) (c : Nat) : State :=
  s.mapLin c fun x => { x with running := false, inFrame := false, restartAt := none }

/-- A quiesce stops a commander's schedule at the end of the current slot (R330). -/
def State.quiesceLin (s : State) (p : Nat) : State :=
  s.each ((span 0 8).filter fun c => s.owner kindLin c = p) fun s1 c =>
    s1.mapLin c fun x => { x with stopAfter := x.running }

/-- A resume restarts the table at entry 0 (R330). -/
def State.resumeLin (s : State) (p : Nat) : State :=
  s.each ((span 0 8).filter fun c => s.owner kindLin c = p) fun s1 c =>
    if (s1.linOf c).commander ∧ ¬ (s1.linOf c).asleep then s1.startSchedule c else s1

end Sys2Proof.Machine
end

