-- ==== Sys2Proof/Machine/Links.lean ====
section
/-! DEFINITION. The shared operations of the Ethernet PHYs: link states and their events (R269-R279). -/

namespace Sys2Proof.Machine

/-- Whether a flow crosses a port (R272). -/
def State.crosses (s : State) (f : Flow) (p : Nat) : Bool :=
  f.decl.path.any fun r =>
    ((r.type == rEgress || r.type == rT1s) && r.inst == p) || (r.type == rStream && bitOf (s.filterOf r.inst).ports p)

/-- The owners of ADMITTED and HELD flows that cross a port, with P0 (R272). -/
def State.crossers (s : State) (p : Nat) : List Nat :=
  0 :: (s.reserved.filter fun g => s.crosses g.2 p).map fun g => g.2.owner

/-- Whether an ADMITTED flow crosses a port (R285). -/
def State.admittedOn (s : State) (p : Nat) : Bool :=
  s.flow.flows.any fun g => g.2.state == .admitted && s.crosses g.2 p

/-- SQI as reported: 0xFF on ports 10 and 11, 0 unless UP, otherwise a measurement that nothing fixes (R274). -/
def State.sqi (s : State) (p : Nat) : Nat × State :=
  if 10 ≤ p then (0xFF, s)
  else if (s.ethOf p).link = .up then (s.draw.1 % 8, s.draw.2)
  else (0, s)

/-- A link transition and its ETH_LINK_STATE (R269, R286). -/
def State.moveLink (s : State) (p : Nat) (next : LinkState) (cause : Nat) : State :=
  let old := (s.ethOf p).link
  let s1 := s.mapEth p fun x =>
    { x with link := next, changed := s.now, sleepPending := false,
             linkDrops := if cause = 0x02 then satAdd 32 x.linkDrops 1 else x.linkDrops }
  let s0 := if next = .up then s1.mapSw p fun x => { x with verifyFail := 0 } else s1
  let (q, s2) := s0.sqi p
  let s3 := s2.raise { unit := unitId 0x0F p, code := 0x0440, severity := if cause = 0x02 ∨ cause = 0x0A then 2 else 1,
                       detail := pack [(0, 1, p), (1, 1, old.code), (2, 1, next.code), (3, 1, cause), (4, 1, q),
                         (8, 4, (s2.ethOf p).linkDrops)] } (s2.crossers p)
  if (s.ethOf p).sleepPending then s3.opEnd 0x0443 .done else s3

/-- ETH_CABLE_RESULT (R283, R286). -/
def State.cableResult (s : State) (p result distance : Nat) : State :=
  (s.raise { unit := unitId 0x0F p, code := 0x0441,
             detail := pack [(0, 1, p), (1, 1, result),
               (2, 2, if result = 1 ∨ result = 2 then distance else 0)] } [0]).opEnd 0x0445 .done

/-- The PHY stops: its unit is furled, or a clock it needs is lost (R212, R273). -/
def State.stopPhy (s : State) (p : Nat) : State :=
  if (s.ethOf p).link = .furled then s else s.moveLink p .furled 0x0A

/-- Ports in SLEEP with WAKE_FORWARD send a wake pulse when the TZ7 returns to Run (R278). -/
def State.forwardWakes (s : State) : State :=
  s.each (span 2 8) fun s1 p =>
    if (s1.ethOf p).link = .sleep ∧ (s1.ethOf p).wakeForward then s1.moveLink p .training 0x06 else s1

/-- The ETH_TC10_REQUEST that waited for Masthead (R279). -/
def State.postTc10Requests (s : State) : State :=
  s.each (span 2 8) fun s1 p =>
    if (s1.ethOf p).requestHeld then
      (s1.mapEth p fun x => { x with requestHeld := false }).raise
        { unit := unitId 0x0F p, code := 0x0442, detail := pack [(0, 1, p), (1, 1, 0x02)] } [0]
    else s1

end Sys2Proof.Machine
end

