-- ==== Sys2Proof/Machine/WakeRules.lean ====
section
/-! DEFINITION. The rules of wake sources that other chapters touch: what is watched, validation windows and their evidence, false
wakes and mutes, and the end of a sleep entry (R339, R346, R348, R357-R361, R365). -/

namespace Sys2Proof.Machine

/-- Whether a number names a wake source that can be configured (R339, cmd 0x0D03). -/
def wakeSource (w : Nat) : Bool :=
  decide (w ≤ 0x0B) || within w 0x10 0x17 || within w 0x22 0x29 || within w 0x30 0x33 || decide (w = 0x40)

/-- Whether a source is a wake line. -/
def wakeLine (w : Nat) : Bool := within w 0x30 0x33

/-- The unit of a source whose furl ends its watch (R318, R37). -/
def wakeUnit (w : Nat) : Nat :=
  if w ≤ 0x0B then unitId 0x10 w
  else if w ≤ 0x17 then unitId 0x11 (w - 0x10)
  else if w ≤ 0x29 then unitId 0x0F (w - 0x20)
  else unitId 0x1B (w - 0x30)

/-- Whether a source is enabled for a target: 2 Meadow, 3 Heath. -/
def WakeSource.enabledFor (x : WakeSource) (target : Nat) : Bool := if target = 3 then x.heath else x.meadow

/-- Whether a source that can be configured is watched for a target (R339, R340, R360): enabled, not muted, not furled. -/
def State.watched (s : State) (w target : Nat) : Bool :=
  wakeSource w && decide (w ≠ 0x40) && (s.wakeOf w).enabledFor target && !(s.wakeOf w).muted && !s.furled (wakeUnit w)

/-- The sources of the wake table but the alarm. -/
def wakeSources : List Nat := span 0 12 ++ span 0x10 8 ++ span 0x22 8 ++ span 0x30 4

/-- Whether every wake of a source is genuine (R359). -/
def State.alwaysGenuine (s : State) (w : Nat) : Bool := decide (0x40 ≤ w) || (wakeLine w && (s.wakeOf w).muteExempt)

/-- The wake record's sources of mutes that have not been reported (R361). -/
def State.mutesOwed (s : State) : List Nat := wakeSources.filter fun w => (s.wakeOf w).reportOwed

/-- Post one WAKE_MUTED for each source muted since the last genuine wake (R358, R361, R365). -/
def State.reportMutes (s : State) : State :=
  s.each s.mutesOwed fun s1 w =>
    let x := s1.wakeOf w
    (s1.mapWake w fun x => { x with reportOwed := false }).raise
      { unit := 0, code := 0x0D04, severity := 2,
        detail := pack [(0, 1, w), (1, 1, x.falseLimit), (2, 2, x.mutes), (4, 4, x.muteS), (8, 8, x.muteUntil)] } [0]

/-- What a genuine wake reports and clears: the mutes owed, the false wakes, and the doubling of the sources that woke
genuinely (R360, R361). -/
def State.settleGenuine (s : State) : State :=
  let s1 := s.reportMutes
  let s2 := s1.each wakeSources fun t w => if (t.wakeOf w).validated then t.mapWake w fun x => { x with mutes := 0 } else t
  { s2 with sleep := { s2.sleep with genuine := false, falseSince := 0 } }

/-- A wake of a source is genuine (R359-R361): its FALSE_COUNT clears, and mutes are reported, when Run is entered if it is not in
force yet. When the report of a wake that validates in Run goes out: DEDUCED (log entry 44). -/
def State.genuineWake (s : State) (w : Nat) : State :=
  let s1 := if w < 0x40 then
      s.mapWake w fun x => { x with validated := true, windowOpen := false, windowAt := none, falseCount := 0 } else s
  if s1.sleep.power = .run ∧ s1.boot.phase = .run then s1.settleGenuine
  else { s1 with sleep := { s1.sleep with genuine := true } }

/-- Evidence that a source's wake was genuine (R359). -/
def State.evidence (s : State) (w : Nat) : State := if (s.wakeOf w).windowOpen then s.genuineWake w else s

/-- A wake opens its source's validation window; it closes VALIDATION_MS after Run is entered (R359). -/
def State.openWindow (s : State) (w : Nat) : State :=
  let s1 := if w < 0x40 then
      s.mapWake w fun x =>
        { x with windowOpen := true, validated := false, lastWake := s.now,
                 windowAt := if s.sleep.power = .run ∧ s.boot.phase = .run then some (s.now + x.validMs * 1000000) else none }
    else s
  if s.alwaysGenuine w then s1.genuineWake w else s1

/-- Mute a source (R360): each further mute without a genuine wake doubles the interval, up to a day. -/
def WakeSource.mute (x : WakeSource) (now : Nat) : WakeSource :=
  let interval := if x.mutes = 0 then x.backoffS else min 86400 (2 * x.muteS)
  { x with muted := true, falseCount := 0, mutes := satAdd 16 x.mutes 1, muteS := interval,
           muteUntil := now + interval * 1000000000, reportOwed := true }

/-- A wake whose window closes without evidence is false (R359, R360). -/
def State.falseWake (s : State) (w : Nat) : State :=
  let s1 := s.mapWake w fun x =>
    let y : WakeSource := { x with windowOpen := false, windowAt := none, falseCount := x.falseCount + 1 }
    if y.falseLimit ≤ y.falseCount ∧ ¬ y.muteExempt then y.mute s.now else y
  { s1 with sleep := { s1.sleep with falseSince := satAdd 16 s1.sleep.falseSince 1 } }

/-- SLEEP_ENTRY_END (R365); a command list that waits for the entry goes on (R589). -/
def State.entryEnd (s : State) (st : Status) (target phase source offCount : Nat) : State :=
  (s.raise { unit := 0, code := 0x0D01,
             detail := pack [(0, 1, st.code), (1, 1, target), (2, 1, phase), (3, 1, source), (4, 2, offCount), (8, 8, s.now)] }
    [0]).opEnd 0x0D01 st

/-- An entry ends before its commit point (R346, R348): the TZ7 stays in Run. -/
def State.abortEntry (s : State) (st : Status) (source : Nat) : State :=
  match s.sleep.entry with
  | some e =>
    if e.committed then s
    else
      ({ s with sleep := { s.sleep with entry := none, pendingWake := none } } : State).entryEnd st e.target e.phase source e.offCount
  | none => s

/-- A source is no longer watched during an entry: without another one the entry ends with UNIT_FURLED (R348). -/
def State.sourceLost (s : State) : State :=
  match s.sleep.entry with
  | some e =>
    if e.committed || decide (e.target = 1) || (wakeSources.any fun w => s.watched w e.target) || decide (s.sleep.alarm ≠ 0) then s
    else s.abortEntry .unitFurled 0xFF
  | none => s

/-- Leave Idle with the trigger's source (R343, R365). -/
def State.leaveIdle (s : State) (source : Nat) : State :=
  ({ s with sleep := { s.sleep with power := .run, pendingWake := none } } : State).raise
    { unit := 0, code := 0x0D03, detail := pack [(0, 1, source), (8, 8, s.now)] } [0]

end Sys2Proof.Machine
end

