-- ==== Sys2Proof/Machine/Sleep.lean ====
section
/-! DEFINITION. The meanings of the sleep and wake commands and events (10). -/

namespace Sys2Proof.Machine

/-- Fractional bits of the fixed point in which a wire cools; DESIGN CHOICE (log entry 12). -/
def coolBits : Nat := 64

/-- The sum of the series of the exponential: `n` more terms, the next one `i`-th with the given value. -/
def expSeries (x : Nat) : Nat → Nat → Nat → Nat
  | 0, _, _ => 0
  | n + 1, i, term => term + expSeries x n (i + 1) (term * x / (2 ^ coolBits * (i + 1)))

/-- θ · exp(−Δt / τ) (R386), Δt in ns and τ in 0.1 s, rounded down in fixed point. -/
def coolTheta (theta dt tau : Nat) : Nat :=
  let x := dt * 2 ^ coolBits / (max 1 tau * 100000000)
  let ln2 := 12786308645202655659
  if 256 < x / ln2 then 0 else theta * 2 ^ coolBits / expSeries (x % ln2) 30 0 (2 ^ coolBits) / 2 ^ (x / ln2)

/-- Whether an Ethernet source enabled for Meadow has its port in another state than SLEEP (R340). -/
def State.portAwake (s : State) : Bool :=
  (span 2 8).any fun p => (s.wakeOf (0x20 + p)).meadow && (s.ethOf p).link != .sleep

/-- SLEEP_ENTER (cmd 0x0D01, R340). -/
def cmdSleepEnter : Command where
  opcode := 0x0D01
  paramLen := 8
  used := [(0, 0, 8)]
  manager := true
  range r := within (r.byte 0) 1 3
  checks r s :=
    let deep := decide (2 ≤ r.byte 0)
    [(s.sleep.entry.isSome, .sleepPending),
     ((span 1 63).any fun p => let x := (s.io.part p).state; x != .quiet && x != .free, .quiesceRequired),
     (!deep && (s.flow.flows.any fun g => g.2.state == .admitted), .sleepFlowsAdmitted),
     (deep && s.furled (unitId 0x24 1), .unitFurled),
     (deep && (!((wakeSources.any fun w => s.watched w (r.byte 0)) || decide (s.sleep.alarm ≠ 0)) || s.portAwake), .wakeConfigInvalid)]
  run r s :=
    let e : SleepEntry :=
      { target := r.byte 0, phase := if r.byte 0 = 1 then 0 else 1, phaseAt := s.now, offCount := 0, committed := false }
    .accepted (pack [(0, 8, s.now)]) { s with sleep := { s.sleep with entry := some e, pendingWake := none } }

/-- SLEEP_ENTER. -/
def execSleepEnter (r : Request) (s : State) : Host.Outcome State Fault Refusal := cmdSleepEnter.step r s

/-- Phase 2: every channel and sensor supply output goes off until it is commanded again (R344, R346). -/
def State.outputsOff (s : State) : State × Nat :=
  let on := entryChannels.filter fun n => (s.loadOf n).appOn || decide ((s.loadOf n).appBridge ≠ 0)
  let s1 := s.each (span 0 48) fun t n => t.mapLoad n fun c => { c with forced := some {}, safe := false, held := false }
  let s2 := s1.each entryChannels State.redrive
  (s2.each (span 0 4) fun t o => t.mapSensor o fun x => { x with on := false, restartAt := none }, on.length)

/-- Whether phase 2 may end: every current is below 50 mA, or 5 ms have passed (R344). -/
def State.outputsQuiet (s : State) (e : SleepEntry) : Bool :=
  decide (e.phaseAt + 5000000 ≤ s.now) || s.load.channels.all fun c => decide (c.currentUa.natAbs < 50000)

/-- The commit point (R344, R357, R359, R386): open windows are judged, the record is cleared, Device Time is stamped, θ is kept, and
the transceivers go to wake detection or off. -/
def State.commitSleep (s : State) (e : SleepEntry) : State :=
  let s1 := s.each wakeSources fun t w => if (t.wakeOf w).windowOpen then t.falseWake w else t
  let s2 := s1.refreshReference
  let s3 := s2.each (span 0 12) fun t c => t.mapCan c fun x =>
    { x with transceiver := if (t.wakeOf c).enabledFor e.target then .wakeDetect else .off }
  { s3 with sleep := { s3.sleep with
      entry := some { e with phase := 3, phaseAt := s.now, committed := true }
      commitAt := s.now, leftState := e.target, record := [], overflow := false, genuine := false, pendingWake := none,
      thetas := s.load.channels.map fun c => c.theta } }

/-- A start from Meadow or Heath (R21, R356, R386, R581): the compute die at its reset, every wire cooler by the time asleep. -/
def State.startFromSleep (s : State) : State :=
  let dt := s.now - s.sleep.commitAt
  let woken := (s.sleep.record.map fun x => x.source).filter fun w => within w 0x22 0x29
  let s1 := s.clearCompute true
  let s2 : State := { s1 with
    load := { s1.load with channels := s1.load.channels.zipIdx.map fun (x : LoadChannel × Nat) =>
      { x.1 with theta := coolTheta (nth x.1.theta s.sleep.thetas x.2) dt x.1.params.tau } }
    sleep := { s1.sleep with thetas := [] }
    boot := { s1.boot with start := if s.sleep.leftState = 3 then 5 else 4, cause := 0 } }
  s2.each woken fun t w => t.mapEth (w - 0x20) fun x => if x.link = .sleep then { x with link := .training } else x

/-- Take an entry of the wake record: one for a source, eight at most (R357). -/
def State.recordWake (s : State) (source detail : Nat) (late : Bool) : State :=
  let x : WakeRecord := { source := source, detail := detail, late := late, left := s.sleep.leftState, time := s.now }
  if s.sleep.record.any fun y => y.source == source then s
  else if s.sleep.record.length < 8 then { s with sleep := { s.sleep with record := s.sleep.record ++ [x] } }
  else { s with sleep := { s.sleep with overflow := true } }

/-- Whether a start from sleep has not entered Run yet (R357). -/
def State.waking (s : State) : Bool := decide (4 ≤ s.boot.start) && s.boot.phase != .run && s.computeOn

/-- A wake is latched (R342, R346, R347, R355-R357): before the commit point it aborts the entry, after it it is recorded, and it
starts the compute die once that has been unpowered for 1 ms. -/
def State.latchWake (s : State) (source detail : Nat) : State :=
  let start (t : State) (late : Bool) : State := (t.recordWake source detail late).openWindow source
  match s.sleep.entry with
  | some e =>
    if e.target = 1 then { s with sleep := { s.sleep with pendingWake := some source } }
    else if e.committed then
      let t := start s true
      { t with sleep := { t.sleep with pendingWake := some source } }
    else (s.openWindow source).abortEntry .sleepAbortedWake source
  | none =>
    match s.sleep.power with
    | .idle => s.leaveIdle source
    | .run => if s.waking then start s false else s
    | _ => if s.sleep.pendingWake.isSome then start s false else (start s false).startFromSleep

/-- The target in whose watch a wake falls: of the entry in progress, of the state the TZ7 sleeps in, or that it is waking from. -/
def State.watchTarget (s : State) : Nat :=
  match s.sleep.entry with
  | some e => if e.target = 1 then 2 else e.target
  | none =>
    match s.sleep.power with
    | .heath => 3
    | .run => s.sleep.leftState
    | _ => 2

/-- Whether a source can end Idle (R342): enabled for Meadow, or a wake line enabled at all, muted or not. -/
def State.endsIdle (s : State) (w : Nat) : Bool :=
  wakeSource w && ((s.wakeOf w).meadow || (wakeLine w && (s.wakeOf w).heath)) && !s.furled (wakeUnit w)

/-- Whether a wake of a source counts now (R338, R342, R360). -/
def State.mayWake (s : State) (w : Nat) : Bool :=
  if s.sleep.power == .idle || (match s.sleep.entry with | some e => decide (e.target = 1) | none => false) then s.endsIdle w
  else s.watched w s.watchTarget

/-- WAKE_LATCH (R346, R347, R351-R353, R356): a filtered wake. A CAN source with SELECTIVE wakes only through its decoder. -/
def execWakeLatch (source _detail : Nat) (s : State) : Host.Outcome State Fault Refusal :=
  if s.supply.unpowered || !s.mayWake source || (decide (source ≤ 0x0B) && (s.wakeOf source).selective) then .next s
  else .next (s.latchWake source (if source ≤ 0x0B then 1 else 0))

/-- Whether a frame is a selective wake frame of a channel (R350). -/
def SelectiveFilter.matches (x : SelectiveFilter) (f : CanFrame) : Bool :=
  f.format.val == 0 && !f.rtr && f.ide == x.ide && decide ((f.id.toNat ^^^ x.id) &&& x.idMask = 0) &&
  decide (f.payload.length = x.dlc) &&
  (decide (x.dataMask = 0) || decide (ofBytes f.payload &&& x.dataMask ≠ 0))

/-- SELECTIVE_WAKE_DECODER_FRAME (R349, R350): errors count up, error-free classical frames down; FD and XL frames are ignored. -/
def execSelectiveWakeDecoderFrame (channel : Nat) (ok : Bool) (frame : CanFrame) (s0 : State) :
    Host.Outcome State Fault Refusal :=
  let s := if ok ∧ frame.format.val = 0 then s0.evidence channel else s0
  let x := s.wakeOf channel
  let watching := (match s.sleep.entry with | some e => decide (e.target = 2) | none => s.sleep.power == .meadow)
  if s.supply.unpowered || decide (11 < channel) || !x.selective || !watching || !s.watched channel 2 then .next s
  else if !ok then
    let s1 := s.mapWake channel fun x => { x with errorCount := if 31 ≤ x.errorCount then 0 else x.errorCount + 1 }
    .next (if 31 ≤ x.errorCount then s1.latchWake channel 3 else s1)
  else if frame.format.val ≠ 0 then .next s
  else
    let s1 := s.mapWake channel fun x => { x with errorCount := x.errorCount - 1 }
    .next (if (Table.get {} s.sleep.filters channel).matches frame then s1.latchWake channel 2 else s1)

/-- SLEEP_ENTRY_PHASE (R344, R347): the phase in progress ends, or a late wake begins its start. -/
def execSleepEntryPhase (s : State) : Host.Outcome State Fault Refusal :=
  match s.sleep.entry with
  | none =>
    match s.sleep.pendingWake with
    | some _ =>
      if (s.sleep.power == .meadow || s.sleep.power == .heath) && decide (s.sleep.unpoweredAt + 1000000 ≤ s.now) then
        .next ({ s with sleep := { s.sleep with pendingWake := none } } : State).startFromSleep
      else .next s
    | none => .next s
  | some e =>
    if e.target = 1 then
      let s1 := ({ s with sleep := { s.sleep with entry := none } } : State).entryEnd .done 1 0 0xFF 0
      let s2 : State := { s1 with sleep := { s1.sleep with power := .idle } }
      .next (match s.sleep.pendingWake with | some w => s2.leaveIdle w | none => s2)
    else
      match e.phase with
      | 1 =>
        let (s1, n) := (s.each s.slotNumbers State.raiseMark).outputsOff
        .next { s1 with sleep := { s1.sleep with entry := some { e with phase := 2, phaseAt := s.now, offCount := n } } }
      | 2 => if s.outputsQuiet e then .next (s.commitSleep e) else .next s
      | _ =>
        .next { s with sleep := { s.sleep with
          entry := none, power := if e.target = 3 then .heath else .meadow, unpoweredAt := s.now } }

/-- SLEEP_CANCEL (cmd 0x0D02, R348). -/
def cmdSleepCancel : Command where
  opcode := 0x0D02
  manager := true
  checks _ s :=
    [(s.sleep.entry.isNone, .sleepNotPending), ((match s.sleep.entry with | some e => e.committed | none => false), .sleepCommitted)]
  run _ s := .finish .done (pack [(0, 8, s.now)]) s fun t => t.abortEntry .sleepCancelled 0xFF

/-- SLEEP_CANCEL. -/
def execSleepCancel (r : Request) (s : State) : Host.Outcome State Fault Refusal := cmdSleepCancel.step r s

/-- Whether the fields of WAKE_SOURCE_SET are in range and fit the source (cmd 0x0D03). -/
def wakeSettingsOk (r : Request) : Bool :=
  let w := r.byte 0
  let bus := decide (w ≤ 0x17)
  wakeSource w && (!wakeLine w || decide (1 ≤ r.byte 2)) && (!bus || decide (r.byte 3 ≤ 3)) && within (r.byte 4) 1 15 &&
    within (r.field 6 2) 10 5000 && within (r.field 8 4) 60 86400 && (!r.bit 1 1 || wakeLine w) &&
    (!r.bit 1 2 || decide (w ≤ 0x0B)) && (!(r.bit 1 3 || r.bit 1 4) || wakeLine w) &&
    (decide (w ≠ 0x40) || decide (r.bits 1 4 0 = 0))

/-- WAKE_SOURCE_SET (cmd 0x0D03, R360). -/
def cmdWakeSourceSet : Command where
  opcode := 0x0D03
  paramLen := 16
  used := [(0, 0, 8), (1, 0, 6), (2, 0, 24), (6, 0, 48)]
  manager := true
  shape r := wakeLine (r.byte 0) || decide (r.byte 2 = 0)
  featureBad r s := r.bit 1 2 && !s.has 0 .canSelectiveWake
  range := wakeSettingsOk
  checks r s :=
    [(within (r.byte 0) 0x22 0x29 && !(s.ethOf (r.byte 0 - 0x20)).tc10, .badParam), (s.sleep.entry.isSome, .sleepPending)]
  run r s :=
    let s1 := s.mapWake (r.byte 0) fun x =>
      let y : WakeSource :=
        { x with meadow := r.bit 1 0, heath := r.bit 1 1, selective := r.bit 1 2, activeLow := r.bit 1 3, muteExempt := r.bit 1 4,
                 debounce := if wakeLine (r.byte 0) then r.byte 2 else x.debounce, bitRate := r.byte 3, falseLimit := r.byte 4,
                 validMs := r.field 6 2, backoffS := r.field 8 4 }
      if r.bit 1 5 then { y with muted := false, muteUntil := 0 } else y
    .done (pack [(0, 8, if (s1.wakeOf (r.byte 0)).muted then (s1.wakeOf (r.byte 0)).muteUntil else 0)]) s1

/-- WAKE_SOURCE_SET. -/
def execWakeSourceSet (r : Request) (s : State) : Host.Outcome State Fault Refusal := cmdWakeSourceSet.step r s

/-- WAKE_SELECTIVE_SET (cmd 0x0D04). -/
def cmdWakeSelectiveSet : Command where
  opcode := 0x0D04
  paramLen := 24
  used := [(0, 0, 8), (1, 0, 1), (4, 0, 72), (16, 0, 64)]
  manager := true
  featureBad _ s := !s.has 0 .canSelectiveWake
  range r := decide (r.byte 0 < 12) && decide (r.byte 12 ≤ 8) &&
    decide (r.field 4 4 < (if r.bit 1 0 then 2 ^ 29 else 2 ^ 11)) && decide (r.field 8 4 < 2 ^ 29)
  checks _ s := [(s.sleep.entry.isSome, .sleepPending)]
  run r s :=
    let x : SelectiveFilter :=
      { ide := r.bit 1 0, id := r.field 4 4, idMask := r.field 8 4, dlc := r.byte 12, dataMask := r.field 16 8 }
    .done 0 { s with sleep := { s.sleep with filters := Table.put {} s.sleep.filters (r.byte 0) x } }

/-- WAKE_SELECTIVE_SET. -/
def execWakeSelectiveSet (r : Request) (s : State) : Host.Outcome State Fault Refusal := cmdWakeSelectiveSet.step r s

/-- WAKE_QUERY (cmd 0x0D05). -/
def cmdWakeQuery : Command where
  opcode := 0x0D05
  fast := true
  paramLen := 4
  used := [(0, 0, 16)]
  manager := true
  range r := (decide (r.byte 0 = 0) && decide (r.byte 1 < 8)) || (decide (r.byte 0 = 1) && wakeSource (r.byte 1))
  run r s :=
    if r.byte 0 = 0 then
      match s.sleep.record[r.byte 1]? with
      | none => .done (pack [(0, 1, 0xFF)]) s
      | some x =>
        .done (pack [(0, 1, x.source), (1, 1, x.detail), (2, 1, flag x.late + 2 * flag (r.byte 1 = 0)), (3, 1, x.left), (8, 8, x.time)]) s
    else
      let x := s.wakeOf (r.byte 1)
      .done (pack [(0, 1, x.falseCount), (1, 1, flag x.muted + 2 * flag x.windowOpen + 4 * flag x.validated), (2, 1, min 255 x.mutes),
        (8, 8, if x.muted then x.muteUntil else 0), (16, 8, x.lastWake)]) s

/-- WAKE_QUERY. -/
def execWakeQuery (r : Request) (s : State) : Host.Outcome State Fault Refusal := cmdWakeQuery.step r s

/-- WAKE_VALIDATE (cmd 0x0D06, R359). -/
def cmdWakeValidate : Command where
  opcode := 0x0D06
  fast := true
  paramLen := 4
  used := [(0, 0, 8)]
  manager := true
  range r := wakeLine (r.byte 0)
  checks r s := [(!(s.wakeOf (r.byte 0)).windowOpen, .wakeWindowClosed)]
  run r s := .finish .done 0 s fun t => t.genuineWake (r.byte 0)

/-- WAKE_VALIDATE. -/
def execWakeValidate (r : Request) (s : State) : Host.Outcome State Fault Refusal := cmdWakeValidate.step r s

/-- The first RTC tick at or after a Device Time (R196, R354). -/
def State.rtcTick (s : State) (t : Nat) : Nat :=
  s.time.tRef + ceilDiv (ceilDiv ((t - s.time.tRef) * 32768) 1000000000 * 1000000000) 32768

/-- RTC_ALARM_SET (cmd 0x0D07, R354). -/
def cmdRtcAlarmSet : Command where
  opcode := 0x0D07
  paramLen := 8
  used := [(0, 0, 64)]
  manager := true
  checks r s := [(decide (r.field 0 8 ≠ 0) && decide (r.field 0 8 ≤ s.now), .badParam)]
  run r s :=
    let t := if r.field 0 8 = 0 then 0 else s.rtcTick (r.field 0 8)
    .done (pack [(0, 8, t)]) { s with sleep := { s.sleep with alarm := t } }

/-- RTC_ALARM_SET. -/
def execRtcAlarmSet (r : Request) (s : State) : Host.Outcome State Fault Refusal := cmdRtcAlarmSet.step r s

/-- RTC_ALARM (R348, R354): the alarm's instant is reached; it is cleared, and in Run it has no other effect. -/
def execRtcAlarm (s : State) : Host.Outcome State Fault Refusal :=
  if s.sleep.alarm = 0 ∨ s.now < s.sleep.alarm ∨ s.supply.unpowered then .next s
  else .next (({ s with sleep := { s.sleep with alarm := 0 } } : State).latchWake 0x40 0)

/-- IDLE_EXIT (R342, R343): CAUSE 0 is work for a core, else the trigger is a wake source. -/
def execIdleExit (cause source : Nat) (s : State) : Host.Outcome State Fault Refusal :=
  let w := if cause = 0 then 0x70 else source
  let entering := (match s.sleep.entry with | some e => decide (e.target = 1) | none => false)
  if decide (cause ≠ 0) && !s.endsIdle source then .next s
  else if s.sleep.power = .idle then .next (s.leaveIdle w)
  else if entering then .next { s with sleep := { s.sleep with pendingWake := some w } }
  else .next s

/-- WAKE_WINDOW_EXPIRY (R359, R360). -/
def execWakeWindowExpiry (source : Nat) (s : State) : Host.Outcome State Fault Refusal :=
  match (s.wakeOf source).windowAt with
  | some t => if wakeSource source ∧ (s.wakeOf source).windowOpen ∧ t ≤ s.now then .next (s.falseWake source) else .next s
  | none => .next s

/-- WAKE_MUTE_EXPIRY (R360). -/
def execWakeMuteExpiry (source : Nat) (s : State) : Host.Outcome State Fault Refusal :=
  if wakeSource source ∧ (s.wakeOf source).muted ∧ (s.wakeOf source).muteUntil ≤ s.now then
    .next (s.mapWake source fun x => { x with muted := false, muteUntil := 0 })
  else .next s

/-- What follows the entry into Run after Meadow or Heath (R278, R358, R359): WAKE_REPORT, the mutes that a genuine wake reports, the
validation windows' ends, and the wake pulses that are forwarded. -/
def State.reportWake (s : State) : State :=
  match s.sleep.record with
  | [] => s.forwardWakes
  | x :: _ =>
    let s1 := s.raise
      { unit := 0, code := 0x0D02,
        detail := pack [(0, 1, x.source), (1, 1, x.left), (2, 1, flag x.late + 2 * flag s.tamperHeld + 4 * flag s.sleep.overflow),
          (3, 1, s.sleep.record.length), (4, 2, s.mutesOwed.length), (6, 2, s.sleep.falseSince), (8, 8, x.time)] } [0]
    let s2 := if s1.sleep.genuine then s1.settleGenuine else s1
    let s3 := s2.each wakeSources fun t w =>
      if (t.wakeOf w).windowOpen then t.mapWake w fun y => { y with windowAt := some (s.now + y.validMs * 1000000) } else t
    s3.forwardWakes

end Sys2Proof.Machine
end

