-- ==== Sys2Proof/Machine/Strands.lean ====
section
/-! DEFINITION. What a cipher operation reads, computes and writes, how it ends, and how it moves off a furled strand (R51-R53,
R160, R513-R526). -/

namespace Sys2Proof.Machine

/-- SLOT of a cipher descriptor (R515). -/
def CipherOp.slot (o : CipherOp) : Nat := byteField o.desc 0 2
/-- MODE of a cipher descriptor. -/
def CipherOp.mode (o : CipherOp) : Nat := byteField o.desc 2 1
/-- OP of a cipher descriptor: 0 encrypts or generates, 1 decrypts or verifies. -/
def CipherOp.op (o : CipherOp) : Nat := byteField o.desc 3 1
/-- TAG_LEN of a cipher descriptor. -/
def CipherOp.tagLen (o : CipherOp) : Nat := byteField o.desc 6 1
/-- VECTOR of a cipher descriptor. -/
def CipherOp.vector (o : CipherOp) : Nat := bitsOf (byteField o.desc 7 1) 4 0
/-- INT of a cipher descriptor. -/
def CipherOp.int (o : CipherOp) : Bool := bitOf (byteField o.desc 7 1) 7
/-- LENGTH of a cipher descriptor. -/
def CipherOp.length (o : CipherOp) : Nat := byteField o.desc 8 4
/-- AAD_LEN of a cipher descriptor. -/
def CipherOp.aadLen (o : CipherOp) : Nat := byteField o.desc 12 4
/-- SRC of a cipher descriptor. -/
def CipherOp.src (o : CipherOp) : Nat := byteField o.desc 16 8
/-- DST of a cipher descriptor. -/
def CipherOp.dst (o : CipherOp) : Nat := byteField o.desc 24 8
/-- AAD of a cipher descriptor. -/
def CipherOp.aad (o : CipherOp) : Nat := byteField o.desc 32 8
/-- OPB of a cipher descriptor. -/
def CipherOp.opb (o : CipherOp) : Nat := byteField o.desc 40 8

/-- Blocks of an operation (R514). -/
def cipherBlocks (mode length aadLen : Nat) : Nat :=
  max 1 ((if mode = 1 then 2 else 1) * ((length + 15) / 16) + (aadLen + 15) / 16)

/-- The item size of an operation (R514). -/
def CipherOp.size (o : CipherOp) : Nat := 16 * cipherBlocks o.mode o.length o.aadLen

/-- Whether an operation writes DST (R513). -/
def CipherOp.writes (o : CipherOp) : Bool := o.mode != 4 && decide (0 < o.length)

/-- The lane in which operations run one at a time: the flow while it is not REVOKED, else the command ring (R518). -/
def State.lane (s : State) (o : CipherOp) : Nat :=
  match o.flow with
  | some id => if (s.flowOf id).state = .revoked ∨ (s.flowOf id).state = .free then 4096 + o.issuer * 4 + o.ring else id
  | none => 4096 + o.issuer * 4 + o.ring

/-- Whether no earlier operation of its lane is open (R518). -/
def State.laneHead (s : State) (i : Nat) (o : CipherOp) : Bool :=
  (s.cipher.ops.take i).all fun x => decide (s.lane x ≠ s.lane o)

/-- The IV that an encrypting operation forms (R519): 12 bytes for GCM and CCM, 16 for CTR and CBC. -/
def formIv (mode tag counter : Nat) (key : List Nat) : List Nat :=
  let twelve := octets 4 tag ++ octets 8 counter
  match mode with
  | 0 => twelve
  | 1 => twelve
  | 2 => twelve ++ Crypto.zeros 4
  | 3 => Crypto.aesEncrypt key (twelve ++ Crypto.zeros 4)
  | _ => []

/-- What an operation computes (R513): the output, and the tag cut to TAG_LEN. `iv` is the IV, nonce or counter block. -/
def cipherResult (mode op tagLen : Nat) (key iv aad data : List Nat) : List Nat × List Nat :=
  match mode with
  | 0 =>
    let out := Crypto.gcmCrypt key iv data
    (out, (Crypto.gcmTag key iv aad (if op = 0 then out else data)).take tagLen)
  | 1 =>
    let out := Crypto.ccmCrypt key iv data
    (out, (Crypto.ccmTag key iv aad (if op = 0 then data else out) tagLen).take tagLen)
  | 2 => (Crypto.ctrMode key iv data, [])
  | 3 => (if op = 0 then Crypto.cbcEncrypt key iv data else Crypto.cbcDecrypt key iv data, [])
  | _ => ([], (Crypto.cmac key data).take tagLen)

/-- Write STATUS, the last write of an operation, and raise VECTOR; where STATUS cannot be written, CIPHER_LOST (R517, R523). -/
def State.writeStatus (s : State) (o : CipherOp) (st : Status) : State :=
  let s1 := if o.issuer = 0 then s.opEnd 0x0A01 st else s
  match s1.write o.issuer (o.opb + 44) 4 (2 ^ 31 + st.code) with
  | (s2, none) => if o.int then s2.vector o.issuer o.vector else s2
  | (s2, some f) =>
    (s2.raiseFault f o.issuer 0xFFFF 0x01 0).raise
      { unit := unitId 0x1E o.strand, code := 0x0A01, severity := 2, partition := o.issuer,
        detail := pack [(0, 2, o.slot), (2, 2, o.flow.getD 0xFFFF), (4, 1, st.code), (8, 8, o.opb)] } [o.issuer]

/-- An operation ends without its result: DST is zero-filled, then STATUS is written (R503, R522, R523, R526). -/
def State.spoilOp (s : State) (o : CipherOp) (st : Status) : State :=
  (if o.writes then s.zeroFill o.issuer o.dst o.length else s).writeStatus o st

/-- A translation fault ends an operation (R523). -/
def State.faultOp (s : State) (o : CipherOp) (f : XFault) : State × Status :=
  let s1 : State := { s with cipher := { s.cipher with
    accessFaults := Table.modify 0 s.cipher.accessFaults o.issuer fun n => satAdd 32 n 1 } }
  ((s1.raiseFault f o.issuer 0xFFFF 0x01 0).spoilOp o .cipherAccessFault, .cipherAccessFault)

/-- A read of an operation, of no bytes as well. -/
def State.readOp (s : State) (p iova n : Nat) : State × Except XFault (List Nat) :=
  if n = 0 then (s, .ok [])
  else
    match s.read p iova n with
    | (s1, .ok w) => (s1, .ok (octets n w))
    | (s1, .error f) => (s1, .error f)

/-- Whether an output overlaps its input otherwise than by lying on it, which R515 forbids: what is then written is a free value
(log entry 42). -/
def CipherOp.overlaps (o : CipherOp) : Bool :=
  o.writes && decide (o.src ≠ o.dst) && decide (o.src < o.dst + o.length) && decide (o.dst < o.src + o.length)

/-- Write an operation's output to DST. -/
def State.writeOutput (s : State) (o : CipherOp) (out : List Nat) : State × Option XFault :=
  if o.writes then
    let (junk, s1) := s.draw
    s1.write o.issuer o.dst o.length (if o.overlaps then junk else fromOctets out)
  else (s, none)

/-- OP 0 of an operation whose inputs are read: output, IV, TAG and COUNTER, then STATUS (R516, R519). -/
def State.sealOp (s : State) (o : CipherOp) (aad data : List Nat) : State × Status :=
  let key := keyOctets o.key o.bits256
  let counter := o.counter.getD 0
  let iv := formIv o.mode s.keys.otp.deviceTag counter key
  let (out, tag) := cipherResult o.mode 0 o.tagLen key iv aad data
  match s.writeOutput o out with
  | (s1, some f) => s1.faultOp o f
  | (s1, none) =>
    let writes : List (Nat × Nat × Nat) :=
      (if iv = [] then [] else [(0, iv.length, fromOctets iv)]) ++
      (if tag = [] then [] else [(16, tag.length, fromOctets tag)]) ++ [(32, 8, counter)]
    let (s2, bad) := writes.foldl (fun (x : State × Option XFault) w =>
      match x with
      | (t, some f) => (t, some f)
      | (t, none) => t.write o.issuer (o.opb + w.1) w.2.1 w.2.2) (s1, none)
    match bad with
    | some f => s2.faultOp o f
    | none => (s2.writeStatus o .done, .done)

/-- OP 1 of an operation whose inputs are read: output, and where a tag does not verify zeros in its place, then STATUS (R522). A
nonce length that R513 does not allow verifies nothing. -/
def State.openOp (s : State) (o : CipherOp) (block aad data : List Nat) : State × Status :=
  let key := keyOctets o.key o.bits256
  let ivLen := if o.mode = 0 then 12 else if o.mode = 1 then nth 0 block 40 else 16
  let bad := decide (o.mode = 1) && !within ivLen 7 13
  let (out, tag) := cipherResult o.mode 1 o.tagLen key (block.take ivLen) aad data
  if bad || decide (tag ≠ (block.drop 16).take tag.length) then
    let s1 : State := { s with cipher := { s.cipher with
      tagFails := Table.modify 0 s.cipher.tagFails o.issuer fun n => satAdd 32 n 1 } }
    match s1.writeOutput o (out.map fun _ => 0) with
    | (s2, some f) => s2.faultOp o f
    | (s2, none) => (s2.spoilOp o .tagFail, .tagFail)
  else
    match s.writeOutput o out with
    | (s1, some f) => s1.faultOp o f
    | (s1, none) => (s1.writeStatus o .done, .done)

/-- Run an operation to its end (R513-R523): its reads, its computation, its writes. -/
def State.runOp (s : State) (o : CipherOp) : State × Status :=
  match s.readOp o.issuer o.opb 64 with
  | (s1, .error f) => s1.faultOp o f
  | (s1, .ok block) =>
    match s1.readOp o.issuer o.aad (if o.mode < 2 then o.aadLen else 0) with
    | (s2, .error f) => s2.faultOp o f
    | (s2, .ok aad) =>
      match s2.readOp o.issuer o.src o.length with
      | (s3, .error f) => s3.faultOp o f
      | (s3, .ok data) => if o.op = 0 then s3.sealOp o aad data else s3.openOp o block aad data

/-- The list without element `i`. -/
def dropAt {α : Type} : List α → Nat → List α
  | [], _ => []
  | _ :: t, 0 => t
  | h :: t, i + 1 => h :: dropAt t i

/-- Every open operation ends with a status and a zeroed destination (R503, R526). -/
def State.abortOps (s : State) (st : Status) : State :=
  let ops := s.cipher.ops
  let s1 : State := { s with cipher := { s.cipher with ops := [] } }
  s1.each ops fun s2 o => s2.spoilOp o st

/-- The held strands in service (R160). -/
def State.heldStrands (s : State) : List Nat := (s.strands).filter fun t => bitOf s.cipher.held t

/-- A strand is furled (R51-R53, R160): its flows and operations move to a held strand, operations without a flow to any strand;
an operation that was repeated already, or that finds no strand, ends with UNIT_FURLED. The numbers are those lost and repeated. A
strand that takes flows is held no longer; DEDUCED (log entry 43). -/
def State.stopStrand (s : State) (n : Nat) : State × Nat × Nat :=
  let rest := s.strands.filter fun t => t != n
  let spare := (rest.filter fun t => bitOf s.cipher.held t).head?
  let s1 := match spare with
    | some h =>
      let bound : List Nat := (s.flow.flows.filter fun (g : Nat × Flow) => g.2.strand == n && g.2.decl.type == 0x09).map fun (g : Nat × Flow) => g.1
      let t : State := s.each bound fun t id => t.mapFlow id fun f => { f with strand := h }
      if bound = [] then t else { t with cipher := { t.cipher with held := setBit t.cipher.held h false } }
    | none => s
  let home := match spare with | some h => some h | none => rest.head?
  let mark : List (CipherOp × Bool × Bool) := s1.cipher.ops.zipIdx.map fun (x : CipherOp × Nat) => (x.1, x.1.strand == n, x.1.conforms && s1.laneHead x.2 x.1)
  let dead (x : CipherOp × Bool × Bool) : Bool := x.2.1 && (home.isNone || (x.2.2 && x.1.repeated))
  let lost := (mark.filter dead).map (·.1)
  let keep := (mark.filter fun x => !dead x).map fun x =>
    if x.2.1 then { x.1 with strand := home.getD 0, repeated := x.1.repeated || x.2.2 } else x.1
  let s2 : State := { s1 with cipher := { s1.cipher with ops := keep } }
  (s2.each lost fun t o => t.spoilOp o .unitFurled, lost.length, (mark.filter fun x => x.2.1 && x.2.2 && !dead x).length)

end Sys2Proof.Machine
end

