-- ==== Sys2Proof/Machine/TamperMonitor.lean ====
section
/-! DEFINITION. What a tamper event does, the tamper log, and the isolation conditions (R32, R33, R501-R507). -/

namespace Sys2Proof.Machine

/-- A tamper input. -/
def State.tamperOf (s : State) (i : Nat) : TamperInput := Table.get {} s.keys.tamper i

/-- Change a tamper input. -/
def State.mapTamper (s : State) (i : Nat) (f : TamperInput → TamperInput) : State :=
  { s with keys := { s.keys with tamper := Table.modify {} s.keys.tamper i f } }

/-- ISOLATION_CONDITION (R33): a condition is lost or restored. -/
def State.isolation (s : State) (condition : Nat) (lost hold : Bool) : State :=
  s.raiseOrHold hold { unit := 0, code := 0x0101, severity := if lost then 3 else 1,
                       detail := pack [(0, 1, condition), (1, 1, flag lost)] } [0]

/-- The first condition of R32: Field with debug closed. -/
def State.lifeOk (s : State) : Bool := decide (s.lifecycle = 3) && !s.keys.debugOpen

/-- Report a change of the first condition since an earlier state (R33); a restoration only of what was lost. -/
def State.lifeChange (s before : State) : State :=
  if before.lifeOk && !s.lifeOk then ({ s with boot := { s.boot with lostLife := true } } : State).isolation 0x01 true false
  else if s.boot.lostLife && s.lifeOk then ({ s with boot := { s.boot with lostLife := false } } : State).isolation 0x01 false false
  else s

/-- STATE of a tamper log entry (R507). -/
def State.tamperState (s : State) : Nat :=
  match s.sleep.power with
  | .meadow => 2
  | .heath => 3
  | _ => if s.boot.phase = .run then 1 else if s.keys.unsealedOnce then 4 else 0

/-- The 32 bytes of a tamper log entry (R507). -/
def TamperEntry.bytes (e : TamperEntry) : Nat :=
  pack [(0, 4, e.seq), (4, 1, e.input), (5, 1, e.detector), (6, 1, e.cls), (7, 1, e.pclass), (8, 1, e.state), (9, 1, e.lifecycle),
    (10, 1, e.flags), (12, 4, e.erased), (16, 8, e.time), (24, 4, e.count)]

/-- Add an entry to the log, whose oldest of 128 gives way (R507). -/
def State.logTamper (s : State) (e : TamperEntry) : State :=
  let full := decide (128 ≤ s.keys.log.length)
  { s with keys := { s.keys with
      log := (if full then s.keys.log.drop 1 else s.keys.log) ++ [e], nextSeq := wrapAdd 32 s.keys.nextSeq 1,
      overwritten := if full then satAdd 32 s.keys.overwritten 1 else s.keys.overwritten } }

/-- The entry of an event as its input is configured. -/
def State.tamperEntry (s : State) (input detector flags erased : Nat) : TamperEntry :=
  let x := s.tamperOf input
  { seq := s.keys.nextSeq, input := input, detector := detector, cls := x.cls, pclass := x.pclass, state := s.tamperState,
    lifecycle := s.lifecycle, flags := flags, erased := erased, time := s.now, count := 1 }

/-- A class 0 event is merged into its input's last entry within 1 s, or logged (R507). -/
def State.logOnly (s : State) (input detector : Nat) : State :=
  let mine := s.keys.log.filter fun e => e.input == input
  match mine.getLast? with
  | some last =>
    if last.cls = 0 ∧ s.now < last.time + 1000000000 then
      { s with keys := { s.keys with
          log := s.keys.log.map fun e => if e.seq = last.seq then { e with count := satAdd 32 e.count 1 } else e } }
    else s.logTamper (s.tamperEntry input detector 0 0)
  | none => s.logTamper (s.tamperEntry input detector 0 0)

/-- The persistent classes that an event erases: 1 to PCLASS in class 2, none in class 1 (R502). -/
def TamperInput.erases (x : TamperInput) : Nat := if x.cls = 2 then x.pclass else 0

/-- Whether an attribute's tamper class is among the classes 1 to `top`. -/
def erasedClass (attr top : Nat) : Bool := persistent attr && within (tamperClass attr) 1 top

/-- The slots that an event empties: every volatile one, and the persistent ones of the erased classes (R502, R503). -/
def State.emptiedSlots (s : State) (top : Nat) : List Nat :=
  s.slotNumbers.filter fun k =>
    let x := s.slotOf k
    x.state != .empty && (!persistent x.attr || erasedClass x.attr top)

/-- The slots that hold an image of an erased class. -/
def State.imagedSlots (s : State) (top : Nat) : List Nat :=
  s.slotNumbers.filter fun k => (s.slotOf k).images.any fun x => erasedClass x.2.attr top

/-- A tamper of class 1 or 2 while the compute die is off (R505): what is stored goes at the next start. -/
def State.tamperAsleep (s : State) (input detector : Nat) : State :=
  let top := (s.tamperOf input).erases
  let s1 := s.logTamper (s.tamperEntry input detector (flag (top ≠ 0)) (s.imagedSlots top).length)
  { s1 with keys := { s1.keys with erasePending := max s1.keys.erasePending top } }

/-- A tamper of class 1 or 2 while the compute die runs (R503, R505). -/
def State.tamperAwake (s : State) (input detector : Nat) : State :=
  let top := (s.tamperOf input).erases
  let hold := s.absent
  let writing := s.slotNumbers.filter fun k => (s.slotOf k).writing.isSome
  let aborted := !s.cipher.ops.isEmpty || !writing.isEmpty
  let s1 := (s.clearSas fun _ => true).abortOps .tamperHeld
  let s2 := s1.each writing fun t k => t.abandonWrite k .tamperHeld
  let gone := s2.emptiedSlots top
  let owners := (gone.map fun k => maskPartitions (s2.slotOf k).owners).flatten
  let e := s2.tamperEntry input detector (flag (top ≠ 0) + 8 * flag aborted) gone.length
  let s3 := (s2.each gone fun t k => t.mapSlot k KeySlot.emptied).logTamper e
  let s4 : State := { s3 with keys := { s3.keys with sealed := true, erasePending := max s3.keys.erasePending top } }
  let s5 := s4.raiseOrHold hold
    { unit := unitId 0x22 input, code := 0x0901, severity := 4, partition := onlyOne owners, detail := e.bytes % 2 ^ 128 }
    (0 :: owners)
  s5.each gone fun t k => t.keyInvalid k 0x05 hold

/-- A tamper input is not disabled and watches in the present state (R501, R502). -/
def State.tamperWatched (s : State) (input : Nat) : Bool :=
  decide (input < 5) && decide ((s.tamperOf input).cls ≠ 0xFF) && !s.supply.unpowered &&
  (decide (input ≠ 3) || s.computeOn) && (decide (input ≠ 4) || s.sleep.power != .heath)

/-- A tamper event of an input (R502-R507): the latch, the response, the isolation condition, and the wake or abort that it is to a
sleep in progress. -/
def State.tamperEvent (s : State) (input detector : Nat) : State :=
  let x := s.tamperOf input
  let s0 := s.mapTamper input fun x => { x with lastActive := s.now }
  if x.cls = 0xFF then s
  else if x.cls = 0 then s0.logOnly input detector
  else
    let s1 := s0.mapTamper input fun x => { x with latched := true }
    let s2 := if s.computeOn then s1.tamperAwake input detector else s1.tamperAsleep input detector
    let s3 := if s2.boot.lostTamper then s2
      else ({ s2 with boot := { s2.boot with lostTamper := true } } : State).isolation 0x02 true (s.absent || !s.computeOn)
    s3.latchWake (0x50 + input) 0

/-- The erasure of the persistent classes ends (R503, R505): their images go and the log says so. -/
def State.finishErasure (s : State) : State :=
  let top := s.keys.erasePending
  let keep (i : Option KeyImage) : Option KeyImage := i.bind fun x => if erasedClass x.attr top then none else some x
  if top = 0 then s
  else
    let s1 := s.each s.slotNumbers fun t k => t.mapSlot k fun x => { x with imageA := keep x.imageA, imageB := keep x.imageB }
    { s1 with keys := { s1.keys with
        erasePending := 0,
        log := s1.keys.log.map fun e => if bitOf e.flags 0 ∧ ¬ bitOf e.flags 1 then { e with flags := e.flags + 2 } else e } }

/-- Post the events that a tamper left while Masthead was absent (R505). -/
def State.postOwed (s : State) : State :=
  ({ s with keys := { s.keys with owedEvents := [] } } : State).each s.keys.owedEvents fun t x => t.raise x.1 x.2

end Sys2Proof.Machine
end

