-- ==== Sys2Proof/Machine/Stops.lean ====
section
/-! DEFINITION. The effect of a furl on its unit, class by class (R37, R51-R54, R212, R456). -/

namespace Sys2Proof.Machine

/-- What a furl did to the unit's work: the state after it, the items lost, the items repeated on a sibling (R47), and flows to
revoke beside those that R183 chooses. -/
structure Stopped where
  state    : State
  lost     : Nat := 0
  repeated : Nat := 0
  flows    : List Nat := []

/-- LOCAL_TRANSFER_DONE to the owner (R337); a command list that waits for it goes on. -/
def State.transferDone (s : State) (i bytes : Nat) (st : Status) : State :=
  ((s.mapPort i fun x => { x with transfer := none }).raise
    { unit := unitId 0x12 i, code := 0x0610, partition := s.owner kindPort i,
      detail := pack [(0, 1, i), (1, 1, st.code), (2, 2, bytes)] } [s.owner kindPort i]).opEnd 0x0611 st

/-- SAFETY_CORE_MOVED (R456, R473). -/
def State.coreMoved (s : State) (core spare outcome part : Nat) : State :=
  s.raise { unit := unitId 0x02 core, code := 0x0130, severity := 2, partition := part,
            detail := pack [(0, 1, core), (1, 1, spare), (2, 1, outcome), (3, 1, part), (8, 8, s.now)] } [part, 0]

/-- The spare that takes over from a safety core: none for a core that was itself started as a replacement (R53, R456, R471). -/
def State.spareFor (s : State) (n : Nat) : Option Nat := if (s.coreOf n).a0 = 1 then none else s.cpu.spare

/-- A safety core is furled: its partition restarts on the spare, or not (R456). -/
def State.stopCore (s : State) (n : Nat) (copyFails : Bool) : State :=
  let c := s.coreOf n
  let s1 := s.mapCore n fun c => { c with running := false }
  if s.cpu.spare = some n then { s1 with cpu := { s1.cpu with spare := none } }
  else
    match c.running, Table.get none s.io.safetyPart n, s.spareFor n with
    | true, some p, some k =>
      if copyFails then s1.coreMoved n k 3 p
      else
        let s2 := s1.mapCore k fun _ =>
          { ({} : SafetyCore) with running := true, tcm := c.tcm, iovaBase := c.iovaBase, restartEntry := c.restartEntry,
                                   a0 := 1, a1 := n }
        let s3 : State := { s2 with
          cpu := { s2.cpu with spare := none }
          io := { s2.io with safetyPart := Table.put none (Table.put none s2.io.safetyPart k (some p)) n none } }
        s3.coreMoved n k 1 p
    | true, some p, none => s1.coreMoved n 0xFF 2 p
    | _, _, _ => s1

/-- The flows that a furl takes with it whatever their paths say: those of a safety core's partition that is not restarted,
those measured by a current ADC, those cut by the loss of entropy or of Device Time (R37, R183, R212, R456, R526). -/
def State.goneWith (s : State) (u : Nat) (copyFails : Bool) : List Nat :=
  let pick (p : Reserved → Bool) : List Nat := (s.reserved.filter p).map (·.1)
  let n := u % 256
  match u / 256 with
  | 0x02 =>
    match (s.coreOf n).running, Table.get none s.io.safetyPart n with
    | true, some p => if copyFails ∨ s.spareFor n = none then pick fun g => g.2.owner == p else []
    | _, _ => []
  | 0x15 => pick fun g => g.2.decl.path.any fun r => r.type == rCurrent && s.adcOf r.inst == n
  | 0x1A =>
    if n < 2 then pick fun g => g.2.decl.path.any fun r => (r.type == rLoad || r.type == rCurrent) && feedOf r.inst == n else []
  | 0x1E =>
    if (s.heldStrands.filter fun t => t != n).isEmpty then pick fun g => g.2.decl.type == 0x09 && g.2.strand == n else []
  | 0x21 => pick fun g => g.2.decl.type == 0x09
  | 0x25 => pick fun _ => true
  | _ => []

/-- A sense input stops sampling; its queue is free once no input uses it (R209, R430, R439). -/
def State.stopSampling (s : State) (i : Nat) : State :=
  match (s.senseOf i).queue with
  | some q =>
    let s1 := s.mapSense i fun x => { x with queue := none, gang := false, waiting := [] }
    if (span 0 32).any fun m => (s1.senseOf m).queue == some q then s1 else s1.mapQueue q fun d => { d with attach := .none }
  | none => s

/-- Gangs, sampling schedules and time-triggered releases stop with D2 or Device Time (R209, R212, R440). -/
def State.stopGangs (s : State) : State :=
  let s1 : State := { s with time := { s.time with canGangs := [], senseGangs := [] } }
  let s2 := s1.each s1.can.objects fun s3 o => s3.mapObj o.1 fun x =>
    { x with armed := false, armedAt := none, pending := x.tx.isSome }
  s2.each (span 0 32) State.stopSampling

/-- A DMA engine stops (R51, R53): the queue on it waits for a sibling, which repeats the segment; without one the item is lost. -/
def State.stopEngine (s : State) (e : Nat) : Stopped :=
  let on := s.dma.filter fun q => q.2.state == .running && q.2.engine == e
  let s1 := s.each on fun t q => t.mapQueue q.1 fun d => { d with state := .waiting }
  if s.engines = 0 then { state := s1, lost := on.length } else { state := s1, repeated := on.length }

/-- A converter stops (R434, R436): the others serve, and calibration ends with the converters of a run still to do counted as
failed. -/
def State.stopConverter (s : State) (c : Nat) : State :=
  let s1 := s.each (span 0 5) fun t k =>
    t.mapConv k fun x =>
      if k = c then { x with state := .furled }
      else if x.state = .calibrating ∨ x.state = .standby then { x with state := .inService, since := s.now } else x
  let run := s1.sense.calRun.map fun r => { r with failed := r.left.foldl (fun m k => setBit m k true) r.failed, left := [], deferred := false }
  { s1 with sense := { s1.sense with calRun := run } }

/-- A supply supervisor stops (R419). The first furl of the regulators resets the compute die, after which the unit counts afresh. -/
def State.stopSupervisor (s : State) (n : Nat) : State :=
  if n = 3 ∧ s.supply.regFurls = 0 then
    let s1 := (s.computeReset 2 false).mapUnit (unitId 0x1A 3) fun h => { h with furled := false, history := [] }
    { s1 with supply := { s1.supply with regFurls := 1 } }
  else
    ({ s with supply := { s.supply with regFurls := s.supply.regFurls + flag (n = 3) } } : State).redriveAll

/-- A local port stops (R37, R54): its transfer is lost and its pins are as at reset. -/
def State.stopPort (s : State) (i : Nat) : State :=
  let s1 := s.mapPort i fun x => { x with outLevel := false }
  if (s.portOf i).transfer.isSome then s1.transferDone i 0 .unitFurled else s1

/-- A clock domain's lasting fault (R212). -/
def State.stopClock (s : State) (d : Nat) : State :=
  match d with
  | 1 => { s with time := { s.time with rtcFallback := true } }
  | 2 =>
    let s1 : State := { s with time := { s.time with backupOsc := true, servo := .holdover, holdoverAt := s.now } }
    let s2 := s1.each (span 0 12) State.stopPhy
    let s3 := s2.each (span 0 12) fun s4 c => s4.stopCan c true
    (s3.each (span 0 8) State.stopLin).stopGangs.stopFair.sourceLost
  | 3 => s.computeReset 2 false
  | 5 =>
    (s.each (span 0 8) fun s1 c => s1.mapCore c fun c => { c with running := false }).mastheadLost 3
  | 7 => s.turnAllOff
  | 9 => (s.each (span 0 12) State.stopPhy).stopFair.sourceLost
  | _ => s

/-- Device Time goes on from the counter that agrees with the RTC (R212). Whether that one is ahead of or behind the last value issued,
and by how much, is free; when it is behind, Device Time runs at half rate until the two meet. -/
def State.stopDeviceTime (s : State) : State :=
  let (ahead, s1) := s.choose
  let (ns, s2) := s1.draw
  let s3 : State :=
    if ahead then { s2 with io := { s2.io with time := s2.io.time + ns % (2 ^ 64 - s2.now) * 2 ^ 32 } }
    else { s2 with time := { s2.time with halfRateUntil := s2.now + ns } }
  s3.stopGangs

/-- Apply a class's effect (R37, R212). -/
def State.stopUnit (s : State) (u : Nat) (copyFails : Bool) : Stopped :=
  let n := u % 256
  match u / 256 with
  | 0x02 => { state := s.stopCore n copyFails }
  | 0x03 => { state := s.mastheadLost 3 }
  | 0x05 => { state := s.mastheadLost 2 }
  | 0x07 => { state := s.computeReset 2 false }
  | 0x08 => { state := s.computeReset 2 false }
  | 0x0A => { state := s.computeReset 2 false }
  | 0x0B => s.stopEngine n
  | 0x0C => { state := s.stopSwitchPort n, lost := (s.sw.queue.filter fun q => q.egress == n).length }
  | 0x0D =>
    let (s1, ids) := s.withdrawBank n
    { state := s1, lost := (s.sw.queue.filter fun q => bitOf q.banks n).length, flows := ids }
  | 0x0F => { state := (s.stopPhy n).sourceLost }
  | 0x10 => { state := (s.stopCan n false).sourceLost, lost := s.pendingOn n }
  | 0x11 => { state := (s.stopLin n).sourceLost }
  | 0x12 => { state := s.stopPort n, lost := flag (s.portOf n).transfer.isSome }
  | 0x13 => { state := s.applyEntry n }
  | 0x14 => { state := s.applyEntry (40 + n) }
  | 0x16 => { state := s.applyEntry n }
  | 0x17 => { state := s.stopSampling n }
  | 0x18 => { state := s.stopConverter n }
  | 0x19 => { state := s.mapSensor n fun x => { x with on := false, restartAt := none } }
  | 0x1A => { state := s.stopSupervisor n }
  | 0x1B => { state := s.sourceLost }
  | 0x1E =>
    let (s1, lost, repeated) := s.stopStrand n
    { state := s1, lost := lost, repeated := repeated }
  | 0x20 => { state := s.moveCvu n }
  | 0x21 => { state := s.abortOps .unitFurled, lost := s.cipher.ops.length }
  | 0x22 => { state := s.tamperEvent n 0 }
  | 0x23 => { state := s.stopFair, lost := s.fair.ops.length }
  | 0x24 => { state := s.stopClock n }
  | 0x25 => { state := s.stopDeviceTime }
  | _ => { state := s }

/-- A unit that returns to service is in its reset state (R561). -/
def State.restoreUnit (s : State) (u : Nat) : State :=
  let n := u % 256
  let channel (s1 : State) (m : Nat) : State :=
    s1.mapLoad m fun c => { LoadChannel.atReset m with theta := c.theta, supplyOff := c.supplyOff }
  match u / 256 with
  | 0x02 =>
    { s.mapCore n fun _ => {} with io := { s.io with safetyPart := Table.put none s.io.safetyPart n none } }
  | 0x0D => s.returnBank n
  | 0x0F => s.mapEth n fun _ => {}
  | 0x10 => s.mapCan n fun _ => {}
  | 0x11 => s.mapLin n fun _ => {}
  | 0x12 => s.mapPort n fun x => { pinLevel := x.pinLevel }
  | 0x13 => (channel s n).redrive n
  | 0x14 => (channel s (40 + n)).redrive (40 + n)
  | 0x17 => s.mapSense n fun _ => {}
  | 0x18 =>
    let alone := (span 0 5).all fun k => k == n || (s.convOf k).state != .furled
    s.mapConv n fun x => if alone then { x with state := .calibrating } else { x with state := .inService, since := s.now }
  | 0x19 => s.mapSensor n fun _ => {}
  | 0x1A =>
    (s.each (span 0 48) fun t m => t.mapLoad m fun c =>
      if n = 2 then { c with shed := .untilItem }
      else if n < 2 ∧ feedOf m = n ∧ c.policy.kind ≠ 3 then
        { c with shed := if c.policy.kind = 1 then .restore (s.now + c.policy.restoreMs * 1000000) else .untilItem }
      else c).redriveAll
  | 0x23 => { s with fair := {} }
  | _ => s

/-- The units that fall with a unit (R212): D8 takes every strand and MACsec engine. -/
def State.fallsWith (u : Nat) : List Nat :=
  if u = 0x2408 then (span 0 24).map (unitId 0x1E) ++ (span 0 4).map (unitId 0x1F) else []

end Sys2Proof.Machine
end

