-- ==== Sys2Proof/Machine/Furl.lean ====
section
/-! DEFINITION. Counting the events of units, furling them, and measuring items against promises (R38-R54, R178, R179). -/

namespace Sys2Proof.Machine

/-- The counting parameters of a class (R39). -/
def State.classParams (s : State) (c : Nat) : ClassParams := Table.get {} s.health.classes c

/-- Whether a unit's events are counted by the power die's health block (R37). -/
def onPowerDie (u : Nat) : Bool :=
  let c := u / 256
  c == 0x04 || (decide (0x13 ≤ c) && decide (c ≤ 0x16)) || (decide (0x19 ≤ c) && decide (c ≤ 0x1B)) || (c == 0x22 && u != 0x2203) || u == 0x2407 || u == 0x2401

/-- Whether the health block of a unit's die still counts (R37). -/
def State.counting (s : State) (u : Nat) : Bool := !s.furled (unitId 0x27 (flag (onPowerDie u)))

/-- The owners of the objects that a unit serves (R43, R47). -/
def State.served (s : State) (u : Nat) : List Nat :=
  let n := u % 256
  match u / 256 with
  | 0x02 => match Table.get none s.io.safetyPart n with | some p => [p] | none => []
  | 0x0B => ((s.dma.filter fun q => q.2.state == .running && q.2.engine == n).map fun q => s.owner kindQueue q.1)
  | 0x10 => (span (128 * n) 128).map fun o => s.owner kindCan o
  | 0x11 => [s.owner kindLin n]
  | 0x12 => [s.owner kindPort n]
  | 0x13 => [s.owner kindLoad n]
  | 0x14 => [s.owner kindLoad (40 + n)]
  | 0x15 => ((span 0 48).filter fun m => s.adcOf m == n).map fun m => s.owner kindLoad m
  | 0x16 => [s.owner kindLoad n]
  | 0x17 => [s.owner kindSense n]
  | 0x19 => ((span 0 32).filter fun i => (s.senseOf i).supply == n).map fun i => s.owner kindSense i
  | 0x1A => if n < 2 then ((span 0 48).filter fun m => feedOf m == n).map fun m => s.owner kindLoad m else []
  | 0x1C => (s.keys.slots.map fun k => maskPartitions k.2.owners).flatten
  | 0x1D => (s.keys.slots.map fun k => maskPartitions k.2.owners).flatten
  | 0x1E => (s.cipher.ops.filter fun o => o.strand == n).map fun o => o.issuer
  | 0x20 => [s.owner kindCvu n]
  | 0x23 => (span 0 32).map fun w => s.owner kindWindow w
  | _ => []

/-- The owners of the flows that cross a unit (R47). -/
def State.crossing (s : State) (u : Nat) : List Nat :=
  (s.reserved.filter fun g => g.2.decl.path.any fun r =>
    (s.unitsOf r).contains u || (r.type == rStrand && unitId 0x1E g.2.strand == u)).map fun g => g.2.owner

/-- The events of a unit inside its window (R39). -/
def countIn (history : List Nat) (now windowMs : Nat) : List Nat :=
  history.filter fun t => decide (now < t + windowMs * 1000000)

/-- The part of a furl that concerns one unit: it stops, its effect applies, FAULT_N follows from the state, UNIT_FURLED
goes out, and its revocations are left to Masthead (R44, R46, R47, R49). -/
def State.furlOne (s : State) (u cause count inFlight : Nat) (copyFails : Bool) : State :=
  let gone := s.goneWith u copyFails
  let targets := 0 :: (s.served u ++ s.crossing u)
  let s1 := s.mapUnit u fun h =>
    { h with furled := true, furls := h.furls + 1, furlTime := s.now, count := count, testing := false }
  let s2 : State := { s1 with health := { s1.health with record := s1.health.record ++ [(u, s.now)] } }
  let x := s2.stopUnit u copyFails
  let kind := if u / 256 = 0x0B then 0x05 else 0x01
  let s3 := x.state.owe u kind (gone ++ x.flows)
  let revoked := if s3.absent then 0 else (s3.chosen (gone ++ x.flows)).length
  s3.raise
    { unit := u, code := 0x0E02, severity := 3, partition := onlyOne (s.served u),
      detail := pack [(0, 4, x.lost + inFlight), (4, 4, x.repeated), (8, 2, revoked), (10, 1, cause), (11, 1, count)] } targets

/-- Furl a unit and what falls with it (R44, R212). -/
def State.furlUnit (s : State) (u cause count inFlight : Nat) (copyFails : Bool) : State :=
  if s.furled u then s
  else
    (State.fallsWith u).foldl (fun s1 v => if s1.furled v then s1 else s1.furlOne v cause 0 0 false)
      (s.furlOne u cause count inFlight copyFails)

/-- One detected error of a unit (R38-R40, R42-R44). `lasting` is lasting at once; a furled unit is neither counted nor
reported. -/
def State.unitError (s : State) (u cause inFlight : Nat) (lasting copyFails : Bool) : State :=
  if !unitExists u || s.furled u || !s.counting u then s
  else
    let p := s.classParams (u / 256)
    let history := (s.now :: (s.unitHealth u).history).take 255
    let inWindow := countIn history s.now p.windowMs
    let s1 := s.mapUnit u fun h => { h with history := history, lastEvent := s.now }
    if u / 256 ≠ 0 ∧ (lasting ∨ p.threshold ≤ inWindow.length) then
      s1.furlUnit u (if lasting then 0x02 else 0x01) inWindow.length inFlight copyFails
    else
      (s1.mapUnit u fun h => { h with upsets := satAdd 16 h.upsets 1 }).raise
        { unit := u, code := 0x0E01, partition := onlyOne (s.served u),
          detail := pack [(0, 1, min 255 inWindow.length), (1, 1, p.threshold), (2, 1, cause), (4, 4, p.windowMs),
            (8, 8, inWindow.getLastD s.now)] } (0 :: s.served u)

/-- One event of a unit with nothing in flight. -/
def State.unitEvent (s : State) (u cause : Nat) : State := s.unitError u cause 0 false false

/-- An event that is lasting at once. -/
def State.lasting (s : State) (u cause : Nat) : State := s.unitError u cause 0 true false

/-- A mismatch of a working copy in the Locker (R487); which slot it hits is free. -/
def State.copyMismatch (s : State) (unit cause : Nat) (copyFails : Bool) : State :=
  if unit = unitId 0x1C 0 ∧ cause = 0x06 then s.draw.2.keyMismatch (s.draw.1 % 512) copyFails else s

/-- UNIT_EVENT: the health block sees a detected error of a unit (R38-R40). -/
def execUnitEvent (unit cause inFlight : Nat) (lasting copyFails : Bool) (s : State) : Host.Outcome State Fault Refusal :=
  if s.computeOn || onPowerDie unit then
    .next ((s.copyMismatch unit cause copyFails).unitError unit cause inFlight lasting copyFails)
  else .next s

/-- Whether a latency above a promise charges nothing (R168, R281, R292, R421). -/
def State.excused (s : State) (f : Flow) (delivered : Nat) : Bool :=
  f.decl.path.any fun r =>
    ((r.type == rBus || r.type == rT1s || r.type == rLin) &&
      (let c := s.contract (mediumOf r)
       decide (c.excessFrom ≤ delivered) && decide (delivered < c.excessUntil))) ||
    (r.type == rT1s && (s.ethOf r.inst).plcaLost) ||
    ((r.type == rBus || r.type == rObject) &&
      (let c := s.canOf (if r.type = rBus then r.inst else r.inst / 128)
       c.state == .errorPassive || c.state == .busOff || c.state == .recovering ||
       (decide (c.backAt ≠ 0) && decide (delivered < c.backAt - 1 + 100000000)))) ||
    ((r.type == rLoad || r.type == rCurrent) &&
      ((s.feed (feedOf r.inst)).inDip || (s.feed (feedOf r.inst)).lost || s.supply.shutdown || s.supply.groundLost ||
       (decide (s.supply.conditionAt ≠ 0) && decide (delivered < s.supply.conditionAt + 100000000))))

/-- The medium's unit when an excess of its contract explains a late item, else the unit that R41 names. -/
def State.lateUnit (s : State) (f : Flow) (delivered unit : Nat) : Nat :=
  match f.decl.path.find? fun r =>
      (r.type == rBus || r.type == rT1s || r.type == rLin) &&
      (let c := s.contract (mediumOf r)
       decide (c.excessFrom ≤ delivered) && decide (delivered < c.excessUntil)) with
  | some r => mediumUnit (mediumOf r)
  | none => unit

/-- A latency above the promise (R41, R179, R189): charge a unit unless excused, and raise LATENCY_VIOLATION at most once per
flow per 1 ms. -/
def State.late (s : State) (id latency delivered unit : Nat) : State :=
  let f := s.flowOf id
  let free := s.excused f delivered
  let s1 := if free then s else s.unitEvent unit 0x05
  let u := if free then s.lateUnit f delivered unit else unit
  let s2 := s1.mapFlow id fun f =>
    let top := decide (f.lvMax < latency)
    { f with violations := satAdd 32 f.violations 1, lvCount := f.lvCount + 1,
             lvMax := max f.lvMax latency, lvUnit := if top then u else f.lvUnit,
             lvCharged := if top then !free else f.lvCharged, lvItems := f.lvItems + flag (!free) }
  let g := s2.flowOf id
  if g.lvAt ≠ 0 ∧ s.now < g.lvAt - 1 + 1000000 then s2
  else
    (s2.mapFlow id fun f => { f with lvAt := s.now + 1, lvCount := 0, lvMax := 0, lvItems := 0 }).raise
      { unit := g.lvUnit, code := 0x0302, severity := 3, partition := g.owner,
        detail := pack [(0, 2, id), (2, 2, g.lvCount), (4, 4, g.lvMax), (8, 4, g.promise), (12, 1, flag g.lvCharged),
          (13, 1, min 255 g.lvItems)] } [g.owner, 0]

/-- An item of a flow is delivered: its latency is measured against the promise (R178, R179). -/
def State.measure (s : State) (id ingress delivered err unit : Nat) : State :=
  let f := s.flowOf id
  if f.state != .admitted || decide (ingress < f.admitTime) then s
  else
    let l := delivered - ingress
    let s1 := s.mapFlow id fun f =>
      { f with measured := satAdd 64 f.measured 1, watermark := max f.watermark l,
               bins := if f.promise + err < l then f.bins
                       else
                         let b := if l ≤ f.promise then min 15 (16 * l / max 1 f.promise) else 15
                         Table.put 0 f.bins b (satAdd 32 (Table.get 0 f.bins b) 1) }
    if f.promise + err < l then s1.late id l delivered unit else s1

/-- An item of several flows is delivered. -/
def State.deliver (s : State) (ids : List Nat) (ingress delivered err unit : Nat) : State :=
  s.each ids fun s1 id => s1.measure id ingress delivered err unit

/-- The stamping error of a first bit at a port, or of a frame at ports 12 to 14 (R205). -/
def portError (p : Nat) : Nat :=
  if p < 2 then 4 else if p < 6 then 8 else if p < 10 then 20 else if p < 12 then 50 else 10

end Sys2Proof.Machine
end

