-- ==== Sys2Proof/Machine/Gangs.lean ====
section
/-! DEFINITION. Gang blocks, their instants and their changes (R206-R209). -/

namespace Sys2Proof.Machine

/-- The three kinds of gang (R207). -/
inductive GangKind where
  | can | pwm | sampling
deriving DecidableEq, Repr

/-- The grid of a kind in half nanoseconds (R207). -/
def GangKind.grid : GangKind → Nat
  | .can => 25
  | .pwm => 25
  | .sampling => 4

/-- The least lead time of a kind in ns (R207). -/
def GangKind.lead : GangKind → Nat
  | .can => 10000
  | .pwm => 200000
  | .sampling => 5000

/-- How many members a kind can name (R206). -/
def GangKind.count : GangKind → Nat
  | .can => 12
  | .pwm => 48
  | .sampling => 32

/-- The kind of the objects that a gang's members are; CAN channels are not owned objects. -/
def GangKind.object : GangKind → Nat
  | .can => 0
  | .pwm => kindLoad
  | .sampling => kindSense

/-- The gang block at an offset of PARAMS (R206). -/
def gangBlock (r : Request) (off : Nat) : GangBlock :=
  { period := r.field (off + 4) 4, anchor := r.field (off + 8) 8,
    members := (span 0 (min 8 (r.byte (off + 1)))).map fun i =>
      { member := r.byte (off + 16 + i), units := r.byte (off + 24 + i), nextK := 0 } }

/-- Entries from MEMBERS_N onward are reserved (R7, R206). -/
def gangShape (r : Request) (off : Nat) : Bool :=
  (span 0 8).all fun i => decide (i < r.byte (off + 1)) ||
    (decide (r.byte (off + 16 + i) = 0) && decide (r.byte (off + 24 + i) = 0))

/-- Whether a list of members has no repeats. -/
def distinct : List Nat → Bool
  | [] => true
  | a :: t => !t.contains a && distinct t

/-- The ranges of a gang block (R206, R208). -/
def gangRange (r : Request) (off : Nat) (k : GangKind) : Bool :=
  decide (r.byte off < 32) && within (r.byte (off + 1)) 1 8 && within (r.field (off + 4) 4) 1000 4000000000 &&
  (gangBlock r off).members.all (fun m => decide (m.member < k.count)) &&
  distinct ((gangBlock r off).members.map (·.member))

/-- A member's instant `k` in half nanoseconds, on the grid of its kind (R207). -/
def GangBlock.instantHalf (b : GangBlock) (kind : GangKind) (units k : Nat) : Nat :=
  ceilTo kind.grid (2 * (b.anchor + k * b.period + units * b.period / 256))

/-- A member's instant `k` in ns, the half rounded up. -/
def GangBlock.instant (b : GangBlock) (kind : GangKind) (units k : Nat) : Nat := (b.instantHalf kind units k + 1) / 2

/-- The first index whose instant falls at or after a time (R208). -/
def GangBlock.firstK (b : GangBlock) (t : Nat) : Nat := if t ≤ b.anchor then 0 else ceilDiv (t - b.anchor) b.period

/-- A block whose members wait for their instants from a time on. -/
def GangBlock.from_ (b : GangBlock) (t : Nat) : GangBlock :=
  let k := b.firstK t
  { b with members := b.members.map fun m => { m with nextK := k } }

/-- Start a gang (R208). -/
def Gang.start (b : GangBlock) (owner now : Nat) (kind : GangKind) : Gang :=
  { running := true, owner := owner, block := b.from_ (now + kind.lead) }

/-- Ask for a change of a running gang: it takes effect at the first instant of the new block past the lead time (R208). -/
def Gang.ask (g : Gang) (b : GangBlock) (now : Nat) (kind : GangKind) : Gang :=
  let next := b.from_ (now + kind.lead)
  { g with change := some next, changeAt := b.anchor + b.firstK (now + kind.lead) * b.period }

/-- The first instant of the gang that is ahead, as commands report it. -/
def Gang.first (g : Gang) (kind : GangKind) : Nat :=
  let b := g.change.getD g.block
  match b.members with
  | m :: _ => b.instant kind 0 m.nextK
  | [] => 0

/-- A change whose time has come is in force (R208). -/
def Gang.settle (g : Gang) (now : Nat) : Gang :=
  match g.change with
  | some b => if g.changeAt ≤ now then { g with block := b, change := none } else g
  | none => g

/-- The gang that a member belongs to, with its number. -/
def gangOf (t : Table Gang) (m : Nat) : Option (Nat × Gang) :=
  t.find? fun g => g.2.running && g.2.block.members.any fun x => x.member == m

/-- The gang that runs a member now, a change whose time has come included (R208). -/
def gangNow (t : Table Gang) (m now : Nat) : Option (Nat × Gang) := gangOf (t.map fun g => (g.1, g.2.settle now)) m

/-- The next instant of a member in ns, if a gang runs it. -/
def nextInstant (t : Table Gang) (kind : GangKind) (m now : Nat) : Option Nat :=
  match gangNow t m now with
  | some (_, g) =>
    match g.block.members.find? fun x => x.member == m with
    | some x => some (g.block.instant kind x.units x.nextK)
    | none => none
  | none => none

/-- A member has acted at its instant. -/
def advanceMember (t : Table Gang) (m now : Nat) : Table Gang :=
  match gangNow t m now with
  | some (n, g) =>
    let b := { g.block with members := g.block.members.map fun x => if x.member = m then { x with nextK := x.nextK + 1 } else x }
    Table.put {} t n { g with block := b }
  | none => t

end Sys2Proof.Machine
end

