-- ==== Sys2Proof/Machine/Can.lean ====
section
/-! DEFINITION. The meanings of the CAN commands and events and of the accesses to object slots (08). -/

namespace Sys2Proof.Machine

/-- A bit time in units of 12.5 ns (R288). -/
def BitTiming.units (t : BitTiming) : Nat := t.brp * (1 + t.tseg1 + t.tseg2)

/-- The nominal phase's ranges (R287, R288). -/
def nominalOk (t : BitTiming) : Bool :=
  within t.brp 1 32 && within t.sjw 1 128 && within t.tseg1 2 256 && within t.tseg2 1 128 && decide (t.sjw ≤ t.tseg2) &&
  within t.units 80 640

/-- A data phase's ranges, given its shortest bit time (R287, R288). -/
def dataOk (t : BitTiming) (least nominal : Nat) : Bool :=
  within t.brp 1 8 && within t.tseg1 1 64 && within t.tseg2 1 32 && within t.sjw 1 32 && decide (t.sjw ≤ t.tseg2) &&
  decide (t.tdc ≤ 127) && within t.units least nominal && (decide (40 ≤ t.units) || decide (t.tdc ≠ 0))

/-- The settings of a CAN_CHANNEL_CONFIG. -/
def channelSettings (r : Request) (c : CanChannel) : CanChannel :=
  { c with
    enable := r.bit 1 0, autoRecover := r.bit 1 1, peh := r.bit 1 2, tms := r.bit 1 3, format := r.byte 2, mode := r.byte 3
    nominal := { brp := r.byte 4, sjw := r.byte 5, tseg1 := r.field 6 2, tseg2 := r.byte 8 }
    fd := { brp := r.byte 9, tseg1 := r.byte 10, tseg2 := r.byte 11, sjw := r.byte 12, tdc := r.byte 13 }
    xl := { brp := r.byte 14, tseg1 := r.byte 15, tseg2 := r.byte 16, sjw := r.byte 17, tdc := r.byte 18 } }

/-- Whether two settings differ in what a flow's bound rests on (cmd 0x0501). -/
def timingMoved (a b : CanChannel) : Bool :=
  decide (a.format ≠ b.format ∨ a.mode ≠ b.mode ∨ a.tms ≠ b.tms ∨ a.nominal ≠ b.nominal ∨ a.fd ≠ b.fd ∨ a.xl ≠ b.xl)

/-- Whether a reserved flow has the bus of a channel on its path. -/
def State.busReserved (s : State) (c : Nat) : Bool :=
  s.reserved.any fun g => g.2.decl.path.any fun x => x.type == rBus && x.inst == c

/-- CAN_CHANNEL_CONFIG (cmd 0x0501, R287-R291, R294). -/
def cmdCanChannelConfig : Command where
  opcode := 0x0501
  paramLen := 24
  used := [(0, 0, 8), (1, 0, 4), (2, 0, 136)]
  manager := true
  featureBad r s := decide (r.byte 2 = 2) && !s.has 0 .canXl
  shape r := (decide (r.byte 2 ≠ 0) || decide (r.field 9 5 = 0)) && (decide (2 ≤ r.byte 2) || decide (r.field 14 5 = 0))
  range r :=
    let x := channelSettings r {}
    decide (r.byte 0 < 12) && decide (x.format ≤ 2) && decide (x.mode ≤ 2) && nominalOk x.nominal &&
    (decide (x.format = 0) || dataOk x.fd 10 x.nominal.units) &&
    (decide (x.format ≠ 2) || (dataOk x.xl 8 x.nominal.units && (decide (16 ≤ x.xl.units) || x.tms)))
  checks r s :=
    let c := r.byte 0
    let old := s.canOf c
    let new := channelSettings r old
    [(old.state == .furled, .channelState),
     (((old.enable && !new.enable) || timingMoved old new) && s.busReserved c, .channelFlowsAdmitted)]
  run r s :=
    let c := r.byte 0
    let old := s.canOf c
    let s1 := s.mapCan c (channelSettings r)
    let x := s1.canOf c
    let s2 :=
      if !x.enable then
        let s3 := s1.failPending c 0xA fun _ => true
        if old.state = .disabled then s3 else s3.moveCan c .disabled
      else if old.state = .disabled then s1.moveCan c .integrating
      else
        let s3 := s1.mapCan c fun y => { y with transceiver := transceiverOf y.state y.mode }
        if x.mode = 0 then s3 else s3.failPending c 0xA fun _ => true
    .done (s2.canOf c).state.code s2

/-- CAN_CHANNEL_CONFIG. -/
def execCanChannelConfig (r : Request) (s : State) : Host.Outcome State Fault Refusal := cmdCanChannelConfig.step r s

/-- The pool blocks of an object (R298). -/
def CanObject.blocks (o : CanObject) : Nat :=
  match o.direction with
  | 1 => 2 * (o.xlBytes / 64)
  | 2 => o.xlBytes / 64
  | _ => 0

/-- Whether pool block `b` of a channel is free, one object left out of account (R298). -/
def State.blockFree (s : State) (c skip b : Nat) : Bool :=
  (s.channelObjects c).all fun o =>
    o == skip || (let x := s.objOf o; decide (b < x.poolBlock) || decide (x.poolBlock + x.blocks ≤ b))

/-- The first run of free pool blocks that is long enough (R298). -/
def State.findRun (s : State) (c skip n : Nat) : Option Nat :=
  let free := (span 0 1024).map (s.blockFree c skip)
  (span 0 (1025 - n)).find? fun b => ((free.drop b).take n).all id

/-- The object that CAN_OBJECT_CONFIG sets up; the queue stays attached. -/
def objectSettings (r : Request) (old : CanObject) (block : Nat) : CanObject :=
  let send := decide (r.byte 2 = 2)
  { direction := r.byte 2, oneShot := r.bit 3 0, tt := r.bits 3 2 1, repeat_ := r.bit 3 3, intNew := r.bit 3 4,
    intFail := r.bit 3 5, formats := r.byte 4, vector := r.byte 5,
    slot := if r.byte 6 = 0xFF then none else some (r.byte 6), cvu := if r.byte 7 = 0xFF then none else some (r.byte 7),
    id := r.field 8 4, mask := r.field 12 4, vcid := r.byte 16, vcidMask := r.byte 17, cvuOffset := r.byte 18,
    xlBytes := r.field 20 2, spill := r.field 24 8, poolBlock := block, queue := old.queue,
    regId := if send then r.field 8 4 else 0 }

/-- Whether a reserved flow uses an object. -/
def State.objectReserved (s : State) (o : Nat) : Bool :=
  s.reserved.any fun g => g.2.decl.path.any fun x => x.type == rObject && x.inst == o

/-- CAN_OBJECT_CONFIG (cmd 0x0502, R295, R298). -/
def cmdCanObjectConfig : Command where
  opcode := 0x0502
  paramLen := 32
  used := [(0, 0, 24), (3, 0, 6), (4, 0, 62), (12, 0, 56), (20, 0, 16), (24, 0, 64)]
  iovas := [24]
  shape r := decide (r.byte 2 ≠ 2) || (decide (r.byte 4 = 0) && decide (r.field 12 4 = 0))
  featureBad r s := (bitOf (r.byte 4) 2 || decide (r.field 20 2 ≠ 0)) && !s.has r.issuer .canXl
  owns r s := decide (s.owner kindCan (r.field 0 2) = r.issuer) &&
    (decide (16 ≤ r.byte 7) || decide (s.owner kindCvu (r.byte 7) = r.issuer))
  range r := decide (r.field 0 2 < 1536) && decide (r.byte 2 ≤ 2) && decide (r.bits 3 2 1 ≤ 2) && decide (r.byte 4 < 8) &&
    decide (r.byte 5 < 32) && (decide (r.byte 6 < 192) || decide (r.byte 6 = 0xFF)) &&
    (decide (r.byte 7 < 16) || decide (r.byte 7 = 0xFF)) && decide (r.field 8 4 < 2 ^ 30) &&
    aligned (r.field 20 2) 64 && decide (r.field 20 2 ≤ 2048) && aligned (r.field 24 8) 64
  furled r s := s.furled (unitId 0x10 (r.field 0 2 / 128)) || (decide (r.byte 7 < 16) && s.furled (unitId 0x20 (r.byte 7)))
  checks r s :=
    let o := r.field 0 2
    let c := o / 128
    let fmt := (s.canOf c).format
    let need := (objectSettings r {} 0).blocks
    [(decide (2 ^ (fmt + 1) ≤ r.byte 4) || (decide (fmt ≠ 2) && decide (r.field 20 2 ≠ 0)), .badParam),
     ((s.objOf o).pending || s.objectReserved o, .objectState),
     ((s.findRun c o need).isNone, .poolFull),
     (decide (r.byte 6 < 192) && s.can.objects.any (fun x => x.1 != o && x.2.slot == some (r.byte 6) &&
        decide (s.owner kindCan x.1 = r.issuer)), .windowSlotInUse)]
  run r s :=
    let o := r.field 0 2
    let c := o / 128
    let need := (objectSettings r {} 0).blocks
    let block := if need = 0 then 0 else (s.findRun c o need).getD 0
    let s1 := s.mapObj o fun x => objectSettings r x block
    let used_ := ((s1.channelObjects c).map fun m => (s1.objOf m).blocks).foldl (· + ·) 0
    .done (pack [(0, 2, block), (2, 2, 1024 - used_)]) s1

/-- CAN_OBJECT_CONFIG. -/
def execCanObjectConfig (r : Request) (s : State) : Host.Outcome State Fault Refusal := cmdCanObjectConfig.step r s

/-- The queue of an object goes, if it has one. -/
def State.detachObject (s : State) (o : Nat) : State :=
  match (s.objOf o).queue with
  | some q => (s.mapObj o fun x => { x with queue := none }).mapQueue q fun x => { x with attach := .none }
  | none => s

/-- CAN_OBJECT_ATTACH (cmd 0x0503, R315). -/
def cmdCanObjectAttach : Command where
  opcode := 0x0503
  paramLen := 4
  used := [(0, 0, 32)]
  owns r s := decide (s.owner kindCan (r.field 0 2) = r.issuer) &&
    (decide (1024 ≤ r.field 2 2) || decide (s.owner kindQueue (r.field 2 2) = r.issuer))
  range r := decide (r.field 0 2 < 1536) && (decide (r.field 2 2 < 1024) || decide (r.field 2 2 = 0xFFFF))
  furled r s := s.furled (unitId 0x10 (r.field 0 2 / 128))
  checks r s :=
    let a := (s.queueOf (r.field 2 2)).attach
    [(decide (r.field 2 2 ≠ 0xFFFF) && a != .none && a != .canObject (r.field 0 2), .queueAttached),
     ((s.objOf (r.field 0 2)).pending, .objectState)]
  run r s :=
    let o := r.field 0 2
    let s1 := s.detachObject o
    if r.field 2 2 = 0xFFFF then .done 0 s1
    else
      .done 0 ((s1.mapObj o fun x => { x with queue := some (r.field 2 2) }).mapQueue (r.field 2 2) fun x =>
        { x with attach := .canObject o })

/-- CAN_OBJECT_ATTACH. -/
def execCanObjectAttach (r : Request) (s : State) : Host.Outcome State Fault Refusal := cmdCanObjectAttach.step r s

/-- CAN_CHANNEL_QUERY (cmd 0x0504). -/
def cmdCanChannelQuery : Command where
  opcode := 0x0504
  fast := true
  paramLen := 4
  used := [(0, 0, 8), (1, 0, 1)]
  owns r s := decide (r.issuer = 0) || (span (128 * r.byte 0) 128).any fun o => decide (s.owner kindCan o = r.issuer)
  range r := decide (r.byte 0 < 12) && (!r.bit 1 0 || decide (r.issuer = 0))
  run r s :=
    let x := s.canOf (r.byte 0)
    .done (pack [(0, 1, x.state.code), (1, 1, min 255 x.tec), (2, 1, min 255 x.rec_), (3, 1, x.lastError),
        (4, 4, x.errorFrames), (8, 4, x.noMatch), (12, 4, x.tooLong), (16, 2, x.exceptions), (18, 2, x.busOffCount),
        (20, 1, x.transceiver.code)])
      (if r.bit 1 0 then s.mapCan (r.byte 0) fun x =>
          { x with errorFrames := 0, noMatch := 0, tooLong := 0, exceptions := 0, busOffCount := 0 }
       else s)

/-- CAN_CHANNEL_QUERY. -/
def execCanChannelQuery (r : Request) (s : State) : Host.Outcome State Fault Refusal := cmdCanChannelQuery.step r s

/-- CAN_CHANNEL_RECOVER (cmd 0x0505). -/
def cmdCanChannelRecover : Command where
  opcode := 0x0505
  paramLen := 4
  used := [(0, 0, 8)]
  manager := true
  range r := decide (r.byte 0 < 12)
  checks r s := [((s.canOf (r.byte 0)).state != .busOff, .channelState)]
  run r s := .done 0 (s.moveCan (r.byte 0) .recovering)

/-- CAN_CHANNEL_RECOVER. -/
def execCanChannelRecover (r : Request) (s : State) : Host.Outcome State Fault Refusal := cmdCanChannelRecover.step r s

/-- Whether the visible frame failed its inline check. -/
def CanObject.checkFail (o : CanObject) : Bool := match o.visible with | some b => o.new && b.checkFail | none => false

/-- CAN_OBJECT_QUERY (cmd 0x0506). -/
def cmdCanObjectQuery : Command where
  opcode := 0x0506
  fast := true
  paramLen := 4
  used := [(0, 0, 16), (2, 0, 1)]
  owns r s := decide (s.owner kindCan (r.field 0 2) = r.issuer)
  range r := decide (r.field 0 2 < 1536)
  furled r s := decide (r.issuer ≠ 0) && s.furled (unitId 0x10 (r.field 0 2 / 128))
  run r s :=
    let x := s.objOf (r.field 0 2)
    let flags := flag x.new + 2 * flag x.shadow.isSome + 4 * flag x.locked + 8 * flag x.checkFail + 16 * flag x.pending
    .done (pack [(0, 1, x.direction), (1, 1, x.lastCause), (2, 1, min 255 x.attempts), (3, 1, flags), (4, 4, x.frames),
        (8, 4, x.overrun), (12, 4, x.failed), (16, 4, x.skipped), (20, 4, x.checkFails)])
      (if r.bit 2 0 then s.mapObj (r.field 0 2) fun x =>
          { x with frames := 0, overrun := 0, failed := 0, skipped := 0, checkFails := 0 }
       else s)

/-- CAN_OBJECT_QUERY. -/
def execCanObjectQuery (r : Request) (s : State) : Host.Outcome State Fault Refusal := cmdCanObjectQuery.step r s

/-- Whether a partition owns a channel: all 128 of its objects (R313). -/
def State.ownsChannel (s : State) (p c : Nat) : Bool := (span (128 * c) 128).all fun o => decide (s.owner kindCan o = p)

/-- CAN_GANG_SET (cmd 0x0507, R206-R208, R313). -/
def cmdCanGangSet : Command where
  opcode := 0x0507
  paramLen := 40
  used := [(0, 0, 16), (4, 0, 224), (32, 0, 8)]
  shape r := gangShape r 0
  owns r s := ((gangBlock r 0).members.all fun m => s.ownsChannel r.issuer m.member) &&
    (let g := Table.get {} s.time.canGangs (r.byte 0)
     !g.running || decide (g.owner = r.issuer))
  range r := gangRange r 0 .can && decide (r.byte 32 ≤ 1)
  furled r s := s.furled (unitId 0x25 0) || s.furled 0x2402 ||
    (gangBlock r 0).members.any fun m => s.furled (unitId 0x10 m.member)
  checks r s := [
    (decide (r.byte 32 = 1) && (gangBlock r 0).members.any fun m =>
        match gangOf s.time.canGangs m.member with
        | some (k, _) => decide (k ≠ r.byte 0)
        | none => false, .badParam)]
  run r s :=
    let k := r.byte 0
    let old := Table.get {} s.time.canGangs k
    let g : Gang :=
      if r.byte 32 = 0 then {}
      else if old.running then old.ask (gangBlock r 0) s.now .can
      else Gang.start (gangBlock r 0) r.issuer s.now .can
    .done (if r.byte 32 = 0 then 0 else g.first .can)
      { s with time := { s.time with canGangs := Table.put {} s.time.canGangs k g } }

/-- CAN_GANG_SET. -/
def execCanGangSet (r : Request) (s : State) : Host.Outcome State Fault Refusal := cmdCanGangSet.step r s

/-- CAN_INTEGRATION_DONE (R291). -/
def execCanIntegrationDone (channel : Nat) (s : State) : Host.Outcome State Fault Refusal :=
  if s.computeOn && (s.canOf channel).state == .integrating then
    .next (s.moveCan channel (if (s.canOf channel).mode = 1 then .monitoring else .errorActive))
  else .next s

/-- CAN_BUS_OFF_RECOVERY (R291). -/
def execCanBusOffRecovery (channel : Nat) (s : State) : Host.Outcome State Fault Refusal :=
  let x := s.canOf channel
  if s.computeOn && (x.state == .recovering || (x.state == .busOff && x.autoRecover)) then
    .next (s.moveCan channel .errorActive)
  else .next s

/-- A channel whose error counts have moved follows them (R291, R293). -/
def State.judgeErrors (s : State) (c : Nat) : State :=
  let x := s.canOf c
  match x.state with
  | .errorActive =>
    if 255 < x.tec then s.enterBusOff c else if 127 < x.tec ∨ 127 < x.rec_ then s.moveCan c .errorPassive else s
  | .errorPassive =>
    if 255 < x.tec then s.enterBusOff c else if x.tec ≤ 127 ∧ x.rec_ ≤ 127 then s.moveCan c .errorActive else s
  | _ => s

/-- A receive error: ISO 11898-1's step of REC, frozen in restricted operation and bus monitoring; PRESUMED (log entry
26). -/
def State.receiveError (s : State) (c kind : Nat) : State :=
  (s.mapCan c fun x =>
    { x with lastError := kind, errorFrames := satAdd 32 x.errorFrames 1,
             rec_ := if x.mode = 0 then x.rec_ + 1 else x.rec_ }).judgeErrors c

/-- The frame that a send object's slot holds (R302, R305). -/
def CanObject.slotFrame (o : CanObject) : CanFrame :=
  let fmt := bitsOf o.regInfo 31 30
  let len := bitsOf o.regInfo 11 0
  let rtr := bitOf o.regInfo 27
  { format := ⟨fmt % 3, Nat.mod_lt _ (by decide)⟩, ide := bitOf o.regId 29, id := BitVec.ofNat 29 o.regId,
    brs := bitOf o.regInfo 29, esi := false, rtr := rtr, reqLen := if rtr then len else 0, sec := bitOf o.regInfo 26,
    sdt := BitVec.ofNat 8 (bitsOf o.regInfo 23 16), vcid := BitVec.ofNat 8 (bitsOf o.regXl 31 24),
    af := BitVec.ofNat 32 o.regAf, payload := if rtr then [] else toBytes (min len 64) o.regData }

/-- The frame of a send header and the payload after it (R315). -/
def headerFrame (bytes : List Byte) : CanFrame :=
  let o : CanObject := { regId := ofBytes (bytes.take 4), regInfo := ofBytes ((bytes.drop 4).take 4),
                         regXl := ofBytes ((bytes.drop 8).take 4), regAf := ofBytes ((bytes.drop 12).take 4) }
  { o.slotFrame with payload := if o.slotFrame.rtr then [] else bytes.drop 16 }

/-- INFO of a frame, as OBJ_INFO (R305). -/
def canInfo (f : CanFrame) : Nat :=
  f.format.val * 2 ^ 30 + flag f.brs * 2 ^ 29 + flag f.esi * 2 ^ 28 + flag f.rtr * 2 ^ 27 + flag f.sec * 2 ^ 26 +
  f.sdt.toNat * 2 ^ 16 + (if f.rtr then f.reqLen else f.payload.length) % 4096

/-- ID of a frame, as OBJ_ID. -/
def canIdWord (f : CanFrame) : Nat := f.id.toNat + flag f.ide * 2 ^ 29

/-- The payload lengths of an FD frame. -/
def fdLength (n : Nat) : Bool := decide (n ≤ 8) || [12, 16, 20, 24, 32, 48, 64].contains n

/-- Whether a channel can send a frame from an object: its length and format, TMS, the object's route (R289, R299, R314
cause 0xB). `info` is the header's INFO, whose LENGTH must be the payload's. -/
def State.frameOk (s : State) (o info : Nat) (f : CanFrame) : Bool :=
  let c := s.canOf (o / 128)
  let x := s.objOf o
  let len := if f.rtr then f.reqLen else f.payload.length
  decide (bitsOf info 31 30 < 3) && decide (f.format.val ≤ c.format) && decide (bitsOf info 11 0 = len) &&
  !(f.format.val == 1 && c.tms) && (!f.rtr || f.format.val == 0) && (f.ide || decide (f.id.toNat < 2 ^ 11)) &&
  (match f.format.val with
   | 0 => decide (len ≤ 8)
   | 1 => fdLength len
   | _ => within len 1 2048 && !f.ide) &&
  decide (len ≤ max 64 x.xlBytes) && (decide (len ≤ 64) || x.queue.isSome)

/-- The CAN_SEND flows whose source is an object (R175). -/
def State.sendFlows (s : State) (o : Nat) : List Nat :=
  (s.flowsFrom rObject o).filter fun id => (s.flowOf id).decl.type == 0x02

/-- The CAN_SEND flows that an object's frames are items of, whatever their source. -/
def State.carriedFlows (s : State) (o : Nat) : List Nat :=
  (s.objectFlows o).filter fun id => (s.flowOf id).decl.type == 0x02

/-- Whether a flow's path goes on to the bus. -/
def Flow.onBus (f : Flow) : Bool := f.decl.path.any fun r => r.type == rBus

/-- A frame joins the arbitration candidates; without a contract that is its delivery (R163, R297, R308). -/
def State.joinBus (s : State) (o : Nat) : State :=
  match (s.objOf o).tx with
  | some t =>
    let s1 := s.mapObj o fun x => { x with tx := some { t with joinedAt := some s.now } }
    s1.deliver ((s.carriedFlows o).filter fun id => !(s.flowOf id).onBus) t.releasedAt s.now (t.stampError + 25)
      (unitId 0x10 (o / 128))
  | none => s

/-- The unit that an inline check runs on: none where no unit is named or it is disabled; `some none` where the unit is
furled and no sibling took its place (R531, R533). -/
def State.inlineUnit (s : State) (cvu : Option Nat) : Option (Option Nat) :=
  match cvu with
  | some n => if s.furled (unitId 0x20 n) then some none else if (s.cvuOf n).enabled then some (some n) else none
  | none => none

/-- An inline computation is an item of the CVU_CHECK flows that begin at its unit (R152, R162). -/
def State.inlineDone (s : State) (n : Nat) : State := s.deliver (s.flowsFrom rCvu n) s.now s.now 20 (unitId 0x20 n)

/-- Release a frame of a send object (R294, R308, R309, R316): refuse what cannot be sent, compute the inline check, and
join the candidates once the bucket conforms. -/
def State.release (s : State) (o info : Nat) (f : CanFrame) (fromQueue : Bool) (stampError : Nat) : State :=
  let c := s.canOf (o / 128)
  let s0 := s.mapObj o fun x => { x with pending := true, armed := false, armedAt := none, attempts := 0, errors := 0,
                                         abort := false, lastFrame := some f }
  if c.state == .disabled || c.state == .furled || decide (c.mode ≠ 0) || !c.enable then s0.failSend o 0xA
  else if !s.frameOk o info f then s0.failSend o 0xB
  else
    match s.inlineUnit (s.objOf o).cvu with
    | some none => s0.failSend o 0xC
    | unit =>
      let (s1, payload) := match unit with
        | some (some n) =>
          let (s2, data) := s0.cvuGenerate n (arbitrationKey f.ide f.id.toNat) (s.objOf o).cvuOffset f.payload
          (s2.inlineDone n, data)
        | _ => (s0, f.payload)
      let t : CanTx := { frame := { f with payload := payload }, releasedAt := s.now, joinedAt := none,
                         stampError := stampError }
      let s2 := s1.mapObj o fun x => { x with tx := some t }
      let ids := if fromQueue then [] else s2.sendFlows o
      if s2.conforms ids payload.length then (s2.takeTokens ids payload.length).joinBus o else s2.countDelayed ids

/-- A frame that its bucket held back conforms; its latency counts from now (R176, R177). -/
def State.conformObject (s : State) (o : Nat) : State :=
  match (s.objOf o).tx with
  | some t =>
    let ids := s.sendFlows o
    if t.joinedAt = none ∧ s.conforms ids t.frame.payload.length then
      ((s.takeTokens ids t.frame.payload.length).mapObj o fun x => { x with tx := some { t with releasedAt := s.now } }).joinBus o
    else s
  | none => s

/-- Whether an object's frame goes first to arbitration: it carries a reserved flow on the bus (R297). -/
def State.admittedObject (s : State) (o : Nat) : Bool :=
  s.reserved.any fun g => g.2.onBus && g.2.decl.path.any fun r => r.type == rObject && r.inst == o

/-- The candidate of two that is offered first: admitted before unadmitted, then the lower key, then the lower number; the
list is in ascending number (R297). -/
def betterCandidate (a b : Nat × Bool × Nat) : Nat × Bool × Nat :=
  if a.2.1 = b.2.1 then if b.2.2 < a.2.2 then b else a else if a.2.1 then a else b

/-- The object that a channel offers at a start of frame (R297). -/
def State.offered (s : State) (c start : Nat) : Option Nat :=
  let l := (s.channelObjects c).filterMap fun o =>
    match (s.objOf o).tx with
    | some t =>
      match t.joinedAt with
      | some j => if j ≤ start then some (o, s.admittedObject o, arbitrationKey t.frame.ide t.frame.id.toNat) else none
      | none => none
    | none => none
  match l with
  | [] => none
  | a :: rest => some (rest.foldl betterCandidate a).1

/-- A frame has been sent to completion (R308). -/
def State.sentFrame (s : State) (o start : Nat) (t : CanTx) : State :=
  let owner := s.owner kindCan o
  let ids := (s.carriedFlows o).filter fun id => (s.flowOf id).onBus
  let s1 := s.mapObj o fun x =>
    { x with pending := false, tx := none, abort := false, frames := satAdd 32 x.frames 1,
             regTime := if x.tt = 1 then x.regTime else start }
  let s2 := if (s.objOf o).intNew then s1.vector owner (s.objOf o).vector else s1
  s2.deliver ids t.releasedAt start (t.stampError + 25) (unitId 0x10 (o / 128))

/-- RETRY_BUDGET of the flow that governs an object's retransmissions (R309). -/
def State.budget (s : State) (o : Nat) : Option Nat :=
  match s.reserved.find? fun g => g.2.onBus && g.2.decl.path.any fun r => r.type == rObject && r.inst == o with
  | some g => some g.2.decl.retryBudget
  | none => none

/-- An attempt that failed with an error (R309-R311). -/
def State.errorFrame (s : State) (o cause : Nat) : State :=
  let x := s.objOf o
  if x.abort then s.failSend o 0x9
  else if x.oneShot then s.failSend o cause
  else
    let s1 := s.mapObj o fun x => { x with errors := x.errors + 1 }
    match s.budget o with
    | some b => if b < x.errors + 1 then s1.failSend o 0x7 else s1
    | none => s1

/-- CAN_FRAME_TRANSMIT_END (R297, R309-R311): the attempt that began at `start` ends. TEC follows ISO 11898-1; PRESUMED (log
entry 26). -/
def execCanFrameTransmitEnd (channel start : Nat) (result : CanEnd) (s : State) : Host.Outcome State Fault Refusal :=
  let c := s.canOf channel
  if !s.computeOn || decide (s.now < start) || !(c.state == .errorActive || c.state == .errorPassive) || decide (c.mode ≠ 0) then
    .next s
  else
    match s.offered channel start with
    | none => .next s
    | some o =>
      match (s.objOf o).tx with
      | none => .next s
      | some t =>
        let s1 := s.mapObj o fun x => { x with attempts := satAdd 8 x.attempts 1 }
        match result with
        | .sent =>
          .next (((s1.sentFrame o start t).mapCan channel fun x => { x with tec := x.tec - 1 }).judgeErrors channel)
        | .lost =>
          .next (if (s.objOf o).abort then s1.failSend o 0x9
                 else if (s.objOf o).oneShot then s1.failSend o 0x1 else s1)
        | .error kind cause =>
          let ackPassive := decide (kind.val = 3) && c.state == .errorPassive
          let s2 := s1.mapCan channel fun x =>
            { x with lastError := kind.val, errorFrames := satAdd 32 x.errorFrames 1,
                     tec := if ackPassive then x.tec else x.tec + 8 }
          .next ((s2.errorFrame o cause.val).judgeErrors channel)

/-- Whether a receive object accepts a frame (R296). -/
def CanObject.accepts (x : CanObject) (f : CanFrame) : Bool :=
  x.direction == 1 && bitOf x.formats f.format.val &&
  decide (bitOf x.id 29 = (f.ide && decide (f.format.val ≠ 2))) &&
  decide ((f.id.toNat ^^^ x.id % 2 ^ 29) &&& x.mask % 2 ^ 29 = 0) &&
  (f.format.val != 2 || decide ((f.vcid.toNat ^^^ x.vcid) &&& x.vcidMask = 0))

/-- The spill buffer that the next frame takes: the one that no kept frame is in (R299). -/
def CanObject.freeBuf (x : CanObject) : Nat :=
  match x.shadow, x.visible with
  | some b, v => if x.locked then b.buf else match v with | some a => a.buf | none => 1 - b.buf
  | none, some a => 1 - a.buf
  | none, none => 0

/-- Place an accepted frame (R307): the object after it, whether NEW rose and whether a frame was lost. With a queue attached
the two buffers hold what waits for descriptors. -/
def CanObject.place (x : CanObject) (b : CanRxBuf) : CanObject × Bool × Bool :=
  let occupied := if x.queue.isSome then x.visible.isSome else x.new
  let locked := x.locked && x.queue.isNone
  match locked, occupied, x.shadow with
  | false, false, _ => ({ x with visible := some b, new := x.queue.isNone }, x.queue.isNone, false)
  | _, _, none => ({ x with shadow := some b }, false, false)
  | false, true, some h => ({ x with visible := some h, shadow := some b }, false, true)
  | true, _, some _ => ({ x with shadow := some b }, false, true)

/-- Count a frame lost to overrun and raise CAN_RX_OVERRUN at most once per object per 100 ms (R307, R321). -/
def State.overrun (s : State) (o : Nat) : State :=
  let owner := s.owner kindCan o
  let s1 := s.mapObj o fun x => { x with overrun := satAdd 32 x.overrun 1, orCount := x.orCount + 1 }
  let x := s1.objOf o
  if x.orAt ≠ 0 ∧ s.now < x.orAt - 1 + 100000000 then s1
  else
    (s1.mapObj o fun x => { x with orAt := s.now + 1, orCount := 0 }).raise
      { unit := unitId 0x10 (o / 128), code := 0x0503, partition := owner, detail := pack [(0, 2, o), (4, 4, x.orCount)] }
      [owner]

/-- The CAN_RECEIVE flows of an object. -/
def State.receiveFlows (s : State) (o : Nat) : List Nat :=
  (s.flowsFrom rObject o).filter fun id => (s.flowOf id).decl.type == 0x03

/-- A frame longer than its object can take is dropped (R299, R315). -/
def State.tooLong (s : State) (c : Nat) : State := s.mapCan c fun x => { x with tooLong := satAdd 32 x.tooLong 1 }

/-- Run a received frame through its object's inline check (R316, R533): whether it failed. A check that no unit can do counts
as failed: DESIGN CHOICE (log entry 27). -/
def State.checkFrame (s : State) (o : Nat) (f : CanFrame) : State × Bool :=
  match s.inlineUnit (s.objOf o).cvu with
  | some (some n) =>
    let (s1, x) := s.cvuCheck n (arbitrationKey f.ide f.id.toNat) (s.cvuOf n).layout.checkOffset f.payload
    (s1.inlineDone n, decide (x.verdict ≠ 0))
  | some none => (s, true)
  | none => (s, false)

/-- Put a frame that the object takes into its buffers (R307, R316). -/
def State.placeFrame (s : State) (o : Nat) (f : CanFrame) (buf : Nat) : State :=
  let (s1, bad) := s.checkFrame o f
  let b : CanRxBuf := { frame := f, time := s.now, buf := buf, checkFail := bad }
  let (x, rose, lost) := (s1.objOf o).place b
  let s2 := s1.mapObj o fun _ =>
    { x with frames := satAdd 32 x.frames 1, checkFails := if bad then satAdd 32 x.checkFails 1 else x.checkFails }
  let s3 := if lost then s2.overrun o else s2
  let s4 := if rose ∧ x.intNew then s3.vector (s.owner kindCan o) x.vector else s3
  if x.queue.isSome then s4 else s4.deliver (s.receiveFlows o) s.now s.now 50 (unitId 0x10 (o / 128))

/-- Take an accepted frame: bucket, route of long payloads, inline check, buffers (R176, R299, R307). -/
def State.acceptFrame (s : State) (o : Nat) (f : CanFrame) : State :=
  let ids := s.receiveFlows o
  let len := f.payload.length
  let x := s.objOf o
  let above := ids.filter fun id => decide ((s.flowOf id).decl.maxSize < len)
  if !above.isEmpty then s.countDropped above true
  else if !s.conforms ids len then s.countDropped ids false
  else
    let s1 := s.takeTokens ids len
    if len ≤ 64 ∨ (x.queue.isSome ∧ len ≤ x.xlBytes) then s1.placeFrame o f x.freeBuf
    else if x.queue.isSome ∨ x.spill = 0 ∨ x.xlBytes < len then s1.tooLong (o / 128)
    else
      match s1.write (s.owner kindCan o) (x.spill + x.xlBytes * x.freeBuf) len (ofBytes f.payload) with
      | (s2, some e) => (s2.tooLong (o / 128)).raiseFault e (s.owner kindCan o) 0xFFFF 0x04 0
      | (s2, none) => s2.placeFrame o f x.freeBuf

/-- The power die takes a classical frame without error as evidence that a wake of the channel was genuine (R359). -/
def State.canEvidence (s : State) (channel : Nat) (rx : CanRx) : State :=
  match rx with
  | .frame f => if f.format.val = 0 then s.evidence channel else s
  | .error _ => s

/-- CAN_FRAME_RECEIVE (R294, R296, R299, R307). -/
def execCanFrameReceive (channel : Nat) (rx : CanRx) (s0 : State) : Host.Outcome State Fault Refusal :=
  let s := s0.canEvidence channel rx
  let c := s.canOf channel
  if !s.computeOn || !(c.state == .errorActive || c.state == .errorPassive || c.state == .monitoring) then .next s
  else
    match rx with
    | .error kind => .next (s.receiveError channel kind.val)
    | .frame f =>
      if c.format < f.format.val ∨ (f.format.val = 1 ∧ c.tms) then
        if c.peh ∨ c.tms then
          .next ((s.mapCan channel fun x => { x with exceptions := satAdd 16 x.exceptions 1 }).moveCan channel .integrating)
        else .next (s.receiveError channel 2)
      else
        let s1 := (s.mapCan channel fun x =>
          { x with rec_ := if x.mode ≠ 0 then x.rec_ else if 127 < x.rec_ then 127 else x.rec_ - 1 }).judgeErrors channel
        match (s1.channelObjects channel).find? fun o => (s1.objOf o).accepts f with
        | some o => .next (s1.acceptFrame o f)
        | none => .next (s1.mapCan channel fun x => { x with noMatch := satAdd 32 x.noMatch 1 })

/-- CAN_TT_RELEASE (R312, R318): the armed instant of a TT 1 object. A quiescing owner's instant is skipped. -/
def execCanTtRelease (object : Nat) (s : State) : Host.Outcome State Fault Refusal :=
  let x := s.objOf object
  match x.armedAt with
  | some t =>
    if !s.computeOn || decide (s.now < t) then .next s
    else if s.quiescing (s.owner kindCan object) then
      .next (s.mapObj object fun x => { x with armed := false, armedAt := none, pending := false, skipped := satAdd 32 x.skipped 1 })
    else .next (s.release object x.regInfo x.slotFrame false 25)
  | none => .next s

/-- One TT 2 object at its channel's gang instant (R313, R318). -/
def State.gangRelease (s : State) (o : Nat) : State :=
  let x := s.objOf o
  let skip := s.mapObj o fun x => { x with skipped := satAdd 32 x.skipped 1 }
  if x.direction ≠ 2 ∨ x.tt ≠ 2 then s
  else if s.quiescing (s.owner kindCan o) then skip
  else if x.armed then s.release o x.regInfo x.slotFrame false 25
  else if x.pending then skip
  else
    match x.repeat_, x.lastFrame with
    | true, some f => s.release o (canInfo f) f false 25
    | _, _ => skip

/-- CAN_GANG_INSTANT (R207, R313). -/
def execCanGangInstant (channel : Nat) (s : State) : Host.Outcome State Fault Refusal :=
  match nextInstant s.time.canGangs .can channel s.now with
  | some t =>
    if s.computeOn ∧ t ≤ s.now then
      let s1 := s.each (s.channelObjects channel) State.gangRelease
      .next { s1 with time := { s1.time with canGangs := advanceMember s1.time.canGangs channel s1.now } }
    else .next s
  | none => .next s

/-- CAN_TXD_DOMINANT_TIMEOUT (R290, R292). -/
def execCanTxdDominantTimeout (channel : Nat) (s : State) : Host.Outcome State Fault Refusal :=
  let x := s.canOf channel
  if s.computeOn && decide (channel < 12) && (x.transceiver == .normal || x.transceiver == .fast) then
    .next (s.unitEvent (unitId 0x10 channel) 0x06)
  else .next s

/-- Whether an object appears in a partition's window (R57, R102, R107, R301). -/
def State.slotSeen (s : State) (p o : Nat) : Bool :=
  s.windowOn p && s.has p .directWindows && decide (o < 1536) && decide (s.owner kindCan o = p) && (s.objOf o).slot.isSome

/-- Whether a write to an object's slot reaches it: not while its owner is quiescing, when it is counted (R133). -/
def State.slotWrite (s : State) (p o : Nat) (f : State → State) : State :=
  if !s.slotSeen p o then s
  else if s.quiescing p then
    { s with io := { s.io with parts := Table.modify {} s.io.parts p fun x => { x with writesIgnored := x.writesIgnored + 1 } } }
  else if s.furled (unitId 0x10 (o / 128)) then s
  else f s

/-- OBJ_STATUS_READ (R306): reading OBJ_STATUS of a receive object sets LOCKED. -/
def execObjStatusRead (partition object : Nat) (s : State) : Host.Outcome State Fault Refusal :=
  if s.slotSeen partition object ∧ (s.objOf object).direction = 1 then
    .next (s.mapObj object fun x => { x with locked := true })
  else .next s

/-- SEND_REQ (R308, R312, R313). -/
def State.sendRequest (s : State) (o : Nat) : State :=
  let x := s.objOf o
  let grid := (ceilTo 25 (2 * x.regTime) + 1) / 2
  if x.direction ≠ 2 then s
  else if x.pending || x.queue.isSome then s.mapObj o fun x => { x with writeIgnored := true }
  else
    match x.tt with
    | 0 => s.release o x.regInfo x.slotFrame false 10
    | 1 =>
      if grid < s.now + 10000 then (s.mapObj o fun x => { x with pending := true, attempts := 0 }).failSend o 0xD
      else s.mapObj o fun x => { x with pending := true, armedAt := some grid, attempts := 0 }
    | _ => s.mapObj o fun x => { x with pending := true, armed := true, attempts := 0 }

/-- OBJ_CTRL_SEND_REQ (R308). -/
def execObjCtrlSendReq (partition object : Nat) (s : State) : Host.Outcome State Fault Refusal :=
  .next (s.slotWrite partition object fun s1 => s1.sendRequest object)

/-- ABORT (R311): `begun` says whether transmission of the frame has begun. -/
def State.abortSend (s : State) (o : Nat) (begun : Bool) : State :=
  let x := s.objOf o
  let candidate := match x.tx with | some t => t.joinedAt.isSome | none => false
  if x.direction ≠ 2 ∨ !x.pending then s
  else if begun && candidate then s.mapObj o fun x => { x with abort := true }
  else s.failSend o 0x9

/-- OBJ_CTRL_ABORT (R311). -/
def execObjCtrlAbort (partition object : Nat) (begun : Bool) (s : State) : Host.Outcome State Fault Refusal :=
  .next (s.slotWrite partition object fun s1 => s1.abortSend object begun)

/-- RELEASE (R306): the read of the visible frame ends. -/
def CanObject.endRead (x : CanObject) : CanObject :=
  match x.shadow with
  | some b => { x with locked := false, visible := some b, shadow := none, new := true }
  | none => { x with locked := false, new := false }

/-- RELEASE written (R306, R307): a frame that moves up raises the vector, since NEW is set. -/
def State.releaseRead (s : State) (p o : Nat) : State :=
  let x := s.objOf o
  if x.direction ≠ 1 ∨ x.queue.isSome then s
  else
    let s1 := s.mapObj o CanObject.endRead
    if x.shadow.isSome ∧ x.intNew then s1.vector p x.vector else s1

/-- OBJ_CTRL_RELEASE (R306). -/
def execObjCtrlRelease (partition object : Nat) (s : State) : Host.Outcome State Fault Refusal :=
  .next (s.slotWrite partition object fun s1 => s1.releaseRead partition object)

end Sys2Proof.Machine
end

