-- ==== Sys2Proof/Machine/Ciphers.lean ====
section
/-! DEFINITION. The meanings of the cipher and check-value commands and of the end of a cipher operation (R511-R538). -/

namespace Sys2Proof.Machine

/-- Whether a mode allows a tag length (R513). -/
def tagLenOk (mode n : Nat) : Bool :=
  match mode with
  | 0 => decide (n = 4) || decide (n = 8) || within n 12 16
  | 1 => within n 4 16 && decide (n % 2 = 0)
  | 4 => within n 4 16
  | _ => decide (n = 0)

/-- The limits of R513 and R515. -/
def cipherOk (r : Request) : Bool :=
  let mode := r.byte 2
  let length := r.field 8 4
  let aad := r.field 12 4
  decide (r.field 0 2 < 512) && decide (mode ≤ 4) && decide (r.byte 3 ≤ 1) && tagLenOk mode (r.byte 6) &&
    decide (length ≤ 16777216) && (decide (0 < length) || decide (mode = 0) || decide (mode = 4)) &&
    (decide (mode ≠ 0) || decide (aad ≤ 1048576)) &&
    (decide (mode ≠ 1) || (decide (aad ≤ 65279) && (decide (r.byte 3 = 1) || decide (length < 2 ^ 24)))) &&
    (decide (mode ≠ 3) || decide (length % 16 = 0)) && (decide (mode ≠ 4) || decide (aad = 0)) &&
    (decide (r.field 4 2 < 4096) || decide (r.field 4 2 = 0xFFFF)) && aligned (r.field 40 8) 64

/-- The use of a slot that an operation needs (R513). -/
def cipherUse (mode op length : Nat) : Nat :=
  if mode = 4 ∨ (mode = 0 ∧ length = 0) then (if op = 0 then useMacGen else useMacVerify)
  else if op = 0 then useEncrypt else useDecrypt

/-- Whether an operation draws a counter value (R519). -/
def drawsCounter (mode op : Nat) : Bool := decide (op = 0) && decide (mode ≠ 4)

/-- The flow that a cipher or check-value command names. -/
def namedFlow (id : Nat) : Option Nat := if id = 0xFFFF then none else some id

/-- Whether an issuer owns the flow it names, if any. -/
def namesOwnFlow (r : Request) (id : Nat) (s : State) : Bool :=
  decide (4096 ≤ id) || ((s.flowOf id).state != .free && decide ((s.flowOf id).owner = r.issuer))

/-- The nonce length and LENGTH of a CCM decryption against R513, as the operation block has it when the command executes. -/
def ccmNonceBad (r : Request) (s : State) : Bool :=
  decide (r.byte 2 = 1) && decide (r.byte 3 = 1) &&
    (match (s.read r.issuer (r.field 40 8) 64).2 with
     | .ok block =>
       let n := byteField block 40 1
       !within n 7 13 || decide (2 ^ (8 * (15 - n)) ≤ r.field 8 4)
     | .error _ => false)

/-- CIPHER_RUN (cmd 0x0A01, R513-R521). -/
def cmdCipherRun : Command where
  opcode := 0x0A01
  fast := true
  paramLen := 48
  used := [(0, 0, 56), (7, 0, 5), (7, 7, 1), (8, 0, 320)]
  iovas := [16, 24, 32, 40]
  feature := some .cipherStrands
  tamperKeys _ := true
  owns r s := (decide (512 ≤ r.field 0 2) || s.ownsSlot r.issuer (r.field 0 2)) && namesOwnFlow r (r.field 4 2) s
  range := cipherOk
  furled _ s := s.keysFurled || s.furled (unitId 0x21 0) || s.strands.isEmpty
  checks r s :=
    let k := s.slotOf (r.field 0 2)
    let draws := drawsCounter (r.byte 2) (r.byte 3)
    let flow := namedFlow (r.field 4 2)
    let lane := s.lane { issuer := r.issuer, ring := r.ring.val, flow := flow, desc := 0, counter := none, key := 0, bits256 := false,
                         strand := 0, begunAt := 0, conforms := true, repeated := false }
    [((match flow with | some id => decide ((s.flowOf id).decl.type ≠ 0x09) | none => false), .badParam),
     (ccmNonceBad r s, .badParam),
     (s.keys.sealed, .cipherLockerSealed),
     (k.inForce == .bad, .keySlotBad),
     (!k.hasKey, .cipherKeyEmpty),
     (!permits k.attr (cipherUse (r.byte 2) (r.byte 3) (r.field 8 4)) || (draws && !counted k.attr), .cipherUseDenied),
     (draws && s.nonceExhausted (r.field 0 2), .nonceExhausted),
     (decide (64 ≤ (s.cipher.ops.filter fun o => decide (s.lane o = lane)).length), .noResource)]
  run r s :=
    let slot := r.field 0 2
    let k := s.slotOf slot
    let flow := namedFlow (r.field 4 2)
    let (counter, s1) : Option Nat × State :=
      if drawsCounter (r.byte 2) (r.byte 3) then (let (c, t) := s.drawCounter slot; (some c, t)) else (none, s)
    let (n, s2) := s1.draw
    let strand := match flow with
      | some id => if (s.flowOf id).state = .revoked then nth 0 s.strands (n % max 1 s.strands.length) else (s.flowOf id).strand
      | none => nth 0 s.strands (n % max 1 s.strands.length)
    let o : CipherOp :=
      { issuer := r.issuer, ring := r.ring.val, flow := flow, desc := r.params.toNat, counter := counter, key := k.key,
        bits256 := bits256 k.attr, strand := strand, begunAt := s.now, conforms := true, repeated := false }
    let ids := match flow with | some id => [id] | none => []
    if s2.conforms ids o.size then
      let s3 := s2.takeTokens ids o.size
      .accepted 0 { s3 with cipher := { s3.cipher with ops := s3.cipher.ops ++ [o] } }
    else
      let s3 := s2.countDelayed ids
      .accepted 0 { s3 with cipher := { s3.cipher with ops := s3.cipher.ops ++ [{ o with conforms := false }] } }

/-- CIPHER_RUN. -/
def execCipherRun (r : Request) (s : State) : Host.Outcome State Fault Refusal := cmdCipherRun.step r s

/-- An operation that its bucket held back conforms; its latency counts from now (R176, R177). -/
def State.conformOp (s : State) (i : Nat) : State :=
  match s.cipher.ops[i]? with
  | none => s
  | some o =>
    let ids := match o.flow with | some id => [id] | none => []
    if !o.conforms && s.laneHead i o && s.conforms ids o.size then
      let s1 := s.takeTokens ids o.size
      { s1 with cipher := { s1.cipher with ops := setAt s1.cipher.ops i { o with conforms := true, begunAt := s.now } } }
    else s

/-- CIPHER_OP_END: an open operation ends with everything it writes (R517-R524). -/
def execCipherOpEnd (operation : Nat) (s : State) : Host.Outcome State Fault Refusal :=
  match s.cipher.ops[operation]? with
  | none => .next s
  | some o =>
    if !s.computeOn || !o.conforms || !s.laneHead operation o then .next s
    else
      let s1 : State := { s with cipher := { s.cipher with ops := dropAt s.cipher.ops operation } }
      let s2 := (s1.runOp o).1
      .next (match o.flow with
        | some id => s2.deliver [id] o.begunAt s2.now 20 (unitId 0x1E o.strand)
        | none => s2)

/-- CIPHER_COUNTER_READ (cmd 0x0A02). -/
def cmdCipherCounterRead : Command where
  opcode := 0x0A02
  fast := true
  paramLen := 4
  used := [(0, 0, 16)]
  feature := some .cipherStrands
  tamperKeys _ := true
  owns r s := decide (r.issuer = 0) || decide (512 ≤ r.field 0 2) || s.ownsSlot r.issuer (r.field 0 2)
  range r := decide (r.field 0 2 < 512)
  checks r s := [((s.slotOf (r.field 0 2)).inForce == .empty, .cipherKeyEmpty)]
  run r s :=
    let k := s.slotOf (r.field 0 2)
    .done (pack [(0, 8, k.counter), (8, 8, if persistent k.attr then k.high else 0),
      (16, 1, flag (s.nonceExhausted (r.field 0 2)) + 2 * flag k.exported.isSome)]) s

/-- CIPHER_COUNTER_READ. -/
def execCipherCounterRead (r : Request) (s : State) : Host.Outcome State Fault Refusal := cmdCipherCounterRead.step r s

/-- A mask with the bits of a list. -/
def maskOf (l : List Nat) : Nat := l.foldl (fun m b => m ||| 2 ^ b) 0

/-- CIPHER_QUERY (cmd 0x0A03). -/
def cmdCipherQuery : Command where
  opcode := 0x0A03
  fast := true
  feature := some .cipherStrands
  tamperKeys _ := true
  run r s :=
    let shown := decide (r.issuer = 0)
    .done (pack [(0, 3, if shown then maskOf s.strands else 0), (4, 3, if shown then s.cipher.held else 0),
      (8, 2, (s.cipher.ops.filter fun o => decide (o.issuer = r.issuer)).length),
      (12, 4, Table.get 0 s.cipher.tagFails r.issuer), (16, 4, Table.get 0 s.cipher.accessFaults r.issuer)]) s

/-- CIPHER_QUERY. -/
def execCipherQuery (r : Request) (s : State) : Host.Outcome State Fault Refusal := cmdCipherQuery.step r s

/-- Whether a strand carries bound flows (R160). -/
def State.strandBound (s : State) (t : Nat) : Bool := s.reserved.any fun g => g.2.decl.type == 0x09 && g.2.strand == t

/-- CIPHER_HOLD_SET (cmd 0x0A04). -/
def cmdCipherHoldSet : Command where
  opcode := 0x0A04
  paramLen := 4
  used := [(0, 0, 24)]
  feature := some .cipherStrands
  tamperKeys _ := true
  manager := true
  range r := decide (popCount 24 (r.field 0 3) ≤ 4)
  checks r s :=
    [((span 0 24).any fun t => bitOf (r.field 0 3) t && (s.furled (unitId 0x1E t) || s.strandBound t), .badParam)]
  run r s := .done (pack [(0, 3, r.field 0 3)]) { s with cipher := { s.cipher with held := r.field 0 3 } }

/-- CIPHER_HOLD_SET. -/
def execCipherHoldSet (r : Request) (s : State) : Host.Outcome State Fault Refusal := cmdCipherHoldSet.step r s

/-- The CVU that a block gives (R528): counts at zero, the next checked item the first; the reporting interval goes on. -/
def cvuOfBlock (r : Request) (old : Cvu) : Cvu :=
  { preset := r.byte 1, width := r.byte 2, flags := r.byte 3, fold := r.byte 4, counterBits := r.byte 5, maxDelta := r.byte 6,
    checkOffset := r.byte 7, poly := r.field 8 8, init := r.field 16 2, xorOut := r.field 18 2, dataId := r.field 20 4,
    counterPos := r.byte 24, foldBytes := r.byte 25, counter := r.field 28 4, eventAt := old.eventAt }

/-- Whether a block's fields are in range and agree (R528, R530). The fields that a preset replaces are not looked at (R534). -/
def cvuBlockOk (r : Request) : Bool :=
  decide (r.byte 0 < 16) && decide (r.byte 1 ≤ 6) && within (r.byte 6) 1 255 &&
  (decide (r.byte 1 ≠ 0) ||
    (within (r.byte 2) 3 64 && decide (r.byte 5 ≤ 32) && within (r.byte 25) 1 8 &&
     (decide (r.byte 5 ≤ 4) || decide (r.byte 24 % 2 = 0)) &&
     !(r.bit 3 2 && decide (r.bits 4 6 5 = 3)) && (!(r.bit 3 2 || decide (r.bits 4 6 5 = 3)) || decide (r.byte 5 ≠ 0))))

/-- Whether an ADMITTED or HELD flow uses a CVU (cmds 0x0B01, 0x0B03). -/
def State.cvuFlows (s : State) (n : Nat) : Bool :=
  s.reserved.any fun g => g.2.decl.path.any fun x => x.type == rCvu && x.inst == n

/-- A block without VECTOR, INT_MISMATCH and COUNTER, the fields that may change under an admitted flow. -/
def fixedBlock (w : Nat) : Nat :=
  w - byteField w 28 4 * 2 ^ 224 - bitsOf (byteField w 4 1) 4 0 * 2 ^ 32 - bitsOf (byteField w 3 1) 3 3 * 2 ^ 27

/-- CVU_CONFIG (cmd 0x0B01). -/
def cmdCvuConfig : Command where
  opcode := 0x0B01
  paramLen := 32
  used := [(0, 0, 31), (4, 0, 176), (28, 0, 32)]
  feature := some .cvu
  owns r s := decide (16 ≤ r.byte 0) || decide (s.owner kindCvu (r.byte 0) = r.issuer)
  range := cvuBlockOk
  furled r s := s.furled (unitId 0x20 (r.byte 0))
  checks r s :=
    [(s.cvuFlows (r.byte 0) && decide (fixedBlock (r.field 0 32) ≠ fixedBlock ((s.cvuOf (r.byte 0)).block (r.byte 0))),
      .cvuFlowsAdmitted)]
  run r s := .done 0 (s.mapCvu (r.byte 0) (cvuOfBlock r))

/-- CVU_CONFIG. -/
def execCvuConfig (r : Request) (s : State) : Host.Outcome State Fault Refusal := cmdCvuConfig.step r s

/-- CVU_RUN (cmd 0x0B02, R529, R530, R532). A bucket that does not hold LENGTH delays it (R176). -/
def cmdCvuRun : Command where
  opcode := 0x0B02
  fast := true
  paramLen := 32
  used := [(0, 0, 8), (1, 0, 2), (4, 0, 176)]
  iovas := [8]
  feature := some .cvu
  owns r s := (decide (16 ≤ r.byte 0) || decide (s.owner kindCvu (r.byte 0) = r.issuer)) && namesOwnFlow r (r.field 24 2) s
  range r := decide (r.byte 0 < 16) && within (r.field 4 4) 1 16777216 &&
    (decide (r.field 24 2 < 4096) || decide (r.field 24 2 = 0xFFFF))
  furled r s := s.furled (unitId 0x20 (r.byte 0))
  checks r s :=
    [(!(s.cvuOf (r.byte 0)).enabled, .badParam),
     ((match namedFlow (r.field 24 2) with
       | some id => !((s.flowOf id).decl.path.any fun x => x.type == rCvu && x.inst == r.byte 0)
       | none => false), .badParam),
     (s.cvuOnStream (r.byte 0), .cvuStreamConflict)]
  run r s :=
    let n := r.byte 0
    let ids := match namedFlow (r.field 24 2) with | some id => [id] | none => []
    if !s.conforms ids (r.field 4 4) then .wait (if s.resumed r then s else s.countDelayed ids)
    else
      match s.read r.issuer (r.field 8 8) (r.field 4 4) with
      | (s1, .error f) => .fault f s1
      | (s1, .ok w) =>
        let expected := if r.bit 1 0 then some (r.field 16 8) else none
        let (s2, x) := (s1.takeTokens ids (r.field 4 4)).cvuItem n (r.field 8 8) (s.cvuOf n).layout.checkOffset
          (toBytes (r.field 4 4) w) expected (r.bit 1 0 || r.bit 1 1) (r.bit 1 1)
        let results := pack [(0, 8, x.value), (8, 8, x.field), (16, 1, x.verdict), (18, 2, min 65535 x.lost), (20, 4, x.counter)]
        .finish (if x.verdict = 0 then .done else .cvuMismatch) results s2 fun t => t.deliver ids s.now t.now 20 (unitId 0x20 n)

/-- CVU_RUN. -/
def execCvuRun (r : Request) (s : State) : Host.Outcome State Fault Refusal := cmdCvuRun.step r s

/-- Whether a filter carries a CUT_THROUGH flow, ADMITTED or HELD (cmd 0x0B03). -/
def State.filterCuts (s : State) (n : Nat) : Bool :=
  s.reserved.any fun g => g.2.decl.cutThrough && g.2.decl.path.any fun x => x.type == rStream && x.inst == n

/-- CVU_STREAM_ATTACH (cmd 0x0B03). CVU 0xFF detaches whatever the filter has. -/
def cmdCvuStreamAttach : Command where
  opcode := 0x0B03
  paramLen := 4
  used := [(0, 0, 8), (2, 0, 16)]
  feature := some .cvu
  owns r s := (decide (r.byte 0 = 0xFF) || decide (16 ≤ r.byte 0) || decide (s.owner kindCvu (r.byte 0) = r.issuer)) &&
    (decide (1024 ≤ r.field 2 2) || decide ((s.filterOf (r.field 2 2)).partition = r.issuer))
  range r := (decide (r.byte 0 < 16) || decide (r.byte 0 = 0xFF)) && decide (r.field 2 2 < 1024)
  furled r s := decide (r.byte 0 ≠ 0xFF) && s.furled (unitId 0x20 (r.byte 0))
  checks r s :=
    let x := s.filterOf (r.field 2 2)
    [(decide (r.byte 0 ≠ 0xFF) && (decide (x.mode = 0) || x.cvu.isSome || s.filterCuts (r.field 2 2)), .cvuStreamConflict),
     (decide (r.byte 0 ≠ 0xFF) && s.cvuFlows (r.byte 0), .cvuFlowsAdmitted)]
  run r s := .done 0 (s.mapFilter (r.field 2 2) fun x => { x with cvu := if r.byte 0 = 0xFF then none else some (r.byte 0) })

/-- CVU_STREAM_ATTACH. -/
def execCvuStreamAttach (r : Request) (s : State) : Host.Outcome State Fault Refusal := cmdCvuStreamAttach.step r s

/-- CVU_QUERY (cmd 0x0B04). -/
def cmdCvuQuery : Command where
  opcode := 0x0B04
  fast := true
  paramLen := 4
  used := [(0, 0, 9)]
  feature := some .cvu
  owns r s := decide (r.issuer = 0) || decide (16 ≤ r.byte 0) || decide (s.owner kindCvu (r.byte 0) = r.issuer)
  range r := decide (r.byte 0 < 16)
  run r s :=
    let c := s.cvuOf (r.byte 0)
    let s1 := if r.bit 1 0 then
        s.mapCvu (r.byte 0) fun c => { c with items := 0, mismatches := 0, repeats := 0, outOfWindow := 0, lost := 0 } else s
    .done (pack [(0, 4, c.items), (4, 4, c.mismatches), (8, 4, c.repeats), (12, 4, c.outOfWindow), (16, 4, c.lost),
      (20, 4, c.counter)]) s1

/-- CVU_QUERY. -/
def execCvuQuery (r : Request) (s : State) : Host.Outcome State Fault Refusal := cmdCvuQuery.step r s

end Sys2Proof.Machine
end

