-- ==== Sys2Proof/Machine/Fairlead.lean ====
section
/-! DEFINITION. The meanings of the Fairlead commands and events (17). -/

namespace Sys2Proof.Machine

/-- The identity and BAR fields of a FAIRLEAD_CONFIG in the strapped role (R542). -/
def fairIdentityOk (root : Bool) (r : Request) : Bool :=
  if root then decide (r.field 10 9 = 0) else within (r.byte 17) 20 36 && within (r.byte 18) 20 36

/-- FAIRLEAD_CONFIG (cmd 0x0C01, R541, R542). A link that already trains or is UP keeps its state: DESIGN CHOICE (log entry 45). -/
def cmdFairleadConfig : Command where
  opcode := 0x0C01
  paramLen := 24
  used := [(0, 0, 1), (1, 0, 144)]
  manager := true
  range r := within (r.byte 1) 1 4 && decide (r.byte 2 ≤ 2) && decide (r.byte 3 ≤ 2) && within (r.field 4 4) 50 50000 &&
    within (r.field 8 2) 1 1000
  furled _ s := s.furled (unitId 0x23 0)
  checks r s := [(!fairIdentityOk s.rootComplex r, .badParam), (!s.fair.ops.isEmpty, .fairleadWindowState)]
  run r s :=
    let config : FairConfig :=
      { enable := r.bit 0 0, maxSpeed := r.byte 1, mps := r.byte 2, mrrs := r.byte 3, timeoutUs := r.field 4 4,
        backoffUs := r.field 8 2, vendorId := r.field 10 2, deviceId := r.field 12 2, classCode := r.field 14 3,
        bar0Log2 := r.byte 17, bar2Log2 := r.byte 18 }
    let s1 : State := { s with fair := { s.fair with config := config } }
    let s2 :=
      if !config.enable then s1.dropFair .disabled []
      else if s1.fair.link = .disabled ∧ !s1.fairStopped then s1.moveFair .training 0 0
      else s1
    .done s2.fair.link.code s2

/-- FAIRLEAD_CONFIG. -/
def execFairleadConfig (r : Request) (s : State) : Host.Outcome State Fault Refusal := cmdFairleadConfig.step r s

/-- The window that a FAIRLEAD_WINDOW_SET describes. -/
def windowFrom (r : Request) (old : FairWindow) : FairWindow :=
  { old with enable := r.bit 1 0, prefetch := r.bit 1 1, ack := r.bit 1 2, fenceOn := r.bit 1 3, read := r.bit 1 4, write := r.bit 1 5,
             bar := r.byte 2, sizeLog2 := r.byte 3, farBase := r.field 8 8, localBase := r.field 16 8, buffer := none }

/-- Two far ranges overlap. -/
def FairWindow.overlaps (a b : FairWindow) (root : Bool) : Bool :=
  (root || a.bar == b.bar) && decide (a.farBase < b.farBase + 2 ^ b.sizeLog2) && decide (b.farBase < a.farBase + 2 ^ a.sizeLog2)

/-- Whether an inbound window lies in its BAR (R542). -/
def State.insideBar (s : State) (w : FairWindow) : Bool :=
  s.rootComplex ||
    decide (w.farBase + 2 ^ w.sizeLog2 ≤ 2 ^ (if w.bar = 0 then s.fair.config.bar0Log2 else s.fair.config.bar2Log2))

/-- FAIRLEAD_WINDOW_SET (cmd 0x0C02, R543). An attribute or field of the other kind of window is reserved: DEDUCED (log entry 45). -/
def cmdFairleadWindowSet : Command where
  opcode := 0x0C02
  paramLen := 32
  used := [(0, 0, 8), (1, 0, 6), (2, 0, 16), (8, 0, 128)]
  iovas := [16]
  manager := true
  shape r := if r.byte 0 < 16 then decide (r.bits 1 5 4 = 0) && decide (r.byte 2 = 0) && decide (r.field 16 8 = 0)
    else decide (r.bits 1 3 1 = 0)
  featureBad r s := r.bit 1 2 && !s.has 0 .fairleadAckWrites
  range r := decide (r.byte 0 < 32) && within (r.byte 3) 12 36 && aligned (r.field 8 8) (2 ^ r.byte 3) && aligned (r.field 16 8) 4096 &&
    decide (r.byte 2 = 0 ∨ r.byte 2 = 2)
  furled _ s := s.furled (unitId 0x23 0)
  checks r s :=
    let w := windowFrom r (s.fairWindow (r.byte 0))
    let inbound := decide (16 ≤ r.byte 0)
    [(inbound && s.rootComplex && decide (r.byte 2 ≠ 0), .badParam),
     (inbound && !s.insideBar w, .badParam),
     (inbound && w.enable && (span 16 16).any fun k =>
        decide (k ≠ r.byte 0) && (s.fairWindow k).enable && w.overlaps (s.fairWindow k) s.rootComplex, .badParam),
     (s.fair.ops.any fun o => decide (o.window = r.byte 0), .fairleadWindowState)]
  run r s := .done 0 (s.mapFairWindow (r.byte 0) (windowFrom r))

/-- FAIRLEAD_WINDOW_SET. -/
def execFairleadWindowSet (r : Request) (s : State) : Host.Outcome State Fault Refusal := cmdFairleadWindowSet.step r s

/-- FAIRLEAD_MOVE (cmd 0x0C03, R546). -/
def cmdFairleadMove : Command where
  opcode := 0x0C03
  fast := true
  paramLen := 32
  used := [(0, 0, 16), (2, 0, 5), (2, 7, 1), (4, 0, 224)]
  iovas := [16, 24]
  range r := decide (r.byte 0 < 16) && decide (r.byte 1 ≤ 1) && within (r.field 4 4) 1 16777216 && aligned (r.field 24 8) 8
  owns r s := decide (s.owner kindWindow (r.byte 0) = r.issuer)
  furled r s := s.furled (unitId 0x23 0) || ((s.fairWindow (r.byte 0)).fenced && decide (r.byte 1 = 0))
  checks r s :=
    let w := s.fairWindow (r.byte 0)
    let queued := s.fair.ops.filter fun o => o.begunAt.isNone && decide (o.issuer = r.issuer) && decide (o.ring = r.ring.val)
    [(!w.enable, .fairleadWindowState),
     (decide (2 ^ w.sizeLog2 < r.field 8 8 + r.field 4 4), .fairleadRange),
     (s.fair.link != .up, .fairleadLinkDown),
     (decide (64 ≤ queued.length), .noResource)]
  run r s :=
    let o : FairOp :=
      { issuer := r.issuer, ring := r.ring.val, window := r.byte 0, write := decide (r.byte 1 = 0), offset := r.field 8 8,
        length := r.field 4 4, local_ := r.field 16 8, statusIova := r.field 24 8,
        vector := if r.bit 2 7 then some (r.bits 2 4 0) else none }
    .finish .accepted 0 { s with fair := { s.fair with ops := s.fair.ops ++ [o] } } State.advanceFair

/-- FAIRLEAD_MOVE. -/
def execFairleadMove (r : Request) (s : State) : Host.Outcome State Fault Refusal := cmdFairleadMove.step r s

/-- Read the local bytes of the TLPs of a write: the bytes sent before the first fault, and that fault. -/
def sendTlps (p : Nat) : List (Nat × Nat) → Nat → Nat → State → State × Nat × Option XFault
  | [], _, sent, s => (s, sent, none)
  | (_, n) :: rest, iova, sent, s =>
    match s.read p iova n with
    | (s1, .ok _) => sendTlps p rest (iova + n) (sent + n) s1
    | (s1, .error f) => (s1, sent, some f)

/-- Write what a read brought, TLP by TLP, up to a fault. -/
def landTlps (p : Nat) : List (Nat × Nat) → Nat → List Byte → State → State × Option XFault
  | [], _, _, s => (s, none)
  | (_, n) :: rest, iova, data, s =>
    match s.write p iova n (ofBytes (data.take n)) with
    | (s1, none) => landTlps p rest (iova + n) (data.drop n) s1
    | (s1, some f) => (s1, some f)

/-- The IOMMU_FAULT of an operation (R554). -/
def State.fairFault (s : State) (o : FairOp) (f : XFault) : State := s.raiseFault f o.issuer 0xFFFF 0x01 0

/-- How far a read of a prefetchable window reads ahead at most (R549). -/
def State.prefetchMax (s : State) (o : FairOp) : Nat :=
  let w := s.fairWindow o.window
  let last := o.offset + o.length
  if w.prefetch then min 256 (min (2 ^ w.sizeLog2 - last) ((4096 - (w.farBase + last) % 4096) % 4096)) else 0

/-- A write operation's end (R547): DONE, or a far error of an acknowledged write's flush. -/
def State.endWrite (s : State) (o : FairOp) (far : Bool) : State :=
  match sendTlps o.issuer (s.tlpsOf o) o.local_ 0 s with
  | (s1, _, none) => s1.endFair o (if far then .fairleadFarError else .done) o.length
  | (s1, sent, some f) => (s1.fairFault o f).endFair o .fairleadAccessFault sent

/-- A read operation's end with every byte there (R547), and what it read ahead (R549). -/
def State.endRead (s : State) (o : FairOp) (data : List Byte) : State :=
  let bytes := o.taken ++ (data.drop o.taken.length).take (o.length - o.taken.length)
  let ahead := data.drop o.length
  match landTlps o.issuer (s.tlpsOf o) o.local_ bytes s with
  | (s1, some f) => (s1.fairFault o f).failRead o .fairleadAccessFault
  | (s1, none) =>
    let s2 := if ahead.isEmpty then s1 else s1.mapFairWindow o.window fun w =>
      { w with buffer := some { start := o.offset + o.length, bytes := ahead, filledAt := s.now } }
    s2.endFair o .done o.length

/-- A running operation whose request is not held off (R553). -/
def State.runningOp (s : State) (i : Nat) : Option FairOp :=
  match s.fair.ops[i]? with
  | some o =>
    if s.fair.link == .up && o.begunAt.isSome && decide (o.backoffUntil.getD 0 ≤ s.now) then some o else none
  | none => none

/-- FAIRLEAD_MOVE_END (R547): an operation ends with DONE or, where the far side answers, with FAIRLEAD_FAR_ERROR. `data` is what a
read brought and what it read ahead. -/
def execFairleadMoveEnd (operation status : Nat) (data : List Byte) (s : State) : Host.Outcome State Fault Refusal :=
  match s.runningOp operation with
  | none => .next s
  | some o =>
    let far := decide (status = Status.fairleadFarError.code)
    let s1 := s.dropOp operation
    if !far && decide (status ≠ 0) then .next s
    else if o.write then
      if far && !(s.fairWindow o.window).ack then .next s else .next (s1.endWrite o far).advanceFair
    else if far then .next (s1.failRead o .fairleadFarError).advanceFair
    else if within data.length o.length (o.length + s.prefetchMax o) then .next (s1.endRead o data).advanceFair
    else .next s

/-- FAIRLEAD_COMPLETION_TIMEOUT (R553): a read, or an acknowledged write's flush read, has not come back in CPL_TIMEOUT_US. -/
def execFairleadCompletionTimeout (operation : Nat) (s : State) : Host.Outcome State Fault Refusal :=
  match s.runningOp operation with
  | none => .next s
  | some o =>
    let due := match o.begunAt with | some t => decide (t + 1000 * s.fair.config.timeoutUs ≤ s.now) | none => false
    let s1 := s.dropOp operation
    if !due then .next s
    else if !o.write then .next (s1.failRead o .fairleadCompletionTimeout).advanceFair
    else if (s.fairWindow o.window).ack then .next (s1.endFair o .fairleadCompletionTimeout o.length).advanceFair
    else .next s

/-- FAIRLEAD_BACKOFF (R553): a non-posted request that has waited BACKOFF_US for credits leaves the head of its queue. -/
def execFairleadBackoff (operation : Nat) (s : State) : Host.Outcome State Fault Refusal :=
  match s.runningOp operation with
  | none => .next s
  | some o =>
    let wait := 1000 * s.fair.config.backoffUs
    if (!o.write || (s.fairWindow o.window).ack) && decide (o.waitingFrom + wait ≤ s.now) then
      let o1 : FairOp := { o with backoffUntil := some (s.now + wait), waitingFrom := s.now + wait }
      .next { s with fair := { s.fair with ops := setAt s.fair.ops operation o1 } }
    else .next s

/-- PREFETCH_BUFFER_EXPIRY (R549). -/
def execPrefetchBufferExpiry (window : Nat) (s : State) : Host.Outcome State Fault Refusal :=
  match (s.fairWindow window).buffer with
  | some b =>
    if b.filledAt + 10000 ≤ s.now then .next (s.mapFairWindow window fun w => { w with buffer := none }) else .next s
  | none => .next s

/-- FAIRLEAD_FENCE_CLEAR (cmd 0x0C04, R552). -/
def cmdFairleadFenceClear : Command where
  opcode := 0x0C04
  fast := true
  paramLen := 4
  used := [(0, 0, 8)]
  manager := true
  range r := decide (r.byte 0 < 16)
  furled _ s := s.furled (unitId 0x23 0)
  run r s := .done 0 (s.mapFairWindow (r.byte 0) fun w => { w with fenced := false })

/-- FAIRLEAD_FENCE_CLEAR. -/
def execFairleadFenceClear (r : Request) (s : State) : Host.Outcome State Fault Refusal := cmdFairleadFenceClear.step r s

/-- FAIRLEAD_CFG (cmd 0x0C05, R542). What the far side answers, and whether it does, are free. -/
def cmdFairleadCfg : Command where
  opcode := 0x0C05
  paramLen := 12
  used := [(0, 0, 24), (4, 0, 16), (8, 0, 32)]
  manager := true
  range r := decide (r.byte 0 ≤ 1) && aligned (r.field 4 2) 4 && decide (r.field 4 2 < 4096)
  furled _ s := s.furled (unitId 0x23 0)
  checks _ s := [(!s.rootComplex, .badParam), (s.fair.link != .up, .fairleadLinkDown)]
  run r s :=
    let (answered, s1) := s.choose
    let (refused, s2) := s1.choose
    let (value, s3) := s2.draw
    if !answered then .finish .fairleadCompletionTimeout 0 s3 id
    else if refused then .finish .fairleadFarError 0 s3 id
    else .done (if r.byte 0 = 0 then value % 2 ^ 32 else 0) s3

/-- FAIRLEAD_CFG. -/
def execFairleadCfg (r : Request) (s : State) : Host.Outcome State Fault Refusal := cmdFairleadCfg.step r s

/-- A log entry as it is written (R551). -/
def PostedError.bytes (e : PostedError) : Nat :=
  pack [(0, 2, e.seq), (2, 1, e.window), (3, 1, e.cause), (4, 1, e.partition), (5, 1, flag e.fenced), (8, 8, e.address), (16, 8, e.time),
    (24, 4, e.length)]

/-- The log as FAIRLEAD_QUERY writes it: 16 entries, oldest first, the unused ones zero. -/
def logBytes (l : List PostedError) : Nat := (l.map PostedError.bytes).foldr (fun e n => e + 2 ^ 256 * n) 0

/-- Which of eight windows are fenced. -/
def State.fencedMask (s : State) (first : Nat) : Nat :=
  (span 0 8).foldl (fun m k => m + flag (s.fairWindow (first + k)).fenced * 2 ^ k) 0

/-- FAIRLEAD_QUERY (cmd 0x0C06, R551). REPLAYS is a count that the line makes: a free value (log entry 16). -/
def cmdFairleadQuery : Command where
  opcode := 0x0C06
  paramLen := 16
  used := [(0, 0, 1), (8, 0, 64)]
  iovas := [8]
  manager := true
  range r := aligned (r.field 8 8) 32
  run r s :=
    let (replays, s0) := s.draw
    let f := s.fair
    let results := pack [(0, 1, f.link.code), (1, 1, f.speed), (2, 1, f.width), (3, 1, s.fencedMask 0), (4, 1, s.fencedMask 8),
      (8, 2, min f.drops 0xFFFF), (10, 2, replays), (12, 2, f.unmatched), (14, 2, f.overwritten), (16, 2, f.lostStatus),
      (18, 2, f.errorSeq)]
    match (if r.field 8 8 = 0 then (s0, none) else s0.write r.issuer (r.field 8 8) 512 (logBytes f.log)) with
    | (s1, some e) => .fault e { s with io := s1.io }
    | (s1, none) =>
      .done results (if r.bit 0 0 then
        { s1 with fair := { s1.fair with drops := 0, unmatched := 0, overwritten := 0, lostStatus := 0 } } else s1)

/-- FAIRLEAD_QUERY. -/
def execFairleadQuery (r : Request) (s : State) : Host.Outcome State Fault Refusal := cmdFairleadQuery.step r s

/-- FAIRLEAD_LINK_STATE (R541): the link comes UP at a speed and width, or goes down and trains again. `progress` holds, for each
operation, how many of its TLPs were sent and acknowledged. -/
def execFairleadLinkState (state speed width : Nat) (progress : List (Nat × Nat)) (s : State) : Host.Outcome State Fault Refusal :=
  if !s.computeOn || !s.fair.config.enable || s.fairStopped then .next s
  else if s.fair.link = .training ∧ state = 2 ∧ within speed 1 s.fair.config.maxSpeed ∧ within width 1 2 then
    .next (s.moveFair .up speed width)
  else if s.fair.link = .up ∧ state = 1 then .next (s.dropFair .training progress)
  else .next s

/-- The inbound window that a request hits (R544). -/
def State.inboundWindow (s : State) (bar address length : Nat) : Option Nat :=
  (span 16 16).find? fun k =>
    let w := s.fairWindow k
    w.enable && (s.rootComplex || w.bar == bar) && decide (w.farBase ≤ address) && decide (address + length ≤ w.farBase + 2 ^ w.sizeLog2)

/-- FAIRLEAD_INBOUND_FAULT (R545, R558). -/
def State.inboundFault (s : State) (w requester : Nat) (f : XFault) : State :=
  let p := s.owner kindWindow w
  s.raise { unit := unitId 0x23 0, code := 0x0C02, severity := 2, partition := p,
            detail := pack [(0, 8, f.address), (8, 1, w), (9, 1, flag f.manager * 128 + flag f.write * 64 + f.cause), (10, 1, flag f.write),
              (12, 2, requester)] } [if f.manager then 0 else p]

/-- FAIRLEAD_INBOUND_REQUEST (R544, R545): a memory write or read of the far side, at a PCIe address of a root complex or at an
offset of an endpoint's BAR. What a read answers goes to the far side. -/
def execFairleadInboundRequest (write : Bool) (bar address : Nat) (data : List Byte) (length requester : Nat) (s : State) :
    Host.Outcome State Fault Refusal :=
  if !s.computeOn || s.fair.link != .up || length = 0 || decide (4096 < address % 4096 + length) || (write && decide (data.length ≠ length)) then
    .next s
  else
    match s.inboundWindow bar address length with
    | none => .next { s with fair := { s.fair with unmatched := satAdd 16 s.fair.unmatched 1 } }
    | some k =>
      let w := s.fairWindow k
      let p := s.owner kindWindow k
      let iova := w.localBase + (address - w.farBase)
      if write then
        if !w.write then .next s
        else
          match s.write p iova length (ofBytes data) with
          | (s1, none) => .next s1
          | (s1, some f) => .next (s1.inboundFault k requester f)
      else if !w.read then .next s
      else
        match s.read p iova length with
        | (s1, .ok _) => .next s1
        | (s1, .error f) => .next (s1.inboundFault k requester f)

/-- FAIRLEAD_POSTED_ERROR (R550, R551): Masthead reads the far side's header log after an error message and attributes it. Only a root
complex receives such messages, and without Masthead the attribution waits (R554). -/
def execFairleadPostedError (cause address length : Nat) (s : State) : Host.Outcome State Fault Refusal :=
  if !s.computeOn || s.absent || !s.rootComplex || s.fair.link != .up || !(cause = 1 || cause = 2 || cause = 4) then .next s
  else .next (s.postError (s.sender address) cause address length)

end Sys2Proof.Machine
end

