-- ==== Sys2Proof/Machine/Keys.lean ====
section
/-! DEFINITION. The meanings of the key commands and of the Locker's own events (R474-R494, R508-R510, R519-R521). -/

namespace Sys2Proof.Machine

/-- SLOT of a key command (cmds 0x0910-0x0917). -/
def keySlot (r : Request) : Nat := r.field 0 2

/-- ATTR of a command that fills a slot (cmds 0x0911-0x0914). -/
def keyAttr (r : Request) : Nat := r.field 4 2

/-- REPLACE of a command that fills a slot. -/
def keyReplace (r : Request) : Bool := r.bit 2 0

/-- The bits of the common parameters of the commands that fill a slot: ATTR without its reserved bits (R480). -/
def fillBits : List (Nat × Nat × Nat) := [(0, 0, 16), (2, 0, 1), (4, 0, 7), (5, 1, 7)]

/-- Whether an issuer may name a slot (R481); a number that names none is left to the range check. -/
def maySlot (r : Request) (slot : Nat) (s : State) : Bool := decide (512 ≤ slot) || s.ownsSlot r.issuer slot

/-- A key command in Scrapped is not permitted (R495). -/
def scrapped (s : State) : Bool := decide (s.lifecycle = 5)

/-- Whether a life-cycle change is under way, when the Locker takes no key command (R497). -/
def State.changing (s : State) : Bool := s.keys.ops.any fun o => decide (o.opcode = 0x0903)

/-- Whether the slots are closed to a command that needs no key: before the first unseal, and during a life-cycle change
(R487, R497). -/
def State.slotsClosed (s : State) : Bool := !s.keys.unsealedOnce || s.changing

/-- Whether ATTR is one that a slot can take now (R480). -/
def attrOk (attr : Nat) (s : State) : Bool :=
  (persistent attr || decide (tamperClass attr = 0)) && (decide (lcBind attr = 0) || decide (lcBind attr = s.bindCode))

/-- The statuses of a command that fills a slot (R480, R483, R487, R494). Without the root there is no image key, so no persistent
write: DEDUCED (R477, R478). -/
def fillChecks (r : Request) (s : State) : List (Bool × Status) :=
  let k := s.slotOf (keySlot r)
  [(!attrOk (keyAttr r) s, .badParam), (s.keys.sealed, .lockerSealed),
   (!(k.state == .empty || (k.state == .ready && keyReplace r)), .keySlotState),
   (persistent (keyAttr r) && s.keys.otp.root.isNone, .rootAbsent)]

/-- A command that fills a slot meets a furled Locker, or a furled xSPI controller where NV has to be written (R37, R494). -/
def fillFurled (r : Request) (s : State) : Bool :=
  s.furled (unitId 0x1C 0) ||
    (s.nvFurled && (persistent (keyAttr r) || persistent (s.slotOf (keySlot r)).attr))

/-- A key enters a slot (R479, R482, R491, R508): at once into a volatile slot, through a persistent write otherwise. -/
def State.enterKey (s : State) (r : Request) (opcode key : Nat) : Answer :=
  let slot := keySlot r
  let k := s.slotOf slot
  let held := key % 2 ^ (if bits256 (keyAttr r) then 256 else 128)
  if persistent (keyAttr r) then
    let version := k.version + 1
    .accepted (pack [(0, 4, version)]) (s.beginWrite slot
      { opcode := opcode, issuer := r.issuer, key := some held, attr := keyAttr r, owners := k.owners, version := version,
        counter := some 0, was := k.state })
  else .done 0 (s.fillVolatile slot (keyAttr r) held 0)

/-- KEY_SLOT_OWNER_SET (cmd 0x0910). -/
def cmdKeySlotOwnerSet : Command where
  opcode := 0x0910
  paramLen := 16
  used := [(0, 0, 16), (8, 0, 64)]
  feature := some .keyStore
  tamperKeys _ := true
  manager := true
  lifecycle _ s := scrapped s
  range r := decide (keySlot r < 512)
  furled r s := (s.slotOf (keySlot r)).state == .ready && persistent (s.slotOf (keySlot r)).attr && (s.nvFurled || s.furled (unitId 0x1C 0))
  checks r s :=
    let k := s.slotOf (keySlot r)
    let rewrite := k.state == .ready && persistent k.attr
    [(s.slotsClosed || (rewrite && s.keys.sealed), .lockerSealed), (k.state == .committing, .keySlotState)]
  run r s :=
    let slot := keySlot r
    let k := s.slotOf slot
    if k.state = .ready ∧ persistent k.attr then
      .accepted 0 (s.beginWrite slot
        { opcode := 0x10, issuer := r.issuer, key := some k.key, attr := k.attr, owners := r.field 8 8, version := k.version + 1,
          counter := none, was := .ready })
    else .done 0 (s.mapSlot slot fun k => { k with owners := r.field 8 8 })

/-- KEY_SLOT_OWNER_SET. -/
def execKeySlotOwnerSet (r : Request) (s : State) : Host.Outcome State Fault Refusal := cmdKeySlotOwnerSet.step r s

/-- KEY_GENERATE (cmd 0x0911). A request waits while the TRNG has no good output (R476). -/
def cmdKeyGenerate : Command where
  opcode := 0x0911
  paramLen := 8
  used := fillBits
  feature := some .keyStore
  tamperKeys _ := true
  lifecycle _ s := scrapped s
  owns r s := maySlot r (keySlot r) s
  range r := decide (keySlot r < 512)
  furled r s := fillFurled r s || s.furled (unitId 0x21 0)
  checks := fillChecks
  run r s :=
    if s.keys.trngWaiting then .wait s
    else
      let (key, s1) := s.drbg 256
      s1.enterKey r 0x11 key

/-- KEY_GENERATE. -/
def execKeyGenerate (r : Request) (s : State) : Host.Outcome State Fault Refusal := cmdKeyGenerate.step r s

/-- A number as octets, most significant first, for the derivation (R484). -/
def bigEndian (n v : Nat) : List Nat := Crypto.toOctets n v

/-- The derivation of R484: counter mode of SP 800-108 with AES-256-CMAC over LABEL, a zero byte, the context and L. -/
def deriveKey (key : List Nat) (label lifecycle attr slot context source : Nat) : Nat :=
  let bits := if bits256 attr then 256 else 128
  let fixed := bigEndian 4 label ++ [0] ++ [lifecycle] ++ bigEndian 2 attr ++ bigEndian 2 slot ++ octets 16 context ++
    bigEndian 2 source ++ bigEndian 4 bits
  fromOctets (((span 1 (bits / 128)).map fun i => Crypto.cmac key (bigEndian 4 i ++ fixed)).flatten)

/-- SOURCE of KEY_DERIVE. -/
def deriveSource (r : Request) : Nat := r.field 8 2

/-- KEY_DERIVE (cmd 0x0912). A source of 128 bits cannot key AES-256-CMAC: KEY_USE_DENIED, DESIGN CHOICE (log entry 40). -/
def cmdKeyDerive : Command where
  opcode := 0x0912
  paramLen := 32
  used := fillBits ++ [(8, 0, 16), (12, 0, 160)]
  feature := some .keyStore
  tamperKeys _ := true
  lifecycle _ s := scrapped s
  owns r s := maySlot r (keySlot r) s &&
    (if deriveSource r = 0xFFFF then decide (r.issuer = 0) else maySlot r (deriveSource r) s)
  range r := decide (keySlot r < 512) && (decide (deriveSource r < 512) || decide (deriveSource r = 0xFFFF)) &&
    decide (0x10000 ≤ r.field 12 4)
  furled r s := fillFurled r s || s.keysFurled
  checks r s :=
    fillChecks r s ++
      (if deriveSource r = 0xFFFF then [(s.keys.otp.root.isNone, .rootAbsent)]
       else s.keyChecks (deriveSource r) useDerive false ++ [(!bits256 (s.slotOf (deriveSource r)).attr, .keyUseDenied)])
  run r s :=
    let source := match deriveSource r, s.keys.otp.root with
      | 0xFFFF, some root => root
      | n, _ => (s.slotOf n).key
    s.enterKey r 0x12 (deriveKey (keyOctets source true) (r.field 12 4) s.lifecycle (keyAttr r) (keySlot r) (r.field 16 16)
      (deriveSource r))

/-- KEY_DERIVE. -/
def execKeyDerive (r : Request) (s : State) : Host.Outcome State Fault Refusal := cmdKeyDerive.step r s

/-- The header of a blob (R485): SLOT, ATTR, DEVICE_TAG and COUNTER. -/
def blobHeader (slot attr tag counter : Nat) : Nat := pack [(0, 2, slot), (2, 2, attr), (4, 4, tag), (8, 8, counter)]

/-- Wrap a key into a blob under another (R485). -/
def wrapBlob (wrap : List Nat) (slot attr tag counter key : Nat) : Nat :=
  let head := octets 16 (blobHeader slot attr tag counter)
  let ct := Crypto.gcmCrypt wrap (head.drop 4) (octets 32 key)
  fromOctets (head ++ ct ++ Crypto.gcmTag wrap (head.drop 4) head ct)

/-- The key in a blob, when its tag verifies (R485). -/
def unwrapBlob (wrap : List Nat) (blob : Nat) : Option Nat :=
  let l := octets 64 blob
  let head := l.take 16
  let ct := (l.drop 16).take 32
  if Crypto.gcmTag wrap (head.drop 4) head ct = l.drop 48 then some (fromOctets (Crypto.gcmCrypt wrap (head.drop 4) ct)) else none

/-- A slot's key as octets. -/
def KeySlot.octets (k : KeySlot) : List Nat := keyOctets k.key (bits256 k.attr)

/-- KEY_UNWRAP (cmd 0x0913). -/
def cmdKeyUnwrap : Command where
  opcode := 0x0913
  paramLen := 24
  used := fillBits ++ [(8, 0, 16), (16, 0, 64)]
  iovas := [16]
  feature := some .keyStore
  tamperKeys _ := true
  lifecycle _ s := scrapped s
  owns r s := maySlot r (keySlot r) s && maySlot r (r.field 8 2) s
  range r := decide (keySlot r < 512) && decide (r.field 8 2 < 512) && aligned (r.field 16 8) 64
  furled r s := fillFurled r s || s.keysFurled
  checks r s := fillChecks r s ++ s.keyChecks (r.field 8 2) useUnwrap false
  run r s :=
    match s.read r.issuer (r.field 16 8) 64 with
    | (s1, .error f) => .fault f s1
    | (s1, .ok blob) =>
      let attr := byteField blob 2 2
      match unwrapBlob (s.slotOf (r.field 8 2)).octets blob with
      | none => .no .tagFail
      | some key =>
        if permits attr (bitsOf (keyAttr r) 6 0) ∧ bits256 attr = bits256 (keyAttr r) then s1.enterKey r 0x13 key
        else .no .keyUseDenied

/-- KEY_UNWRAP. -/
def execKeyUnwrap (r : Request) (s : State) : Host.Outcome State Fault Refusal := cmdKeyUnwrap.step r s

/-- KEY_IMPORT (cmd 0x0914). -/
def cmdKeyImport : Command where
  opcode := 0x0914
  paramLen := 16
  used := fillBits ++ [(8, 0, 64)]
  iovas := [8]
  feature := some .keyStore
  tamperKeys _ := true
  lifecycle _ s := decide (s.lifecycle = 3) || scrapped s
  owns r s := maySlot r (keySlot r) s
  range r := decide (keySlot r < 512)
  furled := fillFurled
  checks := fillChecks
  run r s :=
    match s.read r.issuer (r.field 8 8) (if bits256 (keyAttr r) then 32 else 16) with
    | (s1, .error f) => .fault f s1
    | (s1, .ok key) => s1.enterKey r 0x14 key

/-- KEY_IMPORT. -/
def execKeyImport (r : Request) (s : State) : Host.Outcome State Fault Refusal := cmdKeyImport.step r s

/-- KEY_WRAP (cmd 0x0915). A blob that cannot be written gives BUFFER_FAULT, and no value is drawn (R622). -/
def cmdKeyWrap : Command where
  opcode := 0x0915
  paramLen := 16
  used := [(0, 0, 32), (8, 0, 64)]
  iovas := [8]
  feature := some .keyStore
  tamperKeys _ := true
  lifecycle _ s := scrapped s
  owns r s := maySlot r (keySlot r) s && maySlot r (r.field 2 2) s
  range r := decide (keySlot r < 512) && decide (r.field 2 2 < 512) && aligned (r.field 8 8) 64
  furled _ s := s.keysFurled || s.furled (unitId 0x21 0)
  checks r s :=
    s.keyChecks (r.field 2 2) useWrap true ++ s.keyChecks (keySlot r) 0 false ++
      [(s.nonceExhausted (r.field 2 2), .nonceExhausted)]
  run r s :=
    let k := s.slotOf (keySlot r)
    let (counter, s1) := s.drawCounter (r.field 2 2)
    let blob := wrapBlob (s.slotOf (r.field 2 2)).octets (keySlot r) k.attr s.keys.otp.deviceTag counter
      (k.key % 2 ^ (if bits256 k.attr then 256 else 128))
    match s1.write r.issuer (r.field 8 8) 64 blob with
    | (s2, some f) => .fault f { s with io := s2.io }
    | (s2, none) => .done (pack [(0, 8, counter)]) s2

/-- KEY_WRAP. -/
def execKeyWrap (r : Request) (s : State) : Host.Outcome State Fault Refusal := cmdKeyWrap.step r s

/-- Whether an issuer owns a slot or is the manager (cmds 0x0916, 0x0917). -/
def ownsOrManages (r : Request) (s : State) : Bool := decide (r.issuer = 0) || maySlot r (keySlot r) s

/-- KEY_DESTROY (cmd 0x0916). -/
def cmdKeyDestroy : Command where
  opcode := 0x0916
  paramLen := 4
  used := [(0, 0, 16)]
  feature := some .keyStore
  tamperKeys _ := true
  lifecycle _ s := scrapped s
  owns := ownsOrManages
  range r := decide (keySlot r < 512)
  furled r s := persistent (s.slotOf (keySlot r)).attr && s.nvFurled
  checks r s :=
    let k := s.slotOf (keySlot r)
    [(s.slotsClosed, .lockerSealed), (k.state == .empty || k.state == .committing, .keySlotState)]
  run r s :=
    let slot := keySlot r
    let k := s.slotOf slot
    if persistent k.attr then
      .accepted 0 (s.beginWrite slot
        { opcode := 0x16, issuer := r.issuer, key := none, attr := k.attr, owners := k.owners, version := k.version,
          counter := none, was := k.state })
    else .done 0 ((s.mapSlot slot KeySlot.emptied).clearSas fun n => n == slot)

/-- KEY_DESTROY. -/
def execKeyDestroy (r : Request) (s : State) : Host.Outcome State Fault Refusal := cmdKeyDestroy.step r s

/-- AREA of KEY_QUERY: 0xFF for a volatile slot, or none. -/
def KeySlot.areaCode (k : KeySlot) : Nat :=
  match k.area with
  | some b => flag b
  | none => 0xFF

/-- KEY_QUERY (cmd 0x0917). -/
def cmdKeyQuery : Command where
  opcode := 0x0917
  fast := true
  paramLen := 4
  used := [(0, 0, 16)]
  feature := some .keyStore
  tamperFree := true
  lifecycle _ s := scrapped s
  owns := ownsOrManages
  range r := decide (keySlot r < 512)
  run r s :=
    let k := s.slotOf (keySlot r)
    .done (pack [(0, 1, k.state.code), (1, 1, k.areaCode), (2, 2, k.attr), (4, 4, k.version), (16, 8, k.owners)]) s

/-- KEY_QUERY. -/
def execKeyQuery (r : Request) (s : State) : Host.Outcome State Fault Refusal := cmdKeyQuery.step r s

/-- KEY_COMMITTED: a persistent write ends (R479, R491, R494). `ok` says that what was programmed reads back. The write waits for
its target to be erased. An end while Masthead is absent: R103. -/
def execKeyCommitted (slot : Nat) (ok : Bool) (s : State) : Host.Outcome State Fault Refusal :=
  let k := s.slotOf slot
  match k.writing with
  | none => .next s
  | some w =>
    if !s.computeOn then .next s
    else if s.absent then .next (s.abandonWrite slot .controllerAbsent)
    else if w.key.isSome && k.erasing k.targetB then .next s
    else .next (if ok then s.commitWrite slot else s.abandonWrite slot .internal)

/-- KEY_AREA_ERASE_DONE: the background erase of a slot's areas ends (R491); one that fails is tried again. -/
def execKeyAreaEraseDone (slot : Nat) (ok : Bool) (s : State) : Host.Outcome State Fault Refusal :=
  .next (if ok && s.computeOn && !s.nvFurled then s.mapSlot slot KeySlot.erased else s)

/-- TRNG_HEALTH_FAIL: one event against the TRNG, and requests wait for good output (R476). -/
def execTrngHealthFail (s : State) : Host.Outcome State Fault Refusal :=
  if !s.computeOn || s.furled (unitId 0x21 0) then .next s
  else
    let s1 : State := { s with keys := { s.keys with trngWaiting := true } }
    .next (s1.unitEvent (unitId 0x21 0) 0x04)

/-- DRBG_RESEED: every 1 s or 65 536 requests, and when good output returns (R476). -/
def execDrbgReseed (s : State) : Host.Outcome State Fault Refusal :=
  if s.computeOn && !s.furled (unitId 0x21 0) &&
      (s.keys.trngWaiting || decide (s.keys.drbgAt + 1000000000 ≤ s.now) || decide (65536 ≤ s.keys.drbgRequests)) then
    .next { s with keys := { s.keys with trngWaiting := false, drbgRequests := 0, drbgAt := s.now } }
  else .next s

/-- COUNTER_HIGH_MARK_WRITE: past the middle of the block in use, H moves to the end of the following block (R520). -/
def execCounterHighMarkWrite (slot : Nat) (s : State) : Host.Outcome State Fault Refusal :=
  if s.computeOn then .next (s.raiseMark slot) else .next s

/-- LOCKER_UNSEAL: step 6 of the start (R492, R583); a held tamper leaves the Locker SEALED (R593). -/
def execLockerUnseal (s : State) : Host.Outcome State Fault Refusal :=
  if s.boot.phase ≠ .tested then .next s
  else
    let s1 := if s.tamperHeld then s else s.unseal
    .next { s1 with boot := { s1.boot with phase := .unsealed, tamperHeld := s.tamperHeld } }

end Sys2Proof.Machine
end

