-- ==== Sys2Proof/Machine/Health.lean ====
section
/-! DEFINITION. The meanings of the health, Reef and self-test commands and events (18). -/

namespace Sys2Proof.Machine

/-- The fixed classes (R560). -/
def fixedClass (c : Nat) : Bool := [0x00, 0x03, 0x04, 0x05, 0x07, 0x08, 0x0A, 0x0E, 0x24, 0x25, 0x27].contains c

/-- The HEALTH_UNIT register (R580); zero for a unit that does not exist (R559). -/
def State.unitReg (s : State) (u : Nat) : Nat :=
  let h := s.unitHealth u
  if !unitExists u then 0
  else
    let count := if h.furled then h.count else (countIn h.history s.now (s.classParams (u / 256)).windowMs).length
    flag h.furled * 2 ^ 31 + flag (fixedClass (u / 256) || decide (2 ≤ h.furls)) * 2 ^ 30 + 2 ^ 29 +
      flag h.selftestFail * 2 ^ 28 + h.upsets % 2 ^ 16 * 256 + min 255 count

/-- HEALTH_CLASS_SET (cmd 0x0E01). -/
def cmdHealthClassSet : Command where
  opcode := 0x0E01
  paramLen := 8
  used := [(0, 0, 16), (4, 0, 32)]
  manager := true
  range r := decide (r.byte 0 ≤ 0x27) && decide (1 ≤ r.byte 1) && within (r.field 4 4) 1 3600000
  run r s :=
    .done 0 { s with health := { s.health with
      classes := Table.put {} s.health.classes (r.byte 0) { threshold := r.byte 1, windowMs := r.field 4 4 } } }

/-- HEALTH_CLASS_SET. -/
def execHealthClassSet (r : Request) (s : State) : Host.Outcome State Fault Refusal := cmdHealthClassSet.step r s

/-- HEALTH_UNIT_QUERY (cmd 0x0E02). -/
def cmdHealthUnitQuery : Command where
  opcode := 0x0E02
  fast := true
  paramLen := 4
  used := [(0, 0, 16)]
  manager := true
  range r := unitExists (r.field 0 2)
  run r s :=
    let h := s.unitHealth (r.field 0 2)
    .done (pack [(0, 4, s.unitReg (r.field 0 2)), (8, 8, h.lastEvent), (16, 8, h.furlTime)]) s

/-- HEALTH_UNIT_QUERY. -/
def execHealthUnitQuery (r : Request) (s : State) : Host.Outcome State Fault Refusal := cmdHealthUnitQuery.step r s

/-- UNIT_FURL (cmd 0x0E03). -/
def cmdUnitFurl : Command where
  opcode := 0x0E03
  paramLen := 4
  used := [(0, 0, 16)]
  manager := true
  range r := unitExists (r.field 0 2)
  furled r s := s.furled (r.field 0 2)
  checks r _ := [(fixedClass (r.field 0 2 / 256), .unitNotFurlable)]
  run r s :=
    let u := r.field 0 2
    let count := (countIn (s.unitHealth u).history s.now (s.classParams (u / 256)).windowMs).length
    .done 0 (s.furlUnit u 0x03 count 0 false)

/-- UNIT_FURL. -/
def execUnitFurl (r : Request) (s : State) : Host.Outcome State Fault Refusal := cmdUnitFurl.step r s

/-- UNIT_UNFURL (cmd 0x0E04). -/
def cmdUnitUnfurl : Command where
  opcode := 0x0E04
  paramLen := 4
  used := [(0, 0, 16)]
  manager := true
  featureBad _ s := !s.has 0 .unfurlRequest
  range r := unitExists (r.field 0 2)
  checks r s :=
    let h := s.unitHealth (r.field 0 2)
    [(fixedClass (r.field 0 2 / 256), .unitNotFurlable),
     (!h.furled, .unitNotFurled),
     (decide (2 ≤ h.furls), .unfurlLocked),
     (h.testing, .selftestBusy),
     (s.health.plan.isSome, .reefPlanRunning)]
  run r s := .accepted 0 (s.mapUnit (r.field 0 2) fun h => { h with testing := true })

/-- UNIT_UNFURL. -/
def execUnitUnfurl (r : Request) (s : State) : Host.Outcome State Fault Refusal := cmdUnitUnfurl.step r s

/-- UNFURL_DONE: the unfurl test ends (R48, R561, R578). -/
def execUnfurlDone (unit : Nat) (passed : Bool) (s : State) : Host.Outcome State Fault Refusal :=
  let h := s.unitHealth unit
  if h.testing && h.furled then
    let s1 := if passed then
        (s.mapUnit unit fun h => { h with furled := false, testing := false, selftestFail := false, history := [],
                                          count := 0, furlTime := 0 }).restoreUnit unit
      else s.mapUnit unit fun h => { h with testing := false, selftestFail := true, furls := h.furls + 1 }
    let (step, s2) := if passed then (0, s1) else (1 + s1.draw.1 % (2 ^ 32 - 1), s1.draw.2)
    let st : Status := if s.absent then .controllerAbsent else if passed then .done else .selftestFail
    .next ((s2.raise { unit := unit, code := 0x0E04,
                       detail := pack [(0, 2, unit), (2, 1, st.code), (4, 4, step), (8, 8, s.now)] } [0]).opEnd 0x0E04 st)
  else .next s

/-- FURL_REVOCATION: Masthead revokes what furls have left to it (R46, R50, R184). -/
def execFurlRevocation (s : State) : Host.Outcome State Fault Refusal :=
  if s.absent || s.flow.owed.isEmpty then .next s else .next s.settleOwed

/-- The level that a slack loss in 0.1 % selects (R565). -/
def levelOf (slack : Nat) : Nat :=
  if slack < 20 then 0 else if slack < 30 then 1 else if slack < 40 then 2 else if slack < 50 then 3
  else if slack < 60 then 4 else if slack < 80 then 5 else if slack < 100 then 6 else 7

/-- The guard band of a level in mV (R565). -/
def guardOf (level : Nat) : Nat := min 4 level * 10

/-- The frequency ceiling of a level (R565): D1, D2, D7 and D9 keep their frequencies. -/
def ceilingOf (domain level : Nat) : Nat :=
  if [3, 4, 5, 6, 8].contains domain then
    if level ≤ 4 then 100 else if level = 5 then 90 else if level = 6 then 80 else 70
  else 100

/-- The D4 operating point that a ceiling allows (R565). -/
def ceilingPoint (pct : Nat) : Nat := if pct = 100 then 4 else if 80 ≤ pct then 3 else 2

/-- The step that on-resistance drift selects (R567). -/
def driftStep (drift : Nat) : Nat := if drift < 15 then 0 else if drift < 25 then 1 else if drift < 40 then 2 else 3

/-- The rated thermal cycles of a class (R567). -/
def ratedCycles : LoadClass → Nat
  | .heavy => 1000000
  | .light => 5000000
  | _ => 2000000

/-- The step that thermal cycles select (R567). -/
def cycleStep (n cycles : Nat) : Nat :=
  let rated := ratedCycles (loadClass n)
  if 2 * cycles < rated then 0 else if 4 * cycles < 3 * rated then 1 else if cycles < rated then 2 else 3

/-- A channel's derating after a plan (R567): a step never falls. -/
def ChannelReef.planned (c : ChannelReef) (n : Nat) : ChannelReef :=
  let step := max c.step (max (driftStep c.drift) (cycleStep n c.cycles))
  { c with step := step, ocPct := 100 - 10 * step,
           retryCap := if step = 0 then 15 else if step = 1 then 8 else if step = 2 then 3 else 1 }

/-- A domain's level and guard band after a plan (R565): a level never falls. -/
def DomainReef.planned (d : DomainReef) : DomainReef :=
  let level := max d.level (levelOf d.slack)
  { d with level := level, guardMv := guardOf level }

/-- Whether an NV area is past 80 % of its rating (R569). -/
def State.worn (s : State) : Bool :=
  (span 0 5).any fun a => decide ((if a = 4 then 800000 else 80000) ≤ Table.get 0 s.health.wear a)

/-- The state with the ceilings of a list in force. -/
def State.withCeilings (s : State) (l : List (Nat × Nat)) : State :=
  { s with health := { s.health with
      domains := l.foldl (fun t c => Table.modify {} t c.1 fun d => { d with ceiling := c.2 }) s.health.domains } }

/-- The computation of a plan (R564-R570): levels, guard bands, derating and trims at once, revocations before the lower
ceilings. Which trims change is not stated; a free choice. -/
def State.computePlan (s : State) (trigger seq : Nat) : State :=
  let (trims, s0) := s.choose
  let domains := (span 1 9).foldl (fun t d => Table.modify {} t d DomainReef.planned) s.health.domains
  let rose := (span 1 9).filter fun d => decide ((s.domainOf d).level < ((Table.get {} domains d : DomainReef)).level)
  let channels := (span 0 48).foldl (fun t n => Table.modify {} t n fun c => c.planned n) s.health.channels
  let steps := (span 0 48).filter fun n => decide ((s.reefOf n).step < ((Table.get {} channels n : ChannelReef)).step)
  let lower := (span 1 9).filterMap fun d =>
    let c := ceilingOf d ((Table.get {} domains d : DomainReef)).level
    if c < (s.domainOf d).ceiling then some (d, c) else none
  let endMargin := [1, 2, 7, 9].any fun d => decide (5 ≤ ((Table.get {} domains d : DomainReef)).level)
  let s1 : State := { s0 with health := { s0.health with
    domains := domains, channels := channels, planSeq := seq, planTime := s.now, endMargin := endMargin, nvWear := s.worn } }
  let ids := (s1.withCeilings lower).chosen []
  let s2 := s1.revokeList ids 0 0x02 s.now
  let run : PlanRun :=
    { trigger := trigger, raised := rose.foldl (fun m d => m + 2 ^ d) 0, steps := steps.length, revoked := ids.length,
      computed := true, ceilings := lower, trims := trims,
      marks := (endMargin && !s.health.endMargin) || (s.worn && !s.health.nvWear) }
  { s2 with health := { s2.health with plan := some run } }

/-- REEF_PLAN (R564, R573): a plan that is due is computed, unless Masthead is absent, a hold window is open or a sleep entry
runs. -/
def execReefPlan (s : State) : Host.Outcome State Fault Refusal :=
  if s.absent || s.load.holdOpen || s.sleep.entry.isSome || !s.computeOn then .next s
  else
    match s.health.plan with
    | some x => if x.computed then .next s else .next (s.computePlan x.trigger s.health.planSeq)
    | none =>
      let seq := (s.health.planSeq + 1) % 2 ^ 16
      match s.health.planDue with
      | some t =>
        let s1 := s.computePlan t seq
        .next { s1 with health := { s1.health with planDue := none } }
      | none =>
        if s.health.planTime + 86400000000000 ≤ s.now then .next (s.computePlan 0x02 seq) else .next s

/-- The FLAGS of REEF_CHANGED (R578). -/
def State.reefFlags (s : State) (x : PlanRun) : Nat :=
  flag x.trims + 2 * flag s.health.nvWear + 4 * flag s.health.endMargin

/-- REEF_CEILING_APPLY (R570): the lower ceilings take effect, the bounds are recomputed, and REEF_CHANGED is posted. -/
def execReefCeilingApply (s : State) : Host.Outcome State Fault Refusal :=
  match s.health.plan with
  | none => .next s
  | some x =>
    if !x.computed || s.absent then .next s
    else
      let s1 := (s.withCeilings x.ceilings).recompute
      let s2 : State := { s1 with health := { s1.health with plan := none } }
      let changed := decide (x.raised ≠ 0) || decide (x.steps ≠ 0) || decide (x.revoked ≠ 0) || x.trims || x.marks
      if x.trigger = 0x03 ∨ changed then
        let top := ((span 1 9).map fun d => (s2.domainOf d).level).foldl max 0
        let detail := pack [(0, 2, s2.health.planSeq), (2, 2, x.raised), (4, 1, x.trigger), (5, 1, x.steps),
          (6, 2, x.revoked), (8, 1, s2.reefFlags x), (9, 1, top)]
        .next ((s2.raiseAll { unit := 0, code := 0x0E03, severity := 2, detail := detail }).opEnd 0x0E05 .done)
      else .next s2

/-- REEF_PLAN_RUN (cmd 0x0E05). -/
def cmdReefPlanRun : Command where
  opcode := 0x0E05
  manager := true
  checks _ s := [(s.health.plan.isSome, .reefPlanRunning)]
  run _ s :=
    let seq := (s.health.planSeq + 1) % 2 ^ 16
    .accepted seq { s with health := { s.health with plan := some { trigger := 0x03 }, planSeq := seq } }

/-- REEF_PLAN_RUN. -/
def execReefPlanRun (r : Request) (s : State) : Host.Outcome State Fault Refusal := cmdReefPlanRun.step r s

/-- REEF_QUERY (cmd 0x0E06). -/
def cmdReefQuery : Command where
  opcode := 0x0E06
  fast := true
  run _ s :=
    .done (pack (((span 1 9).map fun d => (d - 1, 1, (s.domainOf d).level)) ++
      [(9, 1, ceilingPoint (s.domainOf 4).ceiling), (10, 2, s.health.planSeq), (16, 8, s.health.planTime)])) s

/-- REEF_QUERY. -/
def execReefQuery (r : Request) (s : State) : Host.Outcome State Fault Refusal := cmdReefQuery.step r s

/-- The slack loss of a domain (R563): D1 and D2 have no NBTI and HCI monitors. -/
def DomainReef.measured (d : DomainReef) (n : Nat) : DomainReef :=
  { d with slack := if n ≤ 2 then d.replica else max d.replica (Config.predictedLoss n d.nbti d.hci) }

/-- AGEING_MONITOR_SAMPLE (R562): measure 0 mean replica loss in 0.1 %, 1 NBTI and 2 HCI in mV, 3 oscillator drift in ppm, all
of a domain; 4 on-resistance drift in % and 5 one thermal cycle of channel `index`; 6 the erase count of NV area `index`. -/
def execAgeingMonitorSample (domain measure index : Nat) (value : Int) (s : State) :
    Host.Outcome State Fault Refusal :=
  let v := value.toNat
  let onDomain (f : DomainReef → DomainReef) : State :=
    if 1 ≤ domain ∧ domain ≤ 9 then
      let ds := Table.modify {} s.health.domains domain fun d => (f d).measured domain
      { s with health := { s.health with domains := ds } }
    else s
  let onChannel (f : ChannelReef → ChannelReef) : State :=
    if index < 48 then
      let cs := Table.modify {} s.health.channels index f
      { s with health := { s.health with channels := cs } }
    else s
  match measure with
  | 0 => .next (onDomain fun d => { d with replica := v })
  | 1 => .next (onDomain fun d => { d with nbti := v })
  | 2 => .next (onDomain fun d => { d with hci := v })
  | 3 => .next (onDomain fun d => { d with driftPpm := value })
  | 4 => .next (onChannel fun c => { c with drift := min 255 v })
  | 5 => .next (onChannel fun c => { c with cycles := satAdd 32 c.cycles 1 })
  | 6 => if index < 5 then .next { s with health := { s.health with wear := Table.modify 0 s.health.wear index fun w => max w v } } else .next s
  | _ => .next s

/-- The default online period of a class in ms (R571), `none` without an online test. The TRNG's test is continuous and has no
period; DESIGN CHOICE (log entry 18): 0. -/
def onlinePeriod (c : Nat) : Option Nat :=
  match c with
  | 0x02 => some 100 | 0x03 => some 100 | 0x0D => some 10000
  | 0x0B => some 1000 | 0x18 => some 1000 | 0x1E => some 1000 | 0x20 => some 1000
  | 0x13 => some 1000 | 0x14 => some 1000 | 0x15 => some 1000 | 0x16 => some 1000
  | 0x17 => some 1000 | 0x19 => some 1000 | 0x1A => some 1000
  | 0x21 => some 0 | 0x22 => some 10000 | 0x26 => some 60000
  | _ => none

/-- A class's online tests. -/
def State.classTest (s : State) (c : Nat) : ClassTest := Table.get {} s.health.tests c

/-- The online period in force. -/
def State.period (s : State) (c : Nat) : Nat := ((s.classTest c).period).getD ((onlinePeriod c).getD 0)

/-- Defer a maintenance activity to Masthead's retries (R181). -/
def State.defer (s : State) (kind subject detail requester : Nat) : State :=
  { s with flow := { s.flow with maintenance := s.flow.maintenance ++
      [{ kind := kind, subject := subject, detail := detail, requester := requester, triedAt := s.now }] } }

/-- The kind of a deferred self-test in the maintenance list. -/
def kindSelftest : Nat := 1

/-- The kind of a deferred load diagnostic. -/
def kindDiag : Nat := 2

/-- The kind of a deferred calibration run. -/
def kindCalibration : Nat := 3

/-- Whether a maintenance activity is deferred. -/
def State.deferred (s : State) (kind subject : Nat) : Bool :=
  s.flow.maintenance.any fun m => m.kind == kind && m.subject == subject

/-- SELFTEST_RUN (cmd 0x0F01, R572). Whether its slices fit into slack now is not stated; a free choice. -/
def cmdSelftestRun : Command where
  opcode := 0x0F01
  paramLen := 4
  used := [(0, 0, 16)]
  manager := true
  range r := unitExists (r.field 0 2)
  furled r s := s.furled (r.field 0 2)
  checks r s := [
    ((onlinePeriod (r.field 0 2 / 256)).isNone, .selftestUnavailable),
    ((s.unitHealth (r.field 0 2)).pendingTest, .selftestBusy)]
  run r s :=
    let u := r.field 0 2
    let (fits, s1) := s.choose
    let s2 := s1.mapUnit u fun h => { h with pendingTest := true }
    .accepted (flag (!fits)) (if fits then s2 else s2.defer kindSelftest u 0 r.issuer)

/-- SELFTEST_RUN. -/
def execSelftestRun (r : Request) (s : State) : Host.Outcome State Fault Refusal := cmdSelftestRun.step r s

/-- SELFTEST_SCHEDULE_SET (cmd 0x0F02). -/
def cmdSelftestScheduleSet : Command where
  opcode := 0x0F02
  paramLen := 8
  used := [(0, 0, 8), (4, 0, 32)]
  manager := true
  range r := decide (r.byte 0 ≤ 0x27) && (decide (r.field 4 4 = 0) || within (r.field 4 4) 10 3600000)
  checks r _ := [((onlinePeriod (r.byte 0)).isNone, .selftestUnavailable)]
  run r s :=
    .done (r.field 4 4) { s with health := { s.health with
      tests := Table.modify {} s.health.tests (r.byte 0) fun t => { t with period := some (r.field 4 4) } } }

/-- SELFTEST_SCHEDULE_SET. -/
def execSelftestScheduleSet (r : Request) (s : State) : Host.Outcome State Fault Refusal :=
  cmdSelftestScheduleSet.step r s

/-- SELFTEST_QUERY (cmd 0x0F03). -/
def cmdSelftestQuery : Command where
  opcode := 0x0F03
  fast := true
  paramLen := 4
  used := [(0, 0, 8)]
  manager := true
  range r := decide (r.byte 0 ≤ 0x27)
  run r s :=
    let t := s.classTest (r.byte 0)
    .done (pack [(0, 4, s.period (r.byte 0)), (4, 4, t.run), (8, 4, t.failed), (16, 8, t.lastFail)]) s

/-- SELFTEST_QUERY. -/
def execSelftestQuery (r : Request) (s : State) : Host.Outcome State Fault Refusal := cmdSelftestQuery.step r s

/-- SELFTEST_DONE (R572, R578). -/
def State.selftestDone (s : State) (u : Nat) (st : Status) (requested : Bool) (step : Nat) : State :=
  let s1 := s.raise { unit := u, code := 0x0F01, severity := if st = .done then 1 else 2, partition := onlyOne (s.served u),
                      detail := pack [(0, 2, u), (2, 1, st.code), (3, 1, flag requested), (4, 4, step), (8, 8, s.now)] }
    (0 :: s.served u)
  if requested then s1.opEnd 0x0F01 st else s1

/-- SELFTEST_SLICE: the online test of a unit ends (R571, R572); a failed step is one event with CAUSE 0x04. Which step
failed is not stated; a free value. -/
def execSelftestSlice (unit : Nat) (failed : Bool) (s : State) : Host.Outcome State Fault Refusal :=
  let c := unit / 256
  let requested := (s.unitHealth unit).pendingTest && !s.deferred kindSelftest unit
  if !unitExists unit || (!s.computeOn && !onPowerDie unit) || (onlinePeriod c).isNone || !(requested || decide (s.period c ≠ 0)) then .next s
  else
    let s0 := if requested then s.mapUnit unit fun h => { h with pendingTest := false } else s
    if s.furled unit then if requested then .next (s0.selftestDone unit .unitFurled true 0) else .next s
    else
      let s1 : State := { s0 with health := { s0.health with
        tests := Table.modify {} s0.health.tests c fun t =>
          { t with run := wrapAdd 32 t.run 1, failed := if failed then wrapAdd 32 t.failed 1 else t.failed,
                   lastFail := if failed then s.now else t.lastFail } } }
      let s2 := s1.mapUnit unit fun h => { h with selftestFail := failed }
      if failed then
        let (step, s3) := s2.draw
        .next ((s3.unitEvent unit 0x04).selftestDone unit
          (if requested ∧ s.absent then .controllerAbsent else .selftestFail) requested (1 + step % (2 ^ 32 - 1)))
      else if requested then
        .next (s2.selftestDone unit (if s.absent then .controllerAbsent else .done) true 0)
      else .next s2

end Sys2Proof.Machine
end

