-- ==== Sys2Proof/Machine/Flows.lean ====
section
/-! DEFINITION. The meanings of the flow and contract commands and events (04). -/

namespace Sys2Proof.Machine

/-- A resource reference at an offset of PARAMS (R154). -/
def resAt (r : Request) (off : Nat) : Res := { type := r.byte off, qual := r.byte (off + 1), inst := r.field (off + 2) 2 }

/-- The block of R151 without its flow ID. -/
def declOf (r : Request) : FlowDecl :=
  { type := r.byte 2, priority := r.bits 3 3 0, maxSize := r.field 4 4, minInterval := r.field 8 4, burst := r.field 12 2,
    tight := r.bit 15 0, cutThrough := r.bit 15 1, bound := r.field 16 4, retryBudget := r.byte 44,
    path := (span 0 (min 6 (r.byte 14))).map fun i => resAt r (20 + 4 * i) }

/-- The parameter bits of the block of R151. -/
def declUsed : List (Nat × Nat × Nat) := [(0, 0, 24), (3, 0, 4), (4, 0, 88), (15, 0, 2), (16, 0, 224), (44, 0, 8)]

/-- Path entries from PATH_COUNT onward, and RETRY_BUDGET where it does not apply, are reserved (R7, R151). -/
def declShape (r : Request) : Bool :=
  ((span 0 6).all fun i => decide (i < r.byte 14) || decide (r.field (20 + 4 * i) 4 = 0)) &&
  (decide (r.byte 44 = 0) || (decide (r.byte 2 = 0x02) && (pathOf (declOf r).path rBus).isSome))

/-- The lowest free flow ID (R151). -/
def State.freeId (s : State) : Option Nat := (span 0 4096).find? fun f => (s.flowOf f).state == .free

/-- The flow ID a command means. -/
def State.flowId (s : State) (r : Request) : Nat := if r.field 0 2 = 0xFFFF then (s.freeId).getD 0xFFFF else r.field 0 2

/-- Steps 2 to 7 of R170. -/
def admitChecks (r : Request) (s : State) : List (Bool × Status) :=
  let d := declOf r
  let id := r.field 0 2
  let f := s.flowOf id
  [ (decide (id ≠ 0xFFFF) && !(f.state == .free || (f.state == .revoked && decide (f.owner = r.issuer))), .flowIdInUse),
    (decide (id = 0xFFFF) && (s.freeId).isNone, .noResource),
    (!s.pathOk d, .pathInvalid),
    (!s.pathOwned r.issuer d, .notOwner),
    (s.pathFurled d, .unitFurled),
    (!s.contracted d, .mediumUncontracted),
    (!s.envelopeOk id d, .envelopeInvalid)]

/-- A 32-bit duration field: one that does not fit shows as all ones. -/
def cap32 (n : Nat) : Nat := min n (2 ^ 32 - 1)

/-- The flow whose promise would break, as the issuer may see it (cmd 0x0301). -/
def State.shownBroken (s : State) (p : Nat) (v : Verdict) : Nat :=
  if v.broken ≠ 0xFFFF ∧ p ≠ 0 ∧ (s.flowOf v.broken).owner ≠ p then 0xFFFF else v.broken

/-- The candidate of an admission. -/
def candidate (r : Request) : Flow := { state := .admitted, owner := r.issuer, decl := declOf r }

/-- The reservation of an admitted flow is made (R171, R174, R175, R186). -/
def State.accept (s : State) (id : Nat) (f : Flow) (v : Verdict) : State :=
  let promise := if f.decl.tight then v.bound else f.decl.bound
  let key := f.bucketKey id
  let shared := s.flow.flows.any fun g => g.1 != id && g.2.state != .free && g.2.bucketKey g.1 == key
  let s1 := s.mapFlow id fun _ =>
    { f with state := if s.quiescing f.owner then .held else .admitted, promise := promise, computed := v.bound,
             admitTime := s.now, since := s.now, order := s.flow.admissions + 1, strand := v.strand }
  let s2 : State := { s1 with flow := { s1.flow with admissions := s1.flow.admissions + 1 } }
  (if shared then s2 else s2.fillBucket id).recompute

/-- FLOW_ADMIT (cmd 0x0301, R170-R172). -/
def cmdFlowAdmit : Command where
  opcode := 0x0301
  paramLen := 48
  used := declUsed
  shape := declShape
  furled _ s := s.furled (unitId 0x26 0)
  range r := declOk (declOf r) && (decide (r.field 0 2 < 4096) || decide (r.field 0 2 = 0xFFFF))
  checks := admitChecks
  run r s :=
    let id := s.flowId r
    let f := candidate r
    let v := s.verdict id f
    match v.status with
    | some st => .refuse st (pack [(8, 4, cap32 v.bound), (12, 4, cap32 v.floor), (16, 2, v.entry),
        (18, 2, s.shownBroken r.issuer v)])
    | none =>
      let s1 := s.accept id f v
      .done (pack [(0, 2, id), (4, 4, (s1.flowOf id).promise), (8, 4, v.bound), (12, 4, v.floor), (16, 8, s.now)]) s1

/-- FLOW_ADMIT. -/
def execFlowAdmit (r : Request) (s : State) : Host.Outcome State Fault Refusal := cmdFlowAdmit.step r s

/-- τ of a CAN_BUS resource of a path in ns, 0 without one (cmd 0x0302). -/
def State.tauOf (s : State) (d : FlowDecl) : Nat :=
  match pathOf d.path rBus with
  | some b =>
    let ext := match pathOf d.path rObject with | some o => bitOf (s.objOf o.inst).id 29 | none => false
    ceilDiv ((s.canOf b.inst).tau ext d.maxSize) 2
  | none => 0

/-- FLOW_PREDICT (cmd 0x0302). -/
def cmdFlowPredict : Command where
  opcode := 0x0302
  paramLen := 48
  used := declUsed
  shape := declShape
  furled _ s := s.furled (unitId 0x26 0)
  range r := declOk (declOf r) && (decide (r.field 0 2 < 4096) || decide (r.field 0 2 = 0xFFFF))
  checks := admitChecks
  run r s :=
    let d := declOf r
    let id := s.flowId r
    let v := s.verdict id (candidate r)
    let ok := decide (v.status = none)
    let outcome := if ok then 0 else if v.status = some .promiseUnreachable then 2 else 1
    .done (pack [(0, 2, id), (4, 4, if ok then cap32 (if d.tight then v.bound else d.bound) else 0), (8, 4, cap32 v.bound),
      (12, 4, cap32 v.floor), (16, 1, outcome), (17, 1, if ok then 0xFF else v.entry),
      (18, 2, if ok then 0xFFFF else s.shownBroken r.issuer v), (20, 4, s.tauOf d)]) s

/-- FLOW_PREDICT. -/
def execFlowPredict (r : Request) (s : State) : Host.Outcome State Fault Refusal := cmdFlowPredict.step r s

/-- Whether the issuer owns a flow that is not FREE, or is the manager. -/
def ownsFlow (r : Request) (s : State) : Bool :=
  decide (r.issuer = 0) || ((s.flowOf (r.field 0 2)).state != .free && decide ((s.flowOf (r.field 0 2)).owner = r.issuer))

/-- FLOW_RELEASE (cmd 0x0303, R174, R186): P0 revokes a guest's flow; the owner's release waits for the last item. -/
def cmdFlowRelease : Command where
  opcode := 0x0303
  paramLen := 4
  used := [(0, 0, 16)]
  owns := ownsFlow
  range r := decide (r.field 0 2 < 4096)
  checks r s :=
    let f := s.flowOf (r.field 0 2)
    [(f.state == .free || f.state == .held || (f.state == .revoked && decide (f.owner ≠ r.issuer)), .flowState)]
  run r s :=
    let id := r.field 0 2
    if (s.flowOf id).owner ≠ r.issuer then
      .done (pack [(0, 8, s.now), (8, 1, 3)]) (s.revokeList [id] 0 0x04 s.now)
    else if s.itemsOn id = 0 then .done (pack [(0, 8, s.now), (8, 1, 0)]) (s.freeFlow id).recompute
    else .wait (s.mapFlow id fun f => { f with releasing := some r })

/-- FLOW_RELEASE. -/
def execFlowRelease (r : Request) (s : State) : Host.Outcome State Fault Refusal := cmdFlowRelease.step r s

/-- FLOW_RELEASE_DONE: the last item of a flow being released has left its path (R174, R186). -/
def execFlowReleaseDone (flow : Nat) (s : State) : Host.Outcome State Fault Refusal :=
  match (s.flowOf flow).releasing with
  | some r =>
    if s.itemsOn flow = 0 then
      .next ((((s.freeFlow flow).recompute).complete r 0x0303 .done (pack [(0, 8, s.now), (8, 1, 0)])).unblock r)
    else .next s
  | none => .next s

/-- FLOW_QUERY (cmd 0x0304). -/
def cmdFlowQuery : Command where
  opcode := 0x0304
  fast := true
  paramLen := 4
  used := [(0, 0, 16)]
  owns := ownsFlow
  range r := decide (r.field 0 2 < 4096)
  run r s :=
    let f := s.flowOf (r.field 0 2)
    .done (pack [(0, 1, f.state.code), (1, 1, f.decl.priority), (2, 1, f.decl.type), (4, 4, f.promise),
      (8, 4, cap32 f.computed), (12, 4, cap32 f.watermark), (16, 4, f.violations),
      (20, 4, min (2 ^ 32 - 1) (f.dropExcess + f.dropOver))]) s

/-- FLOW_QUERY. -/
def execFlowQuery (r : Request) (s : State) : Host.Outcome State Fault Refusal := cmdFlowQuery.step r s

/-- The record of FLOW_STATS; `bins` says whether the owner has accepted LATENCY_HISTOGRAM. -/
def Flow.record (f : Flow) (now : Nat) (bins : Bool) : Nat :=
  pack ((if bins then (span 0 16).map fun b => (4 * b, 4, Table.get 0 f.bins b) else []) ++
    [(64, 4, cap32 f.watermark), (68, 4, f.violations), (72, 8, f.measured), (80, 4, f.delayed), (84, 4, f.dropExcess),
     (88, 4, f.dropOver), (92, 4, f.promise), (96, 8, f.since), (104, 8, now)])

/-- The measures of a flow cleared (cmd 0x0305). -/
def Flow.cleared (f : Flow) (now : Nat) : Flow :=
  { f with bins := [], watermark := 0, violations := 0, measured := 0, delayed := 0, dropExcess := 0, dropOver := 0,
           since := now }

/-- FLOW_STATS (cmd 0x0305). -/
def cmdFlowStats : Command where
  opcode := 0x0305
  fast := true
  paramLen := 16
  used := [(0, 0, 16), (2, 0, 1), (8, 0, 64)]
  iovas := [8]
  owns := ownsFlow
  range r := decide (r.field 0 2 < 4096) && aligned (r.field 8 8) 128
  checks r s := [((s.flowOf (r.field 0 2)).state == .free, .flowState)]
  run r s :=
    let id := r.field 0 2
    let f := s.flowOf id
    match s.write r.issuer (r.field 8 8) 128 (f.record s.now (s.has f.owner .latencyHistogram)) with
    | (s1, some e) => .fault e s1
    | (s1, none) => .done 0 (if r.bit 2 0 then s1.mapFlow id fun f => f.cleared s.now else s1)

/-- FLOW_STATS. -/
def execFlowStats (r : Request) (s : State) : Host.Outcome State Fault Refusal := cmdFlowStats.step r s

/-- The kind of a medium: 0 CAN, 1 T1S, 2 LIN (R164). -/
def mediumKind (m : Nat) : Nat := if m < 12 then 0 else if m < 14 then 1 else 2

/-- Fields that do not apply to the medium must be zero (R164). -/
def contractShape (r : Request) : Bool :=
  let k := mediumKind (r.byte 0)
  (decide (k = 0) || (decide (r.field 4 4 = 0) && decide (r.field 8 4 = 0) && decide (r.field 16 4 = 0))) &&
  (decide (k ≠ 2) || decide (r.field 12 4 = 0)) &&
  (decide (k = 1) || (decide (r.byte 20 = 0) && decide (r.field 22 2 = 0))) &&
  (decide (k = 2) || decide (r.field 24 4 = 0))

/-- The contract of a request. -/
def contractOf (r : Request) (old : Contract) : Contract :=
  { enable := decide (r.byte 1 = 1), utilPpm := r.field 4 4, burstNs := r.field 8 4, maxFrame := r.field 12 4,
    lowestKey := r.field 16 4, nodeCount := r.byte 20, toTimer := r.field 22 2, cycleNs := r.field 24 4,
    excessFrom := old.excessFrom, excessUntil := old.excessUntil }

/-- MEDIUM_CONTRACT_SET (cmd 0x0306, R164, R182): the flows that R183 chooses under the new contract are revoked before it
takes effect. -/
def cmdMediumContractSet : Command where
  opcode := 0x0306
  paramLen := 32
  used := [(0, 0, 16), (4, 0, 128), (20, 0, 8), (22, 0, 48)]
  shape := contractShape
  manager := true
  range r := decide (r.byte 0 ≤ 21) && decide (r.byte 1 ≤ 1) && decide (r.field 4 4 ≤ 1000000) &&
    (decide (mediumKind (r.byte 0) ≠ 1) || decide (r.byte 1 = 0) ||
      (within (r.byte 20) 2 32 && within (r.field 22 2) 1 255))
  run r s :=
    let m := r.byte 0
    let with_ (t : State) : State :=
      { t with flow := { t.flow with contracts := Table.put {} t.flow.contracts m (contractOf r (t.contract m)) } }
    let ids := (with_ s).chosen []
    let s1 := s.each ids fun s2 id => s2.revokeOne id 0 0x03 s.now
    .done (pack [(0, 2, ids.length), (8, 8, s.now)]) (with_ s1).recompute

/-- MEDIUM_CONTRACT_SET. -/
def execMediumContractSet (r : Request) (s : State) : Host.Outcome State Fault Refusal := cmdMediumContractSet.step r s

/-- What of a window of 100 ms breaks a contract: pairs of MEASURE and measured value (R168). On CAN, bus time beyond share and
burst together is a burst, or utilisation where the contract allows no burst; DEDUCED (log entry 22). -/
def Contract.excess (c : Contract) (kind usedNs largest lowestKey : Nat) : List (Nat × Nat) :=
  let share := c.utilPpm * 100
  if kind = 0 then
    (if share + c.burstNs < usedNs then
      [if c.burstNs = 0 then (0x01, usedNs / 100) else (0x02, usedNs - share)] else []) ++
    (if c.maxFrame < largest then [(0x03, largest)] else []) ++
    (if lowestKey < c.lowestKey then [(0x04, lowestKey)] else [])
  else if kind = 1 then
    (if c.maxFrame < largest then [(0x03, largest)] else []) ++
    (if c.nodeCount ≤ lowestKey then [(0x05, lowestKey)] else [])
  else []

/-- MEDIUM_CONTRACT_WINDOW: a 100 ms window of the other nodes' use ends (R168). `largest` is the longest frame, in ns on CAN and
bytes on T1S; `lowestKey` the lowest arbitration key on CAN, the highest node ID on T1S. -/
def execMediumContractWindow (medium usedNs largest lowestKey : Nat) (s : State) : Host.Outcome State Fault Refusal :=
  let c := s.contract medium
  let l := c.excess (mediumKind medium) usedNs largest lowestKey
  if !s.computeOn || !c.enable || decide (21 < medium) || l.isEmpty then .next s
  else
    let c1 := { c with excessFrom := s.now - 100000000, excessUntil := s.now + 100000000 }
    let s1 : State := { s with flow := { s.flow with contracts := Table.put {} s.flow.contracts medium c1 } }
    .next (s1.each l fun s2 x => s2.contractExceeded medium x.1 x.2 s.now)

/-- A deferred activity fits now and proceeds (R181, R391, R437). -/
def State.proceed (s : State) (m : Maintenance) : State :=
  if m.kind = kindDiag then
    s.mapLoad m.subject fun c => { c with diag := c.diag.map fun d => { d with deferred := false, startAt := s.now } }
  else if m.kind = kindCalibration then
    { s with sense := { s.sense with calRun := s.sense.calRun.map fun c => { c with deferred := false } } }
  else s

/-- A deferred activity goes on waiting, tried at a time. -/
def State.keepDeferred (s : State) (m : Maintenance) (at_ : Nat) : State :=
  { s with flow := { s.flow with maintenance := s.flow.maintenance ++ [{ m with triedAt := at_ }] } }

/-- One deferred activity comes up (R181): it waits out its 100 ms; then it proceeds or waits again. Whether it fits is a free choice,
since no minimum rate is stated. -/
def State.retryDeferred (s : State) (m : Maintenance) : State :=
  if s.now < m.triedAt + 100000000 then s.keepDeferred m m.triedAt
  else
    let (fits, s1) := s.choose
    if fits then s1.proceed m else s1.keepDeferred m s.now

/-- No activity is deferred. -/
def State.noneDeferred (s : State) : State := { s with flow := { s.flow with maintenance := [] } }

/-- MAINTENANCE_RETRY: Masthead retries every deferred activity whose 100 ms have passed (R181). -/
def execMaintenanceRetry (s : State) : Host.Outcome State Fault Refusal :=
  if s.absent || !s.computeOn then .next s else .next (s.noneDeferred.each s.flow.maintenance State.retryDeferred)

end Sys2Proof.Machine
end

