-- ==== Sys2Proof/Machine/LoadCommands.lean ====
section
/-! DEFINITION. The meanings of the load-channel commands and events (11), but for the current samples, which go through DMA
queues. -/

namespace Sys2Proof.Machine

/-- A high-side channel or leg, its bridge partner or its PWM generator is furled (R37, R45). -/
def State.loadFurled (s : State) (n : Nat) : Bool :=
  decide (n < 48) && (outputs n).any fun m => s.furled (loadUnit m) || s.furled (unitId 0x16 m)

/-- Whether a channel is an odd leg of a bridge (R369). -/
def oddLeg (n : Nat) : Bool := decide (40 ≤ n) && decide (n % 2 = 1)

/-- Whether a channel carries an ADMITTED or HELD flow of a resource type. -/
def State.carries (s : State) (type n : Nat) : Bool :=
  s.reserved.any fun g => g.2.decl.path.any fun r => r.type == type && r.inst == n

/-- The steps of 12.5 ns that an integer PWM_PERIOD_NS selects (R376). -/
def periodSteps (ns : Nat) : Nat := (4 * ns + 25) / 50

/-- LOAD_CHANNEL_CONFIG (cmd 0x0701). -/
def cmdLoadChannelConfig : Command where
  opcode := 0x0701
  paramLen := 20
  used := [(0, 0, 16), (2, 0, 7), (3, 0, 128)]
  feature := some .loadChannelControl
  featureBad r s := r.bit 2 1 && !s.has r.issuer .ledFineOpenLoad
  shape r := decide (r.byte 19 = 0) &&
    (!(decide (r.field 0 2 < 40) || oddLeg (r.field 0 2)) || (decide (r.byte 17 = 0) && decide (r.byte 18 = 0)))
  owns r s := decide (s.owner kindLoad (r.field 0 2) = r.issuer)
  range r :=
    let n := r.field 0 2
    let (_, low, high) := ocRange (loadClass n)
    decide (n < 48) && decide (r.byte 3 < 32) && within (100 * r.field 4 2) low high && decide (r.byte 6 ≤ 15) &&
    decide (1 ≤ r.byte 7) && decide (100 ≤ r.field 8 2) && decide (1 ≤ r.byte 10) && decide (1 ≤ r.byte 11) &&
    within (r.field 12 4) (max 40000 (shortestPeriod (loadClass n))) 50000000 &&
    (!r.bit 2 1 || loadClass n == .light) && (decide (n < 40) || oddLeg n || within (r.byte 17) 8 160)
  furled r s := s.loadFurled (r.field 0 2)
  checks r s :=
    let n := r.field 0 2
    [(s.carries rLoad n && (s.pwmGangOf n).isNone && decide (s.pwmSteps n < periodSteps (r.field 12 4)), .loadFlowsAdmitted)]
  run r s :=
    let n := r.field 0 2
    let (step, _, _) := ocRange (loadClass n)
    let gang := (s.pwmGangOf n).isSome
    .done 0 ((s.mapLoad n fun c =>
      { c with restartAuto := r.bit 2 0, fine := r.bit 2 1, offProbe := r.bit 2 2, testPermit := r.bit 2 3,
               phaseAuto := r.bit 2 4, intProtect := r.bit 2 5, intDiag := r.bit 2 6, vector := r.byte 3,
               ocThreshold := 100 * r.field 4 2 / step * step, retryMax := r.byte 6, restartDelay := r.byte 7,
               retryWindow := r.field 8 2, olFilter := r.byte 10, olFine := r.byte 11,
               pwmPeriod := if gang then c.pwmPeriod else r.field 12 4,
               phaseUnits := if gang then c.phaseUnits else r.byte 16,
               deadTime := if n < 40 ∨ oddLeg n then c.deadTime else r.byte 17,
               reversalMs := if n < 40 ∨ oddLeg n then c.reversalMs else r.byte 18 }).redrive n)

/-- LOAD_CHANNEL_CONFIG. -/
def execLoadChannelConfig (r : Request) (s : State) : Host.Outcome State Fault Refusal := cmdLoadChannelConfig.step r s

/-- LOAD_WIRE_SET (cmd 0x0702, R384-R386). -/
def cmdLoadWireSet : Command where
  opcode := 0x0702
  paramLen := 8
  used := [(0, 0, 64)]
  feature := some .loadChannelControl
  featureBad _ s := !s.has 0 .wireModelParams
  manager := true
  range r := decide (r.byte 0 < 48) && decide (r.byte 1 ≤ 8) && decide (r.byte 2 ≤ 3) && within (r.byte 3) 50 100 &&
    within (r.field 4 2) 10 6000 && decide (-40 ≤ r.signed 6 1) && decide (r.signed 6 1 ≤ 125) &&
    within (r.byte 7) 10 90 && decide (r.signed 6 1 + 5 ≤ (insulationOf (r.byte 2) : Int))
  furled r s := s.loadFurled (r.byte 0)
  run r s :=
    let p : WireParams :=
      { section_ := r.byte 1, insulation := r.byte 2, tripPct := r.byte 3, tau := r.field 4 2, ambient := r.signed 6 1,
        restartPct := r.byte 7 }
    let s1 := s.mapLoad (r.byte 0) fun c => { c with params := p }
    .done ((s1.loadOf (r.byte 0)).wireReg % 2 ^ 16) s1

/-- LOAD_WIRE_SET. -/
def execLoadWireSet (r : Request) (s : State) : Host.Outcome State Fault Refusal := cmdLoadWireSet.step r s

/-- Whether two looks at an output differ by a gate transition (R152). -/
def gateMoved (a b : LoadChannel) : Bool := a.appOn != b.appOn || decide (a.appBridge ≠ b.appBridge)

/-- A conforming LOAD_SET item takes its tokens and is applied; its delivery is the gate transition, or waits for the period
that uses a new duty (R152, R374, R421). -/
def State.applyItem (s : State) (n v qual : Nat) (ids : List Nat) : State :=
  let s1 := (s.takeTokens ids 1).loadItem n v
  let before := s.loadOf (lead n)
  let after := s1.loadOf (lead n)
  if gateMoved before after then s1.deliver ids s.now s.now 160 (loadUnit n)
  else if after.appOn ∧ bitsOf v 11 0 ≠ before.appDuty then
    s1.mapLoad n fun c => { c with dutyItem := some (s.now, qual) }
  else s1

/-- The LOAD_COMMAND flows of a channel with a qualifier (R155, R175). -/
def State.loadFlows (s : State) (n qual : Nat) : List Nat :=
  s.sourceFlows fun r => r.type == rLoad && r.inst == n && r.qual == qual

/-- LOAD_SET (cmd 0x0703, R371, R374). -/
def cmdLoadSet : Command where
  opcode := 0x0703
  fast := true
  paramLen := 8
  used := [(0, 0, 16), (4, 0, 32)]
  feature := some .loadChannelControl
  hoveTo := true
  shape r := decide (r.field 0 2 ≥ 48) ||
    (decide (bitsOf (r.field 4 4) 26 12 = 0) &&
      (if r.field 0 2 < 40 then decide (bitsOf (r.field 4 4) 29 27 = 0) else !bitOf (r.field 4 4) 31))
  owns r s := decide (s.owner kindLoad (r.field 0 2) = r.issuer)
  range r := decide (r.field 0 2 < 48) && loadValueOk (r.field 0 2) (r.field 4 4)
  furled r s := s.loadFurled (r.field 0 2)
  checks r _ := [(oddLeg (r.field 0 2), .bridgePair)]
  run r s :=
    let n := r.field 0 2
    let ids := s.loadFlows n 1
    if s.conforms ids 1 then
      let s1 := s.applyItem n (r.field 4 4) 1 ids
      .done (s1.loadState n) s1
    else .wait (if s.resumed r then s else s.countDelayed ids)

/-- LOAD_SET. -/
def execLoadSet (r : Request) (s : State) : Host.Outcome State Fault Refusal := cmdLoadSet.step r s

/-- A LOAD_SET command with CLEAR, as R388 describes it. -/
def withClear (r : Request) : Request := { r with params := r.params ||| BitVec.ofNat 384 (2 ^ 62) }

/-- LOAD_SET_CLEAR (R388): a LOAD_SET item whose CLEAR is 1. -/
def execLoadSetClear (r : Request) (s : State) : Host.Outcome State Fault Refusal := cmdLoadSet.step (withClear r) s

/-- A write to LOAD_SET was ignored (R372). -/
def State.ignoreWrite (s : State) (n : Nat) : State := s.setFlags n 1

/-- A direct-set write (R133, R370, R371, R375, R392, R470). -/
def State.directSet (s : State) (p n v : Nat) : State :=
  if !(s.has p .directWindows && s.has p .loadChannelControl && decide (n < 48) && decide (s.owner kindLoad n = p)) then s
  else if s.quiescing p then
    let io1 : Io := { s.io with parts := Table.modify {} s.io.parts p fun x => { x with writesIgnored := x.writesIgnored + 1 } }
    ({ s with io := io1 } : State).ignoreWrite n
  else if oddLeg n || !loadValueOk n v || s.cpu.masthead.hoveTo || (s.load.holdOpen && s.boot.phase != .run) then
    s.ignoreWrite n
  else if s.loadFurled n then s
  else
    let ids := s.loadFlows n 0
    if s.conforms ids 1 then s.applyItem n v 0 ids
    else
      ((s.mapLoad n fun c => { c with dropped := wrapAdd 32 c.dropped 1 }).setFlags n 2).countDropped ids false

/-- LOAD_SET_DIRECT_WRITE (R374, R375). -/
def execLoadSetDirectWrite (partition channel : Nat) (value : Word) (s : State) : Host.Outcome State Fault Refusal :=
  if s.windowOn partition then .next (s.directSet partition channel value.toNat) else .next s

/-- LOAD_QUERY (cmd 0x0704). A furled channel stays readable by P0 (R44, R45). -/
def cmdLoadQuery : Command where
  opcode := 0x0704
  fast := true
  paramLen := 4
  used := [(0, 0, 16), (2, 0, 1)]
  feature := some .loadChannelControl
  owns r s := decide (r.issuer = 0) || decide (s.owner kindLoad (r.field 0 2) = r.issuer)
  range r := decide (r.field 0 2 < 48)
  furled r s := decide (r.issuer ≠ 0) && s.loadFurled (r.field 0 2)
  run r s :=
    let n := r.field 0 2
    let c := s.loadOf n
    .done (pack [(0, 4, s.loadState n), (4, 4, c.flags.toNat), (8, 4, ofSigned 32 c.currentUa), (12, 2, ofSigned 16 c.tj),
        (14, 2, c.wireReg), (16, 1, c.appPhase), (17, 1, s.ocEffective n * 100 / max 1 (s.loadOf n).ocThreshold),
        (18, 2, c.trips), (20, 4, c.dropped)])
      (if r.bit 2 0 then s.mapLoad n fun c => { c with trips := 0, dropped := 0 } else s)

/-- LOAD_QUERY. -/
def execLoadQuery (r : Request) (s : State) : Host.Outcome State Fault Refusal := cmdLoadQuery.step r s

/-- Whether a gang change or stop would lengthen the period of a member that carries a LOAD_COMMAND flow (R376, cmd 0x0705). -/
def State.gangLengthens (s : State) (b : GangBlock) (op : Nat) : Bool :=
  b.members.any fun m => s.carries rLoad m.member &&
    decide (s.pwmSteps m.member < periodSteps (if op = 1 then b.period else (s.loadOf m.member).pwmPeriod))

/-- LOAD_GANG_SET (cmd 0x0705, R206-R208, R377). -/
def cmdLoadGangSet : Command where
  opcode := 0x0705
  paramLen := 40
  used := [(0, 0, 16), (4, 0, 224), (32, 0, 8)]
  feature := some .loadChannelControl
  shape r := gangShape r 0
  owns r s := ((gangBlock r 0).members.all fun m => decide (s.owner kindLoad m.member = r.issuer)) &&
    (let g := Table.get {} s.time.pwmGangs (r.byte 0)
     !g.running || decide (g.owner = r.issuer))
  range r := gangRange r 0 .pwm && decide (r.byte 32 ≤ 1) &&
    (gangBlock r 0).members.all fun m => within (gangBlock r 0).period (max 40000 (shortestPeriod (loadClass m.member))) 50000000
  furled r s := !s.time.d7Valid || (gangBlock r 0).members.any fun m => s.loadFurled m.member
  checks r s :=
    let b := gangBlock r 0
    [(b.members.any fun m => oddLeg m.member, .bridgePair),
     (decide (r.byte 32 = 1) && b.members.any fun m =>
        match gangOf s.time.pwmGangs m.member with
        | some (k, _) => decide (k ≠ r.byte 0)
        | none => false, .badParam),
     (s.gangLengthens b (r.byte 32), .loadFlowsAdmitted)]
  run r s :=
    let k := r.byte 0
    let old := Table.get {} s.time.pwmGangs k
    let b := gangBlock r 0
    let g : Gang :=
      if r.byte 32 = 0 then {}
      else if old.running then old.ask b s.now .pwm
      else Gang.start b r.issuer s.now .pwm
    .done (if r.byte 32 = 0 then 0 else g.first .pwm)
      { s with time := { s.time with pwmGangs := Table.put {} s.time.pwmGangs k g } }

/-- LOAD_GANG_SET. -/
def execLoadGangSet (r : Request) (s : State) : Host.Outcome State Fault Refusal := cmdLoadGangSet.step r s

/-- The on-time of a channel's periods in half nanoseconds, lengthened to the class minima (R376, R380): the full period at
DUTY 0 and 0xFFF. -/
def State.onTimeHalf (s : State) (n : Nat) : Nat :=
  let c := s.loadOf (lead n)
  let least := shortestOn (loadClass n)
  let p := c.appPeriod * 2
  if c.appDuty = 0 ∨ c.appDuty = 0xFFF then p else min (p - least) (max least (p * c.appDuty / 4095))

/-- The instant of a SYNC measurement in the period that begins at a time (R380). -/
def State.syncInstant (s : State) (n at_ sampleAt : Nat) : Nat :=
  (2 * at_ + ceilTo 25 (sampleAt * s.onTimeHalf n / 256)) / 2

/-- The first instant of a measurement schedule (R380). -/
def State.firstSample (s : State) (r : Request) : Nat :=
  let c := s.loadOf (lead (r.field 0 2))
  if r.bit 4 0 then s.syncInstant (r.field 0 2) (c.periodAt + c.appPeriod) (r.byte 5)
  else
    let b : GangBlock := { period := r.field 8 4, anchor := r.field 16 8 }
    b.anchor + b.firstK s.now * b.period

/-- LOAD_MEASURE_SET (cmd 0x0706, R380). -/
def cmdLoadMeasureSet : Command where
  opcode := 0x0706
  paramLen := 24
  used := [(0, 0, 32), (4, 0, 1), (5, 0, 56), (16, 0, 64)]
  feature := some .loadChannelControl
  owns r s := decide (s.owner kindLoad (r.field 0 2) = r.issuer) &&
    (decide (r.field 2 2 = 0xFFFF) || decide (s.owner kindQueue (r.field 2 2) = r.issuer))
  range r := decide (r.field 0 2 < 48) &&
    (decide (r.field 2 2 = 0xFFFF) ||
      (decide (r.field 2 2 < 1024) &&
        (if r.bit 4 0 then decide (1 ≤ r.field 6 2) else within (r.field 8 4) 10000 4000000000)))
  furled r s := s.loadFurled (r.field 0 2) || (!s.time.d7Valid && decide (r.field 2 2 ≠ 0xFFFF))
  checks r s :=
    let n := r.field 0 2
    let q := r.field 2 2
    let a := (s.queueOf q).attach
    let interval := if r.bit 4 0 then r.field 6 2 * s.pwmSteps n * 25 / 2 else r.field 8 4
    [(decide (q ≠ 0xFFFF) && a != .none && a != .load n, .badParam),
     (decide (q ≠ 0xFFFF) && s.reserved.any fun g =>
        g.2.decl.path.any (fun x => x.type == rCurrent && x.inst == n) && decide (interval < g.2.decl.minInterval),
      .loadFlowsAdmitted)]
  run r s :=
    let n := r.field 0 2
    let q := r.field 2 2
    let s1 := match (s.loadOf n).measure with
      | some m => s.mapQueue m.queue fun x => { x with attach := .none }
      | none => s
    if q = 0xFFFF then .done 0 (s1.mapLoad n fun c => { c with measure := none })
    else
      let first := s.firstSample r
      let m : Measure :=
        { queue := q, sync := r.bit 4 0, sampleAt := r.byte 5, mult := r.field 6 2, period := r.field 8 4,
          anchor := if r.bit 4 0 then (s.loadOf (lead n)).periodAt + (s.loadOf (lead n)).appPeriod else r.field 16 8,
          nextAt := first, waiting := [] }
      .done first ((s1.mapLoad n fun c => { c with measure := some m }).mapQueue q fun x => { x with attach := .load n })

/-- LOAD_MEASURE_SET. -/
def execLoadMeasureSet (r : Request) (s : State) : Host.Outcome State Fault Refusal := cmdLoadMeasureSet.step r s

/-- Whether a check is permitted in a channel's present state (R390). -/
def State.diagPermitted (s : State) (n kind : Nat) : Bool :=
  let c := s.loadOf n
  let test := c.testPermit && (s.io.part (s.owner kindLoad n)).state == .active
  let pwm := c.appOn && decide (c.appDuty ≠ 0xFFF)
  let offNs := c.appPeriod - s.onTimeHalf n / 2
  match kind with
  | 1 => c.appOn || test
  | 2 => !c.appOn || (pwm && decide (200000 ≤ offNs)) || (!pwm && test)
  | _ => c.appOn && decide (ratedMa (loadClass n) * 100 ≤ c.currentUa.natAbs)

/-- LOAD_DIAG_RUN (cmd 0x0707, R390, R391). A second check of a channel is not permitted while one runs: DESIGN CHOICE (log
entry 24). Whether it fits into slack is a free choice. -/
def cmdLoadDiagRun : Command where
  opcode := 0x0707
  paramLen := 8
  used := [(0, 0, 24), (4, 0, 16)]
  feature := some .loadChannelControl
  owns r s := decide (s.owner kindLoad (r.field 0 2) = r.issuer)
  range r := decide (r.field 0 2 < 48) && within (r.byte 2) 1 3 && within (r.field 4 2) 50 1000
  furled r s := s.loadFurled (r.field 0 2)
  checks r s := [
    ((s.loadOf (r.field 0 2)).diag.isSome || !s.diagPermitted (r.field 0 2) (r.byte 2), .diagNotPermitted)]
  run r s :=
    let n := r.field 0 2
    let (fits, s1) := s.choose
    let s2 := s1.mapLoad n fun c =>
      { c with diag := some { kind := r.byte 2, pulseUs := r.field 4 2, deferred := !fits, startAt := s.now } }
    .accepted (flag (!fits)) (if fits then s2 else s2.defer kindDiag n 0 r.issuer)

/-- LOAD_DIAG_RUN. -/
def execLoadDiagRun (r : Request) (s : State) : Host.Outcome State Fault Refusal := cmdLoadDiagRun.step r s

/-- LOAD_DIAG_DONE: a check ends with its result bits and, for KIND 3, the on-resistance in µΩ (R391). -/
def execLoadDiagDone (channel result measured : Nat) (s : State) : Host.Outcome State Fault Refusal :=
  match (s.loadOf channel).diag with
  | some d =>
    let c := s.loadOf channel
    let s0 : State := { s with flow := { s.flow with
      maintenance := s.flow.maintenance.filter fun m => !(m.kind == kindDiag && m.subject == channel) } }
    let s1 := s0.mapLoad channel fun c => { c with diag := none }
    if !s.computeOn then .next s
    else if !s.diagPermitted channel d.kind then .next (s0.endDiag channel .diagNotPermitted)
    else if s.absent then .next (s0.endDiag channel .controllerAbsent)
    else if d.deferred then .next s
    else
      .next (s1.diagDone channel d.kind .done (result % 8) (ofSigned 32 c.currentUa) (if d.kind = 3 then measured else 0)
        (ofSigned 32 c.voutMv))
  | none => .next s

/-- The VERSION of a safe-state table image. -/
def imageVersion (image : Nat) : Nat := byteField image 4 4

/-- The entries of a safe-state table image (R393, R395). -/
def imageEntries (image : Nat) : Table SafeEntry :=
  (span 0 44).foldl (fun t i =>
    Table.put {} t i { mode := byteField image (16 + 4 * i) 1, duty := byteField image (18 + 4 * i) 2 }) []

/-- Whether a safe-state table image is acceptable: format, reserved fields, signature, VERSION (R395). -/
def State.tableValid (s : State) (image : Nat) : Bool :=
  let bytes := octets 256 image
  decide (byteField image 0 2 = 1) && decide (byteField image 2 2 = 0) && decide (byteField image 8 8 = 0) &&
  ((span 0 44).all fun i => decide (byteField image (16 + 4 * i) 1 ≤ 3) && decide (byteField image (17 + 4 * i) 1 = 0) &&
    decide (byteField image (18 + 4 * i) 2 < 4096)) &&
  (s.cfgKeys.any fun k => Crypto.verify k (bytes.take 192) (bytes.drop 192)) && decide (s.load.safeVer < imageVersion image)

/-- LOAD_SAFE_TABLE_SET (cmd 0x0708). -/
def cmdLoadSafeTableSet : Command where
  opcode := 0x0708
  paramLen := 8
  used := [(0, 0, 64)]
  iovas := [0]
  feature := some .loadChannelControl
  manager := true
  lifecycle _ s := decide (s.lifecycle = 1) || decide (s.lifecycle = 5)
  range r := aligned (r.field 0 8) 64
  run r s :=
    match s.read r.issuer (r.field 0 8) 256 with
    | (s1, .error f) => .fault f s1
    | (s1, .ok image) =>
      if s1.tableValid image then
        .accepted 0 { s1 with load := { s1.load with nextTable := some (imageEntries image, imageVersion image) } }
      else .no .safeTableInvalid

/-- LOAD_SAFE_TABLE_SET. -/
def execLoadSafeTableSet (r : Request) (s : State) : Host.Outcome State Fault Refusal := cmdLoadSafeTableSet.step r s

/-- SAFE_TABLE_WRITTEN: both copies are in NV and the table applies (R395). -/
def execSafeTableWritten (s : State) : Host.Outcome State Fault Refusal :=
  match s.load.nextTable with
  | some (t, v) =>
    if s.absent || !s.computeOn then .next s
    else
      let l : LoadTables := { s.load with safeTable := t, safeVer := v, copyBad := 0, badOwed := false, nextTable := none }
      .next ((({ s with load := l } : State).raise
        { unit := 0, code := 0x0704, detail := pack [(0, 4, v), (8, 8, s.now)] } [0]).opEnd 0x0708 .done)
  | none => .next s

/-- LOAD_HOLD_SET (cmd 0x0709). -/
def cmdLoadHoldSet : Command where
  opcode := 0x0709
  paramLen := 4
  used := [(0, 0, 16)]
  feature := some .loadChannelControl
  manager := true
  range r := decide (r.field 0 2 ≤ 2000)
  run r s := .done 0 { s with load := { s.load with holdMs := r.field 0 2 } }

/-- LOAD_HOLD_SET. -/
def execLoadHoldSet (r : Request) (s : State) : Host.Outcome State Fault Refusal := cmdLoadHoldSet.step r s

/-- The channels of a mask. -/
def maskChannels (m : Nat) : List Nat := (span 0 48).filter fun n => bitOf m n

/-- The mask of a list of channels. -/
def channelMask (l : List Nat) : Nat := l.foldl (fun m n => m ||| 2 ^ n) 0

/-- LOAD_RECLAIM (cmd 0x070A). -/
def cmdLoadReclaim : Command where
  opcode := 0x070A
  fast := true
  paramLen := 8
  used := [(0, 0, 48)]
  feature := some .loadChannelControl
  owns r s := (maskChannels (r.field 0 6)).all fun n => decide (s.owner kindLoad n = r.issuer)
  run r s :=
    let named := maskChannels (r.field 0 6)
    let held := named.filter fun n => (s.loadOf n).held
    .done (channelMask held) (s.each named fun s1 n => s1.mapLoad n fun c => { c with held := false, reclaimed := true })

/-- LOAD_RECLAIM. -/
def execLoadReclaim (r : Request) (s : State) : Host.Outcome State Fault Refusal := cmdLoadReclaim.step r s

/-- Raise LOAD_HOLD_END (R392, R400). -/
def State.holdEnd (s : State) (reclaimed set : Nat) : State :=
  s.raise { unit := 0, code := 0x0703, detail := pack [(0, 6, reclaimed), (6, 6, set)] } [0]

/-- LOAD_HOLD_END (R392, R470): the window ends. -/
def execLoadHoldEnd (s : State) : Host.Outcome State Fault Refusal :=
  if s.load.holdOpen && decide (s.load.holdAt + s.load.holdMs * 1000000 ≤ s.now) then
    let kept := (span 0 48).filter fun n => (s.loadOf n).reclaimed
    let unset := (span 0 48).filter fun n => !(s.loadOf (lead n)).reclaimed
    let s1 : State := { s with load := { s.load with holdOpen := false } }
    let s2 := s1.each (entryChannels.filter fun n => unset.contains n) State.applyEntry
    let s3 := s2.each (span 0 48) fun s4 n => s4.mapLoad n fun c => { c with held := false }
    let s5 : State :=
      if s3.absent then { s3 with load := { s3.load with endOwed := some (channelMask kept, channelMask unset) } }
      else s3.holdEnd (channelMask kept) (channelMask unset)
    match s5.cpu.masthead.hoveOwed with
    | some c => .next (s5.enterHoveTo c)
    | none => .next s5
  else .next s

/-- Whether an output carries current that its protections watch. -/
def State.drivenOn (s : State) (n : Nat) : Bool :=
  decide (n < 48) && ((s.loadOf (lead n)).appOn || decide ((s.loadOf (lead n)).appBridge ≠ 0)) && !s.protectedOff n

/-- LOAD_OVERCURRENT_TRIP (R383): the current in mA has been above the threshold for 0.5 µs. -/
def execLoadOvercurrentTrip (channel currentMa : Nat) (s : State) : Host.Outcome State Fault Refusal :=
  if s.drivenOn channel && decide (s.ocEffective channel < 10 * currentMa) then
    .next ((s.mapLoad channel fun c => { c with currentUa := 1000 * (currentMa : Int) }).trip channel 0)
  else .next s

/-- LOAD_THERMAL_TRIP (R383): the junction is at 175 °C. -/
def execLoadThermalTrip (channel : Nat) (s : State) : Host.Outcome State Fault Refusal :=
  if s.drivenOn channel then .next ((s.mapLoad channel fun c => { c with tj := 1750 }).trip channel 1) else .next s

/-- LOAD_DELTA_T_TRIP (R383): the junction is 60 K above the die reference. -/
def execLoadDeltaTTrip (channel : Nat) (s : State) : Host.Outcome State Fault Refusal :=
  if s.drivenOn channel then .next ((s.mapLoad channel fun c => { c with deltaT := 600 }).trip channel 2) else .next s

/-- k · i² of a channel in the model's fixed point (R384): on-time samples of a high-side channel count with its duty. -/
def State.heating (s : State) (n : Nat) : Nat :=
  let c := s.loadOf n
  let x := s.loadOf (lead n)
  let i50 := i50Of c.params.section_
  let full := 50 * c.currentUa.natAbs ^ 2 * kelvin / (i50 * i50 * 1000000000000)
  if n < 40 then if x.appOn then full * x.appDuty / 4095 else 0
  else if x.appBridge = 0 then 0 else full

/-- θ one millisecond later (R384). -/
def LoadChannel.nextTheta (c : LoadChannel) (heat : Nat) : Nat :=
  let t := 100 * c.params.tau
  if c.theta ≤ heat then c.theta + (heat - c.theta) / t else c.theta - (c.theta - heat) / t

/-- The temperatures and voltage of a channel as next measured: nothing fixes them (R373). -/
def State.measureChannel (s : State) (n : Nat) : State :=
  let (a, s1) := s.draw
  let (b, s2) := s1.draw
  let (v, s3) := s2.draw
  s3.mapLoad n fun c =>
    { c with tj := toSigned 16 a, deltaT := toSigned 16 b, voutMv := toSigned 32 v,
             openOn := c.openOn && c.appOn, openOff := c.openOff && !c.appOn, stb := c.stb && !c.appOn }

/-- WIRE_MODEL_UPDATE (R373, R384): every channel's θ takes its 1 ms step, and a driven channel that reaches θ_trip trips. -/
def execWireModelUpdate (s : State) : Host.Outcome State Fault Refusal :=
  if s.supply.unpowered || s.asleep then .next s
  else
    .next (s.each (span 0 48) fun s1 n =>
      let s2 := (s1.measureChannel n).mapLoad n fun c => { c with theta := c.nextTheta (s1.heating n) }
      if s2.drivenOn n && decide ((s2.loadOf n).params.trip ≤ (s2.loadOf n).theta) then s2.trip n 3 else s2)

/-- LOAD_RESTART (R388): at a period start, a tripped channel whose conditions hold restarts. -/
def execLoadRestart (channel : Nat) (s : State) : Host.Outcome State Fault Refusal :=
  if decide (channel < 48) && s.mayRestart channel && !s.supplyCut channel then .next (s.restart channel) else .next s

/-- PWM_PERIOD_START (R374, R376, R377): the period at hand begins with the duty, period and phase in force; an item whose new
duty it is the first to use is delivered. -/
def execPwmPeriodStart (channel : Nat) (s : State) : Host.Outcome State Fault Refusal :=
  let e := lead channel
  let c := s.loadOf e
  let due := match nextInstant s.time.pwmGangs .pwm e s.now with
    | some t => decide (t ≤ s.now)
    | none => !c.appOn || decide (c.periodAt + c.appPeriod ≤ s.now)
  if decide (48 ≤ channel) || !due || s.furled (unitId 0x16 e) || s.supply.unpowered then .next s
  else
    let s1 := s.startPeriod e
    let s2 : State := { s1 with time := { s1.time with pwmGangs := advanceMember s1.time.pwmGangs e s1.now } }
    match c.dutyItem with
    | some (at_, qual) =>
      let s3 := s2.mapLoad e fun c => { c with dutyItem := none }
      .next (if (s3.loadOf e).appOn then s3.deliver (s.loadFlows e qual) at_ s.now 160 (loadUnit e) else s3)
    | none => .next s2

/-- OPEN_LOAD_DETECT (R389): kind 0 on-state open load, 1 off-state open load, 2 short to battery; flags only. -/
def execOpenLoadDetect (channel kind : Nat) (s : State) : Host.Outcome State Fault Refusal :=
  let c := s.loadOf (lead channel)
  let offTime := !c.appOn || decide (200000 ≤ c.appPeriod - s.onTimeHalf channel / 2)
  if 48 ≤ channel then .next s
  else
    match kind with
    | 0 => if c.appOn then .next ((s.mapLoad channel fun c => { c with openOn := true }).setFlags channel (2 ^ 19)) else .next s
    | 1 => if c.offProbe ∧ offTime then
        .next ((s.mapLoad channel fun c => { c with openOff := true }).setFlags channel (2 ^ 18)) else .next s
    | 2 => if offTime then .next ((s.mapLoad channel fun c => { c with stb := true }).setFlags channel (2 ^ 17)) else .next s
    | _ => .next s

/-- Whether a planned channel has changed since the last plan (R378). -/
def LoadChannel.moved (c : LoadChannel) : Bool :=
  c.settled != c.appOn || decide (256 < max c.appDuty c.settledDuty - min c.appDuty c.settledDuty) ||
  decide (c.settledUa.natAbs < 4 * (c.currentUa - c.settledUa).natAbs)

/-- The channels that Masthead plans (R378). -/
def State.planned (s : State) : List Nat :=
  (span 0 48).filter fun n => (s.loadOf n).phaseAuto && (s.pwmGangOf n).isNone && !oddLeg n

/-- Whether the ADMITTED LOAD_COMMAND flows of a channel allow a shift of its phase (R378). -/
def State.shiftOk (s : State) (n shift : Nat) : Bool :=
  s.flow.flows.all fun g =>
    g.2.state != .admitted || !(g.2.decl.path.any fun r => r.type == rLoad && r.inst == n) ||
    decide (g.2.computed + shift ≤ g.2.promise)

/-- RIPPLE_REPLAN (R378): new phases for the planned channels. Which offsets minimise the sum is not stated where several do, and
the means are measured; each offset is a free value. -/
def execRippleReplan (s : State) : Host.Outcome State Fault Refusal :=
  let l := s.planned
  if s.absent || s.load.holdOpen || !s.computeOn || !s.has 0 .ripplePlanner || decide (s.now < s.load.planAt + 10000000) ||
      !(l.any fun n => (s.loadOf n).moved) then .next s
  else
    let s1 : State := { s with load := { s.load with planAt := s.now } }
    .next (s1.each l fun s2 n =>
      let (v, s3) := s2.draw
      let c := s3.loadOf n
      let units := v % 256
      let shift := (units + 256 - c.phaseUnits) % 256 * c.appPeriod / 256
      let phase := if s3.shiftOk n shift then units else c.phaseUnits
      s3.mapLoad n fun c =>
        { c with phaseUnits := phase, settled := c.appOn, settledDuty := c.appDuty, settledUa := c.currentUa })

end Sys2Proof.Machine
end

