-- ==== Sys2Proof/Machine/LocalPorts.lean ====
section
/-! DEFINITION. The meanings of the local-port commands and events (09, R331-R337), but for the UART's bytes, which go through
DMA queues. -/

namespace Sys2Proof.Machine

/-- Whether an instance is a UART (R332). -/
def isUart (i : Nat) : Bool := i == 2 || i == 3

/-- RATE in the capability of a port (R332); a GPIO has none. -/
def rateOk (i rate : Nat) : Bool :=
  match i with
  | 0 => within rate 100000 25000000
  | 1 => decide (rate = 100000 ∨ rate = 400000 ∨ rate = 1000000)
  | 2 => within rate 1200 4000000
  | 3 => within rate 1200 4000000
  | _ => true

/-- Whether a queue field of a UART names a queue that is free for it. -/
def State.uartQueueFree (s : State) (i q : Nat) : Bool :=
  decide (q = 0xFFFF) || (s.queueOf q).attach == .none || (s.queueOf q).attach == .uart i

/-- A port gives up its queues. -/
def State.detachUart (s : State) (i : Nat) : State :=
  let x := s.portOf i
  s.each ([x.txQueue, x.rxQueue].filter fun q => q != 0) fun s1 q => s1.mapQueue (q - 1) fun d => { d with attach := .none }

/-- The queue fields of a LOCAL_PORT_CONFIG that name queues. -/
def namedQueues (r : Request) : List Nat :=
  if isUart (r.byte 0) then [r.field 8 2, r.field 10 2].filter fun q => q != 0xFFFF else []

/-- LOCAL_PORT_CONFIG (cmd 0x0610, R331-R333). MODE has no stated layout and is kept as written; RATE is judged on a port that
is enabled, and the queue fields on a UART: DESIGN CHOICE (log entry 29). -/
def cmdLocalPortConfig : Command where
  opcode := 0x0610
  paramLen := 16
  used := [(0, 0, 8), (1, 0, 1), (2, 0, 96)]
  feature := some .localPorts
  owns r s := decide (s.owner kindPort (r.byte 0) = r.issuer) &&
    ((namedQueues r).all fun q => decide (1024 ≤ q) || decide (s.owner kindQueue q = r.issuer))
  range r := decide (r.byte 0 < 10) && (!r.bit 1 0 || rateOk (r.byte 0) (r.field 2 4)) &&
    (decide (r.byte 0 ≠ 0) || decide (r.byte 6 ≤ 3)) && ((namedQueues r).all fun q => decide (q < 1024)) &&
    decide (r.byte 12 < 32) && decide (r.byte 13 ≤ 3) &&
    (!isUart (r.byte 0) || decide (r.field 8 2 = 0xFFFF) || decide (r.field 8 2 ≠ r.field 10 2))
  furled r s := s.furled (unitId 0x12 (r.byte 0))
  checks r s := [
    ((namedQueues r).any fun q => !s.uartQueueFree (r.byte 0) q, .badParam),
    ((s.portOf (r.byte 0)).transfer.isSome, .portBusy)]
  run r s :=
    let i := r.byte 0
    let held (q : Nat) : Nat := if isUart i ∧ q ≠ 0xFFFF then q + 1 else 0
    let s1 := s.detachUart i
    let s2 := s1.mapPort i fun x =>
      let y : LocalPort := if r.bit 1 0 then x else { pinLevel := x.pinLevel }
      { y with enable := r.bit 1 0, rate := r.field 2 4, mode := r.byte 6, debounce := r.byte 7, txQueue := held (r.field 8 2),
               rxQueue := held (r.field 10 2), vector := r.byte 12, edge := r.byte 13 }
    .done 0 (s2.each (namedQueues r) fun s3 q => s3.mapQueue q fun d => { d with attach := .uart i })

/-- LOCAL_PORT_CONFIG. -/
def execLocalPortConfig (r : Request) (s : State) : Host.Outcome State Fault Refusal := cmdLocalPortConfig.step r s

/-- LOCAL_TRANSFER (cmd 0x0611, R332). What goes out is read from WRITE_BUF at once. A port that is not enabled makes a transfer
BAD_PARAM: DESIGN CHOICE (log entry 29). -/
def cmdLocalTransfer : Command where
  opcode := 0x0611
  paramLen := 24
  used := [(0, 0, 48), (8, 0, 128)]
  iovas := [8, 16]
  feature := some .localPorts
  owns r s := decide (s.owner kindPort (r.byte 0) = r.issuer)
  range r :=
    let w := r.field 2 2
    let n := r.field 4 2
    decide (r.byte 0 ≤ 1) &&
    (if r.byte 0 = 0 then decide (w = n) && within w 1 4096 else decide (r.byte 1 < 128) && decide (1 ≤ w + n))
  furled r s := s.furled (unitId 0x12 (r.byte 0))
  checks r s := [
    (!(s.portOf (r.byte 0)).enable, .badParam), ((s.portOf (r.byte 0)).transfer.isSome, .portBusy)]
  run r s :=
    match s.read r.issuer (r.field 8 8) (r.field 2 2) with
    | (s1, .error f) => .fault f s1
    | (s1, .ok _) =>
      let t : Transfer := { address := r.byte 1, writeLen := r.field 2 2, readLen := r.field 4 2, writeBuf := r.field 8 8,
                            readBuf := r.field 16 8 }
      .accepted 0 (s1.mapPort (r.byte 0) fun x => { x with transfer := some t })

/-- LOCAL_TRANSFER. -/
def execLocalTransfer (r : Request) (s : State) : Host.Outcome State Fault Refusal := cmdLocalTransfer.step r s

/-- LOCAL_TRANSFER_DONE (R332, R337): a transfer ends with status 0 DONE, 1 NO_ACKNOWLEDGE or 2 BUS_STUCK and the bytes that
came in. A fault of READ_BUF is reported as the status; DEDUCED (log entry 29). -/
def execLocalTransferDone (instance_ status : Nat) (data : List Byte) (s : State) : Host.Outcome State Fault Refusal :=
  match (s.portOf instance_).transfer with
  | none => .next s
  | some t =>
    if !s.computeOn then .next s
    else if instance_ = 1 ∧ status = 1 then .next (s.transferDone instance_ data.length .noAcknowledge)
    else if instance_ = 1 ∧ status = 2 then .next (s.transferDone instance_ data.length .busStuck)
    else if status = 0 ∧ data.length = t.readLen then
      match s.write (s.owner kindPort instance_) t.readBuf t.readLen (ofBytes data) with
      | (s1, some f) =>
        .next ((s1.raiseFault f (s.owner kindPort instance_) 0xFFFF 0x07 0).transferDone instance_ 0 .bufferFault)
      | (s1, none) =>
        .next (s1.transferDone instance_ (if instance_ = 0 then t.writeLen else t.writeLen + t.readLen) .done)
    else .next s

/-- The GPIO of a mask. -/
def maskGpio (m : Nat) : List Nat := (span 0 6).filter fun g => bitOf m g

/-- Whether a GPIO is an enabled output. -/
def LocalPort.output (x : LocalPort) : Bool := x.enable && Config.gpioOutput x.mode

/-- LOCAL_GPIO_SET (cmd 0x0612). -/
def cmdLocalGpioSet : Command where
  opcode := 0x0612
  fast := true
  paramLen := 4
  used := [(0, 0, 6), (1, 0, 6)]
  feature := some .localPorts
  owns r s := (maskGpio (r.byte 0)).all fun g => decide (s.owner kindPort (4 + g) = r.issuer)
  furled r s := (maskGpio (r.byte 0)).any fun g => s.furled (unitId 0x12 (4 + g))
  checks r s := [((maskGpio (r.byte 0)).any fun g => !(s.portOf (4 + g)).output, .badParam)]
  run r s := .done 0 (s.each (maskGpio (r.byte 0)) fun s1 g =>
    s1.mapPort (4 + g) fun x => { x with outLevel := bitOf (r.byte 1) g })

/-- LOCAL_GPIO_SET. -/
def execLocalGpioSet (r : Request) (s : State) : Host.Outcome State Fault Refusal := cmdLocalGpioSet.step r s

/-- The level of a GPIO pin: what it drives, or what is on it. -/
def LocalPort.level (x : LocalPort) : Bool := if x.output then x.outLevel else x.pinLevel

/-- LOCAL_GPIO_GET (cmd 0x0613, R334): a guest sees the pins it owns. -/
def cmdLocalGpioGet : Command where
  opcode := 0x0613
  fast := true
  feature := some .localPorts
  run r s :=
    let seen := (span 0 6).filter fun g => decide (r.issuer = 0) || decide (s.owner kindPort (4 + g) = r.issuer)
    let bits (f : LocalPort → Bool) : Nat := (seen.map fun g => if f (s.portOf (4 + g)) then 2 ^ g else 0).foldl (· + ·) 0
    .done (pack [(0, 1, bits LocalPort.level), (1, 1, bits (·.latched)), (2, 1, s.boot.straps % 8)])
      (s.each seen fun s1 g => s1.mapPort (4 + g) fun x => { x with latched := false })

/-- LOCAL_GPIO_GET. -/
def execLocalGpioGet (r : Request) (s : State) : Host.Outcome State Fault Refusal := cmdLocalGpioGet.step r s

/-- GPIO_EDGE (R332): the debounced level of a pin changes; an enabled edge is latched and raises the port's vector. -/
def execGpioEdge (gpio : Nat) (level : Bool) (s : State) : Host.Outcome State Fault Refusal :=
  let i := 4 + gpio
  let x := s.portOf i
  if !s.computeOn || decide (6 ≤ gpio) || x.pinLevel == level then .next s
  else
    let s1 := s.mapPort i fun x => { x with pinLevel := level }
    let hit := x.enable && !Config.gpioOutput x.mode && bitOf x.edge (if level then 0 else 1) && !s.furled (unitId 0x12 i)
    .next (if hit then (s1.mapPort i fun x => { x with latched := true }).vector (s.owner kindPort i) x.vector else s1)

end Sys2Proof.Machine
end

