-- ==== Sys2Proof/Machine/Windows.lean ====
section
/-! DEFINITION. The registers of a function window and the meanings of the accesses to them that need no command intake:
ring configuration, the event ring, interrupts (R58-R64, R70-R75, R95-R97). -/

namespace Sys2Proof.Machine

/-- The rings of a window (R58). -/
inductive RingName where
  | cmd (n : Nat)
  | cpl
  | evt
deriving DecidableEq, Repr

/-- The ring whose register block holds an offset below 0x00C0 (R58). -/
def ringAt (offset : Nat) : RingName :=
  if offset < 0x80 then .cmd (offset / 0x20) else if offset < 0xA0 then .cpl else .evt

/-- Whether a partition has a ring: a guest has command ring 0 only, P0 the others with MANAGER_RINGS (R58, R102). -/
def State.hasRing (s : State) (p : Nat) : RingName → Bool
  | .cmd n => decide (n = 0) || (decide (p = 0) && decide (n < 4) && s.has 0 .managerRings)
  | _ => true

/-- A ring's register block. -/
def Window.ring (w : Window) : RingName → Ring
  | .cmd n => Table.get {} w.cmd n
  | .cpl => w.cpl
  | .evt => w.evt

/-- Set a ring's register block. -/
def Window.setRing (w : Window) (x : Ring) : RingName → Window
  | .cmd n => { w with cmd := Table.put {} w.cmd n x }
  | .cpl => { w with cpl := x }
  | .evt => { w with evt := x }

/-- Change a ring's register block in a partition's window. -/
def State.mapRing (s : State) (p : Nat) (n : RingName) (f : Ring → Ring) : State :=
  { s with io := s.io.mapWindow p fun w => w.setRing (f (w.ring n)) n }

/-- A ring with its indices and phase at their start (R62). -/
def Ring.restart (x : Ring) : Ring := { x with head := 0, tail := 0, phase := true }

/-- A write to BASE_LO or BASE_HI (R59, R60, R62): ignored while ENABLE is 1. -/
def Ring.writeBase (x : Ring) (high : Bool) (value : Nat) : Ring :=
  if x.enable then x
  else if high then { x.restart with base := bitsOf value 15 0 * 2 ^ 32 + x.base % 2 ^ 32 }
  else { x.restart with base := x.base / 2 ^ 32 * 2 ^ 32 + bitsOf value 31 12 * 4096 }

/-- Whether SIZE_LOG2 is in range for a ring (R61). -/
def sizeInRange : RingName → Nat → Bool
  | .cmd _, k => within k 4 10
  | _, k => within k 4 12

/-- A write to CTRL (R61, R62): SIZE_LOG2 while ENABLE is 0, VECTOR, ENABLE. -/
def Ring.writeCtrl (x : Ring) (n : RingName) (value : Nat) : Ring :=
  let k := bitsOf value 3 0
  let x1 := if !x.enable && sizeInRange n k && decide (k ≠ x.sizeLog2) then { x.restart with sizeLog2 := k } else x
  { x1 with
    vector := (match n with | .cmd _ => 0 | _ => bitsOf value 12 8)
    enable := bitOf value 31 }

/-- A write to TAIL (R63): a value not less than the ring size is ignored and sets DOORBELL_ERR. -/
def Ring.writeTail (x : Ring) (value : Nat) : Ring :=
  if value < x.size then { x with tail := value } else { x with doorbellErr := true }

/-- RING_CONFIG_WRITE (R62): a write to a BASE register, or to CTRL of a ring that stays disabled. -/
def execRingConfigWrite (partition offset : Nat) (value : Word) (s : State) : Host.Outcome State Fault Refusal :=
  let n := ringAt offset
  let x := (s.io.window partition).ring n
  if s.windowOn partition && s.hasRing partition n && decide (offset < 0xC0) && !x.enable then
    match offset % 0x20 with
    | 0x00 => .next (s.mapRing partition n fun x => x.writeBase false value.toNat)
    | 0x04 => .next (s.mapRing partition n fun x => x.writeBase true value.toNat)
    | 0x08 => .next (s.mapRing partition n fun x => { x.writeCtrl n value.toNat with enable := false })
    | _ => .next s
  else .next s

/-- The event ring gains space or is enabled (R73, R75, R596). -/
def State.eventSpace (s : State) (p : Nat) : State := { s with io := s.io.eventSpace p }

/-- A write to EVT_RING_CTRL that sets ENABLE (R75). -/
def State.enableEvents (s : State) (p : Nat) (control : Nat) : State :=
  (s.mapRing p .evt fun x => { x.writeCtrl .evt control with enable := true }).eventSpace p

/-- EVT_RING_ENABLE (R75). -/
def execEvtRingEnable (partition : Nat) (control : Word) (s : State) : Host.Outcome State Fault Refusal :=
  if s.windowOn partition then .next (s.enableEvents partition control.toNat) else .next s

/-- A write to EVT_RING_TAIL (R63, R73). -/
def State.writeEventTail (s : State) (p value : Nat) : State :=
  (s.mapRing p .evt fun x => x.writeTail value).eventSpace p

/-- EVT_RING_TAIL_WRITE (R73). -/
def execEvtRingTailWrite (partition : Nat) (tail : Word) (s : State) : Host.Outcome State Fault Refusal :=
  if s.windowOn partition then .next (s.writeEventTail partition tail.toNat) else .next s

/-- EVT_RING_DROPPED_READ (R58, R6): the read returns the count and clears it. -/
def execEvtRingDroppedRead (partition : Nat) (s : State) : Host.Outcome State Fault Refusal :=
  if s.windowOn partition then
    .next { s with io := s.io.mapWindow partition fun w => { w with dropped := 0 } }
  else .next s

/-- A write to INT_STATUS (R95, R96): a 1 clears its bit. -/
def State.clearStatus (s : State) (p : Nat) (value : Word) : State :=
  { s with io := s.io.mapWindow p fun w => { w with intStatus := w.intStatus &&& ~~~value } }

/-- INT_STATUS_CLEAR (R96). -/
def execIntStatusClear (partition : Nat) (value : Word) (s : State) : Host.Outcome State Fault Refusal :=
  if s.windowOn partition then .next (s.clearStatus partition value) else .next s

/-- Send the messages of the vectors that a mask write uncovers (R97). -/
def sendUncovered (p : Nat) (uncovered : Word) : List Nat → Io → Io
  | [], io => io
  | v :: rest, io =>
    if uncovered.getLsbD v then
      sendUncovered p uncovered rest ((io.sendMessage p v).1.runTasks (io.sendMessage p v).2)
    else sendUncovered p uncovered rest io

/-- A write to INT_MASK (R95, R97). -/
def State.writeMask (s : State) (p : Nat) (value : Word) : State :=
  let w := s.io.window p
  let io1 := s.io.mapWindow p fun w => { w with intMask := value }
  { s with io := sendUncovered p (w.intStatus &&& w.intMask &&& ~~~value) (span 0 32) io1 }

/-- INT_MASK_WRITE (R97). -/
def execIntMaskWrite (partition : Nat) (value : Word) (s : State) : Host.Outcome State Fault Refusal :=
  if s.windowOn partition then .next (s.writeMask partition value) else .next s

/-- COALESCE_TIMER (R72): TIME_US after the first completion since the last raise, the vector is raised. -/
def execCoalesceTimer (partition : Nat) (s : State) : Host.Outcome State Fault Refusal :=
  let w := s.io.window partition
  if s.windowOn partition && decide (w.coalesceUs ≠ 0) && decide (0 < w.sinceRaise) &&
      decide (w.firstSince + 1000 * w.coalesceUs ≤ s.now) then
    let s1 : State := { s with io := s.io.mapWindow partition fun w => { w with sinceRaise := 0 } }
    .next (s1.vector partition w.cpl.vector)
  else .next s

end Sys2Proof.Machine
end

