-- ==== Sys2Proof/Machine/Intake.lean ====
section
/-! DEFINITION. Reading command entries from a partition's rings (R65-R67, R69, R76). -/

namespace Sys2Proof.Machine

/-- The packet in the 64 bytes of a command entry (R76). -/
def packetOf (p n w : Nat) : Packet :=
  { opcode := byteField w 0 2,
    req := { partition := ⟨p % 64, Nat.mod_lt _ (by decide)⟩, ring := ⟨n % 4, Nat.mod_lt _ (by decide)⟩,
             flags := BitVec.ofNat 8 (byteField w 2 1), paramLen := BitVec.ofNat 8 (byteField w 3 1),
             tag := BitVec.ofNat 32 (byteField w 4 4), deadline := BitVec.ofNat 64 (byteField w 8 8),
             params := BitVec.ofNat 384 (byteField w 16 48) } }

/-- Whether the TZ7 reads a partition's command ring now: it is in service, the partition is not quiescing, and its completion
ring can take a completion (R65-R67, R69, R71, R133). -/
def State.reads (s : State) (p n : Nat) : Bool :=
  let w := s.io.window p
  let r := w.ring (.cmd n)
  s.windowOn p && s.hasRing p (.cmd n) && r.enable && !r.fault && (s.io.part p).state == .active && w.cpl.open && w.heldCpl.isEmpty

/-- Change a partition's window. -/
def State.mapWindow (s : State) (p : Nat) (f : Window → Window) : State := { s with io := s.io.mapWindow p f }

/-- Read entries of a command ring up to its tail, each once (R65); a fault stops the ring on its entry (R66). -/
def State.readEntries (p n : Nat) : Nat → State → State
  | 0, s => s
  | fuel + 1, s =>
    let r := (s.io.window p).ring (.cmd n)
    if !s.reads p n ∨ r.head = r.tail then s
    else
      match s.read p (r.base + 64 * r.head) 64 with
      | (s1, .error _) =>
        (s1.mapRing p (.cmd n) fun x => { x with fault := true }).raise
          { unit := 0, code := 0x0103, severity := 3, detail := pack [(0, 1, n), (1, 1, p), (8, 8, r.base + 64 * r.head)] } [p, 0]
      | (s1, .ok w) =>
        State.readEntries p n fuel
          ((s1.mapRing p (.cmd n) fun x => { x with head := (x.head + 1) % x.size }).mapWindow p fun y =>
            { y with intake := Table.modify [] y.intake n fun l => l ++ [packetOf p n w] })

/-- Read what a partition's rings hold. -/
def State.readRings (s : State) (p : Nat) : State :=
  s.each (span 0 4) fun s1 n => State.readEntries p n ((s1.io.window p).ring (.cmd n)).size s1

end Sys2Proof.Machine
end

