-- ==== Sys2Proof/Machine/Lin.lean ====
section
/-! DEFINITION. The meanings of the LIN commands and events (09, R322-R330). -/

namespace Sys2Proof.Machine

/-- LIN_CHANNEL_CONFIG (cmd 0x0601, R330). A change of role drops the table, whose delays are the other role's: DESIGN CHOICE
(log entry 28). -/
def cmdLinChannelConfig : Command where
  opcode := 0x0601
  paramLen := 8
  used := [(0, 0, 8), (1, 0, 2), (2, 0, 8), (4, 0, 16)]
  owns r s := decide (s.owner kindLin (r.byte 0) = r.issuer)
  range r := decide (r.byte 0 < 8) && decide (r.byte 2 < 32) && within (r.field 4 2) 1000 20000
  checks r s :=
    let x := s.linOf (r.byte 0)
    let moves := x.commander != r.bit 1 1 || decide (x.bitRate ≠ r.field 4 2) || (x.enable && !r.bit 1 0)
    [(s.furled (unitId 0x11 (r.byte 0)), .linState), (moves && s.linReserved (r.byte 0), .linScheduleConflict)]
  run r s :=
    let c := r.byte 0
    let old := s.linOf c
    let drop := old.commander != r.bit 1 1
    let s1 := s.mapLin c fun x =>
      { x with enable := r.bit 1 0, commander := r.bit 1 1, vector := r.byte 2, bitRate := r.field 4 2,
               table := if drop then [] else x.table, nextTable := if drop then none else x.nextTable,
               bufs := if drop then [] else x.bufs, running := x.running && r.bit 1 0 && !drop,
               inFrame := x.inFrame && r.bit 1 0 && !drop }
    .done 0 (if (s1.linOf c).running then s1 else s1.startSchedule c)

/-- LIN_CHANNEL_CONFIG. -/
def execLinChannelConfig (r : Request) (s : State) : Host.Outcome State Fault Refusal := cmdLinChannelConfig.step r s

/-- Entry `i` of a table read from memory, or none where it is not valid (R324). -/
def tableEntry (table i : Nat) (commander : Bool) (bitRate : Nat) : Option LinEntry :=
  let id := byteField table (4 * i) 1
  let dir := byteField table (4 * i + 1) 1
  let fmt := byteField table (4 * i + 2) 1
  let delay := byteField table (4 * i + 3) 1
  let len := bitsOf fmt 3 0
  let ok := decide (id < 64) && decide (dir ≤ 2) && within len 1 8 && decide (bitsOf fmt 6 5 = 0) &&
    (if commander then decide (1 ≤ delay) && decide (linTMaxNs len bitRate ≤ delay * 1000000) else decide (delay = 0))
  if ok then some { id := id, dir := dir, length := len, enhanced := bitOf fmt 4, int := bitOf fmt 7, delayMs := delay }
  else none

/-- The table of COUNT entries, or none where one of them is not valid (R324). -/
def readTable (table count : Nat) (commander : Bool) (bitRate : Nat) : Option (List LinEntry) :=
  let l := (span 0 count).filterMap fun i => tableEntry table i commander bitRate
  if l.length = count ∧ (commander ∨ distinct (l.map (·.id))) then some l else none

/-- Put a table in force; a slot that stays the same keeps its buffer. -/
def LinChannel.install (x : LinChannel) (l : List LinEntry) : LinChannel :=
  { x with table := l, nextTable := none,
           bufs := x.bufs.filter fun b => decide (x.table[b.1]? = l[b.1]?) && decide (b.1 < l.length) }

/-- Whether a new table breaks a reserved flow on the channel (R326). -/
def State.tableConflict (s : State) (c : Nat) (l : List LinEntry) : Bool :=
  let x := s.linOf c
  let next := (s.mapLin c fun x => x.install l).recompute
  s.reserved.any fun g => g.2.decl.path.any fun r =>
    r.type == rLin && r.inst == c &&
    ((match x.table[r.qual]?, l[r.qual]? with
      | some a, some b => decide ({ a with delayMs := 0 } ≠ { b with delayMs := 0 })
      | _, _ => true) || decide ((next.flowOf g.1).promise < (next.flowOf g.1).computed))

/-- When the running cycle of a commander ends. -/
def LinChannel.cycleEnd (x : LinChannel) : Nat :=
  if x.entry = 0 then x.slotAt
  else x.slotAt + ((x.table.drop x.entry).map fun e => e.delayMs * 1000000).foldl (· + ·) 0

/-- LIN_SCHEDULE_SET (cmd 0x0602, R324, R326). -/
def cmdLinScheduleSet : Command where
  opcode := 0x0602
  paramLen := 16
  used := [(0, 0, 16), (8, 0, 64)]
  iovas := [8]
  owns r s := decide (s.owner kindLin (r.byte 0) = r.issuer)
  range r := decide (r.byte 0 < 8) && within (r.byte 1) 1 64 && aligned (r.field 8 8) 4
  furled r s := s.furled (unitId 0x11 (r.byte 0))
  run r s :=
    let c := r.byte 0
    match s.read r.issuer (r.field 8 8) (4 * r.byte 1) with
    | (s1, .error f) => .fault f s1
    | (s1, .ok table) =>
      let x := s1.linOf c
      match readTable table (r.byte 1) x.commander x.bitRate with
      | none => .no .badParam
      | some l =>
        if s1.tableConflict c l then .no .linScheduleConflict
        else
          let s2 :=
            if x.running then s1.mapLin c fun x => { x with nextTable := some l }
            else
              let s3 := (s1.mapLin c fun x => x.install l).recompute
              if x.asleep then s3 else s3.startSchedule c
          let cycle := if x.commander then (l.map fun e => e.delayMs * 1000000).foldl (· + ·) 0 else s2.linCycle c
          .done (pack [(0, 8, if x.running then x.cycleEnd else s.now), (8, 4, cycle)]) s2

/-- LIN_SCHEDULE_SET. -/
def execLinScheduleSet (r : Request) (s : State) : Host.Outcome State Fault Refusal := cmdLinScheduleSet.step r s

/-- The DIRECTION of an entry, 3 where there is none. -/
def LinChannel.dirOf (x : LinChannel) (q : Nat) : Nat := match x.table[q]? with | some e => e.dir | none => 3

/-- LIN_FRAME_WRITE (cmd 0x0603, R327). -/
def cmdLinFrameWrite : Command where
  opcode := 0x0603
  fast := true
  paramLen := 16
  used := [(0, 0, 16), (8, 0, 64)]
  owns r s := decide (s.owner kindLin (r.byte 0) = r.issuer)
  range r := decide (r.byte 0 < 8)
  furled r s := s.furled (unitId 0x11 (r.byte 0))
  checks r s := [(decide ((s.linOf (r.byte 0)).dirOf (r.byte 1) ≠ 1), .badParam)]
  run r s :=
    .done 0 (s.mapLin (r.byte 0) fun x => x.mapBuf (r.byte 1) fun b =>
      { b with data := r.field 8 8, written := true, wroteAt := s.now + 1 })

/-- LIN_FRAME_WRITE. -/
def execLinFrameWrite (r : Request) (s : State) : Host.Outcome State Fault Refusal := cmdLinFrameWrite.step r s

/-- LIN_FRAME_READ (cmd 0x0604, R327). -/
def cmdLinFrameRead : Command where
  opcode := 0x0604
  fast := true
  paramLen := 16
  used := [(0, 0, 16)]
  owns r s := decide (s.owner kindLin (r.byte 0) = r.issuer)
  range r := decide (r.byte 0 < 8)
  furled r s := s.furled (unitId 0x11 (r.byte 0))
  checks r s := [(decide ((s.linOf (r.byte 0)).dirOf (r.byte 1) ≠ 2), .badParam)]
  run r s :=
    let b := (s.linOf (r.byte 0)).buf (r.byte 1)
    .done (pack [(0, 8, b.data), (8, 1, flag b.new), (9, 1, b.length), (10, 2, b.overruns), (16, 8, b.time)])
      (s.mapLin (r.byte 0) fun x => x.mapBuf (r.byte 1) fun b => { b with new := false })

/-- LIN_FRAME_READ. -/
def execLinFrameRead (r : Request) (s : State) : Host.Outcome State Fault Refusal := cmdLinFrameRead.step r s

/-- LIN_BUS_CONTROL (cmd 0x0605, R329, R330). -/
def cmdLinBusControl : Command where
  opcode := 0x0605
  paramLen := 4
  used := [(0, 0, 16)]
  owns r s := decide (s.owner kindLin (r.byte 0) = r.issuer)
  range r := decide (r.byte 0 < 8) && decide (r.byte 1 ≤ 1)
  furled r s := s.furled (unitId 0x11 (r.byte 0))
  checks r s :=
    let x := s.linOf (r.byte 0)
    [(!x.enable || (decide (r.byte 1 = 0) && !x.commander), .linState)]
  run r s :=
    let c := r.byte 0
    let x := s.linOf c
    if r.byte 1 = 1 then
      .done s.now (s.mapLin c fun x =>
        { x with asleep := false, sleepAfter := false,
                 restartAt := if x.commander then some (s.now + 100250000) else none })
    else if x.running then
      .done x.cycleEnd (s.mapLin c fun x => { x with sleepAfter := true, nextTable := none, restartAt := none })
    else .done s.now (s.mapLin c fun x => { x with asleep := true, nextTable := none, restartAt := none })

/-- LIN_BUS_CONTROL. -/
def execLinBusControl (r : Request) (s : State) : Host.Outcome State Fault Refusal := cmdLinBusControl.step r s

/-- A response that the TZ7 publishes: an item written since the last one is delivered with its first bit, which follows the
header within T_MAX; when within it, nothing fixes (R152, R323, R327). -/
def State.publish (s : State) (c q : Nat) : State :=
  let x := s.linOf c
  let b := x.buf q
  match x.table[q]? with
  | some e =>
    if b.wroteAt = 0 then s
    else
      let (v, s1) := s.draw
      let first := s.now + v % max 1 (linTMaxNs e.length x.bitRate)
      (s1.deliver (s.linFlows c q) (b.wroteAt - 1) first 1010 (unitId 0x11 c)).mapLin c fun x =>
        x.mapBuf q fun b => { b with wroteAt := 0 }
  | none => s

/-- A response that has not come by the next slot or header is missing (R323). -/
def State.closeFrame (s : State) (c : Nat) : State :=
  if (s.linOf c).inFrame then s.linError c (s.linOf c).current 2 else s

/-- An entry's frame begins: the TZ7 publishes, receives, or leaves the response alone (R324). -/
def State.beginFrame (s : State) (c q : Nat) (publishes : Bool) : State :=
  let dir := (s.linOf c).dirOf q
  let s1 := s.mapLin c fun x => { x with current := q, frameAt := s.now, inFrame := decide (dir = 2) }
  if dir = 1 ∧ publishes then s1.publish c q else s1

/-- LIN_SLOT_START (R324, R326, R329, R330): a commander's slot begins. -/
def execLinSlotStart (channel : Nat) (s : State) : Host.Outcome State Fault Refusal :=
  let x := s.linOf channel
  if !s.computeOn || !x.enable || !x.commander || !x.running || decide (s.now < x.slotAt) then .next s
  else
    let s1 := s.closeFrame channel
    if x.stopAfter then .next (s1.mapLin channel fun x => { x with running := false })
    else if x.entry = 0 ∧ x.sleepAfter then
      .next (s1.mapLin channel fun x => { x with running := false, sleepAfter := false, asleep := true, nextTable := none })
    else
      let s2 := match x.entry, x.nextTable with
        | 0, some l => (s1.mapLin channel fun x => x.install l).recompute
        | _, _ => s1
      let s3 := s2.beginFrame channel x.entry true
      .next (s3.mapLin channel fun y =>
        let delay := match y.table[x.entry]? with | some e => e.delayMs * 1000000 | none => 0
        { y with entry := if x.entry + 1 < y.table.length then x.entry + 1 else 0, slotAt := x.slotAt + delay })

/-- LIN_HEADER_RECEIVE (R324, R327, R359): the header is evidence for a wake of the channel; a responder answers with data once written, or captures the response. -/
def execLinHeaderReceive (channel id : Nat) (s0 : State) : Host.Outcome State Fault Refusal :=
  let s := s0.evidence (0x10 + channel)
  let x := s.linOf channel
  if !s.computeOn || !x.enable || x.commander || s.furled (unitId 0x11 channel) then .next s
  else
    let s1 := s.closeFrame channel
    match x.table.findIdx? fun e => e.id == id with
    | some q => .next (s1.beginFrame channel q (x.buf q).written)
    | none => .next s1

/-- LIN_RESPONSE_RECEIVE (R327, R328): a response ends, with its data and checksum and the error found: 0 none, 3 framing, 4
bit. -/
def execLinResponseReceive (channel : Nat) (data : List Byte) (checksum : Byte) (error : Nat) (s : State) :
    Host.Outcome State Fault Refusal :=
  let x := s.linOf channel
  let q := x.current
  match x.table[q]? with
  | none => .next s
  | some e =>
    if !s.computeOn || !x.enable || s.furled (unitId 0x11 channel) || decide (s.now < x.frameAt) then .next s
    else if !x.inFrame then
      if error = 4 ∧ e.dir = 1 ∧ s.now < x.frameAt + linTMaxNs e.length x.bitRate then .next (s.linError channel q 4)
      else .next s
    else if error = 3 ∨ error = 4 then .next (s.linError channel q error)
    else if x.frameAt + linTMaxNs e.length x.bitRate < s.now ∨ data.length ≠ e.length then .next (s.linError channel q 2)
    else if linChecksum e.enhanced e.id data ≠ checksum.toNat then .next (s.linError channel q 1)
    else
      let s1 := s.mapLin channel fun x =>
        { x.mapBuf q fun b =>
            { b with data := ofBytes data, length := e.length, time := s.now, new := true,
                     overruns := if b.new then satAdd 16 b.overruns 1 else b.overruns } with inFrame := false }
      let s2 := if e.int then s1.vector (s.owner kindLin channel) x.vector else s1
      .next (s2.deliver (s.linFlows channel q) s.now s.now 1000 (unitId 0x11 channel))

/-- LIN_NO_RESPONSE (R323). -/
def execLinNoResponse (channel : Nat) (s : State) : Host.Outcome State Fault Refusal :=
  let x := s.linOf channel
  match x.table[x.current]? with
  | some e =>
    if s.computeOn ∧ x.inFrame ∧ x.frameAt + linTMaxNs e.length x.bitRate ≤ s.now then
      .next (s.linError channel x.current 2)
    else .next s
  | none => .next s

/-- LIN_WAKE_SEEN (R329, R337). -/
def execLinWakeSeen (channel : Nat) (s : State) : Host.Outcome State Fault Refusal :=
  let x := s.linOf channel
  if s.computeOn ∧ x.enable ∧ ¬ x.inFrame ∧ ¬ s.furled (unitId 0x11 channel) then
    .next (s.raise { unit := unitId 0x11 channel, code := 0x0602, partition := s.owner kindLin channel,
                     detail := pack [(0, 1, channel), (8, 8, s.now - 150000)] } [s.owner kindLin channel])
  else .next s

/-- LIN_SCHEDULE_RESTART (R329). -/
def execLinScheduleRestart (channel : Nat) (s : State) : Host.Outcome State Fault Refusal :=
  let x := s.linOf channel
  match x.restartAt with
  | some t =>
    if s.computeOn ∧ t ≤ s.now ∧ ¬ s.quiescing (s.owner kindLin channel) then
      let s1 := match x.nextTable with
        | some l => (s.mapLin channel fun x => x.install l).recompute
        | none => s
      .next (s1.startSchedule channel)
    else .next s
  | none => .next s

end Sys2Proof.Machine
end

