-- ==== Sys2Proof/Machine/Clock.lean ====
section
/-! DEFINITION. The meanings of the Device Time, servo and PPS commands and events (05). Offsets are in 2⁻¹⁶ ns. -/

namespace Sys2Proof.Machine

/-- Change the time state. -/
def State.mapTime (s : State) (f : TimeState → TimeState) : State := { s with time := f s.time }

/-- A domain offset in whole ns, zero when never LOCKED (cmd 0x0110). -/
def TimeState.offset (t : TimeState) (b : Bool) : Int :=
  if b then (if t.everLockedB then t.offsetB / 65536 else 0) else (if t.everLockedA then t.offsetA / 65536 else 0)

/-- The offset of the selected source, in ns. -/
def TimeState.sourceOffset (t : TimeState) : Int :=
  if t.source = 1 then t.offset false else if t.source = 2 then t.offset true else 0

/-- TIME_STATE_CHANGED (R213). -/
def State.timeChanged (s : State) (scope old new : Nat) (step : Int) : State :=
  s.raise { unit := 0x2500, code := 0x0110,
            detail := pack [(0, 1, scope), (1, 1, old), (2, 1, new), (3, 1, s.time.source), (4, 4, ofSigned 32 step),
              (8, 8, if scope = 0 then ofSigned 64 s.time.sourceOffset else 0)] } [0]

/-- The servo changes state (R198). -/
def State.moveServo (s : State) (next : ServoState) (step : Int) : State :=
  let old := s.time.servo
  (s.mapTime fun t => { t with servo := next }).timeChanged 0 old.code next.code step

/-- The 500 MHz increment at a rate correction in ppb (R195). -/
def incrementAt (rate : Int) : Nat := ((2 * 2 ^ 32 : Nat) + (2 * 2 ^ 32 : Nat) * rate / 1000000000 : Int).toNat

/-- Set the rate correction at once. -/
def State.setRate (s : State) (rate : Int) : State :=
  let s1 := s.mapTime fun t => { t with rate := rate, rateAt := s.now }
  { s1 with io := { s1.io with incr := incrementAt rate } }

/-- A value held within a limit on either side. -/
def clampTo (limit x : Int) : Int := max (-limit) (min limit x)

/-- Follow a source's rate by at most MAX_ADJ_PPB, and no faster than 10 ppm per second (R195, R198). -/
def State.followRate (s : State) (rate : Int) : State :=
  let target := clampTo s.time.maxAdjPpb rate
  let reach : Int := ((s.now - s.time.rateAt) / 100000 : Nat)
  let next := s.time.rate + clampTo reach (target - s.time.rate)
  let s1 := s.setRate next
  s1.mapTime fun t => { t with
    rates := ({ at_ := s.now, rate := next } :: t.rates).filter fun x => decide (s.now < x.at_ + 16000000000) }

/-- The mean of a list of offsets or rates. -/
def meanOf (l : List Int) : Int := if l = [] then 0 else l.foldl (· + ·) 0 / (l.length : Int)

/-- A domain's offset after a measurement while LOCKED (R200): stepped when first reached and above 1 ms, slewed otherwise.
The answer's second part is the step in ns. -/
def slewOffset (held measured : Int) (first : Bool) (elapsed : Nat) : Int × Int :=
  let apart := measured - held
  if first ∧ 1000000 * 65536 < measured.natAbs then (measured, apart / 65536)
  else (held + clampTo ((elapsed * 65536 / 10000 : Nat) : Int) apart, 0)

/-- Take a measurement into the source's domain offset. -/
def State.takeOffset (s : State) (measured : Int) : State × Int :=
  let t := s.time
  if t.source = 1 then
    let (v, step) := slewOffset t.offsetA measured (!t.everLockedA) (s.now - t.offsetAtA)
    (s.mapTime fun t => { t with offsetA := v, offsetAtA := s.now, everLockedA := true }, step)
  else if t.source = 2 then
    let (v, step) := slewOffset t.offsetB measured (!t.everLockedB) (s.now - t.offsetAtB)
    (s.mapTime fun t => { t with offsetB := v, offsetAtB := s.now, everLockedB := true }, step)
  else (s, 0)

/-- TIME_READ (cmd 0x0110). -/
def cmdTimeRead : Command where
  opcode := 0x0110
  fast := true
  run _ s :=
    let t := s.time
    .done (pack [(0, 8, s.now), (8, 2, s.io.time / 2 ^ 16 % 2 ^ 16), (10, 1, t.servo.code + 128 * flag (!t.d7Valid)),
      (11, 1, t.source), (12, 8, ofSigned 64 (t.offset false)),
      (20, 4, if t.servo = .holdover then (s.now - t.holdoverAt) / 1000000000 else 0)]) s

/-- TIME_READ. -/
def execTimeRead (r : Request) (s : State) : Host.Outcome State Fault Refusal := cmdTimeRead.step r s

/-- TIME_SOURCE_SET (cmd 0x0111, R198). A change from one source to another acts as setting none first; DESIGN CHOICE (log
entry 19). -/
def cmdTimeSourceSet : Command where
  opcode := 0x0111
  paramLen := 16
  used := [(0, 0, 8), (2, 0, 16), (4, 0, 64)]
  manager := true
  featureBad r s := decide (r.byte 0 = 2) && !s.has 0 .gptpSecondDomain
  range r := decide (r.byte 0 ≤ 3) && within (r.field 2 2) 1 10000 && within (r.field 4 4) 1 250000 &&
    within (r.field 8 4) 1 86400
  run r s :=
    let same := decide (s.time.source = r.byte 0) && decide (r.byte 0 ≠ 0)
    let s1 := if same ∨ s.time.servo = .free then s else (s.setRate 0).moveServo .free 0
    let s2 := s1.mapTime fun t =>
      { t with source := r.byte 0, lockNs := r.field 2 2, maxAdjPpb := r.field 4 4, holdoverLimitS := r.field 8 4,
               run := if same then t.run else [] }
    .done (pack [(0, 8, s.now), (8, 8, ofSigned 64 (s2.time.offset true))]) s2

/-- TIME_SOURCE_SET. -/
def execTimeSourceSet (r : Request) (s : State) : Host.Outcome State Fault Refusal := cmdTimeSourceSet.step r s

/-- The offset of a PPS timescale in ns (R202). -/
def TimeState.scale (t : TimeState) (n : Nat) : Int := if n = 1 then t.offset false else if n = 2 then t.offset true else 0

/-- Whether the pulse source has ever been LOCKED, or is Device Time (R202). -/
def TimeState.pulseOk (t : TimeState) : Bool :=
  t.ppsScale == 0 || (t.ppsScale == 1 && t.everLockedA) || (t.ppsScale == 2 && t.everLockedB)

/-- The Device Time after an instant at which the timescale crosses a whole second (R202). -/
def TimeState.crossing (t : TimeState) (now : Nat) : Int :=
  let off := t.scale t.ppsScale
  (((now : Int) + off) / 1000000000 + 1) * 1000000000 - off

/-- PPS_CONFIG (cmd 0x0112). -/
def cmdPpsConfig : Command where
  opcode := 0x0112
  paramLen := 4
  used := [(0, 0, 32)]
  manager := true
  range r := decide (r.byte 0 ≤ 1) && decide (r.byte 1 ≤ 2) && within (r.field 2 2) 1 500
  run r s :=
    let on := decide (r.byte 0 = 1)
    let s1 := s.mapTime fun t => { t with ppsEnable := on, ppsScale := r.byte 1, ppsWidthMs := r.field 2 2,
                                          ppsHigh := t.ppsHigh && on }
    let next := s1.time.crossing s.now
    let s2 := s1.mapTime fun t => { t with ppsNext := next }
    .done (pack [(0, 8, if on ∧ s1.time.pulseOk then next.toNat else 0), (8, 4, s.time.ppsRejected)]) s2

/-- PPS_CONFIG. -/
def execPpsConfig (r : Request) (s : State) : Host.Outcome State Fault Refusal := cmdPpsConfig.step r s

/-- TIME_SOURCE_MEASUREMENT: a measured offset of the selected source in 2⁻¹⁶ ns and its rate in ppb (R198-R200). Offsets are
judged against the mean of the eight that gave LOCKED; DEDUCED (log entry 20). -/
def execTimeSourceMeasurement (offset rate : Int) (s : State) : Host.Outcome State Fault Refusal :=
  let t := s.time
  if t.source = 0 || t.backupOsc || !s.computeOn then .next s
  else
    let s0 := (s.followRate rate).mapTime fun t => { t with lastSync := s.now }
    match t.servo with
    | .locked =>
      if 4 * (t.lockNs : Int) * 65536 < ((offset - t.lockMean).natAbs : Int) then
        .next ((s0.mapTime fun t => { t with run := [offset] }).moveServo .acquiring 0)
      else .next (s0.takeOffset offset).1
    | .acquiring =>
      let run := (t.run ++ [offset]).drop ((t.run.length + 1) - 8)
      let mean := meanOf run
      let near := run.all fun x => decide (((x - mean).natAbs : Int) ≤ (t.lockNs : Int) * 65536)
      let s1 := s0.mapTime fun t => { t with run := run }
      if run.length = 8 ∧ near then
        let (s2, step) := (s1.mapTime fun t => { t with lockMean := mean }).takeOffset offset
        .next (s2.moveServo .locked step)
      else .next s1
    | _ => .next ((s0.mapTime fun t => { t with run := [offset] }).moveServo .acquiring 0)

/-- The time without a sync or edge that loses the source (R198): three sync intervals of its domain, or 1.1 s of PPS_IN. -/
def State.lossAfter (s : State) : Nat :=
  if s.time.source = 3 then 1100000000
  else
    let logs := s.sw.gptp.filterMap fun g => if g.1 / 16 = s.time.source - 1 then some g.2.syncLog else none
    let log := match logs with | [] => (-3 : Int) | l :: _ => l
    3 * (if 0 ≤ log then 1000000000 * 2 ^ log.toNat else 1000000000 / 2 ^ (-log).toNat)

/-- TIME_SOURCE_LOSS (R198): the rate is frozen at its mean over the last 16 s. -/
def execTimeSourceLoss (s : State) : Host.Outcome State Fault Refusal :=
  let t := s.time
  if (t.servo = .acquiring ∨ t.servo = .locked) ∧ t.lastSync + s.lossAfter ≤ s.now then
    let mean := meanOf ((t.rates.filter fun x => decide (s.now < x.at_ + 16000000000)).map (·.rate))
    .next (((s.setRate mean).mapTime fun t => { t with holdoverAt := s.now }).moveServo .holdover 0)
  else .next s

/-- HOLDOVER_LIMIT (R198). -/
def execHoldoverLimit (s : State) : Host.Outcome State Fault Refusal :=
  let t := s.time
  if t.servo = .holdover ∧ !t.backupOsc ∧ t.holdoverAt + t.holdoverLimitS * 1000000000 ≤ s.now then
    .next ((s.setRate 0).moveServo .free 0)
  else .next s

/-- How far an edge lies from the nearest whole second after the last accepted one. -/
def edgeError (last now : Nat) : Nat :=
  let d := (now - last) % 1000000000
  min d (1000000000 - d)

/-- PPS_IN_EDGE (R201). -/
def execPpsInEdge (s : State) : Host.Outcome State Fault Refusal :=
  let t := s.time
  if !s.computeOn then .next s
  else if t.source = 3 ∧ t.servo = .locked ∧ 100000 < edgeError t.ppsLastEdge s.now then
    .next (s.mapTime fun t => { t with ppsRejected := satAdd 32 t.ppsRejected 1 })
  else
    .next (s.mapTime fun t =>
      { t with ppsLastEdge := s.now, lastSync := if t.source = 3 then s.now else t.lastSync })

/-- PPS_OUT_PULSE (R202): the pulse rises at the crossing and falls after its width. -/
def execPpsOutPulse (s : State) : Host.Outcome State Fault Refusal :=
  let t := s.time
  if t.ppsHigh then
    if t.ppsRiseAt + t.ppsWidthMs * 1000000 ≤ s.now then .next (s.mapTime fun t => { t with ppsHigh := false })
    else .next s
  else if t.ppsEnable ∧ t.pulseOk ∧ t.ppsNext ≤ (s.now : Int) ∧ s.computeOn then
    .next (s.mapTime fun t => { t with ppsHigh := true, ppsRiseAt := t.ppsNext.toNat, ppsNext := t.crossing s.now })
  else .next s

/-- D7_TIME_STAMP (R203, R204). The states of a copy are coded 0 invalid and 1 valid; DESIGN CHOICE (log entry 21). -/
def execD7TimeStamp (s : State) : Host.Outcome State Fault Refusal :=
  if !s.computeOn || s.furled (unitId 0x05 0) then .next s
  else
    let s1 := s.mapTime fun t => { t with d7Valid := true, d7Stamp := s.now }
    .next (if s.time.d7Valid then s1 else s1.timeChanged 1 0 1 0)

/-- D7_COPY_INVALID (R203, R204): 1 ms without a stamp; current-sampling flows are revoked. -/
def execD7CopyInvalid (s : State) : Host.Outcome State Fault Refusal :=
  if s.time.d7Valid ∧ s.time.d7Stamp + 1000000 ≤ s.now then
    let s1 := (s.mapTime fun t => { t with d7Valid := false }).timeChanged 1 1 0 0
    .next (s1.owe 0 0x06 ((s1.reserved.filter fun g => g.2.decl.type == 0x07).map (·.1)))
  else .next s

/-- D6_TIME_STAMP (R203). -/
def execD6TimeStamp (s : State) : Host.Outcome State Fault Refusal :=
  if !s.computeOn then .next s
  else
    let s1 := s.mapTime fun t => { t with d6Valid := true, d6Stamp := s.now }
    .next (if s.time.d6Valid then s1 else s1.timeChanged 2 0 1 0)

/-- D6_COPY_INVALID (R203): 10 µs without a stamp. -/
def execD6CopyInvalid (s : State) : Host.Outcome State Fault Refusal :=
  if s.time.d6Valid ∧ s.time.d6Stamp + 10000 ≤ s.now then
    .next ((s.mapTime fun t => { t with d6Valid := false }).timeChanged 2 1 0 0)
  else .next s

/-- TIME_REFERENCE_REFRESH (R196): once a second in Run and Idle, by Masthead. -/
def execTimeReferenceRefresh (s : State) : Host.Outcome State Fault Refusal :=
  if s.computeOn && !s.absent && decide (s.time.tRef + 1000000000 ≤ s.now) then .next s.refreshReference else .next s

/-- CLOCK_MONITOR_EXCURSION (R210, R211): one event for a clock domain or Device Time; a failed 32.768 kHz crystal puts the
Heath logic on its RC fallback. -/
def execClockMonitorExcursion (unit cause : Nat) (s : State) : Host.Outcome State Fault Refusal :=
  if (unit / 256 == 0x24 && unitExists unit) || unit == 0x2500 then
    let s1 := if unit = 0x2401 then s.mapTime fun t => { t with rtcFallback := true } else s
    .next (s1.unitEvent unit cause)
  else .next s

end Sys2Proof.Machine
end

