-- ==== Sys2Proof/Machine/Frames.lean ====
section
/-! DEFINITION. How a frame crosses the switch up to its queues: bytes, MACsec, VLAN, filters, sequence recovery, lookup,
class, charging (R215-R230, R245-R258). -/

namespace Sys2Proof.Machine

/-- Two octets, most significant first. -/
def be16 (n : Nat) : List Byte := [BitVec.ofNat 8 (n / 256), BitVec.ofNat 8 n]

/-- A number from octets, most significant first. -/
def beNat (l : List Byte) : Nat := l.foldl (fun n b => 256 * n + b.toNat) 0

/-- The bytes of a frame after its addresses and before its FCS (R216, R251). -/
def frameBody (f : EthFrame) : List Byte :=
  (match f.tag with | some (pcp, vid) => be16 0x8100 ++ be16 (pcp.toNat * 2 ^ 13 + vid.toNat) | none => []) ++
  (match f.rtag with | some n => be16 0xF1C1 ++ be16 0 ++ be16 n.toNat | none => []) ++
  be16 f.ethType.toNat ++ f.payload

/-- The two addresses of a frame. -/
def frameAddresses (f : EthFrame) : List Byte := toBytes 6 f.dst.toNat ++ toBytes 6 f.src.toNat

/-- A frame without its FCS. -/
def frameBytes (f : EthFrame) : List Byte := frameAddresses f ++ frameBody f

/-- The length of a frame as R215 measures it. -/
def frameLength (f : EthFrame) : Nat := (frameBytes f).length + 4

/-- Take the customer tag and the R-TAG off a frame's body. -/
def parseBody (dst src : BitVec 48) (fcsOk : Bool) (bytes : List Byte) : EthFrame :=
  let tagged := decide (beNat (bytes.take 2) = 0x8100)
  let tci := beNat ((bytes.drop 2).take 2)
  let rest := if tagged then bytes.drop 4 else bytes
  let red := decide (beNat (rest.take 2) = 0xF1C1)
  let rest1 := if red then rest.drop 6 else rest
  { dst := dst, src := src, sec := none, fcsOk := fcsOk,
    tag := if tagged then some (BitVec.ofNat 3 (tci / 2 ^ 13), BitVec.ofNat 12 tci) else none,
    rtag := if red then some (BitVec.ofNat 16 (beNat ((rest.drop 4).take 2))) else none,
    ethType := BitVec.ofNat 16 (beNat (rest1.take 2)), payload := rest1.drop 2 }

/-- A frame from its bytes. -/
def parseFrame (bytes : List Byte) : EthFrame :=
  parseBody (BitVec.ofNat 48 (ofBytes (bytes.take 6))) (BitVec.ofNat 48 (ofBytes ((bytes.drop 6).take 6))) true (bytes.drop 12)

/-- The octets of a SecTAG after its EtherType, as IEEE 802.1AE lays them out; PRESUMED (log entry 32). -/
def secTagBytes (t : SecTag) (data : Nat) : List Byte :=
  [BitVec.ofNat 8 (flag t.explicit * 0x20 + flag t.encrypted * 0x0C + t.an.val),
   BitVec.ofNat 8 (if data < 48 then data else 0)] ++
  (toBytes 4 t.pn.toNat).reverse ++ (if t.explicit then toBytes 8 t.sci.toNat else [])

/-- A frame where no MACsec is: its SecTAG is an EtherType like any other. -/
def plainFrame (f : EthFrame) : EthFrame :=
  match f.sec with
  | some t =>
    { f with sec := none, tag := none, rtag := none, ethType := 0x88E5#16,
             payload := secTagBytes t f.payload.length ++ f.payload ++ (toBytes 16 t.icv.toNat).reverse }
  | none => f

/-- The key of an SA in the switch core's table. -/
def saKey (port direction sc an : Nat) : Nat := ((port * 2 + direction) * 16 + sc) * 4 + an

/-- A MACsec SA. -/
def State.saOf (s : State) (k : Nat) : MacsecSa := Table.get {} s.sw.sas k

/-- Change a MACsec SA. -/
def State.mapSa (s : State) (k : Nat) (f : MacsecSa → MacsecSa) : State :=
  s.mapSwitch fun w => { w with sas := Table.modify {} w.sas k f }

/-- The keys of the enabled SAs of one direction of a port. -/
def State.enabledSas (s : State) (p direction : Nat) : List Nat :=
  (span (saKey p direction 0 0) 64).filter fun k => (s.saOf k).enable

/-- Octets as numbers, for the cryptographic functions. -/
def octetList (l : List Byte) : List Nat := l.map (·.toNat)

/-- Verify a protected frame under an SA: its secure data in clear when its ICV is good (R246, R247). -/
def openSecure (sa : MacsecSa) (f : EthFrame) (t : SecTag) : Option (List Byte) :=
  let sci := if t.explicit then t.sci.toNat else sa.sci
  let head := octetList (frameAddresses f ++ be16 0x88E5 ++ secTagBytes t f.payload.length)
  let iv := octetList (toBytes 8 sci ++ (toBytes 4 t.pn.toNat).reverse)
  let key := octetList sa.key
  let data := octetList f.payload
  let tag := if t.encrypted then Crypto.gcmTag key iv head data else Crypto.gcmTag key iv (head ++ data) []
  if Crypto.toInt tag = t.icv.toNat then
    some (if t.encrypted then (Crypto.gcmCrypt key iv data).map (BitVec.ofNat 8) else f.payload)
  else none

/-- MACsec verification at a port's ingress: the frame that goes on, and whether it was verified (R246, R247, R248). -/
def State.macsecIn (s : State) (p : Nat) (f : EthFrame) : State × Option (EthFrame × Bool) :=
  if 2 ≤ p ∨ !s.has 0 .macsec then (s, some (plainFrame f, false))
  else if s.stopped (unitId 0x1F (2 * p + 1)) then (s, none)
  else
    let sas := s.enabledSas p 1
    let strict := sas.any fun k => decide ((s.saOf k).validate = 0)
    match f.sec with
    | none =>
      if f.ethType = 0x888E#16 ∨ (f.ethType = 0x88F7#16 ∧ (s.swOf p).unprotGptp) ∨ !strict then (s, some (f, false))
      else (s, none)
    | some t =>
      let clear : EthFrame := parseBody f.dst f.src f.fcsOk f.payload
      match sas.find? fun k => k % 4 == t.an.val && (!t.explicit || decide ((s.saOf k).sci = t.sci.toNat)) with
      | none => (s, if strict ∨ t.encrypted then none else some (clear, false))
      | some k =>
        let sa := s.saOf k
        if sa.key = [] then (s.mapSa k fun a => { a with lost := satAdd 32 a.lost 1 }, none)
        else if sa.validate = 2 then (s, if t.encrypted then none else some (clear, false))
        else if t.pn.toNat + sa.window < sa.nextPn then
          (s.mapSa k fun a => { a with lateFrames := satAdd 32 a.lateFrames 1 }, none)
        else
          match openSecure sa f t with
          | some data =>
            (s.mapSa k fun a => { a with okFrames := satAdd 32 a.okFrames 1, nextPn := max a.nextPn (t.pn.toNat + 1) },
              some (parseBody f.dst f.src f.fcsOk data, true))
          | none => (s.mapSa k fun a => { a with badFrames := satAdd 32 a.badFrames 1 }, none)

/-- A frame as it enters the switch core: port, sending endpoint, the admitted and revoked flows of the transmit queue it came
from, and what R225 tells of it. -/
structure Entering where
  port    : Nat
  srcEp   : Option Nat
  queueFlows : List Nat
  frame   : EthFrame
  secured : Bool
  at_     : Nat
  stamp   : Nat

/-- Where a copy goes: egress port, endpoint, class, and the flow it is an item of. -/
structure Target where
  egress   : Nat
  endpoint : Option Nat
  cls      : Nat
  flow     : Option Nat

/-- Whether an address is a group address: its first bit on the wire. -/
def groupAddress (a : BitVec 48) : Bool := a.getLsbD 0

/-- Whether an address is one that is never forwarded (R221). -/
def reservedAddress (a : BitVec 48) : Bool :=
  decide (a.toNat % 2 ^ 40 = 0x0000C28001) && decide (a.toNat / 2 ^ 40 < 0x10)

/-- A VLAN. -/
def State.vlanOf (s : State) (vid : Nat) : Vlan := Table.get {} s.sw.vlans vid

/-- The VID of a frame at a port: its own, or the PVID of an untagged or priority-tagged one (R216, R217). -/
def State.vidOf (s : State) (p : Nat) (f : EthFrame) : Nat :=
  match f.tag with
  | some (_, vid) => if vid = 0#12 then (s.swOf p).pvid else vid.toNat
  | none => (s.swOf p).pvid

/-- The PCP of a frame at a port. -/
def State.pcpOf (s : State) (p : Nat) (f : EthFrame) : Nat :=
  match f.tag with
  | some (pcp, _) => pcp.toNat
  | none => (s.swOf p).defaultPcp

/-- Whether a port is in use: enabled, in service, its MAC not held off (R244). -/
def State.portLive (s : State) (p : Nat) : Bool :=
  (s.swOf p).enable && !s.stopped (unitId 0x0C p) && !s.stopped (unitId 0x0E 0) && !(s.swOf p).macHeld

/-- Whether a filter identifies a frame (R249). -/
def Filter.matches (x : Filter) (port : Nat) (src : Option Nat) (f : EthFrame) (vid : Nat) : Bool :=
  bitOf x.ports port &&
  (match x.mode with
   | 1 => decide (f.dst.toNat = x.addr) && decide (vid = x.vid)
   | 2 => decide (f.src.toNat = x.addr) && decide (vid = x.vid)
   | 3 => src == some x.endpoint
   | _ => false)

/-- The lowest-numbered filter that identifies a frame (R249). -/
def State.matchFilter (s : State) (x : Entering) (vid : Nat) : Option Nat :=
  (s.sw.filters.find? fun g => g.2.matches x.port x.srcEp x.frame vid).map (·.1)

/-- A filter's own meter and MAX_SDU for unadmitted traffic (R249, R250): whether a frame passes. -/
def State.meter (s : State) (n length : Nat) : State × Bool :=
  let x := s.filterOf n
  let level := min (x.cbs * 1000000000) (x.level + (s.now - x.levelAt) * x.cir * 125)
  if x.maxSdu ≠ 0 ∧ x.maxSdu < length then (s, false)
  else if x.cir = 0 then (s, true)
  else if level < length * 1000000000 then (s, false)
  else (s.mapFilter n fun x => { x with level := level - length * 1000000000, levelAt := s.now }, true)

/-- A frame that its filter drops. -/
def State.filterDrop (s : State) (n : Nat) : State := s.mapFilter n fun x => { x with drops := satAdd 32 x.drops 1 }

/-- The meter that a filter's frames meet: the bucket that its flows share, or P0's values (R175, R176, R250). -/
def State.police (s : State) (n : Nat) (ids : List Nat) (length : Nat) : State × Bool :=
  if ids = [] then
    let (s1, ok) := s.meter n length
    (if ok then s1 else s1.filterDrop n, ok)
  else if ids.any fun id => decide ((s.flowOf id).decl.maxSize < length) then
    ((s.countDropped ids true).filterDrop n, false)
  else if s.conforms ids length then (s.takeTokens ids length, true)
  else ((s.countDropped ids false).filterDrop n, false)

/-- The inline check of a filter's CVU (R531): the payload that goes on, or none for a frame that it drops. -/
def State.filterCvu (s : State) (n : Nat) (f : EthFrame) : State × Option (List Byte) :=
  let x := s.filterOf n
  match x.cvu with
  | none => (s, some f.payload)
  | some c =>
    if !(s.cvuOf c).enabled && !s.furled (unitId 0x20 c) then (s, some f.payload)
    else if s.furled (unitId 0x20 c) then
      if bitOf (s.cvuOf c).flags 5 then (s.filterDrop n, none) else (s, some f.payload)
    else if x.mode = 3 then
      let (s1, data) := s.cvuGenerate c n (s.cvuOf c).layout.checkOffset f.payload
      (s1, some data)
    else
      let (s1, r) := s.cvuCheck c n (s.cvuOf c).layout.checkOffset f.payload
      if r.verdict ≠ 0 ∧ bitOf (s.cvuOf c).flags 5 then (s1.filterDrop n, none) else (s1, some f.payload)

/-- A sequence function: generation `n`, recovery `512 + n`. -/
def State.frerOf (s : State) (k : Nat) : FrerFn := Table.get {} s.sw.frer k

/-- Change a sequence function. -/
def State.mapFrer (s : State) (k : Nat) (f : FrerFn → FrerFn) : State :=
  s.mapSwitch fun w => { w with frer := Table.modify {} w.frer k f }

/-- The functions of a kind on a filter: 1 generation, 2 recovery. -/
def State.frerOn (s : State) (kind filter : Nat) : List Nat :=
  (s.sw.frer.filter fun g => s.has 0 .frer && g.2.kind == kind && g.2.filter == filter).map (·.1)

/-- A recovery function takes a sequence number by IEEE 802.1CB's vector algorithm (R251, R257): the function after it, and
whether the frame passes. PRESUMED (log entry 33). -/
def FrerFn.recover (x : FrerFn) (n now : Nat) : FrerFn × Bool :=
  let late := x.started && decide (x.lastAt + x.resetMs * 1000000 ≤ now)
  let y := if late then { x with started := false, seen := [], resets := satAdd 32 x.resets 1 } else x
  let ahead := (n + 2 ^ 16 - y.seq) % 2 ^ 16
  let behind := (y.seq + 2 ^ 16 - n) % 2 ^ 16
  if !y.started then
    ({ y with started := true, seq := n, seen := [n], lastAt := now, passed := satAdd 32 y.passed 1 }, true)
  else if ahead ≠ 0 ∧ ahead < y.history then
    let kept := (n :: y.seen).filter fun m => decide ((n + 2 ^ 16 - m) % 2 ^ 16 < y.history)
    ({ y with seq := n, seen := kept, lastAt := now, passed := satAdd 32 y.passed 1 }, true)
  else if behind < y.history ∧ !y.seen.contains n then
    ({ y with seen := n :: y.seen, lastAt := now, passed := satAdd 32 y.passed 1 }, true)
  else ({ y with discarded := satAdd 32 y.discarded 1 }, false)

/-- Sequence recovery on a filter: whether the frame passes every function there, and whether there was one. A frame without an
R-TAG does not. -/
def State.recovery (s : State) (filter : Nat) (f : EthFrame) : State × Bool :=
  (s.frerOn 2 filter).foldl (fun (acc : State × Bool) k =>
    if !acc.2 then acc
    else
      match f.rtag with
      | some n =>
        let (x, ok) := (acc.1.frerOf k).recover n.toNat s.now
        (acc.1.mapFrer k fun _ => x, ok)
      | none => (acc.1.mapFrer k fun x => { x with discarded := satAdd 32 x.discarded 1 }, false)) (s, true)

/-- Sequence generation on a filter: a frame without an R-TAG takes the next number (R251). -/
def State.generation (s : State) (filter : Nat) (f : EthFrame) : State × EthFrame :=
  match s.frerOn 1 filter, f.rtag with
  | k :: _, none =>
    (s.mapFrer k fun x => { x with seq := (x.seq + 1) % 2 ^ 16 }, { f with rtag := some (BitVec.ofNat 16 (s.frerOf k).seq) })
  | _, _ => (s, f)

/-- Entries of the set that a VID and an address select (R220). -/
def State.macSetOf (s : State) (vid addr : Nat) : List MacEntry :=
  s.sw.macs.filter fun m => Config.macSet m.vid m.addr % 2048 == Config.macSet vid addr % 2048

/-- Learn a source address at a port (R220, R258). An entry past its age gives way; others of a full set do not. -/
def State.learnMac (s : State) (p vid : Nat) (a : BitVec 48) : State :=
  if 12 ≤ p ∨ !(s.swOf p).learn ∨ s.sw.frozen ∨ groupAddress a then s
  else
    let e : MacEntry := { vid := vid, addr := a.toNat, fixed := false, endpointOwn := false, target := .port p, seenAt := s.now }
    let put (drop : MacEntry → Bool) : State := s.mapSwitch fun w => { w with macs := e :: w.macs.filter fun m => !drop m }
    match s.sw.macs.find? fun m => m.vid == vid && m.addr == a.toNat with
    | some m => if m.fixed then s else put fun x => x == m
    | none =>
      if (s.macSetOf vid a.toNat).length < 4 then put fun _ => false
      else
        match (s.macSetOf vid a.toNat).find? fun m => !m.fixed && decide (m.seenAt + s.sw.ageS * 1000000000 ≤ s.now) with
        | some m => put fun x => x == m
        | none => s.mapSwitch fun w => { w with learnFailed := satAdd 32 w.learnFailed 1 }

/-- The copies toward a port: one, or one to each endpoint there that lists the VID, the sender's own excepted (R219). -/
def State.toward (s : State) (p vid : Nat) (src : Option Nat) : List (Nat × Option Nat) :=
  if p < 12 then [(p, none)]
  else ((span 0 128).filter fun e =>
    (s.endpointOf e).port == p && (s.endpointOf e).vids.contains vid && some e != src).map fun e => (p, some e)

/-- The forwarding lookup (R219, R221). -/
def State.lookup (s : State) (x : Entering) (vid : Nat) : List (Nat × Option Nat) :=
  let ports (m : Nat) : List (Nat × Option Nat) :=
    (((span 0 15).filter fun p => bitOf m p && bitOf (s.vlanOf vid).member p && p != x.port).map fun p =>
      s.toward p vid x.srcEp).flatten
  if reservedAddress x.frame.dst then
    if x.frame.ethType = 0x88F7#16 then []
    else
      match (span 0 128).find? fun e => (s.endpointOf e).trap && decide ((s.endpointOf e).port ≠ 0) with
      | some e => [((s.endpointOf e).port, some e)]
      | none => []
  else
    match s.sw.macs.find? fun m => m.vid == vid && m.addr == x.frame.dst.toNat with
    | some m =>
      match m.target with
      | .mask k => ports k
      | .port p => if p = x.port then [] else s.toward p vid x.srcEp
      | .endpoint e => if some e = x.srcEp then [] else [((s.endpointOf e).port, some e)]
    | none => ports 0x7FFF

/-- Where an admitted frame's copy of a flow goes (R218): its egress queue; on ports 12 to 14 to the endpoint of the receive
queue on the path, or as R219 says. -/
def State.flowTargets (s : State) (id vid : Nat) (src : Option Nat) : List Target :=
  let d := (s.flowOf id).decl
  match pathOf d.path rEgress with
  | some r =>
    let last := (d.path.filter fun x => x.type == rDma).getLast?
    let own : Option Nat := match last with
      | some q => match (s.queueOf q.inst).attach with | .endpointRx e _ => some e | _ => none
      | none => none
    let places : List (Nat × Option Nat) := match own with | some e => [(r.inst, some e)] | none => s.toward r.inst vid src
    places.map fun t => { egress := t.1, endpoint := t.2, cls := r.qual, flow := some id }
  | none => []

/-- The account that a copy is charged to (R227). -/
def State.accountFor (s : State) (x : Entering) (t : Target) : Nat :=
  match t.flow, t.endpoint, x.srcEp with
  | some id, _, _ => (s.flowOf id).owner
  | none, some e, _ => (s.endpointOf e).partition
  | none, none, some e => (s.endpointOf e).partition
  | none, none, none => 64 + x.port

/-- The copy of a frame for a target. -/
def State.copyFor (s : State) (x : Entering) (vid pcp : Nat) (revoked : List Nat) (recovered : Bool) (group : Option Nat)
    (t : Target) : QFrame :=
  { serial := 0, group := group.getD 0, shared := group.isSome, frame := x.frame, length := frameLength x.frame,
    cells := cellsOf (frameLength x.frame), banks := 0, ingress := x.port, ingressAt := x.at_, stamp := x.stamp, egress := t.egress,
    endpoint := t.endpoint, srcEp := x.srcEp, cls := t.cls, vid := vid, pcp := pcp, admitted := t.flow.isSome,
    flows := (match t.flow with | some id => [id] | none => revoked), account := s.accountFor x t, secured := x.secured,
    recovered := recovered,
    cutThrough := (match t.flow with | some id => (s.flowOf id).decl.cutThrough | none => false),
    moved := 0, started := false, direction := 0 }

/-- The credit of a shaped class now, in 10⁻⁶ bit (R242): it grows at IDLE_SLOPE while frames wait, and rises to no more than 0
while none does. -/
def State.creditNow (s : State) (p q : Nat) : Int :=
  let x := s.swOf p
  let slope := Table.get 0 x.slopes q
  let c := Table.get 0 x.credits q
  let grown := c + (((s.now - Table.get 0 x.creditAt q) * slope : Nat) : Int)
  let high := ((8 * 1522 * slope * 1000000 / max 1 ((portFigures p).mbps * 1000) : Nat) : Int)
  if s.sw.queue.any fun f => f.egress == p && f.cls == q && !f.admitted && !f.started then min high grown
  else if 0 ≤ c then 0 else min 0 grown

/-- Store the credit of a shaped class. -/
def State.setCredit (s : State) (p q : Nat) (c : Int) (at_ : Nat) : State :=
  s.mapSw p fun x => { x with credits := Table.put 0 x.credits q c, creditAt := Table.put 0 x.creditAt q at_ }

/-- Bring the credit of a shaped class up to now. -/
def State.touchCredit (s : State) (p q : Nat) : State :=
  if Table.get 0 (s.swOf p).slopes q = 0 then s else s.setCredit p q (s.creditNow p q) s.now

/-- Charge a copy and queue it, or drop and count it (R230, R258). -/
def State.offer (s : State) (q : QFrame) : State :=
  if s.sw.frozen ∧ !q.admitted then
    s.mapAccount q.account fun a => { a with frozenDrops := satAdd 32 a.frozenDrops 1 }
  else if s.canCharge q.account q.cells (if q.admitted then q.flows.head? else none) then
    (s.touchCredit q.egress q.cls).enqueue q
  else s.countDrop q.account

/-- A copy as it leaves its egress port, tagged as its VLAN says there, before MACsec (R217, R251, cmd 0x0402). -/
def State.egressFrame (s : State) (q : QFrame) : EthFrame :=
  { q.frame with
    tag := if bitOf (s.vlanOf q.vid).untag q.egress then none else some (BitVec.ofNat 3 q.pcp, BitVec.ofNat 12 q.vid),
    rtag := if 12 ≤ q.egress ∨ (s.swOf q.egress).stripRtag then none else q.frame.rtag }

/-- Take a sample of a frame at a port, if its turn has come (R253, R254). -/
def State.sample (s : State) (p direction : Nat) (q : QFrame) : State :=
  let k := 2 * p + direction
  let x : Sampler := Table.get {} s.sw.samplers k
  if !s.has 0 .sampleMirror ∨ x.every = 0 then s
  else if 1 < x.left then
    s.mapSwitch fun w => { w with samplers := Table.put {} w.samplers k { x with left := x.left - 1 } }
  else
    let (gap, s1) := if x.random then ((s.draw).1 % (2 * x.every - 1) + 1, s.draw.2) else (x.every, s)
    let s2 := s1.mapSwitch fun w => { w with samplers := Table.put {} w.samplers k { x with left := gap } }
    let copy : QFrame := { q with frame := if direction = 1 then s.egressFrame q else q.frame, egress := 15, endpoint := none, cells := 1, shared := false, account := 0, admitted := false,
                                  flows := [], moved := 0, started := false, cls := q.cls, direction := direction }
    if s2.sw.sampleQueue ≠ 0 ∧ (s2.queueOf (s2.sw.sampleQueue - 1)).state ≠ .disabled ∧ s2.canCharge 0 1 none then
      s2.enqueue copy
    else s2.mapSwitch fun w => { w with samplesLost := satAdd 32 w.samplesLost 1 }

/-- The flows that a frame is an item of: those of its transmit queue, or those of its filter. -/
def State.itemFlows (s : State) (x : Entering) (filter : Option Nat) : List Nat :=
  if x.queueFlows ≠ [] then x.queueFlows else match filter with | some n => s.flowsFrom rStream n | none => []

/-- Whether a flow's frames are admitted (R218). -/
def State.admittedFlow (s : State) (id : Nat) : Bool := (s.flowOf id).state == .admitted || (s.flowOf id).state == .held

/-- Lookup, class and charging of a frame whose VID and flows are known (R218, R219, R227, R232, R233). -/
def State.forward (s : State) (x : Entering) (vid pcp : Nat) (ids : List Nat) (recovered : Bool) : State :=
  let adm := ids.filter s.admittedFlow
  let cls := if ids = [] then bitsOf (s.swOf x.port).pcpMap (3 * pcp + 2) (3 * pcp) else 0
  let targets : List Target :=
    (if adm = [] then (s.lookup x vid).map fun t => { egress := t.1, endpoint := t.2, cls := cls, flow := none }
     else (adm.map fun id => s.flowTargets id vid x.srcEp).flatten).filter fun t => s.portLive t.egress
  let group := if s.has 0 .refcountMcast ∧ 1 < targets.length then some s.sw.serial else none
  s.each targets fun s1 t => s1.offer (s.copyFor x vid pcp (if adm = [] then ids else []) recovered group t)

/-- A frame from VLAN classification to its queues (R217-R230, R249-R251). -/
def State.cross (s : State) (x : Entering) : State :=
  let vid := s.vidOf x.port x.frame
  let pcp := s.pcpOf x.port x.frame
  if !bitOf (s.vlanOf vid).member x.port then
    s.mapSw x.port fun y => { y with vlanDrops := satAdd 32 y.vlanDrops 1 }
  else
    let s0 := s.learnMac x.port vid x.frame.src
    let filter := s0.matchFilter x vid
    let ids := s0.itemFlows x filter
    match filter with
    | none => s0.forward x vid pcp ids false
    | some n =>
      let (s1, ok) := if x.queueFlows = [] then s0.police n ids (frameLength x.frame) else (s0, true)
      if !ok then s1
      else
        match s1.filterCvu n x.frame with
        | (s2, none) => s2
        | (s2, some data) =>
          let (s3, passes) := s2.recovery n x.frame
          if !passes then s3
          else
            let (s4, f) := s3.generation n { x.frame with payload := data }
            s4.forward { x with frame := f } vid pcp ids (!(s3.frerOn 2 n).isEmpty)

/-- Whether a frame of a port would be cut through (R245, R531). -/
def State.cutsThrough (s : State) (x : Entering) : Bool :=
  match s.matchFilter x (s.vidOf x.port x.frame) with
  | some n => decide (2 ≤ x.port) && ((s.flowsFrom rStream n).any fun id => s.admittedFlow id && (s.flowOf id).decl.cutThrough)
  | none => false

/-- A received frame: FCS, MACsec, sample, length, then the crossing (R215, R245, R247, R253). A bad FCS of a frame that is cut
through may come after its transmission has begun: a free choice. -/
def State.receiveFrame (s : State) (p : Nat) (f : EthFrame) : State :=
  let count (g : EthPort → EthPort) (s1 : State) : State := s1.mapEth p g
  let enter (s1 : State) (g : EthFrame) (secured : Bool) : State :=
    s1.cross { port := p, srcEp := none, queueFlows := [], frame := g, secured := secured, at_ := s.now, stamp := s.now }
  if !f.fcsOk then
    let s1 := count (fun e => { e with fcsErrors := satAdd 32 e.fcsErrors 1 }) s
    let g := plainFrame f
    if s1.cutsThrough { port := p, srcEp := none, queueFlows := [], frame := g, secured := false, at_ := s.now, stamp := s.now } then
      if s1.choose.1 then enter s1.choose.2 g false else s1.choose.2
    else s1
  else
    match (count (fun e => { e with framesOk := satAdd 64 e.framesOk 1 }) s).macsecIn p f with
    | (s1, none) => s1
    | (s1, some (g, secured)) =>
      let x : Entering := { port := p, srcEp := none, queueFlows := [], frame := g, secured := secured, at_ := s.now, stamp := s.now }
      let s2 := s1.sample p 0 (s1.copyFor x (s1.vidOf p g) (s1.pcpOf p g) [] false none
        { egress := 15, endpoint := none, cls := bitsOf (s1.swOf p).pcpMap (3 * s1.pcpOf p g + 2) (3 * s1.pcpOf p g), flow := none })
      let n := frameLength g
      if n < 64 then count (fun e => { e with runts := satAdd 32 e.runts 1 }) s2
      else if 1522 < n then count (fun e => { e with oversize := satAdd 32 e.oversize 1 }) s2
      else enter s2 g secured

/-- FRAME_RECEIVE (R214-R230, R245-R258): a frame arrives at a media port whose link is UP. -/
def execFrameReceive (port : Nat) (frame : EthFrame) (s : State) : Host.Outcome State Fault Refusal :=
  if s.computeOn && decide (port < 12) && (s.ethOf port).link == .up && s.portLive port then .next (s.receiveFrame port frame)
  else .next s

end Sys2Proof.Machine
end

