-- ==== Sys2Proof/Machine/SwitchEvents.lean ====
section
/-! DEFINITION. What the switch core does of itself: gates, verification, ageing, matching, transmission, audits, gPTP
(R220, R234-R256). -/

namespace Sys2Proof.Machine

/-- The rest of a gate list from a position in its cycle on: the entry there cut short, then the others. -/
def gatesFrom : List GateEntry → Nat → List GateEntry
  | [], _ => []
  | e :: rest, pos => if pos < e.interval then { e with interval := e.interval - pos } :: rest else gatesFrom rest (pos - e.interval)

/-- The entries of a list from an instant on, over more than a whole cycle. -/
def GateList.at (l : GateList) (now : Nat) : List GateEntry :=
  gatesFrom l.entries ((now - l.base) % max 1 l.cycle) ++ l.entries

/-- The gate mask of a list at an instant (R239). -/
def GateList.mask (l : GateList) (now : Nat) : Nat :=
  match l.at now with | e :: _ => e.mask | [] => 0xFF

/-- How long a class's gate stays open from the head of a list of entries; `none` where it never closes. -/
def openRun (q : Nat) : List GateEntry → Option Nat
  | [] => none
  | e :: rest => if bitOf e.mask q then (openRun q rest).map fun n => e.interval + n else some 0

/-- Whether a class's gate on a port is open for a time from now (R240). -/
def State.openFor (s : State) (p q ns : Nat) : Bool :=
  let x := s.swOf p
  bitOf x.gateMask q &&
  (match x.gates with
   | some l => (match openRun q (l.at s.now) with | some n => decide (ns ≤ n) | none => true)
   | none => true)

/-- GATE_LIST_ACTIVE (R241). -/
def execGateListActive (port : Nat) (s : State) : Host.Outcome State Fault Refusal :=
  let x := s.swOf port
  match x.nextList with
  | some l =>
    if s.computeOn && decide (port < 15) && decide (x.nextAt ≤ s.now) && !s.furled (unitId 0x0C port) then
      let s1 := s.mapSw port fun x =>
        { x with gates := l, nextList := none, gateMask := match l with | some g => g.mask s.now | none => 0xFF }
      .next (s1.raise { unit := unitId 0x0C port, code := 0x0403, detail := pack [(0, 1, port), (8, 8, x.nextAt)] } [0])
    else .next s
  | none => .next s

/-- GATE_CHANGE (R239). -/
def execGateChange (port : Nat) (s : State) : Host.Outcome State Fault Refusal :=
  match (s.swOf port).gates with
  | some l => if s.computeOn then .next (s.mapSw port fun x => { x with gateMask := l.mask s.now }) else .next s
  | none => .next s

/-- PREEMPT_STATE (R244, R261). -/
def State.preemptState (s : State) (p : Nat) : State :=
  let x := s.swOf p
  s.raise { unit := unitId 0x0C p, code := 0x0404, detail := pack [(0, 1, p), (1, 1, flag x.preActive), (2, 1, min 255 x.verifyFail)] } [0]

/-- Whether a reserved flow relies on pre-emption at a port: its class is express there (R244). -/
def State.expressFlows (s : State) (p : Nat) : Bool :=
  s.reserved.any fun g => g.2.decl.path.any fun r => r.type == rEgress && r.inst == p && bitOf (s.swOf p).express r.qual

/-- PREEMPT_VERIFY_DONE (R243, R244). -/
def execPreemptVerifyDone (port : Nat) (ok : Bool) (s : State) : Host.Outcome State Fault Refusal :=
  if s.computeOn && decide (port < 10) && s.has 0 .framePreemption && (s.swOf port).preempt && (s.ethOf port).link == .up then
    if ok then .next ((s.mapSw port fun x => { x with preActive := true, macHeld := false }).preemptState port)
    else
      let s1 := s.mapSw port fun x => { x with verifyFail := x.verifyFail + 1 }
      if s.expressFlows port ∧ ((s.swOf port).preActive ∨ (s.swOf port).macHeld) then
        .next ((s1.mapSw port fun x => { x with macHeld := true, preActive := false }).unitEvent (unitId 0x0C port) 0x06)
      else .next ((s1.mapSw port fun x => { x with preActive := false }).preemptState port)
  else .next s

/-- FRER_LATENT_ERROR (R251, R261): with two member streams each frame that passes has one duplicate discarded; PRESUMED (log
entry 33). -/
def execFrerLatentError (function : Nat) (s : State) : Host.Outcome State Fault Refusal :=
  let k := 512 + function
  let x := s.frerOf k
  if s.computeOn && decide (function < 512) && x.kind == 2 && decide (x.latentMs ≠ 0) &&
      decide (x.checkedAt + x.latentMs * 1000000 ≤ s.now) then
    let diff := (((x.passed - x.passedThen : Nat) : Int) - ((x.discarded - x.discardThen : Nat) : Int)).natAbs
    let s1 := s.mapFrer k fun x => { x with checkedAt := s.now, passedThen := x.passed, discardThen := x.discarded }
    .next (if x.latentDiff < diff then
      s1.raise { unit := 0x0E00, code := 0x0407, detail := pack [(0, 2, function), (2, 2, min 0xFFFF diff)] } [0] else s1)
  else .next s

/-- MAC_ENTRY_AGE (R220, R258). -/
def execMacEntryAge (vid addr : Nat) (s : State) : Host.Outcome State Fault Refusal :=
  if s.computeOn && !s.sw.frozen then
    .next (s.mapSwitch fun w => { w with macs := w.macs.filter fun m =>
      !(m.vid == vid && m.addr == addr && !m.fixed && decide (m.seenAt + w.ageS * 1000000000 ≤ s.now)) })
  else .next s

/-- Cells of a port's transmit FIFO: matched and not yet in transmission (R234). -/
def State.fifoCells (s : State) (p : Nat) : Nat :=
  ((s.sw.queue.filter fun q => q.egress == p && !q.started).map (·.moved)).foldl (· + ·) 0

/-- The first frame of each ingress port among a list of frames: (ingress, serial). -/
def firstEach : List QFrame → List (Nat × Nat)
  | [] => []
  | q :: rest => (q.ingress, q.serial) :: (firstEach rest).filter fun x => x.1 != q.ingress

/-- The virtual output queues that a port selects from the classes allowed (R236): the admitted ones whose gate is open, highest
class first, then the unadmitted ones with credit. The first part says whether they are admitted and of which class. -/
def State.selection (s : State) (p : Nat) (allowed : Nat → Bool) : Option (Bool × Nat × List (Nat × Nat)) :=
  let waiting := s.sw.queue.filter fun q => q.egress == p && !q.started && q.moved == 0
  let of (admitted : Bool) (c : Nat) : Option (Bool × Nat × List (Nat × Nat)) :=
    match firstEach (waiting.filter fun q => q.admitted == admitted && q.cls == c) with
    | [] => none
    | l => some (admitted, c, l)
  let classes := ((span 0 8).reverse).filter fun c => allowed c && bitOf (s.swOf p).gateMask c
  match classes.findSome? (of true) with
  | some x => some x
  | none => (classes.filter fun c => decide (Table.get 0 (s.swOf p).slopes c = 0) || decide (0 ≤ s.creditNow p c)).findSome? (of false)

/-- What a port takes cells of in this cell time (R235, R236): the frame in progress, which an express frame may interrupt under
pre-emption, or a selected queue. -/
def State.wants (s : State) (p : Nat) : Option (Bool × Nat × List (Nat × Nat)) :=
  let x := s.swOf p
  if 4 ≤ s.fifoCells p then none
  else
    let begun := s.sw.queue.filter fun q => q.egress == p && decide (0 < q.moved) && decide (q.moved < q.cells)
    let keep (q : QFrame) : Option (Bool × Nat × List (Nat × Nat)) := some (q.admitted, q.cls, [(q.ingress, q.serial)])
    match begun.find? fun q => bitOf x.express q.cls, begun with
    | some q, _ => keep q
    | none, q :: _ =>
      if x.preActive then (match s.selection p fun c => bitOf x.express c with | some y => some y | none => keep q) else keep q
    | none, [] => s.selection p fun _ => true

/-- A matching in the making: the pairs made, and the four sets of pointers (R237, R238). -/
structure Matching where
  pairs   : List (Nat × Nat × Nat) := []
  inputs  : Table Nat := []
  grants  : Table Nat := []
  accepts : Table Nat := []

/-- Whether an egress port is matched. -/
def Matching.outDone (m : Matching) (p : Nat) : Bool := m.pairs.any fun x => x.1 == p

/-- Whether an ingress port is matched. -/
def Matching.inDone (m : Matching) (i : Nat) : Bool := m.pairs.any fun x => x.2.1 == i

/-- The ports from a pointer on, in turn. -/
def turn (pointer : Nat) : List Nat := (span pointer 16).map fun k => k % 16

/-- The scheduled phase at one port (R237). -/
def Matching.visit (m : Matching) (p : Nat) (cands : List (Nat × Nat)) : Matching :=
  match (turn (Table.get 0 m.inputs p)).findSome? fun i =>
      if m.inDone i then none else (cands.find? fun c => c.1 == i) with
  | some (i, serial) => { m with pairs := (p, i, serial) :: m.pairs, inputs := Table.put 0 m.inputs p ((i + 1) % 16) }
  | none => m

/-- One request, grant and accept round (R238). -/
def Matching.round (m : Matching) (first : Bool) (wants : List (Nat × List (Nat × Nat))) : Matching :=
  let grants := wants.filterMap fun w =>
    if m.outDone w.1 then none
    else ((turn (Table.get 0 m.grants w.1)).findSome? fun i =>
      if m.inDone i then none else (w.2.find? fun c => c.1 == i)).map fun c => (w.1, c.1, c.2)
  (span 0 16).foldl (fun m1 i =>
    match (turn (Table.get 0 m1.accepts i)).findSome? fun p => grants.find? fun g => g.1 == p && g.2.1 == i with
    | some g =>
      { m1 with
        pairs := g :: m1.pairs
        grants := if first then Table.put 0 m1.grants g.1 ((i + 1) % 16) else m1.grants
        accepts := if first then Table.put 0 m1.accepts i ((g.1 + 1) % 16) else m1.accepts }
    | none => m1) m

/-- The matching of one cell time (R234, R237, R238). -/
def State.matching (s : State) : Matching :=
  let wants := (turn s.sw.portPointer).filterMap fun p => (s.wants p).map fun w => (p, w)
  let gated := wants.filter fun w => w.2.1 && s.gated w.1 w.2.2.1
  let others := (wants.filter fun w => !(w.2.1 && s.gated w.1 w.2.2.1)).map fun w => (w.1, w.2.2.2)
  let m0 : Matching := { inputs := s.sw.inputPointers, grants := s.sw.grantPtrs, accepts := s.sw.acceptPtrs }
  let m1 := gated.foldl (fun m w => m.visit w.1 w.2.2.2) m0
  ((m1.round true others).round false others).round false others

/-- One cell of a frame moves into its transmit FIFO; a frame in transmission whose last cell has moved leaves the buffer, but
waits there for its receive queue on ports 12 to 15. -/
def State.moveCell (s : State) (serial : Nat) : State :=
  match s.sw.queue.find? fun q => q.serial == serial with
  | some q =>
    if q.started ∧ q.egress < 12 ∧ q.cells ≤ q.moved + 1 then s.removeFrame q
    else s.mapSwitch fun w => { w with queue := w.queue.map fun x => if x.serial = serial then { x with moved := x.moved + 1 } else x }
  | none => s

/-- SWITCH_CELL_MATCH (R234-R238). -/
def execSwitchCellMatch (s : State) : Host.Outcome State Fault Refusal :=
  if !s.computeOn || s.stopped (unitId 0x0E 0) then .next s
  else
    let m := s.matching
    let s1 := s.each m.pairs.reverse fun s1 x => s1.moveCell x.2.2
    .next (s1.mapSwitch fun w => { w with portPointer := (w.portPointer + 1) % 16, inputPointers := m.inputs,
                                          grantPtrs := m.grants, acceptPtrs := m.accepts })

/-- A protected frame takes its PN (R248): whether it goes out. -/
def State.macsecOut (s : State) (p : Nat) (f : EthFrame) : State × Bool :=
  let sas := s.enabledSas p 0
  if 2 ≤ p ∨ !s.has 0 .macsec ∨ sas = [] ∨ f.ethType = 0x888E#16 ∨ (f.ethType = 0x88F7#16 ∧ (s.swOf p).unprotGptp) then (s, true)
  else
    match sas.find? fun k => !(s.saOf k).exhausted && (s.saOf k).key != [] with
    | some k =>
      let pn := (s.saOf k).nextPn
      let s1 := s.mapSa k fun a => { a with nextPn := pn + 1, exhausted := decide (2 ^ 32 ≤ pn + 1) }
      (if pn = (s.saOf k).threshold then
        s1.raise { unit := unitId 0x1F (2 * p), code := 0x0405, detail := pack [(0, 1, p), (1, 1, k % 4), (4, 4, pn)] } [0]
       else s1, true)
    | none =>
      let k := nth 0 sas 0
      let s1 := s.mapSa k fun a => { a with lost := satAdd 32 a.lost 1 }
      (if (s.saOf k).lost = 0 then
        s1.raise { unit := unitId 0x1F (2 * p), code := 0x0406, detail := pack [(0, 1, p), (1, 1, k % 4), (4, 4, (s1.saOf k).lost)] } [0]
       else s1, false)

/-- The time a frame takes at its egress port in ns, overhead included (R240). -/
def State.wireTime (s : State) (p length : Nat) : Nat :=
  let bits := 8 * (length + 20 + (if p < 2 && s.has 0 .macsec then 32 else 0))
  ((bits : Rat) / portRate p).ceil.toNat

/-- A frame starts in transmission at an external port: PN, sample, credit, delivery event (R152, R205, R242, R245, R253). -/
def State.startFrame (s : State) (p : Nat) (q : QFrame) : State :=
  let (s1, goes) := s.macsecOut p q.frame
  if !goes then s1.removeFrame q
  else
    let t := s1.wireTime p q.length
    let x := s1.swOf p
    let slope := Table.get 0 x.slopes q.cls
    let s2 :=
      if !q.admitted && decide (slope ≠ 0) then
        let used : Int := ((t * ((portFigures p).mbps * 1000) : Nat) : Int) - ((t * slope : Nat) : Int)
        let low : Int := -((8 * 1522 * ((portFigures p).mbps * 1000 - slope) * 1000000 / max 1 ((portFigures p).mbps * 1000) : Nat) : Int)
        s1.setCredit p q.cls (max low (s1.creditNow p q.cls - used)) (s1.now + t)
      else s1
    let s3 := s2.mapSw p fun x =>
      { x with busyUntil := max s2.now x.busyUntil + t, busyClass := q.cls,
               ctStomped := if q.frame.fcsOk then x.ctStomped else satAdd 32 x.ctStomped 1 }
    let s4 := s3.sample p 1 q
    let s5 := if q.admitted then s4.deliver q.flows q.ingressAt s4.now (portError q.ingress + portError p) (unitId 0x0C p) else s4
    if q.cells ≤ q.moved then s5.removeFrame q
    else s5.mapSwitch fun w => { w with queue := w.queue.map fun y => if y.serial = q.serial then { y with started := true } else y }

/-- The receive queue that a class of an endpoint's frames goes to, as its number plus one (R225). -/
def Endpoint.receiveQueue (e : Endpoint) (cls : Nat) : Nat :=
  let own := Table.get 0 e.rxQueue cls
  if own ≠ 0 then own else Table.get 0 e.rxQueue 0

/-- A frame reaches its endpoint, or is dropped for want of a receive queue (R225). -/
def State.presentTo (s : State) (p : Nat) (q : QFrame) : State :=
  match q.endpoint with
  | some e =>
    if (s.endpointOf e).receiveQueue q.cls = 0 then
      (s.removeFrame q).mapEndpoint e fun x => { x with noQueue := satAdd 32 x.noQueue 1 }
    else
      (s.sample p 1 q).mapSwitch fun w => { w with queue := w.queue.map fun y => if y.serial = q.serial then { y with started := true } else y }
  | none => s.removeFrame q

/-- FRAME_TRANSMIT (R240, R244, R271): the frame that a port has begun to match starts, unless its gate closes too early. At a port
whose link is not UP, or that is disabled, the frame at the head is discarded. -/
def execFrameTransmit (port : Nat) (s : State) : Host.Outcome State Fault Refusal :=
  let x := s.swOf port
  let own := s.sw.queue.filter fun q => q.egress == port && !q.started
  if !s.computeOn || decide (15 ≤ port) || s.stopped (unitId 0x0C port) then .next s
  else if port < 12 ∧ ((s.ethOf port).link ≠ .up ∨ !x.enable) then
    match own with
    | q :: _ => .next ((s.removeFrame q).mapEth port fun e => { e with downDrops := satAdd 32 e.downDrops 1 })
    | [] => .next s
  else
    let ready := own.filter fun q => decide (0 < q.moved)
    let head := match ready.find? fun q => bitOf x.express q.cls && x.preActive with | some q => some q | none => ready.head?
    match head with
    | none => .next s
    | some q =>
      let interrupts := x.preActive && bitOf x.express q.cls && !bitOf x.express x.busyClass
      let macsec := decide (port < 2) && s.has 0 .macsec && s.stopped (unitId 0x1F (2 * port))
      if x.macHeld || macsec || (decide (s.now < x.busyUntil) && !interrupts) || !s.openFor port q.cls (s.wireTime port q.length) then
        .next s
      else .next (if port < 12 then s.startFrame port q else s.presentTo port q)

/-- The cells of frames in the buffer, matched ones or the others; a stored frame with several pointers counts once (R255). -/
def State.bufferCells (s : State) (matched : Bool) : Nat :=
  (s.sw.queue.zipIdx.map fun x =>
    let q := x.1
    let again := q.shared && (s.sw.queue.take x.2).any fun y => y.shared && y.group == q.group
    if again then 0 else if matched then min q.moved q.cells else q.cells - q.moved).foldl (· + ·) 0

/-- SWITCH_AUDIT (R255): `found` is the sum that the audit counts. The cells that it misses are not on the free list. -/
def execSwitchAudit (found : Nat) (s : State) : Host.Outcome State Fault Refusal :=
  let w := s.sw
  if s.computeOn && w.auditEnable && !w.sweeping && decide (w.auditAt + w.auditPeriod * 1000 ≤ s.now) then
    let rest := s.bufferCells true + s.bufferCells false + w.withdrawn
    .next (s.mapSwitch fun w =>
      { w with auditAt := s.now, mismatch := decide (found ≠ 16384), sweeping := decide (found ≠ 16384), free := found - rest })
  else .next s

/-- SWITCH_MARK_SWEEP (R256): what two consecutive sweeps agree on is corrected, each correction one event of the scheduler. -/
def execSwitchMarkSweep (cells : List Nat) (counts : Nat) (s : State) : Host.Outcome State Fault Refusal :=
  if s.computeOn && s.sw.sweeping then
    let find : SweepFind := { cells := cells, counts := counts }
    match s.sw.lastFind with
    | some last =>
      let both := cells.filter fun c => last.cells.contains c
      let n := min counts last.counts
      if both = [] ∧ n = 0 then .next (s.mapSwitch fun w => { w with sweeping := false, lastFind := some find })
      else
        let s1 := s.mapSwitch fun w =>
          { w with sweeping := false, lastFind := none, free := w.free + both.length, reclaimed := satAdd 16 w.reclaimed both.length }
        let s2 := s1.raise { unit := 0x0E00, code := 0x0401,
                             detail := pack [(0, 2, both.length), (2, 2, nth 0 both 0), (4, 2, n)] } [0]
        .next (s2.each (List.replicate (both.length + n) ()) fun s3 _ => s3.unitEvent 0x0E00 0x06)
    | none => .next (s.mapSwitch fun w => { w with sweeping := false, lastFind := some find })
  else .next s

/-- SWITCH_AUDIT_STATUS_READ (R264). -/
def execSwitchAuditStatusRead (partition : Nat) (s : State) : Host.Outcome State Fault Refusal :=
  if s.windowOn partition && decide (partition = 0) then .next (s.mapSwitch fun w => { w with reclaimed := 0 }) else .next s

/-- GPTP_MESSAGE (R252, R258): Masthead exchanges a message over port 14. A Sync at the slave port of the rate source's domain
holds off its loss; what Masthead sends on changes nothing here. -/
def execGptpMessage (port : Nat) (sync : Bool) (frame : EthFrame) (s : State) : Host.Outcome State Fault Refusal :=
  let slave := decide (s.time.source = 1 ∨ s.time.source = 2) &&
    decide ((Table.get {} s.sw.gptp ((s.time.source - 1) * 16 + port)).role = 2)
  if s.computeOn && !s.absent && !s.sw.frozen && decide (port < 12) && (s.ethOf port).link == .up && s.portLive port &&
      frame.fcsOk && frame.ethType == 0x88F7#16 then
    let s1 := s.mapEth port fun e => { e with framesOk := satAdd 64 e.framesOk 1 }
    .next (if sync && slave then s1.mapTime fun t => { t with lastSync := s.now } else s1)
  else .next s

end Sys2Proof.Machine
end

