-- ==== Sys2Proof/Machine/Dma.lean ====
section
/-! DEFINITION. DMA queues: descriptors, segments, faults, the devices that queues are attached to, and the queue commands
(R124-R132). -/

namespace Sys2Proof.Machine

/-- The owner of a queue (R107). -/
def State.queueOwner (s : State) (q : Nat) : Nat := s.owner kindQueue q

/-- Whether the device of a queue supplies the source of its transfers (R124). -/
def State.deviceSource (s : State) (q : Nat) : Bool :=
  match (s.queueOf q).attach with
  | .endpointRx _ _ => true
  | .canObject o => (s.objOf o).direction == 1
  | .sense _ => true
  | .load _ => true
  | .sample => true
  | .uart i => (s.portOf i).rxQueue == q + 1
  | _ => false

/-- Whether the device of a queue supplies the destination of its transfers (R124). -/
def State.deviceDest (s : State) (q : Nat) : Bool :=
  match (s.queueOf q).attach with
  | .endpointTx _ _ => true
  | .canObject o => (s.objOf o).direction != 1
  | .uart i => (s.portOf i).rxQueue != q + 1
  | _ => false

/-- The CAUSE byte of a fault (R123). -/
def XFault.code (f : XFault) : Nat := flag f.manager * 128 + flag f.write * 64 + f.cause

/-- A queue stops on a translation fault (R122, R130). -/
def State.parkFault (s : State) (q : Nat) (f : XFault) (requester offset : Nat) : State :=
  (s.mapQueue q fun d =>
    { d with state := .parkedFault, cause := f.code, faultAddr := f.address, offset := offset }).raiseFault
    f (s.queueOwner q) q requester offset

/-- A queue goes on to its next descriptor (R130, R133). -/
def State.nextDescriptor (s : State) (q : Nat) : State :=
  let quiet := s.quiescing (s.queueOwner q)
  s.mapQueue q fun d =>
    let head := (d.head + 1) % 2 ^ d.sizeLog2
    { d with head := head, offset := 0, cause := 0, faultAddr := 0, desc := none, conforms := false, conformAt := 0, delayed := false,
             postedAt := d.postedAt.drop 1, collected := [], cplStatus := none,
             state := if head = d.tail then .idle else if quiet then .parkedQuiesce else .waiting }

/-- Count a descriptor that a drain-mode quiesce has let finish (R133, R145). -/
def State.countDrained (s : State) (q : Nat) : State :=
  let p := s.queueOwner q
  if (s.io.part p).state = .quiescing ∧ (s.io.part p).drain then
    { s with io := { s.io with parts := Table.modify {} s.io.parts p fun x => { x with drained := x.drained + 1 } } }
  else s

/-- The descriptor in the 32 bytes read at its place (R125). -/
def descriptorOf (w : Nat) : Descriptor :=
  { source := byteField w 0 8, dest := byteField w 8 8, length := byteField w 16 4, flags := byteField w 20 2,
    reserved := byteField w 22 2 }

/-- The lengths that a queue's device takes (R224, R315, R381, R431). -/
def State.lengthOk (s : State) (q n : Nat) : Bool :=
  within n 1 16777216 &&
  (match (s.queueOf q).attach with
   | .endpointTx _ _ => within n 14 1518
   | .canObject o => (s.objOf o).direction == 1 || decide (16 ≤ n)
   | .sense _ => decide (n = 16)
   | .load _ => decide (n = 16)
   | _ => true)

/-- Whether a descriptor is in order for its queue (R125, R126, R621). -/
def State.descriptorOk (s : State) (q : Nat) (d : Descriptor) : Bool :=
  s.lengthOk q d.length && decide (d.flags < 2) && decide (d.reserved = 0) &&
  (s.deviceSource q || decide (d.source < 2 ^ 48)) && (s.deviceDest q || decide (d.dest < 2 ^ 48))

/-- What a descriptor costs in its flow's bucket: its length, the frame it holds, or its payload (R175, R215, R315). -/
def State.itemBytes (s : State) (q : Nat) (d : Descriptor) : Nat :=
  match (s.queueOf q).attach with
  | .endpointTx _ _ => max 64 (d.length + 4)
  | .canObject _ => d.length - 16
  | _ => d.length

/-- The oldest frame that waits for a receive queue (R225). -/
def State.frameFor (s : State) (q : Nat) : Option QFrame :=
  match (s.queueOf q).attach with
  | .endpointRx e _ =>
    s.sw.queue.find? fun x =>
      x.endpoint == some e && x.started && decide (x.cells ≤ x.moved) && (s.endpointOf e).receiveQueue x.cls == q + 1
  | .sample => s.sw.queue.find? fun x => x.egress == 15 && decide (x.cells ≤ x.moved)
  | _ => none

/-- The receive record of a frame for a partition, with the bytes that follow it counted (R225). -/
def State.receiveRecord (s : State) (x : QFrame) (p bytes : Nat) : Nat :=
  let id := match x.flows.find? fun id => decide ((s.flowOf id).owner = p) with | some id => id | none => 0xFFFF
  pack [(0, 8, x.stamp), (8, 2, bytes), (10, 1, x.ingress), (11, 1, x.cls), (12, 2, x.pcp * 2 ^ 13 + x.vid), (14, 2, id),
    (16, 1, x.srcEp.getD 0xFF), (17, 1, flag x.secured + 2 * flag x.recovered + 4 * flag x.admitted)]

/-- What a frame writes at DEST: its receive record and itself, or a sample (R225, R254). -/
def State.frameRecord (s : State) (q : Nat) (x : QFrame) : List Byte :=
  if x.egress = 15 then
    let whole := frameBytes x.frame
    let part := whole.take 128
    toBytes 32 (s.receiveRecord x 0 part.length + pack [(18, 1, x.direction), (20, 2, whole.length)]) ++ part ++
      List.replicate (128 - part.length) 0
  else
    let whole := frameBytes (s.egressFrame x)
    toBytes 32 (s.receiveRecord x (s.queueOwner q) whole.length) ++ whole

/-- What a received CAN frame writes at DEST (R315). -/
def canRecord (o : Nat) (b : CanRxBuf) : List Byte :=
  toBytes 32 (pack [(0, 4, canIdWord b.frame), (4, 4, canInfo b.frame), (8, 4, b.frame.vcid.toNat * 2 ^ 24),
    (12, 4, b.frame.af.toNat), (16, 8, b.time), (24, 2, o), (26, 1, flag b.checkFail)]) ++ b.frame.payload

/-- The inputs that deliver their samples to a queue, the longest-waiting record first (R430). -/
def State.senseRecord (s : State) (q : Nat) : Option (Nat × Nat) :=
  let l := (span 0 32).filterMap fun i =>
    if (s.senseOf i).queue = some q then (s.senseOf i).waiting.head?.map fun w => (i, w) else none
  match l with
  | [] => none
  | a :: rest => some (rest.foldl (fun best x => if byteField x.2 0 8 < byteField best.2 0 8 then x else best) a)

/-- What the device of a queue has for its next descriptor (R225, R254, R315, R333, R381, R431). -/
def State.deviceRecord (s : State) (q : Nat) : Option (List Byte) :=
  match (s.queueOf q).attach with
  | .canObject o => (s.objOf o).visible.map (canRecord o)
  | .sense _ => (s.senseRecord q).map fun x => toBytes 16 x.2
  | .load n => (match (s.loadOf n).measure with | some m => m.waiting.head? | none => none).map (toBytes 16)
  | _ => (s.frameFor q).map (s.frameRecord q)

/-- The record that a queue's device has given leaves the device (R226, R306, R307). -/
def State.consumeRecord (s : State) (q : Nat) : State :=
  match (s.queueOf q).attach with
  | .canObject o => s.mapObj o fun x => { x with visible := x.shadow, shadow := none }
  | .sense _ =>
    match s.senseRecord q with
    | some (i, _) => s.mapSense i fun x => { x with waiting := x.waiting.drop 1 }
    | none => s
  | .load n => s.mapLoad n fun c => { c with measure := c.measure.map fun m => { m with waiting := m.waiting.drop 1 } }
  | _ =>
    match s.frameFor q with
    | some x => s.removeFrame x
    | none => s

/-- A record that the descriptor cannot take is dropped and counted; the descriptor waits for the next (R225, R254, R315). -/
def State.recordTooLong (s : State) (q : Nat) : State :=
  let s1 := s.consumeRecord q
  match (s.queueOf q).attach with
  | .endpointRx e _ => s1.mapEndpoint e fun x => { x with rxTooLong := satAdd 32 x.rxTooLong 1 }
  | .canObject o => s1.tooLong (o / 128)
  | .sample => s1.mapSwitch fun w => { w with samplesLost := satAdd 32 w.samplesLost 1 }
  | _ => s1

/-- The flows whose item a device's record is, with its ingress and stamping error (R152, R205). -/
def State.recordFlows (s : State) (q : Nat) (record : List Byte) : List Nat × Nat × Nat :=
  let time := ofBytes (record.take 8)
  match (s.queueOf q).attach with
  | .canObject o => (s.receiveFlows o, ofBytes ((record.drop 16).take 8), 25)
  | .sense _ => (s.flowsFrom rSense (ofBytes ((record.drop 12).take 1)), time, 4)
  | .load n => (s.flowsFrom rCurrent n, time, 150)
  | .endpointRx _ _ =>
    match s.frameFor q with
    | some x => (if x.admitted then x.flows else [], x.ingressAt, portError x.ingress)
    | none => ([], 0, 0)
  | _ => ([], 0, 0)

/-- When the item of a queue's descriptor began: its post, or the instant it conformed (R152, R177). -/
def DmaQueue.ingress (d : DmaQueue) : Nat := max d.conformAt (nth 0 d.postedAt 0)

/-- A frame from a transmit queue is presented to its port, or dropped as spoofed (R217, R224). -/
def State.sendFrame (s : State) (q e cls : Nat) (bytes : List Byte) : State :=
  let x := s.endpointOf e
  let f := parseFrame (bytes ++ List.replicate (60 - bytes.length) 0)
  let pcp := (List.range 8).find? fun k => decide (bitsOf (s.swOf x.port).pcpMap (3 * k + 2) (3 * k) = cls)
  let named : EthFrame :=
    match f.tag with
    | some (k, vid) => if vid = 0#12 then { f with tag := some (k, BitVec.ofNat 12 (nth 0 x.vids 0)) } else f
    | none => { f with tag := some (BitVec.ofNat 3 (pcp.getD cls), BitVec.ofNat 12 (nth 0 x.vids 0)) }
  if f.src.toNat ≠ x.addr ∨ !x.vids.contains (s.vidOf x.port named) then
    s.mapEndpoint e fun y => { y with spoofDrops := satAdd 32 y.spoofDrops 1 }
  else
    let ids := s.flowsFrom rDma q
    let entering : Entering :=
      { port := x.port, srcEp := some e, queueFlows := ids, frame := named, secured := false, at_ := (s.queueOf q).ingress,
        stamp := s.now }
    (s.sample x.port 0 (s.copyFor entering (s.vidOf x.port named) (s.pcpOf x.port named) [] false none
      { egress := 15, endpoint := none, cls := cls, flow := none })).cross entering

/-- Write a descriptor's CPL (R126); a fault parks the queue with OFFSET at LENGTH (R130). -/
def State.writeCpl (s : State) (q : Nat) (st : Nat) : State × Bool :=
  let d := s.queueOf q
  match s.write (s.queueOwner q) (d.base + 32 * d.head + 28) 4 (2 ^ 31 + st) with
  | (s1, some f) =>
    ((s1.mapQueue q fun d => { d with cplStatus := some st }).parkFault q f 0x02
      (match d.desc with | some x => x.length | none => 0), false)
  | (s1, none) => (s1, true)

/-- What follows a CPL that is visible: the vector, the measure of the items delivered, the release of a CAN frame (R125, R152,
R178, R315). -/
def State.afterCpl (s : State) (q : Nat) (st : Nat) : State :=
  let d := s.queueOf q
  let int := match d.desc with | some x => bitOf x.flags 0 | none => false
  let s1 := if int then s.vector (s.queueOwner q) d.vector else s
  let unit := unitId 0x0B d.engine
  if st ≠ Status.done.code then s1
  else if s1.deviceSource q then
    let (ids, ingress, err) := s1.recordFlows q d.collected
    let s2 := s1.deliver ids ingress s1.now (err + 10) unit
    if s1.deviceRecord q = some d.collected then s2.consumeRecord q else s2
  else
    match d.attach with
    | .canObject o => s1.release o (ofBytes ((d.collected.drop 4).take 4)) (headerFrame d.collected) true 10
    | .none => s1.deliver ((s1.flowsFrom rDma q).filter fun id => (s1.flowOf id).decl.type == 0x08) d.ingress s1.now 20 unit
    | _ => s1

/-- A descriptor ends with a status: its CPL, what follows it, and the next descriptor (R126, R130). -/
def State.completeDescriptor (s : State) (q : Nat) (st : Nat) : State :=
  match s.writeCpl q st with
  | (s1, false) => s1
  | (s1, true) => ((s1.afterCpl q st).countDrained q).nextDescriptor q

/-- Read the descriptor at HEAD if it has not been read, and judge it (R125, R126, R130): whether it can go on. -/
def State.fetchDescriptor (s : State) (q : Nat) : State × Bool :=
  let d := s.queueOf q
  if d.desc.isSome then (s, true)
  else
    match s.read (s.queueOwner q) (d.base + 32 * d.head) 32 with
    | (s1, .error f) => (s1.parkFault q f 0x02 0, false)
    | (s1, .ok w) =>
      let x := descriptorOf w
      let s2 := s1.mapQueue q fun d => { d with desc := some x }
      if s2.descriptorOk q x then (s2, true) else (s2.completeDescriptor q Status.badParam.code, false)

/-- The bucket of the flows whose source is the queue (R175, R176): whether the descriptor may go on. -/
def State.passBucket (s : State) (q : Nat) (x : Descriptor) : State × Bool :=
  let d := s.queueOf q
  let ids := s.flowsFrom rDma q
  let n := s.itemBytes q x
  if d.conforms ∨ ids = [] then (s, true)
  else if s.conforms ids n then
    ((s.takeTokens ids n).mapQueue q fun d => { d with conforms := true, conformAt := if d.delayed then s.now else 0 }, true)
  else
    let s1 := if d.delayed then s else s.countDelayed ids
    (s1.mapQueue q fun d => { d with delayed := true, state := .waiting }, false)

/-- A UART's held bytes go into the descriptor that has become free (R333). -/
def State.fillUart (s : State) (q i : Nat) (x : Descriptor) : State :=
  let room := x.length - (s.queueOf q).collected.length
  let held := (s.portOf i).held
  (s.mapQueue q fun d => { d with collected := d.collected ++ held.take room }).mapPort i fun y => { y with held := y.held.drop room }

/-- Take the device's record for a descriptor, or find that the descriptor has to wait (R225, R254, R308, R315, R333). -/
def State.deviceReady (s : State) (q : Nat) (x : Descriptor) : State × Bool :=
  let d := s.queueOf q
  let wait (s1 : State) : State × Bool := (s1.mapQueue q fun d => { d with state := .waiting }, false)
  if s.deviceSource q then
    match d.attach with
    | .uart i =>
      let s1 := s.fillUart q i x
      if (s1.queueOf q).collected.length = x.length then (s1, true) else wait s1
    | _ =>
      if d.collected ≠ [] then (s, true)
      else
        match s.deviceRecord q with
        | none => wait s
        | some l =>
          if x.length < l.length then wait (s.recordTooLong q)
          else (s.mapQueue q fun d => { d with collected := l }, true)
  else
    match d.attach with
    | .canObject o => if (s.objOf o).direction = 2 ∧ !(s.objOf o).pending then (s, true) else wait s
    | .endpointTx e _ => if s.portLive (s.endpointOf e).port then (s, true) else wait s
    | .uart i => if (s.portOf i).enable ∧ !s.furled (unitId 0x12 i) then (s, true) else wait s
    | _ => (s, true)

/-- How many bytes a descriptor moves: its LENGTH, or what its device supplies. -/
def State.transferLength (s : State) (q : Nat) (x : Descriptor) : Nat :=
  if s.deviceSource q then (s.queueOf q).collected.length else x.length

/-- One 256-byte segment (R127, R130): its source is read and every page of its destination translated before a byte is
written. -/
def State.moveSegment (s : State) (q engine : Nat) (x : Descriptor) : State :=
  let d := s.queueOf q
  let p := s.queueOwner q
  let total := s.transferLength q x
  let n := min 256 (total - d.offset)
  let (s1, data) : State × Except XFault Nat :=
    if s.deviceSource q then (s, .ok (ofBytes ((d.collected.drop d.offset).take n))) else s.read p (x.source + d.offset) n
  match data with
  | .error f => s1.parkFault q f 0x01 d.offset
  | .ok w =>
    let (s2, bad) : State × Option XFault :=
      if s.deviceDest q then (s1.mapQueue q fun d => { d with collected := d.collected ++ toBytes n w }, none)
      else s1.write p (x.dest + d.offset) n w
    match bad with
    | some f => s2.parkFault q f 0x01 d.offset
    | none =>
      let s3 := s2.mapQueue q fun d => { d with offset := d.offset + n, state := .running, engine := engine }
      if total ≤ d.offset + n then
        let s4 := match d.attach with
          | .endpointTx e cls => s3.sendFrame q e cls (s3.queueOf q).collected
          | _ => s3
        s4.completeDescriptor q Status.done.code
      else s3

/-- The engines in service. -/
def State.liveEngines (s : State) : List Nat := (span 0 16).filter fun e => !s.furled (unitId 0x0B e)

/-- A queue's rank with the engines: admitted flows by priority, then the others (R128, R153, R185). -/
def State.queueRank (s : State) (q : Nat) : Nat :=
  ((s.flowsFrom rDma q).map fun id => if s.admittedFlow id then 1 + (s.flowOf id).decl.priority else 0).foldl max 0

/-- Whether a queue has work and is not parked (R129). -/
def DmaQueue.runnable (d : DmaQueue) : Bool := d.state == .running || d.state == .waiting

/-- Whether the engines serve a queue now: it is on one, or fewer queues than engines outrank it (R128). -/
def State.served? (s : State) (q : Nat) : Bool :=
  (s.queueOf q).state == .running ||
  decide ((s.dma.filter fun x => x.2.state == .running && decide (s.queueRank q < s.queueRank x.1)).length < s.liveEngines.length)

/-- An engine takes a queue, which leaves another queue that was on that engine waiting (R128). -/
def State.takeEngine (s : State) (q : Nat) : Nat × State :=
  if (s.queueOf q).state = .running then ((s.queueOf q).engine, s)
  else
    let (k, s1) := s.draw
    let engines := s.liveEngines
    let e := nth 0 engines (k % max 1 engines.length)
    let on := s1.dma.filter fun x => x.2.state == .running && x.2.engine == e
    (e, s1.each on fun s2 x => s2.mapQueue x.1 fun d => { d with state := .waiting })

/-- An engine serves a queue (R126-R130): the CPL that is owed, the descriptor, its bucket, its device, then one segment. With no
engine in service every item ends with UNIT_FURLED (R53). -/
def State.serveQueue (s : State) (q : Nat) : State :=
  match (s.queueOf q).cplStatus with
  | some st => s.completeDescriptor q st
  | none =>
    if s.liveEngines = [] then s.completeDescriptor q Status.unitFurled.code
    else
      match s.fetchDescriptor q with
      | (s1, false) => s1
      | (s1, true) =>
        match (s1.queueOf q).desc with
        | none => s1
        | some x =>
          match s1.passBucket q x with
          | (s2, false) => s2
          | (s2, true) =>
            match s2.deviceReady q x with
            | (s3, false) => s3
            | (s3, true) =>
              let (e, s4) := s3.takeEngine q
              s4.moveSegment q e ((s4.queueOf q).desc.getD x)

/-- DMA_SEGMENT_MOVE (R127, R128). -/
def execDmaSegmentMove (queue : Nat) (s : State) : Host.Outcome State Fault Refusal :=
  let d := s.queueOf queue
  if s.computeOn && decide (queue < 1024) && d.runnable && decide (d.head ≠ d.tail) && s.served? queue then
    .next (s.serveQueue queue)
  else .next s

/-- DMA_QUEUE_CONFIG (cmd 0x020B): a queue that is enabled afresh is IDLE with HEAD and TAIL at 0; what it is attached to stays. -/
def cmdDmaQueueConfig : Command where
  opcode := 0x020B
  paramLen := 16
  used := [(0, 0, 40), (8, 0, 64)]
  iovas := [8]
  owns r s := decide (1024 ≤ r.field 0 2) || decide (s.queueOwner (r.field 0 2) = r.issuer)
  range r := decide (r.field 0 2 < 1024) && decide (r.byte 4 ≤ 1) && decide (r.byte 3 < 32) && aligned (r.field 8 8) 4096 &&
    (decide (r.byte 4 = 0) || within (r.byte 2) 4 12)
  checks r s := [((s.queueOf (r.field 0 2)).runnable, .queueState)]
  run r s :=
    .done 0 (s.mapQueue (r.field 0 2) fun d =>
      if r.byte 4 = 0 then { attach := d.attach }
      else { attach := d.attach, state := .idle, base := r.field 8 8, sizeLog2 := r.byte 2, vector := r.byte 3 })

/-- DMA_QUEUE_CONFIG. -/
def execDmaQueueConfig (r : Request) (s : State) : Host.Outcome State Fault Refusal := cmdDmaQueueConfig.step r s

/-- Descriptors between two indices of a queue, going up (R124). -/
def DmaQueue.ahead (d : DmaQueue) (a b : Nat) : Nat := (b + 2 ^ d.sizeLog2 - a) % 2 ^ d.sizeLog2

/-- DMA_QUEUE_POST (cmd 0x020C, R132). -/
def cmdDmaQueuePost : Command where
  opcode := 0x020C
  fast := true
  paramLen := 4
  used := [(0, 0, 32)]
  owns r s := decide (1024 ≤ r.field 0 2) || decide (s.queueOwner (r.field 0 2) = r.issuer)
  range r := decide (r.field 0 2 < 1024)
  checks r s :=
    let d := s.queueOf (r.field 0 2)
    [(d.state == .disabled, .queueState),
     (decide (2 ^ d.sizeLog2 ≤ r.field 2 2) || decide (d.ahead d.head (r.field 2 2) < d.ahead d.head d.tail), .badParam)]
  run r s :=
    let q := r.field 0 2
    let quiet := s.quiescing (s.queueOwner q)
    .done 0 (s.mapQueue q fun d =>
      let more := d.ahead d.tail (r.field 2 2)
      { d with tail := r.field 2 2, postedAt := d.postedAt ++ List.replicate more s.now,
               state := if d.state == .idle && decide (0 < more) then (if quiet then .parkedQuiesce else .waiting) else d.state })

/-- DMA_QUEUE_POST. -/
def execDmaQueuePost (r : Request) (s : State) : Host.Outcome State Fault Refusal := cmdDmaQueuePost.step r s

/-- Whether a queue is parked on a fault of the manager stage. -/
def DmaQueue.managerFault (d : DmaQueue) : Bool := d.state == .parkedFault && bitOf d.cause 7

/-- DMA_QUEUE_RESUME (cmd 0x020D, R130-R132). -/
def cmdDmaQueueResume : Command where
  opcode := 0x020D
  fast := true
  paramLen := 4
  used := [(0, 0, 24)]
  owns r s := decide (1024 ≤ r.field 0 2) ||
    (if (s.queueOf (r.field 0 2)).managerFault then decide (r.issuer = 0) else decide (s.queueOwner (r.field 0 2) = r.issuer))
  range r := decide (r.field 0 2 < 1024) && decide (r.byte 2 ≤ 1)
  checks r s := [((s.queueOf (r.field 0 2)).state != .parkedFault, .queueState)]
  run r s :=
    let q := r.field 0 2
    let quiet := s.quiescing (s.queueOwner q)
    .done 0 (
      if r.byte 2 = 0 then
        s.mapQueue q fun d => { d with state := if quiet then .parkedQuiesce else .waiting, cause := 0, faultAddr := 0 }
      else if (s.queueOf q).cplStatus.isSome then s.nextDescriptor q
      else s.completeDescriptor q Status.descriptorSkipped.code)

/-- DMA_QUEUE_RESUME. -/
def execDmaQueueResume (r : Request) (s : State) : Host.Outcome State Fault Refusal := cmdDmaQueueResume.step r s

/-- DMA_QUEUE_QUERY (cmd 0x020E). -/
def cmdDmaQueueQuery : Command where
  opcode := 0x020E
  fast := true
  paramLen := 4
  used := [(0, 0, 16)]
  owns r s := decide (1024 ≤ r.field 0 2) || decide (r.issuer = 0) || decide (s.queueOwner (r.field 0 2) = r.issuer)
  range r := decide (r.field 0 2 < 1024)
  run r s :=
    let d := s.queueOf (r.field 0 2)
    let fault := d.state == .parkedFault
    .done (pack [(0, 1, d.state.code), (1, 1, if fault then d.cause else 0), (2, 2, d.head), (4, 2, d.tail), (8, 4, d.offset),
      (16, 8, if fault && !(d.managerFault && decide (r.issuer ≠ 0)) then d.faultAddr else 0)]) s

/-- DMA_QUEUE_QUERY. -/
def execDmaQueueQuery (r : Request) (s : State) : Host.Outcome State Fault Refusal := cmdDmaQueueQuery.step r s

end Sys2Proof.Machine
end

