-- ==== Sys2Proof/Machine/Sense.lean ====
section
/-! DEFINITION. The meanings of the sense and sensor-supply commands and events (13); delivery of records goes through DMA
queues. -/

namespace Sys2Proof.Machine

/-- The wetting load of an input in 0.1 mA (R425). -/
def SenseInput.load (x : SenseInput) : Rat :=
  if x.mode = 0 then 0 else if x.pulsed then mkRat x.wetMa (max 1 x.pollMs) else (10 * x.wetMa : Nat)

/-- The total wetting load in 0.1 mA; a furled input wets nothing (R425, R439). -/
def State.wetting (s : State) : Rat :=
  ((span 0 32).map fun i => if s.furled (unitId 0x17 i) then 0 else (s.senseOf i).load).foldl (· + ·) 0

/-- The settings of a SENSE_INPUT_CONFIG; a schedule and the switch state's history do not outlive mode OFF. -/
def senseSettings (r : Request) (x : SenseInput) : SenseInput :=
  { x with mode := r.byte 1, pulsed := r.bit 2 0, intChange := r.bit 2 1, ratio := r.bit 2 2, vector := r.byte 3,
           wetMa := r.byte 4, range := r.byte 5, threshold := r.field 6 2, hyst := r.byte 8, debounce := r.byte 9,
           pollMs := r.byte 10, supply := r.byte 11, runSince := none, lastPulse := none,
           closed := (decide (r.byte 1 = 1) && !x.high) || (decide (r.byte 1 = 2) && x.high) }

/-- Whether a reserved SENSE_SAMPLING flow uses an input. -/
def State.senseReserved (s : State) (i : Nat) : Bool :=
  s.reserved.any fun g => g.2.decl.path.any fun x => x.type == rSense && x.inst == i

/-- SENSE_INPUT_CONFIG (cmd 0x0801, R424-R429, R440). -/
def cmdSenseInputConfig : Command where
  opcode := 0x0801
  paramLen := 16
  used := [(0, 0, 16), (2, 0, 3), (3, 0, 72)]
  owns r s := decide (s.owner kindSense (r.byte 0) = r.issuer)
  range r :=
    let m := r.byte 1
    decide (r.byte 0 < 32) && decide (m ≤ 3) && decide (r.byte 3 < 32) && decide (r.byte 4 ≤ 15) &&
    (!(m == 1 || m == 2) || decide (1 ≤ r.byte 4)) && decide (r.byte 5 ≤ 2) && decide (r.byte 8 ≤ 200) &&
    (!r.bit 2 0 || decide (1 ≤ r.byte 10)) && (decide (r.byte 11 < 4) || decide (r.byte 11 = 0xFF)) &&
    !(r.bit 2 2 && decide (r.byte 11 = 0xFF)) && (!(m == 1 || m == 2) || within (r.field 6 2) 50 6400)
  furled r s := s.furled (unitId 0x17 (r.byte 0))
  checks r s :=
    let i := r.byte 0
    let old := s.senseOf i
    let low := !s.supply.profile48
    [(low && (decide (r.byte 5 = 2) || (decide (r.byte 1 = 1 ∨ r.byte 1 = 2) && decide (4000 < r.field 6 2))), .badParam),
     (decide (1600 < (s.mapSense i (senseSettings r)).wetting), .wettingBudget),
     (decide (old.mode ≠ r.byte 1 ∨ old.range ≠ r.byte 5) && s.senseReserved i, .senseFlowsAdmitted)]
  run r s :=
    let s1 := if r.byte 1 = 0 then s.stopSampling (r.byte 0) else s
    let s2 := s1.mapSense (r.byte 0) (senseSettings r)
    .done s2.wetting.ceil.toNat s2

/-- SENSE_INPUT_CONFIG. -/
def execSenseInputConfig (r : Request) (s : State) : Host.Outcome State Fault Refusal := cmdSenseInputConfig.step r s

/-- The inputs that a partition owns. -/
def State.ownInputs (s : State) (p : Nat) : List Nat := (span 0 32).filter fun i => decide (s.owner kindSense i = p)

/-- A mask of numbers. -/
def bitsFrom (l : List Nat) : Nat := (l.map fun i => 2 ^ i).foldl (· + ·) 0

/-- SENSE_STATE_READ (cmd 0x0802, R428). -/
def cmdSenseStateRead : Command where
  opcode := 0x0802
  fast := true
  run r s :=
    let own := s.ownInputs r.issuer
    let valid := own.filter fun i => decide ((s.senseOf i).mode = 1 ∨ (s.senseOf i).mode = 2)
    .done (pack [(0, 4, bitsFrom (valid.filter fun i => (s.senseOf i).closed)),
        (4, 4, bitsFrom (own.filter fun i => (s.senseOf i).changed)), (8, 4, bitsFrom valid), (16, 8, s.now)])
      (s.each own fun s1 i => s1.mapSense i fun x => { x with changed := false })

/-- SENSE_STATE_READ. -/
def execSenseStateRead (r : Request) (s : State) : Host.Outcome State Fault Refusal := cmdSenseStateRead.step r s

/-- A sample instant on the 2 ns grid (R430). -/
def sampleInstant (anchor k period : Nat) : Nat := ceilTo 2 (anchor + k * period)

/-- The interval between an input's instants under a SENSE_SAMPLE_SET. -/
def State.sampleInterval (s : State) (r : Request) : Nat :=
  if r.bit 1 0 then
    match gangOf s.time.senseGangs (r.byte 0) with
    | some (_, g) => g.block.period
    | none => 2 ^ 64
  else r.field 4 4

/-- SENSE_SAMPLE_SET (cmd 0x0803, R430). A queue that another device uses is BAD_PARAM: DESIGN CHOICE (log entry 30). -/
def cmdSenseSampleSet : Command where
  opcode := 0x0803
  paramLen := 24
  used := [(0, 0, 8), (1, 0, 1), (2, 0, 112)]
  featureBad r s := !s.has r.issuer .senseAnalog
  owns r s := decide (s.owner kindSense (r.byte 0) = r.issuer) &&
    (decide (1024 ≤ r.field 2 2) || decide (s.owner kindQueue (r.field 2 2) = r.issuer))
  range r := decide (r.byte 0 < 32) && (decide (r.field 2 2 = 0xFFFF) ||
    (decide (r.field 2 2 < 1024) && (r.bit 1 0 || decide (2000 ≤ r.field 4 4))))
  furled r s := s.furled (unitId 0x17 (r.byte 0)) ||
    (decide (r.field 2 2 ≠ 0xFFFF) && (s.furled (unitId 0x25 0) || s.furled 0x2402))
  checks r s :=
    let i := r.byte 0
    let q := r.field 2 2
    let free := match (s.queueOf q).attach with
      | .none => true
      | .sense _ => true
      | _ => false
    [(decide (q ≠ 0xFFFF) && !free, .badParam),
     (decide ((s.senseOf i).mode = 0), .senseMode),
     (s.reserved.any fun g => g.2.decl.path.any (fun x => x.type == rSense && x.inst == i) &&
        (decide ((s.senseOf i).queue ≠ some q) || decide (s.sampleInterval r < g.2.decl.minInterval)), .senseFlowsAdmitted)]
  run r s :=
    let i := r.byte 0
    let q := r.field 2 2
    let s1 := s.stopSampling i
    if q = 0xFFFF then .done 0 s1
    else
      let b : GangBlock := { period := r.field 4 4, anchor := r.field 8 8 }
      let first := if r.bit 1 0 then (nextInstant s.time.senseGangs .sampling i s.now).getD 0
        else sampleInstant b.anchor (b.firstK s.now) b.period
      let s2 := s1.mapSense i fun x =>
        { x with queue := some q, gang := r.bit 1 0, period := r.field 4 4, anchor := r.field 8 8, nextAt := first }
      .done first (s2.mapQueue q fun d => { d with attach := .sense i })

/-- SENSE_SAMPLE_SET. -/
def execSenseSampleSet (r : Request) (s : State) : Host.Outcome State Fault Refusal := cmdSenseSampleSet.step r s

/-- SENSE_GANG_SET (cmd 0x0804, R206-R208, R430). -/
def cmdSenseGangSet : Command where
  opcode := 0x0804
  paramLen := 40
  used := [(0, 0, 16), (4, 0, 224), (32, 0, 8)]
  featureBad r s := !s.has r.issuer .senseAnalog
  shape r := gangShape r 0
  owns r s := ((gangBlock r 0).members.all fun m => decide (s.owner kindSense m.member = r.issuer)) &&
    (let g := Table.get {} s.time.senseGangs (r.byte 0)
     !g.running || decide (g.owner = r.issuer))
  range r := gangRange r 0 .sampling && decide (r.byte 32 ≤ 1) && decide (2000 ≤ (gangBlock r 0).period)
  furled r s := s.furled (unitId 0x25 0) || s.furled 0x2402 ||
    (gangBlock r 0).members.any fun m => s.furled (unitId 0x17 m.member)
  checks r s := [
    (decide (r.byte 32 = 1) && (gangBlock r 0).members.any fun m =>
        match gangOf s.time.senseGangs m.member with
        | some (k, _) => decide (k ≠ r.byte 0)
        | none => false, .badParam)]
  run r s :=
    let k := r.byte 0
    let old := Table.get {} s.time.senseGangs k
    let g : Gang :=
      if r.byte 32 = 0 then {}
      else if old.running then old.ask (gangBlock r 0) s.now .sampling
      else Gang.start (gangBlock r 0) r.issuer s.now .sampling
    .done (if r.byte 32 = 0 then 0 else g.first .sampling)
      { s with time := { s.time with senseGangs := Table.put {} s.time.senseGangs k g } }

/-- SENSE_GANG_SET. -/
def execSenseGangSet (r : Request) (s : State) : Host.Outcome State Fault Refusal := cmdSenseGangSet.step r s

/-- Whether calibration rotates: no converter is furled (R436). -/
def State.calibrates (s : State) : Bool := (span 0 5).all fun c => !s.furled (unitId 0x18 c)

/-- SENSE_CAL_RUN (cmd 0x0805, R437). Whether its cross-checks fit into slack is a free choice; a second request begins the run
anew: DESIGN CHOICE (log entry 31). -/
def cmdSenseCalRun : Command where
  opcode := 0x0805
  manager := true
  checks _ s := [(!s.calibrates, .calUnavailable)]
  run r s :=
    let (fits, s1) := s.choose
    let c : CalRun := { left := span 0 5, failed := 0, deferred := !fits }
    let s2 : State := { s1 with sense := { s1.sense with calRun := some c } }
    .accepted (flag (!fits)) (if fits then s2 else s2.defer kindCalibration 0 0 r.issuer)

/-- SENSE_CAL_RUN. -/
def execSenseCalRun (r : Request) (s : State) : Host.Outcome State Fault Refusal := cmdSenseCalRun.step r s

/-- SENSE_CAL_DONE (R437, R443): the run is over. -/
def execSenseCalDone (s : State) : Host.Outcome State Fault Refusal :=
  match s.sense.calRun with
  | some c =>
    if c.left ≠ [] ∨ s.absent ∨ ¬ s.computeOn then .next s
    else
      let st : Status := if c.failed = 0 then .done else .calFailed
      .next ((({ s with sense := { s.sense with calRun := none } } : State).raise
        { unit := 0, code := 0x0803, detail := pack [(0, 1, st.code), (1, 1, c.failed), (8, 8, s.now)] } [0]).opEnd 0x0805 st)
  | none => .next s

/-- Whether a scheduled rotation is due, or a run that was asked for still has converters to do (R434, R437). -/
def State.rotationDue (s : State) : Bool :=
  decide (s.sense.rotateAt + s.sense.rotateMs * 1000000 ≤ s.now) ||
  (match s.sense.calRun with
   | some c => !c.deferred && !c.left.isEmpty
   | none => false)

/-- The converter that has been in service longest; the lowest among equals. -/
def State.oldestConverter (s : State) : Option Nat :=
  let l := (span 0 5).filter fun c => (s.convOf c).state == .inService
  match l with
  | [] => none
  | a :: rest => some (rest.foldl (fun best c => if (s.convOf c).since < (s.convOf best).since then c else best) a)

/-- CONVERTER_ROTATION (R434): the converter longest in service leaves for calibration, the calibrated one joins. -/
def execConverterRotation (s : State) : Host.Outcome State Fault Refusal :=
  if !s.computeOn || !s.calibrates || !s.rotationDue then .next s
  else
    match s.oldestConverter, (span 0 5).find? fun c => (s.convOf c).state == .standby with
    | some a, some b =>
      let s1 := (s.mapConv a fun c => { c with state := .calibrating }).mapConv b fun c =>
        { c with state := .inService, since := s.now }
      .next { s1 with sense := { s1.sense with rotateAt := s.now } }
    | _, _ => .next s

/-- CONVERTER_CALIBRATION_DONE (R435): a converter is calibrated; `bad` says that it departed by more than 8 LSB. -/
def execConverterCalibrationDone (converter : Nat) (bad : Bool) (s : State) : Host.Outcome State Fault Refusal :=
  if !s.computeOn || (s.convOf converter).state != .calibrating then .next s
  else
    let s1 := s.mapConv converter fun c => { c with state := .standby, calAt := s.now }
    let run := s1.sense.calRun.map fun c =>
      if c.deferred ∨ ¬ c.left.contains converter then c
      else { c with left := c.left.filter fun m => m != converter, failed := if bad then c.failed + 2 ^ converter else c.failed }
    let s2 : State := { s1 with sense := { s1.sense with calRun := run } }
    .next (if bad then s2.unitEvent (unitId 0x18 converter) 0x06 else s2)

/-- SENSE_QUERY (cmd 0x0807). -/
def cmdSenseQuery : Command where
  opcode := 0x0807
  fast := true
  paramLen := 4
  used := [(0, 0, 8), (1, 0, 1)]
  owns r s := decide (r.issuer = 0) || decide (s.owner kindSense (r.byte 0) = r.issuer)
  range r := decide (r.byte 0 < 32)
  furled r s := decide (r.issuer ≠ 0) && s.furled (unitId 0x17 (r.byte 0))
  run r s :=
    let x := s.senseOf (r.byte 0)
    let states := (span 0 5).map fun c => (16 + c, 1, if r.issuer = 0 then (s.convOf c).state.code else 0)
    .done (pack ([(0, 1, x.mode), (1, 1, flag x.closed), (4, 4, ofSigned 32 x.value), (8, 4, x.skipped), (12, 4, x.lost)] ++ states))
      (if r.bit 1 0 then s.mapSense (r.byte 0) fun x => { x with skipped := 0, lost := 0 } else s)

/-- SENSE_QUERY. -/
def execSenseQuery (r : Request) (s : State) : Host.Outcome State Fault Refusal := cmdSenseQuery.step r s

/-- A switch state changes: vector, CHANGED, and SENSE_CHANGED at most once per input per 1 ms (R428). -/
def State.switchTo (s : State) (i : Nat) (high : Bool) : State :=
  let owner := s.owner kindSense i
  let s1 := s.mapSense i fun x =>
    { x with high := high, closed := if x.mode = 1 then !high else high, changed := true, runSince := none, lastPulse := none,
             chCount := x.chCount + 1 }
  let x := s1.senseOf i
  if !x.intChange then s1
  else
    let s2 := s1.vector owner x.vector
    if x.chAt ≠ 0 ∧ s.now < x.chAt - 1 + 1000000 then s2
    else
      (s2.mapSense i fun x => { x with chAt := s.now + 1, chCount := 0 }).raise
        { unit := unitId 0x17 i, code := 0x0801, partition := owner,
          detail := pack [(0, 1, i), (1, 1, flag x.closed), (2, 2, x.chCount), (8, 8, s.now)] } [owner]

/-- SENSE_COMPARATOR_READ (R426): a reading every 50 µs, or at the end of a wetting pulse. -/
def execSenseComparatorRead (input : Nat) (high : Bool) (s : State) : Host.Outcome State Fault Refusal :=
  let x := s.senseOf input
  if !s.computeOn || decide (32 ≤ input) || !(x.mode == 1 || x.mode == 2) || s.furled (unitId 0x17 input) then .next s
  else if x.pulsed then
    if x.lastPulse = some high ∧ x.high ≠ high then .next (s.switchTo input high)
    else .next (s.mapSense input fun x => { x with lastPulse := some high })
  else if x.high = high then .next (s.mapSense input fun x => { x with runSince := none })
  else
    let since := x.runSince.getD s.now
    if since + x.debounce * 100000 ≤ s.now then .next (s.switchTo input high)
    else .next (s.mapSense input fun x => { x with runSince := some since })

/-- SENSOR_SUPPLY_SET (cmd 0x0806, R438). Whether an output that is on limits its current is a measurement. -/
def cmdSensorSupplySet : Command where
  opcode := 0x0806
  paramLen := 4
  used := [(0, 0, 8), (1, 0, 1)]
  manager := true
  range r := decide (r.byte 0 < 4)
  furled r s := s.furled (unitId 0x19 (r.byte 0))
  run r s :=
    let o := r.byte 0
    let s1 := s.mapSensor o fun x =>
      if r.bit 1 0 then { x with on := !x.heldOff, latched := false, restartAt := none, restarts := [] }
      else { x with on := false, heldOff := false, latched := false, restartAt := none }
    let (limits, s2) := s1.choose
    let on := (s2.sensorOf o).on
    .done (flag on + 2 * flag (on && limits)) s2

/-- SENSOR_SUPPLY_SET. -/
def execSensorSupplySet (r : Request) (s : State) : Host.Outcome State Fault Refusal := cmdSensorSupplySet.step r s

/-- SENSOR_SUPPLY_FAULT to P0 and the owners of the inputs tied to the output (R443). The voltage is a measurement. -/
def State.sensorFault (s : State) (o kind restarts : Nat) : State :=
  let tied := (span 0 32).filter fun i => decide ((s.senseOf i).supply = o)
  let (mv, s1) := s.draw
  s1.raise { unit := unitId 0x19 o, code := 0x0802, severity := 2,
             detail := pack [(0, 1, o), (1, 1, kind), (2, 2, mv), (4, 1, restarts), (8, 8, s.now)] }
    (0 :: tied.map fun i => s.owner kindSense i)

/-- The restarts of an output in the last 10 s (R438). -/
def State.recentRestarts (s : State) (o : Nat) : List Nat :=
  (s.sensorOf o).restarts.filter fun t => decide (s.now < t + 10000000000)

/-- Whether an output is on and in service. -/
def State.sensorLive (s : State) (o : Nat) : Bool :=
  !s.supply.unpowered && decide (o < 4) && (s.sensorOf o).on && !s.furled (unitId 0x19 o)

/-- SENSOR_SUPPLY_LIMIT (R438): 2 ms in current limit. -/
def execSensorSupplyLimit (output : Nat) (s : State) : Host.Outcome State Fault Refusal :=
  if !s.sensorLive output then .next s
  else
    let l := s.recentRestarts output
    if l.length < 3 then
      .next ((s.mapSensor output fun x =>
        { x with on := false, restarts := l, restartAt := some (s.now + 100000000) }).sensorFault output 0x01 l.length)
    else .next ((s.mapSensor output fun x => { x with on := false, latched := true }).sensorFault output 0x02 l.length)

/-- SENSOR_SUPPLY_RESTART (R438). -/
def execSensorSupplyRestart (output : Nat) (s : State) : Host.Outcome State Fault Refusal :=
  match (s.sensorOf output).restartAt with
  | some t =>
    if t ≤ s.now ∧ output < 4 ∧ ¬ s.supply.unpowered ∧ ¬ s.furled (unitId 0x19 output) then
      .next (s.mapSensor output fun x => { x with on := true, restartAt := none, restarts := s.now :: x.restarts })
    else .next s
  | none => .next s

/-- SENSOR_SUPPLY_OVERVOLTAGE (R438): held above 5.5 V from outside for 1 ms. -/
def execSensorSupplyOvervoltage (output : Nat) (s : State) : Host.Outcome State Fault Refusal :=
  if s.sensorLive output then
    .next ((s.mapSensor output fun x => { x with on := false, heldOff := true }).sensorFault output 0x03
      (s.recentRestarts output).length)
  else .next s

/-- SENSOR_SUPPLY_OVERVOLTAGE_RELEASE (R438): the level has fallen below 5.3 V. -/
def execSensorSupplyOvervoltageRelease (output : Nat) (s : State) : Host.Outcome State Fault Refusal :=
  if (s.sensorOf output).heldOff ∧ output < 4 ∧ ¬ s.supply.unpowered ∧ ¬ s.furled (unitId 0x19 output) then
    .next (s.mapSensor output fun x => { x with on := true, heldOff := false })
  else .next s

/-- SENSOR_SUPPLY_UNDERVOLTAGE (R438): below 4.5 V while not limiting. -/
def execSensorSupplyUndervoltage (output : Nat) (s : State) : Host.Outcome State Fault Refusal :=
  if s.sensorLive output then .next (s.sensorFault output 0x04 (s.recentRestarts output).length) else .next s

end Sys2Proof.Machine
end

