-- ==== Sys2Proof/Machine/Samples.lean ====
section
/-! DEFINITION. What the UARTs, the sense inputs and the current ADCs hand to their DMA queues (R333, R380-R382, R430-R440). -/

namespace Sys2Proof.Machine

/-- Whether a queue has a descriptor that its device can write into (R129, R333). -/
def DmaQueue.hasDescriptor (d : DmaQueue) : Bool := d.runnable && decide (d.head ≠ d.tail)

/-- A byte that has nowhere to go waits in the UART, 64 at most (R333). -/
def LocalPort.holdByte (x : LocalPort) (b : Byte) : LocalPort :=
  if x.held.length < 64 then { x with held := x.held ++ [b] } else { x with overruns := satAdd 32 x.overruns 1 }

/-- A good byte arrives at a UART (R333): into the descriptor at HEAD while it has room, else it is held. -/
def State.takeByte (s : State) (i : Nat) (b : Byte) : State :=
  let q := (s.portOf i).rxQueue - 1
  let s0 := s.mapPort i fun x => { x with lastByte := s.now }
  if (s.portOf i).rxQueue = 0 ∨ !(s.queueOf q).hasDescriptor ∨ (s.queueOf q).cplStatus.isSome then
    s0.mapPort i fun x => x.holdByte b
  else
    match s0.fetchDescriptor q with
    | (s1, false) => s1.mapPort i fun x => x.holdByte b
    | (s1, true) =>
      match (s1.queueOf q).desc with
      | none => s1
      | some x =>
        let s2 := s1.fillUart q i x
        if (s2.queueOf q).collected.length < x.length then s2.mapQueue q fun d => { d with collected := d.collected ++ [b] }
        else s2.mapPort i fun y => y.holdByte b

/-- UART_BYTE_RECEIVE (R333). -/
def execUartByteReceive (port : Nat) (byte : Byte) (error : Bool) (s : State) : Host.Outcome State Fault Refusal :=
  if s.computeOn && isUart port && (s.portOf port).enable && !s.furled (unitId 0x12 port) then
    if error then .next (s.mapPort port fun x => { x with errors := satAdd 32 x.errors 1 }) else .next (s.takeByte port byte)
  else .next s

/-- UART_IDLE_TIMEOUT (R333): after three character times of ten bits, what has arrived is the whole of the descriptor; DESIGN
CHOICE (log entry 35) for the ten. -/
def execUartIdleTimeout (port : Nat) (s : State) : Host.Outcome State Fault Refusal :=
  let x := s.portOf port
  let q := x.rxQueue - 1
  let n := (s.queueOf q).collected.length
  if s.computeOn && isUart port && x.enable && decide (x.rxQueue ≠ 0) && decide (0 < n) &&
      decide (x.lastByte * x.rate + 30000000000 ≤ s.now * x.rate) then
    .next (s.mapQueue q fun d => { d with desc := d.desc.map fun y => { y with length := n } })
  else .next s

/-- Records wait for a descriptor, four at most; the oldest is lost (R440): the list and whether one was lost. For current samples
too: DESIGN CHOICE (log entry 36). -/
def pushRecord (l : List Nat) (w : Nat) : List Nat × Bool :=
  if l.length < 4 then (l ++ [w], false) else (l.drop 1 ++ [w], true)

/-- The instant at which an input is to be sampled next (R430). -/
def State.sampleDue (s : State) (i : Nat) : Option Nat :=
  let x := s.senseOf i
  if x.queue.isNone then none
  else if x.gang then nextInstant s.time.senseGangs .sampling i s.now
  else some x.nextAt

/-- An input waits for its next instant (R430). -/
def State.nextSample (s : State) (i : Nat) : State :=
  let x := s.senseOf i
  if x.gang then { s with time := { s.time with senseGangs := advanceMember s.time.senseGangs i s.now } }
  else
    let b : GangBlock := { period := x.period, anchor := x.anchor }
    s.mapSense i fun y => { y with nextAt := sampleInstant b.anchor (b.firstK (x.nextAt + 2)) b.period }

/-- Whether a sensor supply output cannot be relied on: off or furled (R432). -/
def State.sensorDown (s : State) (o : Nat) : Bool := decide (o < 4) && !s.sensorLive o

/-- The full-scale code of a range in µV, rounded down (R429). -/
def fullScale (range : Nat) : Int := if range = 0 then 5119687 else if range = 1 then 40957500 else 81915000

/-- What a conversion reads (R429, R432): a voltage above the span reads full scale, and the flag says so; a ratio has no span. -/
def SenseInput.reading (x : SenseInput) (value : Int) : Int × Bool :=
  if !x.ratio && decide (fullScale x.range < value) then (fullScale x.range, true) else (value, false)

/-- The record of a sample (R431): `flags` says whether it is REPEATED (bit 0) or SATURATED (bit 1), and whether its supply is in
current limit (bit 2), which the converters see and no command tells. -/
def State.sampleRecord (s : State) (i at_ c : Nat) (value : Int) (flags : Nat) : Nat :=
  let x := s.senseOf i
  let stale := !s.calibrates && decide ((s.convOf c).calAt + 60000000000 < s.now)
  let supply := decide (x.supply < 4) && (s.sensorDown x.supply || bitOf flags 2)
  let closed := x.closed && (x.mode == 1 || x.mode == 2)
  let (v, above) := x.reading value
  pack [(0, 8, if bitOf flags 0 then s.now else at_), (8, 4, ofSigned 32 v), (12, 1, i),
    (13, 1, flag (bitOf flags 0) + 2 * flag (bitOf flags 1 || above) + 4 * flag x.ratio + 8 * flag stale + 16 * flag supply + 32 * flag closed), (14, 1, c)]

/-- SENSE_SAMPLE (R430-R440). Which converter in service takes it is a free choice. -/
def execSenseSample (input : Nat) (value : Int) (flags : Nat) (s : State) : Host.Outcome State Fault Refusal :=
  match s.sampleDue input with
  | some t =>
    let live := (span 0 5).filter fun c => (s.convOf c).state == .inService
    if !s.computeOn || decide (32 ≤ input) || s.furled (unitId 0x17 input) || decide (s.now < t) then .next s
    else if s.quiescing (s.owner kindSense input) then
      .next ((s.mapSense input fun x => { x with skipped := satAdd 32 x.skipped 1 }).nextSample input)
    else if live = [] then .next ((s.mapSense input fun x => { x with lost := satAdd 32 x.lost 1 }).nextSample input)
    else
      let (k, s1) := s.draw
      let w := s1.sampleRecord input t (nth 0 live (k % live.length)) value flags
      let (l, gone) := pushRecord (s1.senseOf input).waiting w
      .next ((s1.mapSense input fun x =>
        { x with value := (x.reading value).1, waiting := l, lost := if gone then satAdd 32 x.lost 1 else x.lost }).nextSample input)
  | none => .next s

/-- The record of a current sample (R381, R382): in the fine range readings above 4 095 mA saturate. -/
def State.currentRecord (s : State) (n at_ : Nat) (microamps : Int) (saturated : Bool) : Nat :=
  let c := s.loadOf n
  let above := c.fine && decide (4095000 < microamps)
  pack [(0, 8, at_), (8, 4, ofSigned 32 (if above then 4095000 else microamps)), (12, 2, n),
    (14, 1, flag c.fine + 2 * flag (saturated || above) + 4 * flag (decide (s.adcOf n ≠ n % 6)) + 8 * flag c.out)]

/-- A measurement schedule after its instant (R380). -/
def State.nextMeasure (s : State) (n : Nat) (m : Measure) : Measure :=
  if m.sync then
    let start := m.anchor + m.mult * (s.loadOf (lead n)).appPeriod
    { m with anchor := start, nextAt := s.syncInstant n start m.sampleAt }
  else { m with nextAt := m.nextAt + m.period }

/-- CURRENT_SAMPLE (R379-R382). -/
def execCurrentSample (channel : Nat) (microamps : Int) (saturated : Bool) (s : State) : Host.Outcome State Fault Refusal :=
  match (s.loadOf channel).measure with
  | some m =>
    if !s.computeOn || decide (48 ≤ channel) || decide (s.now < m.nextAt) || !s.time.d7Valid then .next s
    else if s.quiescing (s.owner kindLoad channel) ∨ s.furled (unitId 0x15 (s.adcOf channel)) then
      .next (s.mapLoad channel fun c => { c with measure := some (s.nextMeasure channel m) })
    else
      let l := (pushRecord m.waiting (s.currentRecord channel m.nextAt microamps saturated)).1
      .next (s.mapLoad channel fun c =>
        { c with currentUa := microamps, measure := some { s.nextMeasure channel m with waiting := l } })
  | none => .next s

end Sys2Proof.Machine
end

