-- ==== Sys2Proof/Machine/Partitions.lean ====
section
/-! DEFINITION. Partitions: create, quiesce, resume, reset, remove; ownership of objects and memory; cache classes; translation
roots; dirty logging (R105-R115, R121, R133-R139, R145). Capsules are in `Capsules`. -/

namespace Sys2Proof.Machine

/-- Change a partition's row. -/
def State.mapPart (s : State) (p : Nat) (f : Part → Part) : State :=
  { s with io := { s.io with parts := Table.modify {} s.io.parts p f } }

/-- A guest's number (R105). -/
def guestOk (p : Nat) : Bool := within p 1 63

/-- The numbers of the objects of a kind that a guest owns (R107). -/
def State.ownedBy (s : State) (p kind : Nat) : List Nat :=
  (s.owners.filter fun o => decide (o.2 = p) && decide (o.1 / 65536 = kind)).map fun o => o.1 % 65536

/-- Invalidate the IOTLB entries that a condition picks (R121). -/
def State.invalidate (s : State) (drop : TlbEntry → Bool) : State := { s with io := s.io.invalidate drop }

/-- PARTITION_CREATE (cmd 0x0201). -/
def cmdPartitionCreate : Command where
  opcode := 0x0201
  paramLen := 16
  used := [(0, 0, 16), (8, 0, 64)]
  manager := true
  range r := guestOk (r.byte 0) && decide (r.byte 1 < 8) && aligned (r.field 8 8) 4096 && decide (r.field 8 8 < 2 ^ 40)
  checks r s := [
    ((s.io.part (r.byte 0)).state != .free, .partitionState),
    (decide ((s.io.cacheClass (r.byte 1)).wayMask = 0), .classConflict)]
  run r s :=
    let p := r.byte 0
    let root : Root := { enable := decide (r.field 8 8 ≠ 0), addr := r.field 8 8 }
    let s1 := s.mapPart p fun _ => { state := .active, cacheClass := r.byte 1 }
    let s2 : State := { s1 with
      io := { s1.io.setWindow p {} with msRoot := Table.put {} s1.io.msRoot p root, psRoot := Table.put {} s1.io.psRoot p {} } }
    .done s.now (s2.invalidate fun e => e.part == p)

/-- PARTITION_CREATE. -/
def execPartitionCreate (r : Request) (s : State) : Host.Outcome State Fault Refusal := cmdPartitionCreate.step r s

/-- Park the queues of a partition that are still at work (R133). A segment is one step, so each is at a boundary. -/
def State.parkQueues (s : State) (p : Nat) : State :=
  s.each (s.ownedBy p kindQueue) fun s1 q =>
    s1.mapQueue q fun d => if d.runnable then { d with state := .parkedQuiesce } else d

/-- The flows that a partition owns, not FREE. -/
def State.flowsOwned (s : State) (p : Nat) : List Nat :=
  (s.flow.flows.filter fun f => f.2.state != .free && decide (f.2.owner = p)).map fun f => f.1

/-- PARTITION_QUIESCE (cmd 0x0202, R133). -/
def cmdPartitionQuiesce : Command where
  opcode := 0x0202
  paramLen := 8
  used := [(0, 0, 24), (4, 0, 16)]
  manager := true
  range r := guestOk (r.byte 0) && decide (r.byte 1 ≤ 1) && decide (r.byte 2 ≤ 1)
  checks r s := [((s.io.part (r.byte 0)).state != .active, .partitionState)]
  run r s :=
    let p := r.byte 0
    let drain := decide (r.byte 1 = 1)
    let s1 := s.mapPart p fun x =>
      { x with state := .quiescing, drain := drain, holdSafe := decide (r.byte 2 = 1), drainUntil := s.now + r.field 4 2 * 1000,
               drainExpired := false, writesIgnored := 0, drained := 0 }
    let s2 := s1.each (s1.flowsOwned p) fun s3 id =>
      s3.mapFlow id fun f => if f.state = .admitted then { f with state := .held } else f
    let s3 := (if drain then s2 else s2.parkQueues p).quiesceLin p
    let s4 := if r.byte 2 = 1 then s3.each (s3.ownedBy p kindLoad) State.applyEntry else s3
    .accepted s.now s4

/-- PARTITION_QUIESCE. -/
def execPartitionQuiesce (r : Request) (s : State) : Host.Outcome State Fault Refusal := cmdPartitionQuiesce.step r s

/-- Whether a partition still has work in flight that quiet waits for (R133, R331; the rows on quiescing owners of 16 and 17). -/
def State.inFlight (s : State) (p : Nat) : Bool :=
  ((s.io.window p).intake.any fun l => !l.2.isEmpty) ||
  ((s.ownedBy p kindQueue).any fun q => (s.queueOf q).runnable) ||
  ((s.ownedBy p kindPort).any fun i => (s.portOf i).transfer.isSome) ||
  ((s.ownedBy p kindLin).any fun c => (s.linOf c).commander && (s.linOf c).running) ||
  (s.cipher.ops.any fun o => decide (o.issuer = p)) || (s.fair.ops.any fun o => decide (o.issuer = p))

/-- Entries of a command ring that have not been read. -/
def Ring.unread (x : Ring) : Nat := (x.tail + x.size - x.head) % x.size

/-- PARTITION_QUIET (R106, R145). -/
def execPartitionQuiet (partition : Nat) (s : State) : Host.Outcome State Fault Refusal :=
  let x := s.io.part partition
  if !s.computeOn || s.absent || !guestOk partition || x.state != .quiescing || s.inFlight partition then .next s
  else
    let w := s.io.window partition
    let parked := (s.ownedBy partition kindQueue).filter fun q =>
      (s.queueOf q).state == .parkedQuiesce || (s.queueOf q).state == .parkedFault
    .next (((s.mapPart partition fun x => { x with state := .quiet }).raise
      { unit := 0, code := 0x0202, partition := partition,
        detail := pack [(0, 2, parked.length), (2, 2, x.drained), (4, 2, (w.ring (.cmd 0)).unread), (6, 2, w.heldCpl.length),
          (8, 4, x.writesIgnored), (12, 2, partition)] } [0]).opEnd 0x0202 .done)

/-- QUIESCE_DRAIN_LIMIT (R133). -/
def execQuiesceDrainLimit (partition : Nat) (s : State) : Host.Outcome State Fault Refusal :=
  let x := s.io.part partition
  if s.computeOn && x.state == .quiescing && x.drain && !x.drainExpired && decide (x.drainUntil ≤ s.now) then
    .next ((s.parkQueues partition).mapPart partition fun x => { x with drainExpired := true })
  else .next s

/-- PARTITION_RESUME (cmd 0x0203, R106, R174, R330). -/
def cmdPartitionResume : Command where
  opcode := 0x0203
  paramLen := 8
  used := [(0, 0, 8)]
  manager := true
  range r := guestOk (r.byte 0)
  checks r s := [
    ((s.io.part (r.byte 0)).state == .free || (s.io.part (r.byte 0)).state == .active, .partitionState),
    ((s.io.part (r.byte 0)).state == .quiescing, .quiesceRequired)]
  run r s :=
    let p := r.byte 0
    let s1 := s.mapPart p fun x => { x with state := .active }
    let s2 := s1.each (s1.ownedBy p kindQueue) fun s3 q =>
      s3.mapQueue q fun d => if d.state = .parkedQuiesce then { d with state := .waiting } else d
    let s3 := s2.each (s2.flowsOwned p) fun s4 id =>
      s4.mapFlow id fun f => if f.state = .held then { f with state := .admitted } else f
    .finish .done (pack [(8, 8, s.now)]) (s3.resumeLin p) fun t => t.readRings p

/-- PARTITION_RESUME. -/
def execPartitionResume (r : Request) (s : State) : Host.Outcome State Fault Refusal := cmdPartitionResume.step r s

/-- Forget a partition's flows without an event (R136, R174): how many there were. -/
def State.dropFlows (s : State) (p : Nat) : State × Nat :=
  let ids := s.flowsOwned p
  ((s.each ids State.freeFlow).recompute, ids.length)

/-- A queue as a partition reset leaves it, with what it was attached to (R136). That the attachment is part of the context: DESIGN
CHOICE (log entry 37). -/
def State.clearQueue (s : State) (q : Nat) : State :=
  let s1 := match (s.queueOf q).attach with
    | .endpointTx e c => s.mapEndpoint e fun x => { x with txQueue := Table.put 0 x.txQueue c 0 }
    | .endpointRx e c => s.mapEndpoint e fun x => { x with rxQueue := Table.put 0 x.rxQueue c 0 }
    | _ => s
  s1.mapQueue q fun _ => {}

/-- A load channel's configuration at its reset values; what the output, the wire and the protections are doing stays. -/
def LoadChannel.deconfigured (c : LoadChannel) (n : Nat) : LoadChannel :=
  let d := LoadChannel.atReset n
  { c with
    restartAuto := d.restartAuto, fine := d.fine, offProbe := d.offProbe, testPermit := d.testPermit, phaseAuto := d.phaseAuto,
    intProtect := d.intProtect, intDiag := d.intDiag, vector := d.vector, ocThreshold := d.ocThreshold, retryMax := d.retryMax,
    restartDelay := d.restartDelay, retryWindow := d.retryWindow, olFilter := d.olFilter, olFine := d.olFine,
    pwmPeriod := d.pwmPeriod, phaseUnits := d.phaseUnits, deadTime := d.deadTime, reversalMs := d.reversalMs,
    params := d.params, policy := d.policy, measure := none, trips := 0, dropped := 0, flags := 0 }

/-- A load channel after a reset of its partition keeps its settings; after a removal it goes to its safe-state entry and loses them
(R136, R408). -/
def State.releaseLoad (s : State) (remove : Bool) (n : Nat) : State :=
  if remove then
    let s1 := s.applyEntry n
    ({ s1 with time := { s1.time with pwmGangs := leaveGang s1.time.pwmGangs n } } : State).mapLoad n fun c => c.deconfigured n
  else s.mapLoad n fun c => { c with measure := none }

/-- The objects of a partition that are neither queues nor load channels go back to their reset values (R136, R295, R331, R424,
R528). -/
def State.resetObjects (s : State) (p : Nat) : State :=
  let s1 := s.each (s.ownedBy p kindCan) fun t o => t.mapObj o fun _ => {}
  let s2 := s1.each (s1.ownedBy p kindSense) fun t i =>
    { t.mapSense i fun _ => {} with time := { t.time with senseGangs := leaveGang t.time.senseGangs i } }
  let s3 := s2.each (s2.ownedBy p kindCvu) fun t n => t.mapCvu n fun _ => {}
  let s4 := s3.each (s3.ownedBy p kindLin) fun t c => t.mapLin c fun _ => {}
  let s5 := s4.each (s4.ownedBy p kindPort) fun t i => t.mapPort i fun x => { pinLevel := x.pinLevel }
  s5.each (s5.ownedBy p kindWindow) fun t w => t.mapFairWindow w fun _ => {}

/-- The safety cores of a partition (R457): halted, and after a removal with their TCM cleared and unassigned. -/
def State.releaseCores (s : State) (p : Nat) (remove : Bool) : State :=
  s.each ((span 0 8).filter fun c => Table.get none s.io.safetyPart c = some p) fun t c =>
    if remove then
      { t.mapCore c fun _ => {} with
        io := { t.io with safetyPart := Table.put none t.io.safetyPart c none, vpend := Table.put 0 t.io.vpend c 0 } }
    else t.mapCore c fun x => { x with running := false }

/-- An owner mask without a partition. -/
def maskWithout (m p : Nat) : Nat := setBit m p false

/-- The key slots of a partition (R136): volatile ones of its own are erased; a removal takes it out of every owner mask, the stored
images' included, and ends an export. -/
def State.releaseSlots (s : State) (p : Nat) (remove : Bool) : State :=
  s.each (s.keys.slots.map fun k => k.1) fun t k =>
    let x := t.slotOf k
    let t1 := if x.owners = 2 ^ p ∧ ¬ bitOf x.attr 10 then t.mapSlot k KeySlot.emptied else t
    if remove then
      t1.mapSlot k fun x =>
        { x with exported := if x.exported = some p then none else x.exported
                 owners := maskWithout x.owners p, imageA := x.imageA.map fun i => { i with owners := maskWithout i.owners p },
                 imageB := x.imageB.map fun i => { i with owners := maskWithout i.owners p },
                 writing := x.writing.map fun w => { w with owners := maskWithout w.owners p } }
    else t1

/-- What a reset and a removal do alike (R136): flows, queues, objects, cores, keys, window, translation, logging. -/
def State.resetPartition (s : State) (p : Nat) (remove : Bool) : State × Nat :=
  let (s1, n) := s.dropFlows p
  let s2 := s1.each (s1.ownedBy p kindQueue) State.clearQueue
  let s3 := s2.each (s2.ownedBy p kindLoad) fun t c => t.releaseLoad remove c
  let s4 := ((s3.resetObjects p).releaseCores p remove).releaseSlots p remove
  let s5 : State := { s4 with
    io := { s4.io.setWindow p {} with
      psRoot := Table.put {} s4.io.psRoot p {},
      dirty := Table.modify {} s4.io.dirty p fun d => { d with running := false } } }
  (s5.invalidate fun e => e.part == p, n)

/-- The checks that a reset and a removal share. -/
def quietChecks (r : Request) (s : State) : List (Bool × Status) :=
  [((s.io.part (r.byte 0)).state == .free, .partitionState), ((s.io.part (r.byte 0)).state != .quiet, .quiesceRequired)]

/-- PARTITION_RESET (cmd 0x0204, R136). -/
def cmdPartitionReset : Command where
  opcode := 0x0204
  paramLen := 8
  used := [(0, 0, 8)]
  manager := true
  range r := guestOk (r.byte 0)
  checks := quietChecks
  run r s :=
    let p := r.byte 0
    let (s1, n) := s.resetPartition p false
    .done (pack [(0, 2, n), (8, 8, s.now)]) (s1.mapPart p fun x => { state := .active, cacheClass := x.cacheClass })

/-- PARTITION_RESET. -/
def execPartitionReset (r : Request) (s : State) : Host.Outcome State Fault Refusal := cmdPartitionReset.step r s

/-- PARTITION_REMOVE (cmd 0x0205, R136). -/
def cmdPartitionRemove : Command where
  opcode := 0x0205
  paramLen := 8
  used := [(0, 0, 8)]
  manager := true
  range r := guestOk (r.byte 0)
  checks := quietChecks
  run r s :=
    let p := r.byte 0
    let (s1, n) := s.resetPartition p true
    let released := (s1.owners.filter fun o => decide (o.2 = p)).length
    let s2 : State := { s1 with
      owners := s1.owners.filter fun o => decide (o.2 ≠ p)
      io := { s1.io with
        msRoot := Table.put {} s1.io.msRoot p {}, memOwner := s1.io.memOwner.filter fun u => decide (u.2.owner ≠ p) } }
    .done (pack [(0, 2, n), (2, 2, released), (8, 8, s.now)]) (s2.mapPart p fun _ => {})

/-- PARTITION_REMOVE. -/
def execPartitionRemove (r : Request) (s : State) : Host.Outcome State Fault Refusal := cmdPartitionRemove.step r s

/-- Whether an ADMITTED or HELD flow uses an object (R108). -/
def State.flowUses (s : State) (kind n : Nat) : Bool :=
  s.reserved.any fun g => g.2.decl.path.any fun x =>
    decide (x.inst = n) &&
    (match kind with
     | 1 => x.type == rDma
     | 3 => x.type == rObject
     | 4 => x.type == rLoad || x.type == rCurrent
     | 5 => x.type == rSense
     | 6 => x.type == rCvu
     | 7 => x.type == rLin
     | _ => false)

/-- The objects that an OBJECT_ASSIGN names. -/
def assigned (r : Request) : List Nat := span (r.field 2 2) (r.field 4 2)

/-- OBJECT_ASSIGN (cmd 0x0206, R107, R108, R124, R318). -/
def cmdObjectAssign : Command where
  opcode := 0x0206
  paramLen := 8
  used := [(0, 0, 48)]
  manager := true
  range r :=
    let first := r.field 2 2
    let count := r.field 4 2
    decide (r.byte 0 ≠ 2) && decide (r.byte 1 < 64) && decide (1 ≤ count) && decide (first + count ≤ kindCount (r.byte 0)) &&
    (decide (r.byte 0 ≠ kindLoad) ||
      (!(decide (40 < first) && decide (first % 2 = 1)) && !(decide (40 < first + count) && decide ((first + count) % 2 = 1))))
  checks r s :=
    let t := r.byte 1
    let have_ := (s.ownedBy t kindQueue).length
    let new := ((assigned r).filter fun q => decide (s.owner kindQueue q ≠ t)).length
    [(decide (t ≠ 0) && (s.io.part t).state == .free, .partitionState),
     (decide (r.byte 0 = kindQueue) && decide (t ≠ 0) && decide (64 < have_ + new), .noResource),
     ((assigned r).any fun n =>
        let o := s.owner (r.byte 0) n
        decide (o ≠ 0) && decide (o ≠ t) && ((s.io.part o).state == .active || (s.io.part o).state == .quiescing) &&
          s.flowUses (r.byte 0) n, .quiesceRequired)]
  run r s :=
    .done (r.field 4 2) (s.each (assigned r) fun s1 n =>
      let s2 := s1.setOwner (r.byte 0) n (r.byte 1)
      if r.byte 0 = kindCan ∧ s1.owner kindCan n ≠ r.byte 1 then
        (s2.detachObject n).mapObj n fun x => { x with slot := none, locked := false }
      else s2)

/-- OBJECT_ASSIGN. -/
def execObjectAssign (r : Request) (s : State) : Host.Outcome State Fault Refusal := cmdObjectAssign.step r s

/-- The partitions of a cache class (R112). -/
def State.holders (s : State) (c : Nat) : List Nat :=
  (span 0 64).filter fun p => (s.io.part p).state != .free && decide (s.io.classOf p = c)

/-- CACHE_CLASS_SET (cmd 0x0207, R112, R114). What the ways hold is not part of the model, so there is nothing to write back. -/
def cmdCacheClassSet : Command where
  opcode := 0x0207
  paramLen := 8
  used := [(0, 0, 8), (2, 0, 32)]
  manager := true
  range r := decide (r.byte 0 < 8) && decide (r.byte 4 ≤ r.byte 5)
  checks r s :=
    let c := r.byte 0
    let others := (span 0 8).filter fun k => decide (k ≠ c) && !(s.holders k).isEmpty
    [(decide (r.field 2 2 = 0) && !(s.holders c).isEmpty, .classConflict),
     (others.any fun k =>
        let x := s.io.cacheClass k
        decide (r.field 2 2 &&& x.wayMask ≠ 0) || (decide (r.byte 4 ≤ x.colourLast) && decide (x.colourFirst ≤ r.byte 5)),
      .classConflict),
     ((s.holders c).any fun p => decide (p ≠ 0) && (s.io.part p).state != .quiet, .quiesceRequired)]
  run r s :=
    let c := r.byte 0
    let x : CacheClass := { wayMask := r.field 2 2, colourFirst := r.byte 4, colourLast := r.byte 5 }
    .done 0 (({ s with io := { s.io with classes := Table.put {} s.io.classes c x } } : State).invalidate fun e => e.cls == c)

/-- CACHE_CLASS_SET. -/
def execCacheClassSet (r : Request) (s : State) : Host.Outcome State Fault Refusal := cmdCacheClassSet.step r s

/-- MEMORY_OWNER_SET (cmd 0x0208, R110). -/
def cmdMemoryOwnerSet : Command where
  opcode := 0x0208
  paramLen := 8
  used := [(0, 0, 32), (4, 0, 6), (4, 7, 1)]
  manager := true
  checks r s :=
    let units := span (r.field 0 2) (r.field 2 2)
    [(decide (s.io.dramBytes / 0x200000 < r.field 0 2 + r.field 2 2), .badParam),
     (units.any fun u =>
        let o := (s.io.unitOwner u).owner
        decide (o ≠ 0) && decide (o ≠ r.bits 4 5 0) && (s.io.part o).state == .active, .quiesceRequired)]
  run r s :=
    let units := span (r.field 0 2) (r.field 2 2)
    let new : UnitOwner := { owner := r.bits 4 5 0, shared := r.bit 4 7 }
    let moved := units.filter fun u => decide (s.io.unitOwner u ≠ new)
    let s1 : State := { s with
      io := { s.io with memOwner := moved.foldl (fun t u => Table.put {} t u new) s.io.memOwner } }
    .done moved.length (s1.invalidate fun e => moved.contains ((e.paPage * 4096 - dramBase) / 0x200000))

/-- MEMORY_OWNER_SET. -/
def execMemoryOwnerSet (r : Request) (s : State) : Host.Outcome State Fault Refusal := cmdMemoryOwnerSet.step r s

/-- The partition whose stage a command names (cmds 0x0209, 0x020A). -/
def stagePartition (r : Request) : Nat := if r.byte 0 = 0 then r.issuer else r.byte 1

/-- IOMMU_ROOT_SET (cmd 0x0209, R115, R121). -/
def cmdIommuRootSet : Command where
  opcode := 0x0209
  fast := true
  paramLen := 16
  used := [(0, 0, 24), (8, 0, 64)]
  shape r := decide (r.byte 0 ≠ 0) || decide (r.byte 1 = 0)
  owns r _ := decide (r.byte 0 = 0) || decide (r.issuer = 0)
  range r := decide (r.byte 0 ≤ 1) && decide (r.byte 2 ≤ 1) && aligned (r.field 8 8) 4096 &&
    (if r.byte 0 = 0 then decide (r.field 8 8 < 2 ^ 48) else guestOk (r.byte 1) && decide (r.field 8 8 < 2 ^ 40))
  run r s :=
    let p := stagePartition r
    let root : Root := { enable := decide (r.byte 2 = 1), addr := r.field 8 8 }
    let s1 : State :=
      if r.byte 0 = 0 then { s with io := { s.io with psRoot := Table.put {} s.io.psRoot p root } }
      else { s with io := { s.io with msRoot := Table.put {} s.io.msRoot p root } }
    .done 0 (s1.invalidate fun e => e.part == p)

/-- IOMMU_ROOT_SET. -/
def execIommuRootSet (r : Request) (s : State) : Host.Outcome State Fault Refusal := cmdIommuRootSet.step r s

/-- IOMMU_INVALIDATE (cmd 0x020A, R121). -/
def cmdIommuInvalidate : Command where
  opcode := 0x020A
  fast := true
  paramLen := 24
  used := [(0, 0, 24), (8, 0, 96)]
  iovas := [8]
  shape r := decide (r.byte 0 ≠ 0) || decide (r.byte 1 = 0)
  owns r _ := decide (r.byte 0 = 0) || decide (r.issuer = 0)
  range r := decide (r.byte 0 ≤ 1) && decide (r.byte 2 ≤ 1) && decide (r.byte 1 < 64)
  run r s :=
    let p := stagePartition r
    let first := r.field 8 8 / 4096
    let inRange (page : Nat) : Bool := decide (first ≤ page) && decide (page < first + r.field 16 4)
    .done 0 (s.invalidate fun e =>
      e.part == p && (decide (r.byte 2 = 0) || inRange (if r.byte 0 = 0 then e.page else e.gpaPage)))

/-- IOMMU_INVALIDATE. -/
def execIommuInvalidate (r : Request) (s : State) : Host.Outcome State Fault Refusal := cmdIommuInvalidate.step r s

/-- A partition's dirty log. -/
def State.dirtyLog (s : State) (p : Nat) : DirtyLog := Table.get {} s.io.dirty p

/-- Set a partition's dirty log. -/
def State.setDirty (s : State) (p : Nat) (d : DirtyLog) : State :=
  { s with io := { s.io with dirty := Table.put {} s.io.dirty p d } }

/-- DIRTY_LOG_START (cmd 0x020F, R137, R138). -/
def cmdDirtyLogStart : Command where
  opcode := 0x020F
  paramLen := 40
  used := [(0, 0, 8), (8, 0, 96), (24, 0, 128)]
  iovas := [24, 32]
  manager := true
  feature := some .partitionMigration
  range r := guestOk (r.byte 0) && aligned (r.field 8 8) 0x200000 && decide (r.field 8 8 < 2 ^ 48) && within (r.field 16 4) 1 4096 &&
    aligned (r.field 24 8) 4096 && aligned (r.field 32 8) 4096
  checks r s := [((s.dirtyLog (r.byte 0)).running, .partitionState)]
  run r s :=
    .done (pack [(8, 8, s.now)]) (s.setDirty (r.byte 0)
      { running := true, base := r.field 8 8, size2M := r.field 16 4, bitmapA := r.field 24 8, bitmapB := r.field 32 8 })

/-- DIRTY_LOG_START. -/
def execDirtyLogStart (r : Request) (s : State) : Host.Outcome State Fault Refusal := cmdDirtyLogStart.step r s

/-- DIRTY_LOG_SWAP (cmd 0x0210, R139). -/
def cmdDirtyLogSwap : Command where
  opcode := 0x0210
  fast := true
  paramLen := 8
  used := [(0, 0, 8)]
  manager := true
  feature := some .partitionMigration
  range r := guestOk (r.byte 0)
  checks r s := [(!(s.dirtyLog (r.byte 0)).running, .partitionState)]
  run r s :=
    let d := s.dirtyLog (r.byte 0)
    .done (pack [(0, 1, flag !d.activeB), (8, 8, s.now)]) (s.setDirty (r.byte 0) { d with activeB := !d.activeB })

/-- DIRTY_LOG_SWAP. -/
def execDirtyLogSwap (r : Request) (s : State) : Host.Outcome State Fault Refusal := cmdDirtyLogSwap.step r s

/-- DIRTY_LOG_STOP (cmd 0x0211). -/
def cmdDirtyLogStop : Command where
  opcode := 0x0211
  paramLen := 8
  used := [(0, 0, 8)]
  manager := true
  feature := some .partitionMigration
  range r := guestOk (r.byte 0)
  checks r s := [(!(s.dirtyLog (r.byte 0)).running, .partitionState)]
  run r s :=
    let d := s.dirtyLog (r.byte 0)
    .done (pack [(0, 1, flag d.activeB), (8, 8, s.now)]) (s.setDirty (r.byte 0) { d with running := false })

/-- DIRTY_LOG_STOP. -/
def execDirtyLogStop (r : Request) (s : State) : Host.Outcome State Fault Refusal := cmdDirtyLogStop.step r s

end Sys2Proof.Machine
end

