-- ==== Sys2Proof/Machine/Capsules.lean ====
section
/-! DEFINITION. Capsules: the device state of a QUIET partition written out and read back (R140-R145, R173, R528). -/

namespace Sys2Proof.Machine

/-- A section of a capsule: its TYPE, the size of its records, and the records as little-endian numbers (R141). -/
structure Section where
  type    : Nat
  size    : Nat
  records : List Nat
deriving DecidableEq, Repr

/-- The record size of a section type (R141). -/
def recordSize : Nat → Option Nat
  | 1 => some 640 | 2 => some 64 | 3 => some 32 | 4 => some 32 | 5 => some 32 | 6 => some 16 | 7 => some 64 | _ => none

/-- Put the `n` bytes of a content into a record, each where the TZ7 keeps it (R141). -/
def layOut (type size n w : Nat) : Nat :=
  fromOctets ((span 0 n).foldl (fun l i => setAt l (Config.capsulePlace type i % size) (byteField w i 1)) (List.replicate size 0))

/-- Take the `n` bytes of a content out of a record. -/
def takeOut (type size n record : Nat) : Nat :=
  fromOctets ((span 0 n).map fun i => byteField record (Config.capsulePlace type i % size) 1)

/-- Bytes of a section with its header. -/
def Section.bytes (x : Section) : Nat := 16 + x.size * x.records.length

/-- The bytes of a section (R141). -/
def Section.encode (x : Section) : Nat :=
  pack [(0, 1, x.type), (4, 4, x.records.length), (8, 4, x.size * x.records.length)] +
    256 ^ 16 * (x.records.foldr (fun r acc => r % 256 ^ x.size + 256 ^ x.size * acc) 0)

/-- The sections one after the other. -/
def encodeSections : List Section → Nat
  | [] => 0
  | x :: rest => x.encode + 256 ^ x.bytes * encodeSections rest

/-- LENGTH of a capsule with the sections given (R141). -/
def capsuleLength (l : List Section) : Nat := 64 + (l.map Section.bytes).foldl (· + ·) 0

/-- A capsule with its CMAC field zero (R141). -/
def capsuleBody (p time features : Nat) (l : List Section) : Nat :=
  pack [(0, 2, 1), (2, 1, p), (3, 1, l.length), (4, 4, capsuleLength l), (8, 8, time), (16, 32, features)] +
    256 ^ 64 * encodeSections l

/-- The CMAC of a capsule of `n` bytes under a key (R141). -/
def capsuleMac (key : List Nat) (n w : Nat) : Nat :=
  fromOctets (Crypto.cmac key (octets n (w - 256 ^ 48 * byteField w 48 16)))

/-- The sections from `off` on, in ascending TYPE order and filling the capsule, or none where the layout is wrong (R141). -/
def decodeSections (w length : Nat) : Nat → Nat → Nat → Option (List Section)
  | 0, off, _ => if off = length then some [] else none
  | fuel + 1, off, last =>
    let type := byteField w off 1
    let count := byteField w (off + 4) 4
    match recordSize type with
    | none => none
    | some size =>
      if type ≤ last ∨ count = 0 ∨ byteField w (off + 8) 4 ≠ count * size ∨ length < off + 16 + count * size then none
      else
        (decodeSections w length fuel (off + 16 + count * size) type).map fun rest =>
          { type := type, size := size, records := (span 0 count).map fun i => byteField w (off + 16 + size * i) size } :: rest

/-- The records of a type. -/
def recordsOf (l : List Section) (type : Nat) : List Nat := ((l.filter fun x => x.type == type).map fun x => x.records).flatten

/-- A ring's registers and indices. -/
def Ring.content (x : Ring) : Nat :=
  pack [(0, 6, x.base), (6, 1, flag x.enable + 2 * flag x.fault + 4 * flag x.doorbellErr + 8 * flag x.phase), (7, 1, x.sizeLog2),
    (8, 1, x.vector), (9, 2, x.head), (11, 2, x.tail)]

/-- The ring that such a content describes. -/
def ringOf (w : Nat) : Ring :=
  let f := byteField w 6 1
  { base := byteField w 0 6, enable := bitOf f 0, fault := bitOf f 1, doorbellErr := bitOf f 2, phase := bitOf f 3,
    sizeLog2 := byteField w 7 1, vector := byteField w 8 1, head := byteField w 9 2, tail := byteField w 11 2 }

/-- The function window state of a guest: rings, interrupt registers, vector table (R141). -/
def Window.content (x : Window) : Nat :=
  pack ([(0, 13, (x.ring (.cmd 0)).content), (13, 13, x.cpl.content), (26, 13, x.evt.content), (39, 2, x.coalesceUs),
    (41, 1, x.coalesceCount), (42, 1, flag x.overflow), (43, 4, x.dropped), (47, 4, x.intStatus.toNat), (51, 4, x.intMask.toNat)] ++
    (span 0 32).map fun v =>
      let e := Table.get {} x.vectors v
      (55 + 11 * v, 11, pack [(0, 6, e.addr), (6, 4, e.data), (10, 1, flag e.toInt)]))

/-- The window restored from such a content and the committed set (R143). -/
def windowOf (w features : Nat) : Window :=
  let base : Window :=
    { cpl := ringOf (byteField w 13 13), evt := ringOf (byteField w 26 13), coalesceUs := byteField w 39 2,
      coalesceCount := byteField w 41 1, overflow := bitOf (byteField w 42 1) 0, dropped := byteField w 43 4,
      intStatus := BitVec.ofNat 32 (byteField w 47 4), intMask := BitVec.ofNat 32 (byteField w 51 4),
      vectors := (span 0 32).foldl (fun t v =>
        let e := byteField w (55 + 11 * v) 11
        let x : Vector := { addr := byteField e 0 6, data := byteField e 6 4, toInt := bitOf (byteField e 10 1) 0 }
        Table.put {} t v x) [],
      accept := (span 0 4).foldl (fun t n => Table.put 0 t n (byteField features (8 * n) 8)) [],
      committed := decide (features ≠ 0) }
  base.setRing (ringOf (byteField w 0 13)) (.cmd 0)

/-- The committed set of a partition, zero before its commit (R141). -/
def State.committedSet (s : State) (p : Nat) : Nat :=
  if (s.io.window p).committed then pack ((span 0 4).map fun n => (8 * n, 8, s.acceptWord p n)) else 0

/-- The flow description of R173. -/
def Flow.description (f : Flow) (id : Nat) : Nat :=
  let d := f.decl
  pack ([(0, 2, id), (2, 1, d.type), (3, 1, d.priority), (4, 4, d.maxSize), (8, 4, d.minInterval), (12, 2, d.burst),
    (14, 1, d.path.length), (15, 1, flag d.tight + 2 * flag d.cutThrough), (16, 4, d.bound), (44, 1, d.retryBudget),
    (48, 4, f.promise), (52, 1, f.state.code)] ++
    (span 0 d.path.length).map fun i =>
      let x := nth { type := 0, qual := 0, inst := 0 } d.path i
      (20 + 4 * i, 4, pack [(0, 1, x.type), (1, 1, x.qual), (2, 2, x.inst)]))

/-- The kinds whose configuration a record of type 0x03 carries: all but queues and CVUs, which have sections of their own. -/
def configKinds : List Nat := [kindCan, kindLoad, kindSense, kindLin, kindPort, kindWindow]

/-- The command that sets an object of a kind. -/
def configCommand : Nat → Option Command
  | 3 => some cmdCanObjectConfig | 4 => some cmdLoadChannelConfig | 5 => some cmdSenseInputConfig | 7 => some cmdLinChannelConfig
  | 8 => some cmdLocalPortConfig | 9 => some cmdFairleadWindowSet | _ => none

/-- The bytes of that command's parameters that a record keeps: `(offset, size)`, the number apart. -/
def configPieces : Nat → List (Nat × Nat)
  | 3 => [(2, 17), (20, 2), (24, 8)] | 4 => [(2, 17)] | 5 => [(1, 11)] | 7 => [(1, 2), (4, 2)] | 8 => [(1, 13)] | 9 => [(1, 3), (8, 16)]
  | _ => []

/-- The parameters of CAN_OBJECT_CONFIG that give an object's configuration. -/
def CanObject.params (x : CanObject) : Nat :=
  pack [(2, 1, x.direction), (3, 1, flag x.oneShot + 2 * x.tt + 8 * flag x.repeat_ + 16 * flag x.intNew + 32 * flag x.intFail),
    (4, 1, x.formats), (5, 1, x.vector), (6, 1, x.slot.getD 0xFF), (7, 1, x.cvu.getD 0xFF), (8, 4, x.id), (12, 4, x.mask),
    (16, 1, x.vcid), (17, 1, x.vcidMask), (18, 1, x.cvuOffset), (20, 2, x.xlBytes), (24, 8, x.spill)]

/-- The parameters of LOAD_CHANNEL_CONFIG that give a channel's configuration. -/
def LoadChannel.configParams (c : LoadChannel) (n : Nat) : Nat :=
  pack [(2, 1, flag c.restartAuto + 2 * flag c.fine + 4 * flag c.offProbe + 8 * flag c.testPermit + 16 * flag c.phaseAuto +
      32 * flag c.intProtect + 64 * flag c.intDiag), (3, 1, c.vector), (4, 2, ceilDiv c.ocThreshold 100), (6, 1, c.retryMax),
    (7, 1, c.restartDelay), (8, 2, c.retryWindow), (10, 1, c.olFilter), (11, 1, c.olFine), (12, 4, c.pwmPeriod),
    (16, 1, c.phaseUnits), (17, 1, if n < 40 ∨ oddLeg n then 0 else c.deadTime), (18, 1, if n < 40 ∨ oddLeg n then 0 else c.reversalMs)]

/-- The parameters of SENSE_INPUT_CONFIG that give an input's configuration. -/
def SenseInput.params (x : SenseInput) : Nat :=
  pack [(1, 1, x.mode), (2, 1, flag x.pulsed + 2 * flag x.intChange + 4 * flag x.ratio), (3, 1, x.vector), (4, 1, x.wetMa),
    (5, 1, x.range), (6, 2, x.threshold), (8, 1, x.hyst), (9, 1, x.debounce), (10, 1, x.pollMs), (11, 1, x.supply)]

/-- The parameters of LIN_CHANNEL_CONFIG that give a channel's configuration. -/
def LinChannel.params (x : LinChannel) : Nat :=
  pack [(1, 1, flag x.enable + 2 * flag x.commander), (2, 1, x.vector), (4, 2, x.bitRate)]

/-- A queue field of a port: the number, or 0xFFFF. -/
def queueField (q : Nat) : Nat := if q = 0 then 0xFFFF else q - 1

/-- The parameters of LOCAL_PORT_CONFIG that give a port's configuration. -/
def LocalPort.params (x : LocalPort) : Nat :=
  pack [(1, 1, flag x.enable), (2, 4, x.rate), (6, 1, x.mode), (7, 1, x.debounce), (8, 2, queueField x.txQueue),
    (10, 2, queueField x.rxQueue), (12, 1, x.vector), (13, 1, x.edge)]

/-- The parameters of FAIRLEAD_WINDOW_SET that give a window's configuration. -/
def FairWindow.params (x : FairWindow) : Nat :=
  pack [(1, 1, flag x.enable + 2 * flag x.prefetch + 4 * flag x.ack + 8 * flag x.fenceOn + 16 * flag x.read + 32 * flag x.write),
    (2, 1, x.bar), (3, 1, x.sizeLog2), (8, 8, x.farBase), (16, 8, x.localBase)]

/-- The configuration of an object as parameters of its command. -/
def State.configParams (s : State) (kind n : Nat) : Nat :=
  match kind with
  | 3 => (s.objOf n).params | 4 => (s.loadOf n).configParams n | 5 => (s.senseOf n).params | 7 => (s.linOf n).params
  | 8 => (s.portOf n).params | _ => (s.fairWindow n).params

/-- Pick pieces out of parameters, one after the other. -/
def gather (w : Nat) : List (Nat × Nat) → Nat
  | [] => 0
  | (off, n) :: rest => byteField w off n + 256 ^ n * gather w rest

/-- Put the pieces back to their places. -/
def scatterPieces (w : Nat) : List (Nat × Nat) → Nat
  | [] => 0
  | (off, n) :: rest => 256 ^ off * byteField w 0 n + scatterPieces (w / 256 ^ n) rest

/-- A record of type 0x03: kind, number, configuration. -/
def State.objectRecord (s : State) (kind n : Nat) : Nat :=
  layOut 3 32 32 (pack [(0, 1, kind), (1, 2, n), (3, 29, gather (s.configParams kind n) (configPieces kind))])

/-- A record of type 0x04 (R141). -/
def State.queueRecord (s : State) (q : Nat) : Nat :=
  let d := s.queueOf q
  layOut 4 32 28 (pack [(0, 2, q), (2, 6, d.base), (8, 1, d.sizeLog2), (9, 1, d.vector), (10, 2, d.head), (12, 2, d.tail),
    (14, 4, d.offset), (18, 1, d.state.code), (19, 1, d.cause), (20, 8, d.faultAddr)])

/-- The slots that go into a capsule (R142): those that hold a key and that the partition owns alone. -/
def State.privateSlots (s : State) (p : Nat) : List Nat :=
  s.slotNumbers.filter fun k => decide ((s.slotOf k).owners = 2 ^ p) && (s.slotOf k).hasKey

/-- The sections of a capsule before its keys are wrapped (R141). -/
def State.plainSections (s : State) (p : Nat) : List Section :=
  let objects := (configKinds.map fun k => (s.ownedBy p k).map fun n => s.objectRecord k n).flatten
  [ { type := 1, size := 640, records := [layOut 1 640 407 (s.io.window p).content] },
    { type := 2, size := 64, records := (s.flowsOwned p).map fun f => (s.flowOf f).description f },
    { type := 3, size := 32, records := objects },
    { type := 4, size := 32, records := (s.ownedBy p kindQueue).map s.queueRecord },
    { type := 5, size := 32, records := (s.ownedBy p kindCvu).map fun n => (s.cvuOf n).block n },
    { type := 6, size := 16, records := (s.privateSlots p).map fun k =>
        layOut 6 16 10 (pack [(0, 2, k), (2, 8, blockEnd (s.slotOf k).counter)]) } ]

/-- The wrapped-key records, each drawing a value of the pairing slot (R142, R485). -/
def State.wrapSlots (s : State) (pair : Nat) : List Nat → State × List Nat
  | [] => (s, [])
  | k :: rest =>
    let x := s.slotOf k
    let (counter, s1) := s.drawCounter pair
    let blob := wrapBlob (s.slotOf pair).octets k x.attr s.keys.otp.deviceTag counter (x.key % 2 ^ (if bits256 x.attr then 256 else 128))
    let (s2, l) := s1.wrapSlots pair rest
    (s2, blob :: l)

/-- PAIRING_SLOT of a capsule command. -/
def pairing (r : Request) : Option Nat := if r.field 2 2 = 0xFFFF then none else some (r.field 2 2)

/-- Whether an export's capsule carries keys (R142). -/
def State.carriesKeys (s : State) (pair : Option Nat) : Bool := pair.isSome && s.has 0 .pairingKeyWrap

/-- The length of a partition's capsule. -/
def State.neededLength (s : State) (p : Nat) (pair : Option Nat) : Nat :=
  let keys : Section := { type := 7, size := 64, records := if s.carriesKeys pair then s.privateSlots p else [] }
  capsuleLength ((s.plainSections p ++ [keys]).filter fun x => !x.records.isEmpty)

/-- What a capsule command asks of its pairing slot (R142, R143, R481, R487). -/
def State.pairingChecks (s : State) (pair : Option Nat) (uses : Nat) : List (Bool × Status) :=
  match pair with
  | none => []
  | some k =>
    [(s.keys.sealed, .lockerSealed), ((s.slotOf k).inForce == .bad, .keySlotBad), (!(s.slotOf k).hasKey, .keySlotState),
     (!permits (s.slotOf k).attr uses, .badParam)]

/-- The parameter bits of both capsule commands. -/
def capsuleBits : List (Nat × Nat × Nat) := [(0, 0, 8), (2, 0, 112)]

/-- Whether the issuer may use the pairing slot it names. -/
def mayPair (r : Request) (s : State) : Bool :=
  match pairing r with | some k => maySlot r k s | none => true

/-- Parameters of a capsule command in range. -/
def capsuleRange (r : Request) : Bool := guestOk (r.byte 0) && (decide (r.field 2 2 < 512) || decide (r.field 2 2 = 0xFFFF))

/-- PARTITION_CAPSULE_EXPORT (cmd 0x0212, R140-R142). The capsule is taken now and written to the buffer at the operation's end. -/
def cmdPartitionCapsuleExport : Command where
  opcode := 0x0212
  paramLen := 16
  used := capsuleBits
  iovas := [8]
  manager := true
  feature := some .partitionMigration
  tamperKeys r := (pairing r).isSome
  owns := mayPair
  range := capsuleRange
  furled r s := (pairing r).isSome && s.keysFurled
  checks r s :=
    let pair := pairing r
    let draws := s.carriesKeys pair && !(s.privateSlots (r.byte 0)).isEmpty
    [((s.io.part (r.byte 0)).state != .quiet, .quiesceRequired)] ++ s.pairingChecks pair (useWrap + useMacGen) ++
    (match pair with
     | some k => [(draws && !counted (s.slotOf k).attr, .keyUseDenied), (draws && s.nonceExhausted k, .nonceExhausted)]
     | none => [])
  run r s :=
    let p := r.byte 0
    let pair := pairing r
    let need := s.neededLength p pair
    if r.field 4 4 < need then .refuse .capsuleBufferSmall need
    else
      let slots := s.privateSlots p
      let (s1, blobs) := match pair with
        | some k => if s.carriesKeys pair then s.wrapSlots k slots else (s, [])
        | none => (s, [])
      let keys : Section := { type := 7, size := 64, records := blobs }
      let l := (s.plainSections p ++ [keys]).filter fun x => !x.records.isEmpty
      let body := capsuleBody p s.now (s.committedSet p) l
      let mac := match pair with
        | some k => capsuleMac (s.slotOf k).octets need body
        | none => 0
      let o : CapsuleOp :=
        { outward := true, partition := p, slot := pair, length := need, buffer := r.field 8 8, data := body + 256 ^ 48 * mac }
      let s2 := s1.each slots fun t k => t.mapSlot k fun x => { x with exported := some p }
      .accepted 0 { s2 with capsules := s2.capsules ++ [o] }

/-- PARTITION_CAPSULE_EXPORT. -/
def execPartitionCapsuleExport (r : Request) (s : State) : Host.Outcome State Fault Refusal := cmdPartitionCapsuleExport.step r s

/-- PARTITION_CAPSULE_IMPORT (cmd 0x0213, R143). The capsule is read and applied at the operation's end. -/
def cmdPartitionCapsuleImport : Command where
  opcode := 0x0213
  paramLen := 16
  used := capsuleBits
  iovas := [8]
  manager := true
  feature := some .partitionMigration
  tamperKeys r := (pairing r).isSome
  owns := mayPair
  range := capsuleRange
  furled r s := (pairing r).isSome && s.keysFurled
  checks r s :=
    [((s.io.part (r.byte 0)).state != .quiet, .quiesceRequired)] ++ s.pairingChecks (pairing r) (useUnwrap + useMacVerify)
  run r s :=
    let o : CapsuleOp :=
      { outward := false, partition := r.byte 0, slot := pairing r, length := r.field 4 4, buffer := r.field 8 8, data := 0 }
    .accepted 0 { s with capsules := s.capsules ++ [o] }

/-- PARTITION_CAPSULE_IMPORT. -/
def execPartitionCapsuleImport (r : Request) (s : State) : Host.Outcome State Fault Refusal := cmdPartitionCapsuleImport.step r s

/-- The sections of a capsule of `length` bytes that is to be read under a key, or none where FORMAT, LENGTH, layout or CMAC is wrong
(R141, R143, R144). Without a key no CMAC is checked, and no wrapped key can be read. -/
def readCapsule (w length : Nat) (key : Option (List Nat)) : Option (List Section) :=
  if length < 64 ∨ byteField w 0 2 ≠ 1 ∨ byteField w 4 4 ≠ length then none
  else
    match decodeSections w length (byteField w 3 1) 64 0 with
    | none => none
    | some l =>
      match key with
      | some k => if capsuleMac k length w = byteField w 48 16 then some l else none
      | none => if (recordsOf l 7).isEmpty then some l else none

/-- The object numbers of each kind that a capsule carries. -/
def capsuleNumbers (l : List Section) : List (Nat × Nat) :=
  ((recordsOf l 3).map fun x => let c := takeOut 3 32 3 x; (byteField c 0 1, byteField c 1 2)) ++
  ((recordsOf l 4).map fun x => (kindQueue, takeOut 4 32 2 x)) ++ ((recordsOf l 5).map fun x => (kindCvu, byteField x 0 1))

/-- The target's object for an object of the capsule: the n-th for the n-th, in ascending number (R143). -/
def State.mapped (s : State) (p : Nat) (numbers : List (Nat × Nat)) (kind n : Nat) : Option Nat :=
  (s.ownedBy p kind)[(numbers.filter fun x => x.1 == kind && decide (x.2 < n)).length]?

/-- A renumbered object, or the same number where the capsule does not carry it. -/
def State.renumber (s : State) (p : Nat) (numbers : List (Nat × Nat)) (kind n : Nat) : Nat :=
  if numbers.contains (kind, n) then (s.mapped p numbers kind n).getD n else n

/-- A field of a number replaced. -/
def putBytes (w off n v : Nat) : Nat := w - 256 ^ off * byteField w off n + 256 ^ off * (v % 256 ^ n)

/-- A request that stands for a record of a capsule. -/
def importRequest (p paramLen params : Nat) : Request :=
  { partition := ⟨p % 64, Nat.mod_lt _ (by decide)⟩, ring := 0, flags := 0, paramLen := BitVec.ofNat 8 paramLen, tag := 0, deadline := 0,
    params := BitVec.ofNat 384 params }

/-- Restore an object's configuration as its command would, or refuse (R143). One still at its reset configuration is left as it is. -/
def State.importObject (s : State) (p : Nat) (numbers : List (Nat × Nat)) (record : Nat) : Option State :=
  let c := takeOut 3 32 32 record
  let kind := byteField c 0 1
  let old := byteField c 1 2
  match configCommand kind, s.mapped p numbers kind old with
  | some cmd, some n =>
    let w := scatterPieces (byteField c 3 29) (configPieces kind)
    if gather w (configPieces kind) = gather (({} : State).configParams kind old) (configPieces kind) then some s
    else
      let cvu := byteField w 7 1
      let w1 := if kind = kindCan ∧ cvu < 16 then putBytes w 7 1 (s.renumber p numbers kindCvu cvu) else w
      let queue (v off : Nat) : Nat :=
        if kind = kindPort then putBytes v off 2 (s.renumber p numbers kindQueue (byteField v off 2)) else v
      let r := importRequest (if kind = kindWindow then 0 else p) cmd.paramLen (queue (queue w1 8) 10 + n)
      match cmd.refusal r s with
      | some _ => none
      | none => match cmd.run r s with
        | .finish _ _ s1 after => some (after s1)
        | _ => none
  | _, _ => none

/-- Restore a queue context; one that was at work is restored as PARKED_QUIESCE (R143). -/
def State.importQueue (s : State) (p : Nat) (numbers : List (Nat × Nat)) (record : Nat) : Option State :=
  let c := takeOut 4 32 28 record
  match s.mapped p numbers kindQueue (byteField c 0 2) with
  | none => none
  | some q =>
    let st : QState := match byteField c 18 1 with
      | 0 => .disabled | 1 => .idle | 4 => .parkedFault | _ => .parkedQuiesce
    let head := byteField c 10 2
    let tail := byteField c 12 2
    let size := 2 ^ byteField c 8 1
    some (s.mapQueue q fun d =>
      { d with state := st, base := byteField c 2 6, sizeLog2 := byteField c 8 1, vector := byteField c 9 1, head := head, tail := tail,
               offset := byteField c 14 4, cause := byteField c 19 1, faultAddr := byteField c 20 8, desc := none,
               conforms := decide (byteField c 14 4 ≠ 0),
               postedAt := List.replicate ((tail + size - head) % size) s.now })

/-- Restore a CVU (R143, R528). -/
def State.importCvu (s : State) (p : Nat) (numbers : List (Nat × Nat)) (record : Nat) : Option State :=
  match s.mapped p numbers kindCvu (byteField record 0 1) with
  | none => none
  | some n =>
    let r := importRequest p 32 (putBytes record 0 1 n)
    if cvuBlockOk r || decide (record / 256 = 0) then some (s.mapCvu n (cvuOfBlock r)) else none

/-- Put a key into an empty slot of the target (R143, R480, R481). -/
def State.placeKey (s : State) (p slot attr key : Nat) : Option State :=
  let k := s.slotOf slot
  if k.state ≠ .empty ∨ 512 ≤ slot ∨ !attrOk attr s ∨ (persistent attr && (s.nvFurled || s.keys.otp.root.isNone)) then none
  else
    let held := key % 2 ^ (if bits256 attr then 256 else 128)
    let (nonce, s1) := s.drbg 32
    let image : KeyImage :=
      { version := k.version + 1, attr := attr, owners := 2 ^ p, key := held, nonce := nonce, commit := 2 ^ 32 - 1 - (k.version + 1) % 2 ^ 32,
        intact := true }
    let full (x : KeySlot) : KeySlot := { x with state := .ready, attr := attr, owners := 2 ^ p, key := held }
    some (s1.mapSlot slot fun x =>
      if persistent attr then (full { x with version := x.version + 1, area := some x.targetB }).setImage x.targetB (some image)
      else full x)

/-- Place the key of a wrapped-key record (R143, R485). -/
def State.importKey (s : State) (p : Nat) (key : List Nat) (blob : Nat) : Option State :=
  match unwrapBlob key blob with
  | some v => s.placeKey p (byteField blob 0 2) (byteField blob 2 2) v
  | none => none

/-- Start a slot's counter at the larger of its own value and the high mark (R143, R520). -/
def State.importMark (s : State) (record : Nat) : State :=
  let c := takeOut 6 16 10 record
  s.mapSlot (byteField c 0 2) fun x =>
    let v := max x.counter (byteField c 2 8)
    { x with counter := v, high := if persistent x.attr then max x.high (blockEnd v) else x.high }

/-- Restore a list of records one after the other. -/
def State.importAll (f : State → Nat → Option State) : List Nat → State → Option State
  | [], s => some s
  | x :: rest, s => match f s x with
    | some s1 => State.importAll f rest s1
    | none => none

/-- The kind of the object that a resource of a path names (R154, R155). -/
def kindOfRes (type : Nat) : Option Nat :=
  if type = rDma then some kindQueue else if type = rObject then some kindCan else if type = rLoad ∨ type = rCurrent then some kindLoad
  else if type = rSense then some kindSense else if type = rCvu then some kindCvu else if type = rLin then some kindLin else none

/-- The admission block of a flow description for the target: BOUND set to PROMISE_NS, TIGHT cleared, objects renumbered (R173). -/
def State.importedBlock (s : State) (p : Nat) (numbers : List (Nat × Nat)) (record : Nat) : Nat :=
  let w := byteField record 0 48
  let w1 := putBytes (putBytes w 16 4 (byteField record 48 4)) 15 1 (byteField w 15 1 / 2 * 2)
  (span 0 6).foldl (fun v i =>
    match kindOfRes (byteField v (20 + 4 * i) 1) with
    | some kind => putBytes v (22 + 4 * i) 2 (s.renumber p numbers kind (byteField v (22 + 4 * i) 2))
    | none => v) w1

/-- Submit one flow for admission (R143, R170, R173): the state after, and whether it was refused. -/
def State.importFlow (s : State) (p : Nat) (numbers : List (Nat × Nat)) (record : Nat) : State × Bool :=
  let r := importRequest p 48 (s.importedBlock p numbers record)
  let id := r.field 0 2
  let v := s.verdict id (candidate r)
  if cmdFlowAdmit.wellFormed r && declOk (declOf r) && decide (id < 4096) && !s.furled (unitId 0x26 0) &&
      (firstOf (admitChecks r s)).isNone && v.status.isNone then (s.accept id (candidate r) v, false)
  else (s, true)

/-- Submit the flows in their order: the state after, and how many were refused. -/
def State.importFlows (p : Nat) (numbers : List (Nat × Nat)) : List Nat → State → State × Nat
  | [], s => (s, 0)
  | x :: rest, s =>
    let (s1, no) := s.importFlow p numbers x
    let (s2, n) := State.importFlows p numbers rest s1
    (s2, n + flag no)

/-- Everything but the flows, or none where the target does not fit (R143). -/
def State.importRest (s : State) (p features : Nat) (key : Option (List Nat)) (l : List Section) : Option State :=
  let numbers := capsuleNumbers l
  let fits := [1, 3, 4, 5, 6, 7, 8, 9].all fun k => decide ((numbers.filter fun x => x.1 == k).length ≤ (s.ownedBy p k).length)
  let freeIds := (recordsOf l 2).all fun x => (s.flowOf (byteField x 0 2)).state == .free
  if !fits || !freeIds then none
  else
    let s1 := (recordsOf l 1).foldl (fun t x => { t with io := t.io.setWindow p (windowOf (takeOut 1 640 407 x) features) }) s
    match State.importAll (fun t x => t.importObject p numbers x) (recordsOf l 3) s1 with
    | none => none
    | some s2 =>
      match State.importAll (fun t x => t.importQueue p numbers x) (recordsOf l 4) s2 with
      | none => none
      | some s3 =>
        match State.importAll (fun t x => t.importCvu p numbers x) (recordsOf l 5) s3 with
        | none => none
        | some s4 =>
          match State.importAll (fun t x => t.importKey p (key.getD []) x) (recordsOf l 7) s4 with
          | none => none
          | some s5 => some (s5.each (recordsOf l 6) State.importMark)

/-- Report the end of a capsule operation (R145), to a waiting command list with it (R589). -/
def State.capsuleDone (s : State) (o : CapsuleOp) (st : Status) (sections refused : Nat) : State :=
  (s.raise { unit := 0, code := 0x0203, severity := if st = .done then 1 else 2, partition := o.partition,
             detail := pack [(0, 4, o.length), (4, 1, st.code), (5, 1, sections), (6, 2, refused), (8, 8, s.now)] } [0]).opEnd
    (if o.outward then 0x0212 else 0x0213) st

/-- End an import with what its buffer holds (R143). -/
def State.importCapsule (s : State) (o : CapsuleOp) (w : Nat) : State :=
  let p := o.partition
  let key := o.slot.map fun k => (s.slotOf k).octets
  let sections := byteField w 3 1
  let features := byteField w 16 32
  let set (n : Nat) : Nat := byteField features (8 * n) 8
  match readCapsule w o.length key with
  | none => s.capsuleDone o .capsuleInvalid sections 0
  | some l =>
    if features ≠ 0 ∧ !acceptable p set then s.capsuleDone o .capsuleInvalid sections 0
    else
      match s.importRest p features key l with
      | none => s.capsuleDone o .capsuleMismatch sections 0
      | some s1 =>
        let (s2, n) := State.importFlows p (capsuleNumbers l) (recordsOf l 2) s1
        s2.capsuleDone o .done sections n

/-- CAPSULE_DONE (R140, R143, R145). -/
def execCapsuleDone (partition : Nat) (s : State) : Host.Outcome State Fault Refusal :=
  match s.capsules.find? fun o => o.partition == partition with
  | none => .next s
  | some o =>
    let s0 : State := { s with capsules := s.capsules.erase o }
    if !s.computeOn then .next s
    else if s.absent then .next (s0.capsuleDone o .controllerAbsent 0 0)
    else if o.outward then
      match s0.write 0 o.buffer o.length o.data with
      | (s1, some f) => .next ((s1.raiseFault f 0 0xFFFF 0x06 0).capsuleDone o .bufferFault 0 0)
      | (s1, none) => .next (s1.capsuleDone o .done (byteField o.data 3 1) 0)
    else if (s.io.part partition).state ≠ .quiet then .next (s0.capsuleDone o .quiesceRequired 0 0)
    else if o.slot.isSome && (s.keys.sealed || s.keysFurled) then
      .next (s0.capsuleDone o (if s.keys.sealed then .lockerSealed else .unitFurled) 0 0)
    else
      match s0.read 0 o.buffer o.length with
      | (s1, .error f) => .next ((s1.raiseFault f 0 0xFFFF 0x06 0).capsuleDone o .bufferFault 0 0)
      | (s1, .ok w) => .next (s1.importCapsule o w)

end Sys2Proof.Machine
end

