-- ==== Sys2Proof/Machine/Cores.lean ====
section
/-! DEFINITION. The meanings of the core commands, of Masthead's heartbeat and restart events, and of twin-pass and Backstay
errors (01, 14). -/

namespace Sys2Proof.Machine

/-- The state byte of a safety core in CPU_QUERY. -/
def State.coreState (s : State) (c : Nat) : Nat :=
  if s.furled (unitId 0x02 c) then 4
  else if s.cpu.spare = some c then 3
  else if (s.coreOf c).running then 2
  else if (Table.get none s.io.safetyPart c).isSome then 1
  else 0

/-- The operating point applied (R451). -/
def State.dvfsPoint (s : State) : Nat := min s.cpu.dvfsRequest (ceilingPoint (s.domainOf 4).ceiling)

/-- CPU_QUERY (cmd 0x0130). -/
def cmdCpuQuery : Command where
  opcode := 0x0130
  fast := true
  manager := true
  run _ s :=
    let apps := (span 0 4).map fun c => (c, 1, flag (s.furled (unitId 0x01 c)))
    let cores := (span 0 8).map fun c => (4 + c, 1, s.coreState c)
    let parts := (span 0 8).map fun c => (16 + c, 1, (Table.get none s.io.safetyPart c).getD 0xFF)
    let m := if s.cpu.masthead.hoveTo then 2 else flag (!s.cpu.masthead.present)
    .done (pack (apps ++ cores ++ [(12, 1, m), (13, 1, s.recentAttempts), (14, 1, s.dvfsPoint)] ++ parts)) s

/-- CPU_QUERY. -/
def execCpuQuery (r : Request) (s : State) : Host.Outcome State Fault Refusal := cmdCpuQuery.step r s

/-- CPU_APP_DVFS_SET (cmd 0x0131). -/
def cmdCpuAppDvfsSet : Command where
  opcode := 0x0131
  paramLen := 4
  used := [(0, 0, 8)]
  manager := true
  range r := decide (r.byte 0 ≤ 4)
  run r s :=
    let s1 : State := { s with cpu := { s.cpu with dvfsRequest := r.byte 0 } }
    .done (pack [(0, 1, s1.dvfsPoint), (8, 8, s.now)]) s1

/-- CPU_APP_DVFS_SET. -/
def execCpuAppDvfsSet (r : Request) (s : State) : Host.Outcome State Fault Refusal := cmdCpuAppDvfsSet.step r s

/-- Set or clear the partition of a safety core. -/
def State.setCorePart (s : State) (c : Nat) (p : Option Nat) : State :=
  { s with io := { s.io with safetyPart := Table.put none s.io.safetyPart c p } }

/-- Hold a spare, or none. -/
def State.setSpare (s : State) (c : Option Nat) : State := { s with cpu := { s.cpu with spare := c } }

/-- SAFETY_CORE_ASSIGN (cmd 0x0132, R457). -/
def cmdSafetyCoreAssign : Command where
  opcode := 0x0132
  paramLen := 32
  used := [(0, 0, 16), (4, 0, 32), (8, 0, 64), (16, 0, 64), (24, 0, 32)]
  iovas := [8, 16]
  manager := true
  range r := decide (r.byte 0 < 8) && (decide (r.byte 1 < 64) || decide (r.byte 1 = 0xFF)) &&
    decide (r.field 4 4 ≤ 524288) && aligned (r.field 4 4) 4 && aligned (r.field 8 8) 4 && aligned (r.field 16 8) 4096 &&
    aligned (r.field 24 4) 4 && decide (r.field 24 4 < 524288)
  furled r s := decide (r.byte 0 < 8) && s.furled (unitId 0x02 (r.byte 0))
  checks r s := [
    (decide (r.byte 1 ≠ 0xFF) && (s.io.part (r.byte 1)).state == .free, .badParam),
    ((s.coreOf (r.byte 0)).running, .quiesceRequired)]
  run r s :=
    let c := r.byte 0
    if r.byte 1 = 0xFF then .done s.now ((s.mapCore c fun _ => {}).setCorePart c none)
    else
      match s.read r.issuer (r.field 8 8) (r.field 4 4) with
      | (s1, .error f) => .fault f s1
      | (s1, .ok image) =>
        let s2 := s1.mapCore c fun _ =>
          { ({} : SafetyCore) with tcm := memWrite [] 0 (r.field 4 4) image, iovaBase := r.field 16 8,
                                   restartEntry := r.field 24 4 }
        let s3 := s2.setCorePart c (some (r.byte 1))
        .done s.now (if s.cpu.spare = some c then s3.setSpare none else s3)

/-- SAFETY_CORE_ASSIGN. -/
def execSafetyCoreAssign (r : Request) (s : State) : Host.Outcome State Fault Refusal := cmdSafetyCoreAssign.step r s

/-- SAFETY_CORE_CONTROL (cmd 0x0133, R456). -/
def cmdSafetyCoreControl : Command where
  opcode := 0x0133
  paramLen := 4
  used := [(0, 0, 16)]
  owns r s := decide (r.issuer = 0) || Table.get none s.io.safetyPart (r.byte 0) == some r.issuer
  range r := decide (r.byte 0 < 8) && decide (r.byte 1 ≤ 1)
  furled r s := decide (r.byte 0 < 8) && s.furled (unitId 0x02 (r.byte 0))
  checks r s := [((Table.get none s.io.safetyPart (r.byte 0)).isNone, .badParam)]
  run r s :=
    let s1 := s.mapCore (r.byte 0) fun c =>
      if r.byte 1 = 0 then { c with running := false } else { c with running := true, a0 := 0, a1 := 0, upsets := 0 }
    .done (s1.coreState (r.byte 0)) s1

/-- SAFETY_CORE_CONTROL. -/
def execSafetyCoreControl (r : Request) (s : State) : Host.Outcome State Fault Refusal := cmdSafetyCoreControl.step r s

/-- SAFETY_SPARE_SET (cmd 0x0134). -/
def cmdSafetySpareSet : Command where
  opcode := 0x0134
  paramLen := 4
  used := [(0, 0, 8)]
  manager := true
  range r := decide (r.byte 0 < 8) || decide (r.byte 0 = 0xFF)
  furled r s := decide (r.byte 0 < 8) && s.furled (unitId 0x02 (r.byte 0))
  checks r s := [(decide (r.byte 0 < 8) && (Table.get none s.io.safetyPart (r.byte 0)).isSome, .badParam)]
  run r s := .done (r.byte 0) (s.setSpare (if r.byte 0 = 0xFF then none else some (r.byte 0)))

/-- SAFETY_SPARE_SET. -/
def execSafetySpareSet (r : Request) (s : State) : Host.Outcome State Fault Refusal := cmdSafetySpareSet.step r s

/-- CPU_CCLASS_WRITE: software on an application core writes CPU_CCLASS (R448). -/
def execCpuCclassWrite (core : Nat) (value : BitVec 64) (s : State) : Host.Outcome State Fault Refusal :=
  if s.computeOn && decide (core < 4) && !s.furled (unitId 0x01 core) then
    let v := value.toNat
    let c : CClass := { check := bitOf v 63, hClass := bitsOf v 10 8, vClass := bitsOf v 2 0 }
    .next { s with cpu := { s.cpu with cclass := Table.put {} s.cpu.cclass core c } }
  else .next s

/-- TWIN_PASS_MISMATCH: a pair of a safety core or of Masthead's core mismatches; `again` says its replay mismatched too
(R461). -/
def execTwinPassMismatch (unit : Nat) (again : Bool) (s : State) : Host.Outcome State Fault Refusal :=
  let n := unit % 256
  let safety := unit / 256 == 0x02 && decide (n < 8)
  if !s.computeOn || s.furled unit || !(unit == 0x0300 || (safety && (s.coreOf n).running)) then .next s
  else if again then .next (s.lasting unit 0x01)
  else
    let s1 := if safety then s.mapCore n fun c => { c with upsets := (c.upsets + 1) % 2 ^ 32 } else s
    .next (s1.unitEvent unit 0x01)

/-- BACKSTAY_FRAME_FAIL: a Backstay frame fails its check (R13): one event, and lasting when the same frame fails four times
in a row. -/
def execBackstayFrameFail (s : State) : Host.Outcome State Fault Refusal :=
  if !s.computeOn || s.furled (unitId 0x05 0) then .next s
  else
    let n := s.cpu.backstayFails + 1
    let s1 : State := { s with cpu := { s.cpu with backstayFails := if 4 ≤ n then 0 else n } }
    if 4 ≤ n then .next (s1.lasting (unitId 0x05 0) 0x03) else .next (s1.unitEvent (unitId 0x05 0) 0x03)

/-- MASTHEAD_HEARTBEAT: a heartbeat frame arrives at Stay (R15, R466, R467). It shows too that a frame has passed. -/
def execMastheadHeartbeat (count : Nat) (s : State) : Host.Outcome State Fault Refusal :=
  let m := s.cpu.masthead
  if !s.computeOn || s.furled (unitId 0x05 0) || s.furled (unitId 0x03 0) || m.hoveTo then .next s
  else
    let s1 : State := { s with cpu := { s.cpu with backstayFails := 0 } }
    let next := some ((count + 1) % 2 ^ 16)
    if m.present then
      if m.expected = none ∨ m.expected = some (count % 2 ^ 16) then
        .next (s1.mapMasthead fun m => { m with expected := next, lastBeat := s.now })
      else .next s1
    else
      match m.attempting with
      | some t =>
        if s.now < t + 50000000 then
          .next (s1.mapMasthead fun m =>
            { m with present := true, returned := true, attempting := none, nextAttempt := none, expected := next,
                     lastBeat := s.now })
        else .next s1
      | none => .next s1

/-- MASTHEAD_HEARTBEAT_TIMEOUT: Stay's watch expires (R15, R466). The other two causes follow a furl. -/
def execMastheadHeartbeatTimeout (cause : Nat) (s : State) : Host.Outcome State Fault Refusal :=
  let m := s.cpu.masthead
  let due : Bool := match m.expected with
    | none => decide (m.releasedAt + 100000000 ≤ s.now)
    | some _ => decide (m.lastBeat + 4000000 ≤ s.now)
  if !s.computeOn || !m.present then .next s
  else if (cause == 1 && due) = true then .next (s.mastheadLost 1)
  else if cause = 2 ∧ s.furled (unitId 0x05 0) then .next (s.mastheadLost 2)
  else if cause = 3 ∧ (s.furled (unitId 0x03 0) ∨ s.furled 0x2405) then .next (s.mastheadLost 3)
  else .next s

/-- MASTHEAD_RESTART_ATTEMPT: the attempt that is due begins (R467). -/
def execMastheadRestartAttempt (s : State) : Host.Outcome State Fault Refusal :=
  match s.cpu.masthead.nextAttempt with
  | some t => if t ≤ s.now ∧ s.computeOn then .next s.beginAttempt else .next s
  | none => .next s

/-- MASTHEAD_RESTART_TIMEOUT: 50 ms without a heartbeat end an attempt (R467). -/
def execMastheadRestartTimeout (s : State) : Host.Outcome State Fault Refusal :=
  match s.cpu.masthead.attempting with
  | some t => if t + 50000000 ≤ s.now ∧ s.computeOn then .next s.attemptFailed else .next s
  | none => .next s

/-- TRIAL_HOVE_TO_RESET: Hove-to during a trial ends in a module reset 1 s later (R591). -/
def execTrialHoveToReset (s : State) : Host.Outcome State Fault Refusal :=
  match s.boot.hoveAt with
  | some t =>
    if s.cpu.masthead.hoveTo && (s.boot.fwRecord.trial || s.boot.cfgRecord.trial) && decide (t + 1000000000 ≤ s.now) then
      .next s.moduleReset
    else .next s
  | none => .next s

end Sys2Proof.Machine
end

