-- ==== Sys2Proof/Machine/Ethernet.lean ====
section
/-! DEFINITION. The meanings of the Ethernet port commands and link events (07). -/

namespace Sys2Proof.Machine

/-- ETH_PORT_CONFIG's effect (R269): the settings, then the transition that ENABLE asks for. -/
def State.configurePort (s : State) (p flags : Nat) : State :=
  let enable := bitOf flags 0
  let s1 := s.mapEth p fun x =>
    { x with enable := enable, master := bitOf flags 1, tc10 := bitOf flags 2, acceptSleep := bitOf flags 3,
             wakeForward := bitOf flags 4 }
  match (s.ethOf p).link with
  | .disabled => if enable then s1.moveLink p .training 0x00 else s1
  | .training => if enable then s1 else s1.moveLink p .disabled 0x08
  | .up => if enable then s1 else s1.moveLink p .disabled 0x08
  | .diag => if enable then s1 else (s1.cableResult p 4 0).moveLink p .disabled 0x08
  | _ => s1

/-- ETH_PORT_CONFIG (cmd 0x0440). -/
def cmdEthPortConfig : Command where
  opcode := 0x0440
  paramLen := 8
  used := [(0, 0, 8), (1, 0, 5)]
  manager := true
  range r := decide (r.byte 0 < 12) && (!r.bit 1 1 || decide (r.byte 0 < 10)) &&
    (decide (r.bits 1 4 2 = 0) || within (r.byte 0) 2 9)
  featureBad r s := decide (r.bits 1 4 2 ≠ 0) && !s.has 0 .tc10
  checks r s :=
    let x := s.ethOf (r.byte 0)
    [(x.link == .furled, .portState),
     (((x.enable && !r.bit 1 0) || x.master != r.bit 1 1) && s.admittedOn (r.byte 0), .portFlowsAdmitted)]
  run r s :=
    let s1 := s.configurePort (r.byte 0) (r.byte 1)
    .done (s1.ethOf (r.byte 0)).link.code s1

/-- ETH_PORT_CONFIG. -/
def execEthPortConfig (r : Request) (s : State) : Host.Outcome State Fault Refusal := cmdEthPortConfig.step r s

/-- ROLE of ETH_LINK_QUERY. -/
def EthPort.role (x : EthPort) (p : Nat) : Nat :=
  if p < 10 then flag x.master else if !x.plca then 4 else if x.nodeId = 0 then 2 else 3

/-- ETH_LINK_QUERY (cmd 0x0441). -/
def cmdEthLinkQuery : Command where
  opcode := 0x0441
  fast := true
  paramLen := 4
  used := [(0, 0, 8)]
  range r := decide (r.byte 0 < 12)
  run r s :=
    let p := r.byte 0
    let x := s.ethOf p
    let (q, s1) := s.sqi p
    .done (pack [(0, 1, x.link.code), (1, 1, x.role p), (2, 1, q), (3, 1, flag (x.plca && !x.plcaLost)),
      (4, 4, x.linkDrops), (8, 8, x.changed)]) s1

/-- ETH_LINK_QUERY. -/
def execEthLinkQuery (r : Request) (s : State) : Host.Outcome State Fault Refusal := cmdEthLinkQuery.step r s

/-- Whether PLCA settings contradict the port's contract (R282). -/
def State.plcaAgainst (s : State) (r : Request) : Bool :=
  let c := s.contract (r.byte 0 + 2)
  c.enable && (decide (r.field 4 2 ≠ c.toTimer) || decide (c.nodeCount ≤ r.byte 2) ||
    (decide (r.byte 2 = 0) && decide (r.byte 3 ≠ c.nodeCount)))

/-- ETH_PLCA_SET (cmd 0x0442, R280-R282). -/
def cmdEthPlcaSet : Command where
  opcode := 0x0442
  paramLen := 8
  used := [(0, 0, 8), (1, 0, 1), (2, 0, 8), (3, 0, 8), (4, 0, 16)]
  manager := true
  shape r := decide (r.byte 2 = 0) || decide (r.byte 3 = 0)
  range r := within (r.byte 0) 10 11 && decide (r.byte 2 ≤ 31) && within (r.field 4 2) 1 255 &&
    (decide (r.byte 2 ≠ 0) || within (r.byte 3) 2 32)
  featureBad r s := r.bit 1 0 && !s.has 0 .plca
  furled r s := s.furled (unitId 0x0F (r.byte 0))
  checks r s :=
    let x := s.ethOf (r.byte 0)
    [(s.plcaAgainst r, .badParam),
     ((x.plca != r.bit 1 0 || decide (x.nodeId ≠ r.byte 2) || decide (x.nodeCount ≠ r.byte 3) ||
        decide (x.toTimer ≠ r.field 4 2)) && s.admittedOn (r.byte 0), .portFlowsAdmitted)]
  run r s := .done 0 (s.mapEth (r.byte 0) fun x =>
    { x with plca := r.bit 1 0, nodeId := r.byte 2, nodeCount := r.byte 3, toTimer := r.field 4 2,
             plcaLost := false })

/-- ETH_PLCA_SET. -/
def execEthPlcaSet (r : Request) (s : State) : Host.Outcome State Fault Refusal := cmdEthPlcaSet.step r s

/-- Whether TC10 exists and is set on a port (R275, R284). -/
def State.tc10On (s : State) (p : Nat) : Bool := s.has 0 .tc10 && (s.ethOf p).tc10

/-- ETH_TC10_SLEEP (cmd 0x0443, R276, R279). -/
def cmdEthTc10Sleep : Command where
  opcode := 0x0443
  paramLen := 4
  used := [(0, 0, 8)]
  manager := true
  range r := within (r.byte 0) 2 9
  featureBad r s := !s.tc10On (r.byte 0)
  checks r s := [
    ((s.ethOf (r.byte 0)).link != .up, .portState),
    (s.admittedOn (r.byte 0), .portFlowsAdmitted)]
  run r s := .accepted 0 (s.mapEth (r.byte 0) fun x => { x with sleepPending := true, sleepAt := s.now })

/-- ETH_TC10_SLEEP. -/
def execEthTc10Sleep (r : Request) (s : State) : Host.Outcome State Fault Refusal := cmdEthTc10Sleep.step r s

/-- ETH_TC10_WAKE (cmd 0x0444). -/
def cmdEthTc10Wake : Command where
  opcode := 0x0444
  paramLen := 4
  used := [(0, 0, 8)]
  manager := true
  range r := within (r.byte 0) 2 9
  featureBad r s := !s.tc10On (r.byte 0)
  checks r s := [((s.ethOf (r.byte 0)).link != .sleep, .portState)]
  run r s := .done 0 (s.moveLink (r.byte 0) .training 0x06)

/-- ETH_TC10_WAKE. -/
def execEthTc10Wake (r : Request) (s : State) : Host.Outcome State Fault Refusal := cmdEthTc10Wake.step r s

/-- ETH_CABLE_TEST (cmd 0x0445, R283). -/
def cmdEthCableTest : Command where
  opcode := 0x0445
  paramLen := 4
  used := [(0, 0, 8)]
  manager := true
  range r := decide (r.byte 0 < 12)
  checks r s := [
    ((s.ethOf (r.byte 0)).link == .sleep || (s.ethOf (r.byte 0)).link == .furled, .portState),
    (s.admittedOn (r.byte 0), .portFlowsAdmitted)]
  run r s := .accepted 0 (s.moveLink (r.byte 0) .diag 0x09)

/-- ETH_CABLE_TEST. -/
def execEthCableTest (r : Request) (s : State) : Host.Outcome State Fault Refusal := cmdEthCableTest.step r s

/-- Line errors since the last look: nothing fixes how many came (R273, cmd 0x0446). -/
def State.lineErrors (s : State) (p : Nat) : State :=
  let (a, s1) := s.draw
  let (b, s2) := s1.draw
  let (c, s3) := s2.draw
  let (d, s4) := s3.draw
  s4.mapEth p fun x =>
    { x with symbolErrors := satAdd 32 x.symbolErrors a,
             fecCorr := if p < 6 then satAdd 64 x.fecCorr b else x.fecCorr,
             fecUncorr := if p < 6 then satAdd 32 x.fecUncorr c else x.fecUncorr,
             collisions := if 10 ≤ p ∧ ¬ (x.plca ∧ ¬ x.plcaLost) then satAdd 32 x.collisions d else x.collisions }

/-- The record of ETH_PORT_STATS. -/
def EthPort.record (x : EthPort) : Nat :=
  pack [(0, 8, x.framesOk), (8, 4, x.fcsErrors), (12, 4, x.runts), (16, 4, x.oversize), (20, 4, x.symbolErrors),
    (24, 8, x.fecCorr), (32, 4, x.fecUncorr), (36, 4, x.linkDrops), (40, 4, x.downDrops), (44, 4, x.collisions),
    (48, 4, x.beaconsLost), (52, 4, x.tc10Wakes), (56, 8, x.since)]

/-- The counters of a port cleared. -/
def EthPort.cleared (x : EthPort) (now : Nat) : EthPort :=
  { x with framesOk := 0, fcsErrors := 0, runts := 0, oversize := 0, symbolErrors := 0, fecCorr := 0, fecUncorr := 0,
           linkDrops := 0, downDrops := 0, collisions := 0, beaconsLost := 0, tc10Wakes := 0, since := now }

/-- ETH_PORT_STATS (cmd 0x0446). -/
def cmdEthPortStats : Command where
  opcode := 0x0446
  paramLen := 16
  used := [(0, 0, 8), (1, 0, 1), (8, 0, 64)]
  iovas := [8]
  manager := true
  range r := decide (r.byte 0 < 12) && aligned (r.field 8 8) 64
  run r s :=
    let s1 := s.lineErrors (r.byte 0)
    match s1.write r.issuer (r.field 8 8) 64 (s1.ethOf (r.byte 0)).record with
    | (s2, some f) => .fault f s2
    | (s2, none) => .done 0 (if r.bit 1 0 then s2.mapEth (r.byte 0) fun x => x.cleared s.now else s2)

/-- ETH_PORT_STATS. -/
def execEthPortStats (r : Request) (s : State) : Host.Outcome State Fault Refusal := cmdEthPortStats.step r s

/-- ETH_PHY_MMD_READ (cmd 0x0447): IEEE 802.3 defines the value, and this spec states none; free (log entry 16). -/
def cmdEthPhyMmdRead : Command where
  opcode := 0x0447
  paramLen := 4
  used := [(0, 0, 32)]
  manager := true
  range r := decide (r.byte 0 < 12) && (decide (r.byte 1 = 1) || decide (r.byte 1 = 3) || decide (r.byte 1 = 7))
  furled r s := s.furled (unitId 0x0F (r.byte 0))
  run _ s := .done (s.draw.1 % 2 ^ 16) s.draw.2

/-- ETH_PHY_MMD_READ. -/
def execEthPhyMmdRead (r : Request) (s : State) : Host.Outcome State Fault Refusal := cmdEthPhyMmdRead.step r s

/-- ETH_CABLE_RESULT (R269, R283): the test ends, and the port trains or is disabled. -/
def execEthCableResult (port result distance : Nat) (s : State) : Host.Outcome State Fault Refusal :=
  if (s.ethOf port).link = .diag then
    let s1 := s.cableResult port result distance
    if (s.ethOf port).enable then
      .next (s1.mapEth port fun x => { x with link := .training, changed := s.now })
    else .next (s1.moveLink port .disabled 0x08)
  else .next s

/-- LINK_TRAINING_DONE (R269, R270, R359). -/
def execLinkTrainingDone (port : Nat) (s : State) : Host.Outcome State Fault Refusal :=
  if s.computeOn ∧ (s.ethOf port).link = .training then .next ((s.moveLink port .up 0x01).evidence (0x20 + port)) else .next s

/-- LINK_FAILURE (R269, R270): ports 10 and 11 have no link signalling. -/
def execLinkFailure (port : Nat) (s : State) : Host.Outcome State Fault Refusal :=
  if (s.ethOf port).link = .up ∧ port < 10 then .next (s.moveLink port .training 0x02) else .next s

/-- TC10_SLEEP_ACK (R269, R276). -/
def execTc10SleepAck (port : Nat) (s : State) : Host.Outcome State Fault Refusal :=
  if (s.ethOf port).link = .up ∧ (s.ethOf port).sleepPending then .next (s.moveLink port .sleep 0x03) else .next s

/-- TC10_SLEEP_ACK_TIMEOUT (R269, R276): 16 ms without an acknowledge, the link stays UP. -/
def execTc10SleepAckTimeout (port : Nat) (s : State) : Host.Outcome State Fault Refusal :=
  if (s.ethOf port).link = .up ∧ (s.ethOf port).sleepPending ∧ (s.ethOf port).sleepAt + 16000000 ≤ s.now then
    .next (s.moveLink port .up 0x07)
  else .next s

/-- TC10_SLEEP_REQUEST (R269, R279): the partner asks for sleep. -/
def execTc10SleepRequest (port : Nat) (s : State) : Host.Outcome State Fault Refusal :=
  let x := s.ethOf port
  if x.link = .up ∧ s.tc10On port then
    if s.absent then .next (s.mapEth port fun x => { x with requestHeld := true })
    else if x.acceptSleep then .next (s.moveLink port .sleep 0x04)
    else .next (s.raise { unit := unitId 0x0F port, code := 0x0442, detail := pack [(0, 1, port), (1, 1, 0x01)] } [0])
  else .next s

/-- TC10_WAKE_PULSE (R269, R277, R279): a sleeping port trains, and a local sleep still pending is abandoned. -/
def execTc10WakePulse (port : Nat) (s : State) : Host.Outcome State Fault Refusal :=
  let x := s.ethOf port
  let s1 := s.mapEth port fun x => { x with tc10Wakes := satAdd 32 x.tc10Wakes 1 }
  if !s.computeOn then .next s
  else if x.link = .sleep ∨ (x.link = .up ∧ x.sleepPending) then .next (s1.moveLink port .training 0x05)
  else if x.link = .up ∧ s.tc10On port then .next s1
  else .next s

/-- ETH_PLCA_STATE to P0 (R281, R286). -/
def State.plcaEvent (s : State) (p : Nat) : State :=
  let x := s.ethOf p
  s.raise { unit := unitId 0x0F p, code := 0x0443,
            detail := pack [(0, 1, p), (1, 1, flag (x.plca && !x.plcaLost)), (2, 1, x.nodeId), (4, 4, x.beaconsLost)] } [0]

/-- PLCA_BEACON_LOSS (R281): a follower's status is lost, and its medium counts as exceeding its contract. -/
def execPlcaBeaconLoss (port : Nat) (s : State) : Host.Outcome State Fault Refusal :=
  let x := s.ethOf port
  if x.plca ∧ x.nodeId ≠ 0 ∧ ¬ x.plcaLost then
    let s1 := (s.mapEth port fun x => { x with plcaLost := true, beaconsLost := satAdd 32 x.beaconsLost 1 }).plcaEvent port
    if (s.contract (port + 2)).enable then .next (s1.contractExceeded (port + 2) 0x05 0 s.now) else .next s1
  else .next s

/-- PLCA_BEACON_RETURN (R281). -/
def execPlcaBeaconReturn (port : Nat) (s : State) : Host.Outcome State Fault Refusal :=
  if (s.ethOf port).plcaLost then .next ((s.mapEth port fun x => { x with plcaLost := false }).plcaEvent port)
  else .next s

end Sys2Proof.Machine
end

