-- ==== Sys2Proof/Machine/Supply.lean ====
section
/-! DEFINITION. The meanings of the supply commands and events (12): dips, lost feeds, over-voltage, ground, regulators. -/

namespace Sys2Proof.Machine

/-- Whether the power die supervises its supplies: powered, and not in Meadow or Heath (R420). -/
def State.supervising (s : State) : Bool :=
  !s.supply.unpowered && s.boot.phase != .off && (s.sleep.power == .run || s.sleep.power == .idle)

/-- Change the supply state. -/
def State.mapSupply (s : State) (f : SupplyState → SupplyState) : State := { s with supply := f s.supply }

/-- Hold a supply event for Masthead, 16 at most; further ones are counted (R420). -/
def State.holdSupply (s : State) (e : Event) (targets : List Nat) : State :=
  if s.supply.held.length < 16 then
    let x : HeldEvent := { unit := e.unit, code := e.code, severity := e.severity, detail := e.detail, targets := targets }
    s.mapSupply fun y => { y with held := y.held ++ [x] }
  else s.mapSupply fun y => { y with heldLost := y.heldLost + 1 }

/-- Raise a supply event, or hold it until Masthead is there (R411, R420). -/
def State.supplyEvent (s : State) (e : Event) (targets : List Nat) : State :=
  if s.absent || !s.computeOn || s.boot.phase != .run then s.holdSupply e targets else s.raise e targets

/-- The supply events that were held are posted (R404, R420). -/
def State.postSupply (s : State) : State :=
  let s1 := match s.supply.mismatchOwed with
    | some v => (s.mapSupply fun y => { y with mismatchOwed := none }).raise
        { unit := 0, code := 0x0124, severity := 3, detail := pack [(0, 2, v)] }
        (0 :: (span 0 48).map fun n => s.owner kindLoad n)
    | none => s
  (s1.mapSupply fun y => { y with held := [], heldLost := 0 }).each s.supply.held fun s2 x =>
    s2.raise { unit := x.unit, code := x.code, severity := x.severity, detail := x.detail } x.targets

/-- The channels of a feed (R401). -/
def feedChannels (f : Nat) : List Nat := (span 0 48).filter fun n => feedOf n == f

/-- P0 and the owners of the channels that a condition switched off or capped (R422). -/
def State.supplyTargets (s : State) (channels : List Nat) : List Nat := 0 :: channels.map fun n => s.owner kindLoad n

/-- The channels of the marked feeds whose policy in force sheds or caps them. -/
def State.shedding (s : State) (feeds : Nat) : List Nat :=
  (span 0 48).filter fun n => bitOf feeds (feedOf n) && decide ((s.loadOf (lead n)).dipPolicy.kind ≠ 0)

/-- The unit of an event about feeds: VBAT_A's supervisor when both are marked (R422). -/
def feedsUnit (feeds : Nat) : Nat := unitId 0x1A (if feeds = 2 then 1 else 0)

/-- When a level was crossed: DIP_FILTER_US before it is declared (R403, R406). DESIGN CHOICE (log entry 25). -/
def State.crossedAt (s : State) : Nat := s.now - 1000 * s.supply.filterUs

/-- A voltage takes part in the extremes of SUPPLY_QUERY (R405). -/
def State.sampleFeed (s : State) (mv : Nat) : State :=
  s.mapSupply fun y => { y with min10 := min y.min10 (mv / 10), max10 := max y.max10 (mv / 10) }

/-- SUPPLY_CONFIG (cmd 0x0120, R403). -/
def cmdSupplyConfig : Command where
  opcode := 0x0120
  paramLen := 8
  used := [(0, 0, 48)]
  manager := true
  range r := within (r.field 4 2) 10 1000
  checks r s :=
    let ok (w : Nat) : Bool := aligned w 10 && (if s.supply.profile48 then within w 2400 3600 else within w 550 800)
    [(!ok (r.field 0 2) || !ok (r.field 2 2), .badParam)]
  run r s :=
    let s1 := (s.mapFeed 0 fun x => { x with warn := r.field 0 2 }).mapFeed 1 fun x => { x with warn := r.field 2 2 }
    .done s.now (s1.mapSupply fun y => { y with filterUs := r.field 4 2 })

/-- SUPPLY_CONFIG. -/
def execSupplyConfig (r : Request) (s : State) : Host.Outcome State Fault Refusal := cmdSupplyConfig.step r s

/-- STATE of SUPPLY_QUERY. -/
def SupplyState.stateByte (y : SupplyState) : Nat :=
  flag y.feedA.inDip + 2 * flag y.feedB.inDip + 4 * flag y.feedA.lost + 8 * flag y.feedB.lost +
  16 * flag (y.feedA.logged || y.feedB.logged) + 32 * flag y.shutdown + 64 * flag y.groundLost + 128 * flag y.mismatch

/-- SUPPLY_QUERY (cmd 0x0121, R405). The voltages, currents and ground offset are measurements that nothing fixes; an unseen
sample may have moved the extremes as well. -/
def cmdSupplyQuery : Command where
  opcode := 0x0121
  fast := true
  paramLen := 4
  used := [(0, 0, 1)]
  range r := !r.bit 0 0 || decide (r.issuer = 0)
  run r s :=
    let (a, s1) := s.draw
    let (b, s2) := s1.draw
    let (low, s3) := s2.draw
    let (high, s4) := s3.draw
    let (ia, s5) := s4.draw
    let (ib, s6) := s5.draw
    let (g, s7) := s6.draw
    let va := a % 2 ^ 16
    let vb := b % 2 ^ 16
    let s8 := [va, vb, low % 2 ^ 16, high % 2 ^ 16].foldl (fun t v => t.sampleFeed (10 * v)) s7
    let y := s8.supply
    .done (pack [(0, 2, va), (2, 2, vb), (4, 2, ia), (6, 2, ib), (8, 2, y.min10), (10, 2, y.max10), (12, 1, y.stateByte),
        (13, 1, if y.profile48 then 0x30 else 0x0C), (14, 2, y.dips), (16, 2, g)])
      (if r.bit 0 0 then s8.mapSupply fun y => { y with min10 := 0xFFFF, max10 := 0, dips := 0 } else s8)

/-- SUPPLY_QUERY. -/
def execSupplyQuery (r : Request) (s : State) : Host.Outcome State Fault Refusal := cmdSupplyQuery.step r s

/-- LOAD_DIP_SET (cmd 0x070B, R407, R408). -/
def cmdLoadDipSet : Command where
  opcode := 0x070B
  paramLen := 8
  used := [(0, 0, 44)]
  feature := some .loadChannelControl
  featureBad r s := !s.has r.issuer .dipShedPolicy
  owns r s := decide (s.owner kindLoad (r.field 0 2) = r.issuer)
  range r := decide (r.field 0 2 < 48) && decide (r.byte 2 ≤ 3)
  furled r s := s.loadFurled (r.field 0 2)
  checks r _ := [(oddLeg (r.field 0 2), .bridgePair)]
  run r s :=
    let p : DipPolicy := { kind := r.byte 2, restoreMs := r.byte 3, cap := r.field 4 2 }
    .done 0 ((s.mapLoad (r.field 0 2) fun c => { c with policy := p }).redrive (r.field 0 2))

/-- LOAD_DIP_SET. -/
def execLoadDipSet (r : Request) (s : State) : Host.Outcome State Fault Refusal := cmdLoadDipSet.step r s

/-- A channel as a dip of its feed begins: the policy it follows is the present one (R407). -/
def LoadChannel.beginDip (c : LoadChannel) : LoadChannel :=
  let sheds := decide (c.policy.kind = 1 ∨ c.policy.kind = 2) && c.shed != .untilItem
  { c with dipPolicy := c.policy, shed := if sheds then .dip else c.shed }

/-- A channel as a dip of its feed ends (R407). -/
def LoadChannel.endDip (c : LoadChannel) (now : Nat) : LoadChannel :=
  if c.shed = .dip then
    { c with shed := if c.dipPolicy.kind = 1 then .restore (now + 1000000 * c.dipPolicy.restoreMs) else .untilItem }
  else c

/-- Change the channels of a feed and let their outputs follow; a cap applies at once (R409). -/
def State.refeed (s : State) (f : Nat) (g : LoadChannel → LoadChannel) : State :=
  let l := feedChannels f
  let s1 := s.each l fun s2 n => s2.mapLoad n g
  s1.each (l.filter fun n => decide (lead n = n)) fun s2 n =>
    (s2.mapLoad n fun c => if s2.dutyCapped n then { c with appDuty := min c.appDuty (s2.dutyNow n) } else c).redrive n

/-- Mark a dip in the chain of overlapping dips (R406). -/
def State.joinChain (s : State) (f mv : Nat) : State :=
  let c : DipChain := match s.supply.chain with
    | some c => { c with feeds := c.feeds ||| 2 ^ f, min10 := min c.min10 (mv / 10) }
    | none => { feeds := 2 ^ f, start := s.crossedAt, min10 := mv / 10 }
  s.mapSupply fun y => { y with chain := some c }

/-- SUPPLY_DIP (R422). -/
def dipEvent (feeds kind min10 us at_ : Nat) : Event :=
  { unit := feedsUnit feeds, code := 0x0120, severity := 2,
    detail := pack [(0, 1, feeds), (1, 1, kind), (2, 2, min10), (4, 4, us), (8, 8, at_)] }

/-- SUPPLY_DIP_START (R403, R406, R418): a feed has been below its warning level, within ±2 %, for the filter time. -/
def execSupplyDipStart (feed mv : Nat) (s : State) : Host.Outcome State Fault Refusal :=
  if !s.supervising || decide (1 < feed) || (s.feed feed).inDip || s.furled (unitId 0x1A feed) ||
      decide ((s.feed feed).warn * 10 * 102 ≤ 100 * mv) then .next s
  else
    let s1 := (s.mapFeed feed fun x => { x with inDip := true, dipAt := s.crossedAt }).mapSupply fun y =>
      { y with dips := satAdd 16 y.dips 1 }
    let s2 := ((s1.sampleFeed mv).joinChain feed mv).refeed feed LoadChannel.beginDip
    .next (s2.unitEvent (unitId 0x1A feed) 0x06)

/-- The warning recovery level of a feed in 10 mV (R403). -/
def State.recoveryLevel (s : State) (f : Nat) : Nat := (s.feed f).warn + (if s.supply.profile48 then 200 else 50)

/-- SUPPLY_DIP_END (R406, R407, R410): a feed has risen above its recovery level; `lowest` is the lowest voltage it reached. -/
def execSupplyDipEnd (feed lowest : Nat) (s : State) : Host.Outcome State Fault Refusal :=
  if !s.supervising || decide (1 < feed) || !(s.feed feed).inDip then .next s
  else
    let s1 := (s.mapFeed feed fun x => { x with inDip := false, lost := false }).mapSupply fun y =>
      { y with conditionAt := s.now, chain := y.chain.map fun c => { c with min10 := min c.min10 (lowest / 10) } }
    let s2 := (s1.sampleFeed lowest).refeed feed fun c => c.endDip s.now
    if (s2.feed (1 - feed)).inDip then .next s2
    else
      match s2.supply.chain with
      | some c =>
        .next ((s2.mapSupply fun y => { y with chain := none }).supplyEvent
          (dipEvent c.feeds 1 c.min10 ((s.crossedAt - c.start) / 1000) c.start)
          (s2.supplyTargets (s2.shedding c.feeds)))
      | none => .next s2

/-- SHED_RESTORE_DELAY (R407): RESTORE_DELAY_MS after a dip, a channel follows its LOAD_SET again. -/
def execShedRestoreDelay (channel : Nat) (s : State) : Host.Outcome State Fault Refusal :=
  match (s.loadOf channel).shed with
  | .restore t =>
    if channel < 48 ∧ t ≤ s.now ∧ s.supervising then
      .next ((s.mapLoad channel fun c => { c with shed := .none }).redrive channel)
    else .next s
  | _ => .next s

/-- SUPPLY_FEED_LOST (R410, R418): a feed in a dip falls below 4.5 V ±0.1 V while the other holds VLOGIC up. -/
def execSupplyFeedLost (feed mv : Nat) (s : State) : Host.Outcome State Fault Refusal :=
  let x := s.feed feed
  if !s.supervising || decide (1 < feed) || !x.inDip || x.lost || (s.feed (1 - feed)).lost || s.supply.vlogicLow ||
      s.furled (unitId 0x1A feed) || decide (4600 ≤ mv) then .next s
  else
    let s1 := ((s.mapFeed feed fun x => { x with lost := true }).sampleFeed mv).joinChain feed mv
    let s2 := s1.refeed feed fun c => { c with shed := .untilItem }
    .next ((s2.supplyEvent (dipEvent (2 ^ feed) 2 (mv / 10) 0 x.dipAt) (s2.supplyTargets (feedChannels feed))).unitEvent
      (unitId 0x1A feed) 0x06)

/-- VLOGIC_LOW (R392, R411): both feeds are below 4.5 V ±0.1 V; the compute die is held in reset. A dip in progress is recorded as one
that ended in a reset, to be raised once Masthead is ready; its duration runs to the reset: DESIGN CHOICE (log entry 25). -/
def execVlogicLow (mv : Nat) (s : State) : Host.Outcome State Fault Refusal :=
  if s.supply.unpowered || s.boot.phase == .off || s.supply.vlogicLow || decide (4600 ≤ mv) then .next s
  else
    let s1 := match s.supply.chain with
      | some c =>
        (s.mapSupply fun y => { y with chain := none }).holdSupply
          (dipEvent c.feeds 3 (min c.min10 (mv / 10)) ((s.now - 10000 - c.start) / 1000) c.start)
          (s.supplyTargets (s.shedding c.feeds))
      | none => s
    .next (((s1.sampleFeed mv).mapSupply fun y => { y with vlogicLow := true }).computeReset 1 true)

/-- VLOGIC_RESET_RELEASE (R411): VLOGIC above 4.8 V lets the compute die start again. -/
def execVlogicResetRelease (s : State) : Host.Outcome State Fault Refusal :=
  if s.supply.vlogicLow && !s.supply.unpowered then
    let s1 := s.mapSupply fun y => { y with vlogicLow := false }
    .next (if s1.boot.phase = .held then
        { s1 with boot := { s1.boot with phase := .released }
                  cpu := { s1.cpu with masthead := { s1.cpu.masthead with releasedAt := s.now } } }
      else s1)
  else .next s

/-- POWER_DIE_LOGIC_LOSS (R411): below 3.5 V every output turns off, and the next rise is a power-up. -/
def execPowerDieLogicLoss (s : State) : Host.Outcome State Fault Refusal :=
  if s.supply.unpowered then .next s
  else
    let s1 := s.mapSupply fun y => { y with unpowered := true, vlogicLow := true }
    .next ({ s1 with boot := { s1.boot with phase := .off } } : State).redriveAll

/-- The over-voltage logged and the shutdown level in mV, the latter at the low end of its ±1.0 V (R403). -/
def SupplyState.highLevels (y : SupplyState) : Nat × Nat := if y.profile48 then (54000, 59000) else (18000, 36000)

/-- OVER_VOLTAGE_LOGGED (R403, R412): a feed rises above the logged level. -/
def execOverVoltageLogged (feed mv : Nat) (s : State) : Host.Outcome State Fault Refusal :=
  if !s.supervising || decide (1 < feed) || (s.feed feed).logged || decide (mv ≤ s.supply.highLevels.1) then .next s
  else
    .next ((s.mapFeed feed fun x => { x with logged := true, loggedAt := s.crossedAt, loggedMax := mv }).sampleFeed mv)

/-- SUPPLY_OVERVOLTAGE (R422). -/
def overEvent (feeds kind max10 us at_ : Nat) : Event :=
  { unit := feedsUnit feeds, code := 0x0121, severity := 2,
    detail := pack [(0, 1, feeds), (1, 1, kind), (2, 2, max10), (4, 4, us), (8, 8, at_)] }

/-- SUPPLY_OVERVOLTAGE (R412): a feed has fallen back below the logged level; `highest` is the highest voltage it reached. -/
def execSupplyOvervoltage (feed highest : Nat) (s : State) : Host.Outcome State Fault Refusal :=
  let x := s.feed feed
  if !s.supervising || decide (1 < feed) || !x.logged then .next s
  else
    let top := max x.loggedMax highest
    let s1 := (s.mapFeed feed fun x => { x with logged := false, loggedAt := 0, loggedMax := 0 }).sampleFeed top
    .next (s1.supplyEvent (overEvent (2 ^ feed) 1 (top / 10) ((s.crossedAt - x.loggedAt) / 1000) x.loggedAt) [0])

/-- HIGH_VOLTAGE_SHUTDOWN (R413): a feed exceeds the shutdown level; every channel goes off, and the 12 V profile raises its
clamps. -/
def execHighVoltageShutdown (feed mv : Nat) (s : State) : Host.Outcome State Fault Refusal :=
  if !s.supervising || decide (1 < feed) || (s.feed feed).above || decide (mv ≤ s.supply.highLevels.2) then .next s
  else
    let y := s.supply
    let s1 := ((s.mapFeed feed fun x => { x with above := true }).sampleFeed mv).mapSupply fun z =>
      { z with shutdown := true, shutdownAt := if y.shutdown then y.shutdownAt else s.crossedAt,
               shutdownMax := if y.shutdown then max y.shutdownMax mv else mv,
               shutFeeds := if y.shutdown then y.shutFeeds ||| 2 ^ feed else 2 ^ feed,
               clampRaised := !y.profile48 }
    .next s1.redriveAll

/-- HIGH_VOLTAGE_RELEASE (R413): 10 ms after every feed that exceeded the shutdown level fell below the release level. -/
def execHighVoltageRelease (s : State) : Host.Outcome State Fault Refusal :=
  let y := s.supply
  if !s.supervising || !y.shutdown then .next s
  else
    let s1 := (s.mapFeed 0 fun x => { x with above := false }).mapFeed 1 fun x => { x with above := false }
    let s2 := s1.mapSupply fun z => { z with shutdown := false, clampRaised := false, conditionAt := s.now }
    let s3 := s2.each (span 0 48) fun t n => t.mapLoad n fun c =>
      if c.policy.kind = 2 ∨ (s.feed (feedOf n)).lost then { c with shed := .untilItem } else c
    let us := (s.crossedAt - 10000000 - y.shutdownAt) / 1000
    .next (s3.redriveAll.supplyEvent (overEvent y.shutFeeds 2 (y.shutdownMax / 10) us y.shutdownAt)
      (s3.supplyTargets (span 0 48)))

/-- GROUND_LOSS (R422). -/
def groundEvent (blades lost mv us at_ : Nat) : Event :=
  { unit := unitId 0x1A 2, code := 0x0122, severity := if lost = 1 then 3 else 2,
    detail := pack [(0, 1, blades % 4), (1, 1, lost), (2, 2, mv), (4, 4, us), (8, 8, at_)] }

/-- GROUND_LOSS (R415, R418): the ground rail is more than 0.8 V above a monitored blade for 2 µs. -/
def execGroundLoss (blades : Nat) (offsetMv : Int) (s : State) : Host.Outcome State Fault Refusal :=
  if !s.supervising || s.supply.groundLost || s.furled (unitId 0x1A 2) || decide (blades % 4 = 0) ||
      decide (offsetMv ≤ 800) then .next s
  else
    let mv := offsetMv.toNat
    let s1 := s.mapSupply fun y => { y with groundLost := true, groundAt := s.now - 2000, groundMask := blades % 4, groundMax := mv }
    let s2 := s1.redriveAll
    .next ((s2.supplyEvent (groundEvent blades 1 mv 0 (s.now - 2000)) (s2.supplyTargets (span 0 48))).unitEvent
      (unitId 0x1A 2) 0x06)

/-- GROUND_RESTORED (R416): the offset has stayed below 0.4 V for 1 ms; `largest` is the largest offset reached. -/
def execGroundRestored (largest : Nat) (s : State) : Host.Outcome State Fault Refusal :=
  let y := s.supply
  if !s.supervising || !y.groundLost then .next s
  else
    let s1 := s.mapSupply fun z => { z with groundLost := false, conditionAt := s.now }
    let s2 := (s1.each (span 0 48) fun t n => t.mapLoad n fun c => { c with shed := .untilItem }).redriveAll
    .next (s2.supplyEvent (groundEvent y.groundMask 0 (max y.groundMax largest) ((s.now - 1000000 - y.groundAt) / 1000) s.now)
      (s2.supplyTargets (span 0 48)))

/-- The window of a rail in mV (R417): VCORE tracks its DVFS steps and has no fixed one. -/
def railWindow : Nat → Option (Nat × Nat)
  | 0 => some (4750, 5250) | 1 => some (3135, 3465) | 3 => some (1710, 1890) | 4 => some (1008, 1092)
  | 5 => some (475, 525) | 6 => some (1710, 1890) | _ => none

/-- SUPPLY_REGULATOR (R417, R418): a rail has been outside its window for 2 µs. PD_VCC below its power-on-reset level turns
every output off as well. -/
def execSupplyRegulator (rail mv : Nat) (above : Bool) (s : State) : Host.Outcome State Fault Refusal :=
  let outside_ := match railWindow rail with
    | some (low, high) => if above then decide (high < mv) else decide (mv < low)
    | none => decide (rail = 2)
  if !s.supervising || !outside_ || s.furled (unitId 0x1A 3) then .next s
  else
    let s1 := if rail = 1 ∧ mv < 2900 then s.turnAllOff else s
    .next ((s1.supplyEvent
      { unit := unitId 0x1A 3, code := 0x0123, severity := 2,
        detail := pack [(0, 1, rail), (1, 1, if above then 2 else 1), (2, 2, mv), (8, 8, s.now)] } [0]).unitEvent
      (unitId 0x1A 3) 0x06)

end Sys2Proof.Machine
end

