-- ==== Sys2Proof/Machine/SwitchCommands.lean ====
section
/-! DEFINITION. The meanings of the switch core's commands (06). -/

namespace Sys2Proof.Machine

/-- Whether a port number's unit is furled (R89 item 10). -/
def switchFurled (r : Request) (s : State) : Bool := s.furled (unitId 0x0C (r.byte 0))

/-- SWITCH_PORT_CONFIG (cmd 0x0401). -/
def cmdSwitchPortConfig : Command where
  opcode := 0x0401
  paramLen := 16
  used := [(0, 0, 8), (1, 0, 5), (2, 0, 80)]
  manager := true
  shape r := !(within (r.byte 0) 12 14 && r.bit 1 1)
  range r := decide (r.byte 0 ≤ 14) && decide (r.field 2 2 ≤ 4094) && decide (r.byte 7 ≤ 7) &&
    (decide (r.byte 0 ≠ 0) || within (r.field 8 4) 10 1000000)
  furled := switchFurled
  run r s :=
    let s1 := s.mapSw (r.byte 0) fun x =>
      { x with enable := r.bit 1 0, learn := r.bit 1 1, unprotGptp := r.bit 1 2, omitSci := r.bit 1 3, stripRtag := r.bit 1 4,
               pvid := r.field 2 2, pcpMap := r.field 4 3, defaultPcp := r.byte 7 }
    .done 0 (if r.byte 0 = 0 then s1.mapSwitch fun w => { w with ageS := r.field 8 4 } else s1)

/-- SWITCH_PORT_CONFIG. -/
def execSwitchPortConfig (r : Request) (s : State) : Host.Outcome State Fault Refusal := cmdSwitchPortConfig.step r s

/-- SWITCH_VLAN_SET (cmd 0x0402). -/
def cmdSwitchVlanSet : Command where
  opcode := 0x0402
  paramLen := 8
  used := [(0, 0, 31), (4, 0, 16)]
  manager := true
  range r := within (r.field 0 2) 1 4094
  run r s := .done 0 (s.mapSwitch fun w =>
    { w with vlans := Table.put {} w.vlans (r.field 0 2) { member := r.field 2 2, untag := r.field 4 2 } })

/-- SWITCH_VLAN_SET. -/
def execSwitchVlanSet (r : Request) (s : State) : Host.Outcome State Fault Refusal := cmdSwitchVlanSet.step r s

/-- Whether the set of an address has room for a static entry (R220). -/
def State.macRoom (s : State) (vid addr : Nat) : Bool :=
  (s.sw.macs.any fun m => m.vid == vid && m.addr == addr) ||
  decide (((s.macSetOf vid addr).filter fun m => m.fixed).length < 4)

/-- Write a static entry; in a full set the oldest learned entry gives way (R220). -/
def State.putStatic (s : State) (e : MacEntry) : State :=
  let s1 := s.mapSwitch fun w => { w with macs := w.macs.filter fun m => !(m.vid == e.vid && m.addr == e.addr) }
  let set := s1.macSetOf e.vid e.addr
  let oldest := match set.filter fun m => !m.fixed with
    | [] => none
    | a :: rest => some (rest.foldl (fun b m => if m.seenAt < b.seenAt then m else b) a)
  s1.mapSwitch fun w =>
    { w with macs := e :: w.macs.filter fun m => !(decide (4 ≤ set.length) && some m == oldest) }

/-- SWITCH_MAC_SET (cmd 0x0403). -/
def cmdSwitchMacSet : Command where
  opcode := 0x0403
  paramLen := 16
  used := [(0, 0, 96)]
  manager := true
  range r :=
    let group := r.bit 0 0
    within (r.field 6 2) 1 4094 && decide (r.byte 8 ≤ 2) &&
    (decide (r.byte 8 ≠ 1) || (!group && (decide (r.byte 9 ≤ 14) || within (r.byte 9) 16 143))) &&
    (decide (r.byte 8 ≠ 2) || (group && decide (r.field 10 2 < 2 ^ 15)))
  checks r s := [
    (decide (r.byte 8 = 1) && decide (16 ≤ r.byte 9) && decide ((s.endpointOf (r.byte 9 - 16)).port = 0), .badParam),
    (decide (r.byte 8 ≠ 0) && !s.macRoom (r.field 6 2) (r.field 0 6), .noResource)]
  run r s :=
    let target : MacTarget :=
      if r.byte 8 = 2 then .mask (r.field 10 2) else if r.byte 9 < 16 then .port (r.byte 9) else .endpoint (r.byte 9 - 16)
    .done 0 (if r.byte 8 = 0 then s.mapSwitch fun w => { w with macs := w.macs.filter fun m =>
        !(m.vid == r.field 6 2 && m.addr == r.field 0 6 && m.fixed && !m.endpointOwn) }
      else s.putStatic { vid := r.field 6 2, addr := r.field 0 6, fixed := true, endpointOwn := false, target := target, seenAt := s.now })

/-- SWITCH_MAC_SET. -/
def execSwitchMacSet (r : Request) (s : State) : Host.Outcome State Fault Refusal := cmdSwitchMacSet.step r s

/-- The VIDs of a SWITCH_ENDPOINT_SET. -/
def vidList (r : Request) : List Nat := ((span 0 8).map fun k => r.field (16 + 2 * k) 2).filter fun v => v != 0

/-- An endpoint as it is without an owner: its entries, queues and frames gone, the frames counted (R222, R257). -/
def State.clearEndpoint (s : State) (e : Nat) : State :=
  let x := s.endpointOf e
  let own := s.sw.queue.filter fun q => q.endpoint == some e
  let s1 := s.each own fun s1 q => (s1.removeFrame q).countDrop x.partition
  let s2 := s1.each (x.txQueue ++ x.rxQueue) fun s2 q => s2.mapQueue (q.2 - 1) fun d => { d with attach := .none }
  (s2.mapSwitch fun w => { w with macs := w.macs.filter fun m => !(m.endpointOwn && m.target == .endpoint e) }).mapEndpoint e fun _ => {}

/-- SWITCH_ENDPOINT_SET (cmd 0x0404). -/
def cmdSwitchEndpointSet : Command where
  opcode := 0x0404
  paramLen := 32
  used := [(0, 0, 24), (3, 0, 1), (4, 0, 48), (16, 0, 128)]
  manager := true
  range r := decide (r.byte 0 < 128) && (decide (r.byte 1 = 0) ||
    (within (r.byte 1) 12 14 && decide (r.byte 2 < 64) && !r.bit 4 0 && (vidList r).all (fun v => decide (v ≤ 4094)) &&
      (!r.bit 3 0 || decide (r.byte 2 = 0))))
  checks r s :=
    let e := r.byte 0
    let s1 := s.clearEndpoint e
    let fits := ((vidList r).foldl (fun (acc : State × Bool) v =>
      (acc.1.putStatic { vid := v, addr := r.field 4 6, fixed := true, endpointOwn := true, target := .endpoint e, seenAt := s.now },
        acc.2 && acc.1.macRoom v (r.field 4 6))) (s1, true)).2
    [(decide (r.byte 1 ≠ 0) && (span 0 128).any (fun k => k != e && decide ((s.endpointOf k).port ≠ 0) &&
        decide ((s.endpointOf k).addr = r.field 4 6)), .endpointConflict),
     (decide (r.byte 1 = 14) && decide (r.byte 2 ≠ 0), .endpointConflict),
     (decide (r.byte 1 ≠ 0) && !fits, .noResource)]
  run r s :=
    let e := r.byte 0
    let s1 := s.clearEndpoint e
    if r.byte 1 = 0 then .done 0 s1
    else
      let s2 := if r.bit 3 0 then s1.each (span 0 128) fun s3 k => s3.mapEndpoint k fun x => { x with trap := false } else s1
      let s3 := s2.mapEndpoint e fun x =>
        { x with port := r.byte 1, partition := r.byte 2, addr := r.field 4 6, vids := vidList r, trap := r.bit 3 0 }
      .done 0 (s3.each (vidList r) fun s4 v =>
        s4.putStatic { vid := v, addr := r.field 4 6, fixed := true, endpointOwn := true, target := .endpoint e, seenAt := s.now })

/-- SWITCH_ENDPOINT_SET. -/
def execSwitchEndpointSet (r : Request) (s : State) : Host.Outcome State Fault Refusal := cmdSwitchEndpointSet.step r s

/-- SWITCH_ENDPOINT_ATTACH (cmd 0x0405). -/
def cmdSwitchEndpointAttach : Command where
  opcode := 0x0405
  paramLen := 8
  used := [(0, 0, 24), (4, 0, 16)]
  range r := decide (r.byte 0 < 128) && decide (r.byte 1 < 8) && decide (r.byte 2 ≤ 1) &&
    (decide (r.field 4 2 < 1024) || decide (r.field 4 2 = 0xFFFF))
  owns r s := decide ((s.endpointOf (r.byte 0)).port ≠ 0) && decide ((s.endpointOf (r.byte 0)).partition = r.issuer) &&
    (decide (1024 ≤ r.field 4 2) || decide (s.owner kindQueue (r.field 4 2) = r.issuer))
  checks r s :=
    let want : Attach := if r.byte 2 = 0 then .endpointTx (r.byte 0) (r.byte 1) else .endpointRx (r.byte 0) (r.byte 1)
    let a := (s.queueOf (r.field 4 2)).attach
    [(decide (r.field 4 2 ≠ 0xFFFF) && a != .none && a != want, .endpointConflict)]
  run r s :=
    let e := r.byte 0
    let c := r.byte 1
    let x := s.endpointOf e
    let old := Table.get 0 (if r.byte 2 = 0 then x.txQueue else x.rxQueue) c
    let s1 := if old = 0 then s else s.mapQueue (old - 1) fun d => { d with attach := .none }
    let v := if r.field 4 2 = 0xFFFF then 0 else r.field 4 2 + 1
    let s2 := s1.mapEndpoint e fun x =>
      if r.byte 2 = 0 then { x with txQueue := Table.put 0 x.txQueue c v } else { x with rxQueue := Table.put 0 x.rxQueue c v }
    .done 0 (if v = 0 then s2 else s2.mapQueue (v - 1) fun d =>
      { d with attach := if r.byte 2 = 0 then .endpointTx e c else .endpointRx e c })

/-- SWITCH_ENDPOINT_ATTACH. -/
def execSwitchEndpointAttach (r : Request) (s : State) : Host.Outcome State Fault Refusal := cmdSwitchEndpointAttach.step r s

/-- Cells that an account's admitted flows have reserved (R229). -/
def State.reservation (s : State) (a : Nat) : Nat := reservedCells s.reserved a

/-- SWITCH_QUOTA_SET (cmd 0x0406). -/
def cmdSwitchQuotaSet : Command where
  opcode := 0x0406
  paramLen := 4
  used := [(0, 0, 8), (2, 0, 16)]
  manager := true
  range r := decide (r.byte 0 < 76)
  checks r s :=
    let sum := s.quotas - (s.accountOf (r.byte 0)).quota + r.field 2 2
    [(decide (16384 - s.sw.withdrawn < sum) || decide (r.field 2 2 < s.reservation (r.byte 0)), .quotaConflict)]
  run r s :=
    let s1 := s.mapAccount (r.byte 0) fun a => { a with quota := r.field 2 2 }
    .done s1.unassigned s1

/-- SWITCH_QUOTA_SET. -/
def execSwitchQuotaSet (r : Request) (s : State) : Host.Outcome State Fault Refusal := cmdSwitchQuotaSet.step r s

/-- SWITCH_ACCOUNT_QUERY (cmd 0x0407). -/
def cmdSwitchAccountQuery : Command where
  opcode := 0x0407
  fast := true
  paramLen := 4
  used := [(0, 0, 8), (1, 0, 1)]
  range r := decide (r.byte 0 < 76)
  owns r _ := decide (r.issuer = 0) || decide (r.byte 0 = r.issuer)
  run r s :=
    let a := s.accountOf (r.byte 0)
    .done (pack [(0, 2, a.quota), (2, 2, s.reservation (r.byte 0)), (4, 2, a.occupancy), (6, 2, a.peak), (8, 4, a.drops),
        (12, 4, a.frozenDrops), (16, 8, a.since)])
      (if r.bit 1 0 then s.mapAccount (r.byte 0) fun a =>
          { a with peak := a.occupancy, drops := 0, frozenDrops := 0, since := s.now }
       else s)

/-- SWITCH_ACCOUNT_QUERY. -/
def execSwitchAccountQuery (r : Request) (s : State) : Host.Outcome State Fault Refusal := cmdSwitchAccountQuery.step r s

/-- The entries of a gate list from the bytes of its buffer. -/
def gateEntries (n w : Nat) : List GateEntry :=
  (span 0 n).map fun k => { interval := byteField w (8 * k) 4, mask := byteField w (8 * k + 4) 1 }

/-- Whether the bytes of a gate list are in order (R239): reserved bytes zero, intervals in range, their sum the cycle. -/
def gatesOk (n w cycle : Nat) : Bool :=
  let l := gateEntries n w
  (span 0 n).all (fun k => decide (byteField w (8 * k + 5) 3 = 0)) && l.all (fun e => within e.interval 64 1000000000) &&
  decide ((l.map (·.interval)).foldl (· + ·) 0 = cycle) && decide (cycle ≤ 1000000000)

/-- The instant at which a new list takes effect (R241); `none` where BASE_TIME does not fit the running list. -/
def State.gateInstant (s : State) (p base cycle : Nat) : Option Nat :=
  match (s.swOf p).gates with
  | some l =>
    if l.base ≤ base ∧ (base - l.base) % max 1 l.cycle = 0 ∧ s.now + 1000000 ≤ base ∧ base ≤ s.now + 10000000000 then some base
    else none
  | none => if cycle = 0 then some base else some (base + ceilTo cycle (s.now + 1000000 - base))

/-- The reserved flows in gated classes of a port. -/
def State.gatedFlows (s : State) (p : Nat) : Nat :=
  (s.reserved.filter fun g => g.2.decl.path.any fun r => r.type == rEgress && r.inst == p && s.gated p r.qual).length

/-- SWITCH_GATE_SET (cmd 0x0408, R239, R241). -/
def cmdSwitchGateSet : Command where
  opcode := 0x0408
  paramLen := 24
  used := [(0, 0, 8), (2, 0, 176)]
  iovas := [16]
  manager := true
  range r := decide (r.byte 0 ≤ 14) && decide (r.field 2 2 ≤ 256) && aligned (r.field 16 8) 8 && decide (r.field 4 4 ≤ 1000000000)
  furled := switchFurled
  run r s :=
    let p := r.byte 0
    let n := r.field 2 2
    match s.read 0 (r.field 16 8) (8 * n) with
    | (s1, .error f) => .fault f s1
    | (s1, .ok w) =>
      if !gatesOk n w (r.field 4 4) then .no .badParam
      else
        match s1.gateInstant p (r.field 8 8) (r.field 4 4) with
        | none => .no .badParam
        | some t =>
          let l : Option GateList := if n = 0 then none else some { entries := gateEntries n w, cycle := r.field 4 4, base := t }
          let s2 := s1.mapSw p fun x => { x with nextList := some l, nextAt := t }
          let s3 := if n = 0 ∧ (s.swOf p).gates = none then s1.mapSw p fun x => { x with nextList := none } else s2
          if !s3.promisesHold then .no .scheduleConflict
          else .done (pack [(0, 8, t), (8, 2, s3.gatedFlows p)]) s3.recompute

/-- SWITCH_GATE_SET. -/
def execSwitchGateSet (r : Request) (s : State) : Host.Outcome State Fault Refusal := cmdSwitchGateSet.step r s

/-- The rate that reserved flows hold on an egress port in bit/ns. -/
def State.egressReserved (s : State) (p : Nat) : Rat :=
  (s.reserved.filterMap fun g => (g.2.decl.path.find? fun r => r.type == rEgress && r.inst == p).map fun r =>
    s.rate g.2.decl r).foldl (· + ·) 0

/-- SWITCH_SHAPER_SET (cmd 0x0409, R242). -/
def cmdSwitchShaperSet : Command where
  opcode := 0x0409
  paramLen := 8
  used := [(0, 0, 16), (4, 0, 32)]
  manager := true
  range r := decide (r.byte 0 ≤ 14) && decide (r.byte 1 < 8) && decide (r.field 4 4 ≤ (portFigures (r.byte 0)).mbps * 1000)
  furled := switchFurled
  checks r s :=
    let p := r.byte 0
    let sum : Nat := ((Table.put 0 (s.swOf p).slopes (r.byte 1) (r.field 4 4)).map (·.2)).foldl (· + ·) 0
    [(decide (r.field 4 4 ≠ 0) && decide (mkRat 9 10 * portRate p - s.egressReserved p < mkRat sum 1000000), .scheduleConflict)]
  run r s :=
    .done 0 (s.mapSw (r.byte 0) fun x =>
      { x with slopes := Table.put 0 x.slopes (r.byte 1) (r.field 4 4), credits := Table.put 0 x.credits (r.byte 1) 0,
               creditAt := Table.put 0 x.creditAt (r.byte 1) s.now })

/-- SWITCH_SHAPER_SET. -/
def execSwitchShaperSet (r : Request) (s : State) : Host.Outcome State Fault Refusal := cmdSwitchShaperSet.step r s

/-- SWITCH_PREEMPT_SET (cmd 0x040A, R243, R244). -/
def cmdSwitchPreemptSet : Command where
  opcode := 0x040A
  paramLen := 4
  used := [(0, 0, 16), (2, 0, 2), (2, 7, 1), (3, 0, 8)]
  manager := true
  range r := decide (r.byte 0 < 10) && (within (r.byte 3) 1 128 || (decide (r.byte 3 = 0) && !r.bit 2 7))
  furled := switchFurled
  run r s :=
    let s1 := s.mapSw (r.byte 0) fun x =>
      { x with preempt := r.bit 2 7, express := r.byte 1, addFrag := r.bits 2 1 0, verifyMs := r.byte 3,
               preActive := x.preActive && r.bit 2 7, macHeld := x.macHeld && r.bit 2 7 }
    if !s1.promisesHold then .no .scheduleConflict else .done 0 s1.recompute

/-- SWITCH_PREEMPT_SET. -/
def execSwitchPreemptSet (r : Request) (s : State) : Host.Outcome State Fault Refusal := cmdSwitchPreemptSet.step r s

/-- Whether a filter carries flows, ADMITTED or HELD (R250). -/
def State.filterCarries (s : State) (n : Nat) : Bool :=
  s.reserved.any fun g => g.2.decl.path.any fun r => r.type == rStream && r.inst == n

/-- SWITCH_STREAM_SET (cmd 0x040B, R249, R250). -/
def cmdSwitchStreamSet : Command where
  opcode := 0x040B
  paramLen := 32
  used := [(0, 0, 104), (14, 0, 32), (20, 0, 64)]
  manager := true
  range r := decide (r.field 0 2 < 1024) && decide (r.byte 2 ≤ 3) && decide (r.byte 3 < 64) && decide (r.field 10 2 ≤ 4094) &&
    decide (r.byte 12 < 128) && decide (r.field 14 2 < 2 ^ 15)
  checks r s :=
    let x := s.filterOf (r.field 0 2)
    [(s.filterCarries (r.field 0 2) &&
      decide (x.mode ≠ r.byte 2 ∨ x.partition ≠ r.byte 3 ∨ x.addr ≠ r.field 4 6 ∨ x.vid ≠ r.field 10 2 ∨ x.endpoint ≠ r.byte 12 ∨
        x.ports ≠ r.field 14 2), .flowInUse)]
  run r s :=
    let n := r.field 0 2
    .done 0 (if s.filterCarries n then s
      else s.mapFilter n fun x =>
        { x with mode := r.byte 2, partition := r.byte 3, addr := r.field 4 6, vid := r.field 10 2, endpoint := r.byte 12,
                 ports := r.field 14 2, maxSdu := r.field 16 2, cir := r.field 20 4, cbs := r.field 24 4,
                 level := r.field 24 4 * 1000000000, levelAt := s.now })

/-- SWITCH_STREAM_SET. -/
def execSwitchStreamSet (r : Request) (s : State) : Host.Outcome State Fault Refusal := cmdSwitchStreamSet.step r s

/-- SWITCH_FRER_SET (cmd 0x040C, R251). -/
def cmdSwitchFrerSet : Command where
  opcode := 0x040C
  paramLen := 16
  used := [(0, 0, 104)]
  manager := true
  range r := decide (r.field 0 2 < 512) && decide (r.byte 2 ≤ 2) && (decide (r.byte 2 = 0) || decide (r.field 4 2 < 1024)) &&
    (decide (r.byte 2 ≠ 2) || (within (r.byte 3) 2 32 && within (r.field 6 2) 1 1000))
  run r s :=
    let n := r.field 0 2
    let f : FrerFn :=
      { kind := r.byte 2, history := r.byte 3, filter := r.field 4 2, resetMs := r.field 6 2, latentMs := r.field 8 4,
        latentDiff := r.byte 12, checkedAt := s.now }
    .done 0 (match r.byte 2 with
      | 0 => (s.mapFrer n fun _ => {}).mapFrer (512 + n) fun _ => {}
      | 1 => s.mapFrer n fun _ => f
      | _ => s.mapFrer (512 + n) fun _ => f)

/-- SWITCH_FRER_SET. -/
def execSwitchFrerSet (r : Request) (s : State) : Host.Outcome State Fault Refusal := cmdSwitchFrerSet.step r s

/-- The SA that a SWITCH_MACSEC_SA_SET names. -/
def saNamed (r : Request) : Nat := saKey (r.byte 0) (r.byte 1) (r.byte 2) (r.byte 3)

/-- The other SAs installed on a secure channel. -/
def State.saOthers (s : State) (r : Request) : Nat :=
  ((span 0 4).filter fun an => an != r.byte 3 && (s.saOf (saKey (r.byte 0) (r.byte 1) (r.byte 2) an)).installed).length

/-- SWITCH_MACSEC_SA_SET (cmd 0x040D, R246-R248). DIRECTION 0 is transmit; DEDUCED (log entry 32). -/
def cmdSwitchMacsecSaSet : Command where
  opcode := 0x040D
  paramLen := 32
  used := [(0, 0, 48), (6, 0, 4), (8, 0, 160)]
  manager := true
  tamperKeys _ := true
  owns r s := decide (512 ≤ r.field 4 2) || s.ownsSlot r.issuer (r.field 4 2)
  range r := decide (r.byte 0 < 2) && decide (r.byte 1 ≤ 1) && decide (r.byte 2 < 16) && (decide (r.byte 1 = 1) || decide (r.byte 2 = 0)) &&
    decide (r.byte 3 < 4) && decide (r.field 4 2 < 512) && decide (r.bits 6 3 2 ≤ 2)
  furled r s := s.furled (unitId 0x1F (2 * r.byte 0 + r.byte 1)) || s.furled (unitId 0x1C 0) || s.furled (unitId 0x1D 0)
  checks r s :=
    (decide (2 ≤ s.saOthers r), .badParam) ::
      s.keyChecks (r.field 4 2) (if r.byte 1 = 0 then useEncrypt + useMacGen else useDecrypt + useMacVerify) false
  run r s :=
    let k := s.slotOf (r.field 4 2)
    .done 0 (s.mapSa (saNamed r) fun _ =>
      { installed := true, slot := r.field 4 2, enable := r.bit 6 0, encrypt := r.bit 6 1, validate := r.bits 6 3 2,
        sci := r.field 8 8, nextPn := r.field 16 4, threshold := r.field 20 4, window := r.field 24 4,
        key := if r.bit 6 0 then (keyOctets k.key (bits256 k.attr)).map (BitVec.ofNat 8) else [] })

/-- SWITCH_MACSEC_SA_SET. -/
def execSwitchMacsecSaSet (r : Request) (s : State) : Host.Outcome State Fault Refusal := cmdSwitchMacsecSaSet.step r s

/-- SWITCH_SAMPLE_SET (cmd 0x040E, R253, R254). -/
def cmdSwitchSampleSet : Command where
  opcode := 0x040E
  paramLen := 8
  used := [(0, 0, 32), (4, 0, 1), (6, 0, 16)]
  manager := true
  range r := decide (r.byte 0 ≤ 14) && decide (r.byte 1 ≤ 1) && decide (r.field 6 2 < 1024)
  owns r s := decide (1024 ≤ r.field 6 2) || decide (s.owner kindQueue (r.field 6 2) = 0)
  furled := switchFurled
  checks r s :=
    let a := (s.queueOf (r.field 6 2)).attach
    [(a != .none && a != .sample, .badParam)]
  run r s :=
    let s1 := if s.sw.sampleQueue = 0 then s else s.mapQueue (s.sw.sampleQueue - 1) fun d => { d with attach := .none }
    let n := r.field 2 2
    let s2 := s1.mapQueue (r.field 6 2) fun d => { d with attach := .sample }
    .done s.sw.samplesLost (s2.mapSwitch fun w =>
      { w with sampleQueue := r.field 6 2 + 1,
               samplers := Table.put {} w.samplers (2 * r.byte 0 + r.byte 1) { every := n, random := r.bit 4 0, left := n } })

/-- SWITCH_SAMPLE_SET. -/
def execSwitchSampleSet (r : Request) (s : State) : Host.Outcome State Fault Refusal := cmdSwitchSampleSet.step r s

/-- SWITCH_GPTP_SET (cmd 0x040F, R252). -/
def cmdSwitchGptpSet : Command where
  opcode := 0x040F
  paramLen := 16
  used := [(0, 0, 48), (8, 0, 32)]
  manager := true
  featureBad r s := decide (r.byte 0 = 1) && !s.has 0 .gptpSecondDomain
  range r := decide (r.byte 0 ≤ 1) && decide (r.byte 1 ≤ 127) && decide (r.byte 2 < 12) && decide (r.byte 3 ≤ 2) &&
    decide (-5 ≤ r.signed 4 1 ∧ r.signed 4 1 ≤ 0) && decide (-3 ≤ r.signed 5 1 ∧ r.signed 5 1 ≤ 3)
  furled := switchFurled
  checks r s := [
    (decide (r.byte 3 = 2) && (span 0 12).any fun p => p != r.byte 2 && decide ((Table.get {} s.sw.gptp (r.byte 0 * 16 + p)).role = 2),
      .badParam)]
  run r s :=
    let g : GptpPort :=
      { domain := r.byte 1, role := r.byte 3, syncLog := r.signed 4 1, pdelayLog := r.signed 5 1, staticDelay := r.field 8 4 }
    .done 0 (s.mapSwitch fun w => { w with gptp := Table.put {} w.gptp (r.byte 0 * 16 + r.byte 2) g })

/-- SWITCH_GPTP_SET. -/
def execSwitchGptpSet (r : Request) (s : State) : Host.Outcome State Fault Refusal := cmdSwitchGptpSet.step r s

end Sys2Proof.Machine
end

