-- ==== Sys2Proof/Machine/Tamper.lean ====
section
/-! DEFINITION. The meanings of the life-cycle, OTP, debug and tamper commands and events (R475, R495-R510). -/

namespace Sys2Proof.Machine

/-- The bits of a set of keys for which a condition holds. -/
def keyBits (t : Table OtpKey) (n : Nat) (p : OtpKey → Bool) : Nat :=
  ((span 0 n).map fun i => if p (Table.get {} t i) then 2 ^ i else 0).foldl (· + ·) 0

/-- LIFECYCLE_READ (cmd 0x0901). -/
def cmdLifecycleRead : Command where
  opcode := 0x0901
  fast := true
  tamperFree := true
  run _ s :=
    let o := s.keys.otp
    .done (pack [(0, 1, s.lifecycle),
      (1, 1, flag s.keys.debugOpen + 2 * flag s.tamperHeld + 4 * flag s.keys.sealed + 8 * flag o.root.isNone +
        16 * flag (s.keys.erasePending ≠ 0)),
      (2, 1, ((span 0 5).map fun i => flag (s.tamperOf i).latched * 2 ^ i).foldl (· + ·) 0),
      (3, 1, keyBits o.fwKeys 4 (·.revoked) + 16 * keyBits o.cfgKeys 2 (·.revoked) + 64 * keyBits o.cfgKeys 2 (·.written)),
      (4, 4, o.fwMinVersion), (8, 16, o.deviceUid)]) s

/-- LIFECYCLE_READ. -/
def execLifecycleRead (r : Request) (s : State) : Host.Outcome State Fault Refusal := cmdLifecycleRead.step r s

/-- LIFECYCLE_CHALLENGE (cmd 0x0902). It waits while the TRNG has no good output (R476). -/
def cmdLifecycleChallenge : Command where
  opcode := 0x0902
  feature := some .keyStore
  tamperFree := true
  manager := true
  furled _ s := s.furled (unitId 0x21 0)
  run _ s :=
    if s.keys.trngWaiting then .wait s
    else
      let (c, s1) := s.drbg 128
      .done (pack [(0, 16, c), (16, 4, s.keys.otp.deviceTag)])
        { s1 with keys := { s1.keys with challenge := some c, challengeAt := s.now } }

/-- LIFECYCLE_CHALLENGE. -/
def execLifecycleChallenge (r : Request) (s : State) : Host.Outcome State Fault Refusal := cmdLifecycleChallenge.step r s

/-- CHALLENGE_EXPIRY (R498). -/
def execChallengeExpiry (s : State) : Host.Outcome State Fault Refusal :=
  if s.keys.challenge.isSome ∧ s.keys.challengeAt + 60000000000 ≤ s.now then
    .next { s with keys := { s.keys with challenge := none } }
  else .next s

/-- Whether a signature is the token of R498 for a target: over DEVICE_UID, the challenge in force and TARGET. -/
def State.tokenGood (s : State) (target token : Nat) : Bool :=
  match s.keys.challenge with
  | some c =>
    decide (s.now < s.keys.challengeAt + 60000000000) &&
      s.cfgKeys.any fun k => Crypto.verify k (octets 16 s.keys.otp.deviceUid ++ octets 16 c ++ [target]) (octets 64 token)
  | none => false

/-- Check the token that a command names, where the present state asks for one (R495, R498), then go on. -/
def State.withToken (s : State) (target iova : Nat) (go : State → Answer) : Answer :=
  if s.lifecycle ≠ 3 then go s
  else if iova = 0 then .no .signatureInvalid
  else
    match s.read 0 iova 64 with
    | (s1, .error f) => .fault f s1
    | (s1, .ok token) => if s1.tokenGood target token then go s1 else .no .signatureInvalid

/-- Begin an operation that LIFECYCLE_DONE ends (R508). -/
def State.beginLife (s : State) (o : LifeOp) : State := { s with keys := { s.keys with ops := s.keys.ops ++ [o] } }

/-- Whether the life cycle may move to a state (R496), the root apart. -/
def State.mayAdvance (s : State) (target : Nat) : Bool :=
  let o := s.keys.otp
  match s.lifecycle, target with
  | 1, 2 => (Table.get {} o.fwKeys 0).written && (Table.get {} o.cfgKeys 0).written || (Table.get {} o.fwKeys 0).written && (Table.get {} o.cfgKeys 1).written
  | 2, 3 => true
  | 3, 4 => true
  | n, 5 => within n 1 4
  | _, _ => false

/-- LIFECYCLE_ADVANCE (cmd 0x0903, R496-R498). -/
def cmdLifecycleAdvance : Command where
  opcode := 0x0903
  paramLen := 16
  used := [(0, 0, 8), (8, 0, 64)]
  iovas := [8]
  feature := some .keyStore
  tamperFree := true
  manager := true
  spends := true
  lifecycle r s := !s.mayAdvance (r.byte 0)
  checks r s := [(decide (r.byte 0 = 2) && s.keys.otp.root.isNone, .rootAbsent)]
  run r s :=
    s.withToken (r.byte 0) (r.field 8 8) fun t =>
      .accepted 0 (({ t with keys := { t.keys with sealed := true } } : State).beginLife
        { opcode := 0x0903, target := r.byte 0, index := 0, value := 0 })

/-- LIFECYCLE_ADVANCE. -/
def execLifecycleAdvance (r : Request) (s : State) : Host.Outcome State Fault Refusal := cmdLifecycleAdvance.step r s

/-- DEBUG_OPEN (cmd 0x0904, R499). -/
def cmdDebugOpen : Command where
  opcode := 0x0904
  paramLen := 16
  used := [(0, 0, 8), (8, 0, 64)]
  iovas := [8]
  feature := some .keyStore
  tamperKeys _ := true
  manager := true
  spends := true
  lifecycle _ s := decide (s.lifecycle = 5)
  range r := decide (r.byte 0 ≤ 1)
  run r s :=
    s.withToken 0x10 (r.field 8 8) fun t => .accepted 0 (t.beginLife { opcode := 0x0904, target := r.byte 0, index := 0, value := 0 })

/-- DEBUG_OPEN. -/
def execDebugOpen (r : Request) (s : State) : Host.Outcome State Fault Refusal := cmdDebugOpen.step r s

/-- The keys of a kind that are written and not revoked, one left out. -/
def othersLeft (t : Table OtpKey) (n index : Nat) : Bool :=
  (span 0 n).any fun i => decide (i ≠ index) && (Table.get {} t i).written && !(Table.get {} t i).revoked

/-- Whether an OTP field is in a state that OTP_WRITE cannot act on (cmd 0x0905). -/
def State.otpRefuses (s : State) (kind index value : Nat) : Bool :=
  let o := s.keys.otp
  match kind with
  | 0 => (Table.get {} o.cfgKeys index).written || (Table.get {} o.cfgKeys index).revoked
  | 1 => (Table.get {} o.fwKeys index).revoked || !othersLeft o.fwKeys 4 index
  | 2 => (Table.get {} o.cfgKeys index).revoked || !othersLeft o.cfgKeys 2 index
  | _ => decide (64 < value) || decide (s.firmware.version < value)

/-- OTP_WRITE (cmd 0x0905). -/
def cmdOtpWrite : Command where
  opcode := 0x0905
  paramLen := 24
  used := [(0, 0, 16), (8, 0, 128)]
  iovas := [8, 16]
  feature := some .keyStore
  tamperKeys _ := true
  manager := true
  spends := true
  lifecycle _ s := decide (s.lifecycle = 5)
  range r := decide (r.byte 0 ≤ 3) && (decide (r.byte 0 = 3) || decide (r.byte 1 < (if r.byte 0 = 1 then 4 else 2)))
  run r s :=
    s.withToken 0x12 (r.field 16 8) fun t =>
      let size := if r.byte 0 = 0 then 64 else if r.byte 0 = 3 then 4 else 0
      let go (t1 : State) (v : Nat) : Answer :=
        if t1.otpRefuses (r.byte 0) (r.byte 1) v then .no .otpState
        else .accepted 0 (t1.beginLife { opcode := 0x0905, target := r.byte 0, index := r.byte 1, value := v })
      if size = 0 then go t 0
      else
        match t.read 0 (r.field 8 8) size with
        | (t1, .error f) => .fault f t1
        | (t1, .ok v) => go t1 v

/-- OTP_WRITE. -/
def execOtpWrite (r : Request) (s : State) : Host.Outcome State Fault Refusal := cmdOtpWrite.step r s

/-- Whether a release is not possible yet (R506). -/
def State.tamperBusy (s : State) : Bool :=
  decide (s.keys.erasePending ≠ 0) ||
    (span 0 5).any fun i => (s.tamperOf i).latched && decide (s.now < (s.tamperOf i).lastActive + 100000000)

/-- TAMPER_RELEASE (cmd 0x0908, R506). -/
def cmdTamperRelease : Command where
  opcode := 0x0908
  paramLen := 16
  used := [(8, 0, 64)]
  iovas := [8]
  feature := some .keyStore
  tamperFree := true
  manager := true
  spends := true
  checks _ s := [(s.tamperBusy, .tamperActive)]
  run r s :=
    s.withToken 0x11 (r.field 8 8) fun t => .accepted 0 (t.beginLife { opcode := 0x0908, target := 0, index := 0, value := 0 })

/-- TAMPER_RELEASE. -/
def execTamperRelease (r : Request) (s : State) : Host.Outcome State Fault Refusal := cmdTamperRelease.step r s

/-- The slots that a change of life-cycle state destroys: those bound to the state left, or all in Scrapped (R497). -/
def State.boundSlots (s : State) (target : Nat) : List Nat :=
  s.slotNumbers.filter fun k =>
    let x := s.slotOf k
    (x.state != .empty || !x.images.isEmpty) &&
      (decide (target = 5) || decide (lcBind x.attr ≠ 0) || (x.images.any fun i => decide (lcBind i.2.attr ≠ 0)) ||
        (match x.writing with | some w => decide (lcBind w.attr ≠ 0) | none => false))

/-- A change of life-cycle state from its fuse on (R496, R497): how many slots it destroyed. -/
def State.advance (s : State) (target : Nat) : State × Nat :=
  let slots := s.boundSlots target
  let s1 : State := { s with keys := { s.keys with
    otp := { s.keys.otp with
      lifecycle := target,
      root0 := if target = 5 then s.keys.otp.root0.spoil else s.keys.otp.root0,
      root1 := if target = 5 then s.keys.otp.root1.spoil else s.keys.otp.root1 },
    debugOpen := s.keys.debugOpen && decide (target ≠ 3) } }
  let s2 := s1.each slots fun t k =>
    (((t.keyInvalid k 0x04 false).emptyNow k).mapSlot k KeySlot.destroyImages).clearSas fun n => n == k
  (s2.serveAgain, slots.length)

/-- Debug access opens or closes (R499). -/
def State.setDebug (s : State) (op : Nat) : State :=
  if op = 0 then { s with keys := { s.keys with debugOpen := false } }
  else
    let s1 := s.each s.slotNumbers fun t k => if persistent (t.slotOf k).attr then t else t.emptyNow k
    { s1 with keys := { s1.keys with debugOpen := true, debugSealed := true, sealed := true } }

/-- The OTP after a write (R475): keys are x, then y, as the image's octets have them. -/
def Otp.after (o : Otp) (kind index value : Nat) : Otp :=
  match kind with
  | 0 => { o with cfgKeys := Table.put {} o.cfgKeys index { key := Crypto.toInt (octets 64 value), written := true } }
  | 1 => { o with fwKeys := Table.modify {} o.fwKeys index fun k => { k with revoked := true } }
  | 2 => { o with cfgKeys := Table.modify {} o.cfgKeys index fun k => { k with revoked := true } }
  | _ => { o with fwMinVersion := max o.fwMinVersion value }

/-- Every latch clears (R506): the log and the isolation condition say so, and the Locker serves again; in a Tamper-held start the
start resumes at the unseal step (R593). -/
def State.releaseTamper (s : State) : State :=
  let s1 := s.each (span 0 5) fun t i => t.mapTamper i fun x => { x with latched := false }
  let log := s1.keys.log.map fun e =>
    if within e.cls 1 2 && !bitOf e.flags 2 then { e with flags := e.flags + 4 } else e
  let s2 : State := { s1 with
    keys := { s1.keys with log := log }
    boot := { s1.boot with lostTamper := false } }
  let s3 := if s.boot.lostTamper then s2.isolation 0x02 false false else s2
  if s3.keys.unsealedOnce then s3.serveAgain
  else if s3.boot.tamperHeld && (s3.boot.phase == .run || s3.boot.phase == .unsealed) then
    { s3 with boot := { s3.boot with phase := .tested } }
  else s3

/-- What an operation does at its end (R497, R499, R506), with its status and the slots it destroyed. `blown` says that its OTP bits
were programmed. One that needs Masthead ends with CONTROLLER_ABSENT without it (R103). -/
def State.endLife (s : State) (o : LifeOp) (blown : Bool) : State × Status × Nat :=
  if o.opcode = 0x0903 then
    if blown && s.mayAdvance o.target then (let (t, n) := s.advance o.target; (t, .done, n))
    else (s.serveAgain, if s.tamperHeld then .tamperHeld else if s.absent then .controllerAbsent else .internal, 0)
  else if s.absent then (s, .controllerAbsent, 0)
  else if o.opcode = 0x0904 then (s.setDebug o.target, .done, 0)
  else if o.opcode = 0x0905 then
    if s.otpRefuses o.target o.index o.value then (s, .otpState, 0)
    else if blown then ({ s with keys := { s.keys with otp := s.keys.otp.after o.target o.index o.value } }, .done, 0)
    else (s, .internal, 0)
  else if s.tamperBusy then (s, .tamperActive, 0)
  else (s.releaseTamper, .done, 0)

/-- LIFECYCLE_DONE: the oldest operation ends (R505, R508, R510). -/
def execLifecycleDone (blown : Bool) (s : State) : Host.Outcome State Fault Refusal :=
  match s.keys.ops with
  | [] => .next s
  | o :: rest =>
    if !s.computeOn then .next s
    else
      let s0 : State := { s with keys := { s.keys with ops := rest } }
      let (s1, st, n) := s0.endLife o blown
      let s2 := s1.raise
        { unit := 0, code := 0x0904, severity := 2,
          detail := pack [(0, 1, o.opcode % 256), (1, 1, st.code), (2, 1, s.lifecycle), (3, 1, s1.lifecycle), (4, 2, n), (8, 8, s.now)] }
        [0]
      .next ((s2.lifeChange s).opEnd o.opcode st)

/-- The order of classes (R502). -/
def classRank (cls pclass : Nat) : Nat := if cls = 0xFF then 0 else if cls = 2 then 2 + pclass else 1 + cls

/-- Whether a TAMPER_CONFIG lowers a class or disables a detector (R502). -/
def State.tamperLowers (s : State) (r : Request) : Bool :=
  let x := s.tamperOf (r.byte 0)
  decide (classRank (r.byte 1) (r.byte 2) < classRank x.cls x.pclass) ||
    (decide (3 ≤ r.byte 0) && decide (x.mask &&& r.byte 5 ≠ x.mask))

/-- TAMPER_CONFIG (cmd 0x0906). -/
def cmdTamperConfig : Command where
  opcode := 0x0906
  paramLen := 8
  used := [(0, 0, 25), (4, 0, 12)]
  feature := some .keyStore
  tamperKeys _ := true
  manager := true
  lifecycle r s := decide (s.lifecycle = 5) || (decide (s.lifecycle = 3) && s.tamperLowers r)
  range r := decide (r.byte 0 ≤ 4) &&
    (decide (r.byte 1 ≤ 1) || (decide (r.byte 1 = 2) && within (r.byte 2) 1 3) || (decide (r.byte 1 = 0xFF) && within (r.byte 0) 1 2)) &&
    decide (r.byte 2 ≤ 3) && (!within (r.byte 0) 1 2 || decide (1 ≤ r.byte 4))
  run r s :=
    .done 0 (s.mapTamper (r.byte 0) fun x =>
      { x with cls := r.byte 1, pclass := r.byte 2, activeLow := r.bit 3 0, debounce := r.byte 4, mask := r.byte 5 })

/-- TAMPER_CONFIG. -/
def execTamperConfig (r : Request) (s : State) : Host.Outcome State Fault Refusal := cmdTamperConfig.step r s

/-- TAMPER_LOG_READ (cmd 0x0907): the entries held of COUNT sequence numbers from FIRST on. -/
def cmdTamperLogRead : Command where
  opcode := 0x0907
  paramLen := 16
  used := [(0, 0, 40), (8, 0, 64)]
  iovas := [8]
  feature := some .keyStore
  tamperFree := true
  manager := true
  range r := within (r.byte 4) 1 64 && aligned (r.field 8 8) 32
  run r s :=
    let first := r.field 0 4
    let picked := s.keys.log.filter fun e => decide (first ≤ e.seq) && decide (e.seq < first + r.byte 4)
    let oldest := match s.keys.log with | e :: _ => e.seq | [] => 0
    let newest := match s.keys.log.getLast? with | some e => e.seq | none => 0
    let results := pack [(0, 4, oldest), (4, 4, newest), (8, 4, s.keys.overwritten), (12, 1, picked.length)]
    match picked with
    | [] => .done results s
    | _ =>
      match s.write 0 (r.field 8 8) (32 * picked.length) (picked.foldr (fun e acc => e.bytes + 2 ^ 256 * acc) 0) with
      | (s1, some f) => .fault f s1
      | (s1, none) => .done results s1

/-- TAMPER_LOG_READ. -/
def execTamperLogRead (r : Request) (s : State) : Host.Outcome State Fault Refusal := cmdTamperLogRead.step r s

/-- TAMPER_DETECTED (R501, R503): an input's detector sees an event. Of the glitch inputs only the detectors enabled count. -/
def execTamperDetected (input detail : Nat) (s : State) : Host.Outcome State Fault Refusal :=
  let seen := if 3 ≤ input then detail &&& (s.tamperOf input).mask else detail
  if !s.tamperWatched input || s.furled (unitId 0x22 input) || decide (seen = 0) then .next s
  else .next (s.tamperEvent input seen)

/-- TAMPER_ERASE_DONE (R503). -/
def execTamperEraseDone (s : State) : Host.Outcome State Fault Refusal :=
  if s.computeOn then .next s.finishErasure else .next s

end Sys2Proof.Machine
end

