-- ==== Sys2Proof/Machine/CommandTable.lean ====
section
/-! DEFINITION. The commands by opcode (R76, R84-R86), and the execution of a packet from a command list (R589). -/

namespace Sys2Proof.Machine

/-- The commands of group 0x01. -/
def commandsDevice : List Command :=
  [cmdDeviceIdentify, cmdDeviceFeaturesCommit, cmdDeviceNop, cmdTimeRead,
   cmdTimeSourceSet, cmdPpsConfig, cmdSupplyConfig, cmdSupplyQuery,
   cmdCpuQuery, cmdCpuAppDvfsSet, cmdSafetyCoreAssign, cmdSafetyCoreControl,
   cmdSafetySpareSet, cmdDeviceReset, cmdFwBankWrite, cmdBootConfirm]

/-- The commands of group 0x02. -/
def commandsPartition : List Command :=
  [cmdPartitionCreate, cmdPartitionQuiesce, cmdPartitionResume, cmdPartitionReset,
   cmdPartitionRemove, cmdObjectAssign, cmdCacheClassSet, cmdMemoryOwnerSet,
   cmdIommuRootSet, cmdIommuInvalidate, cmdDmaQueueConfig, cmdDmaQueuePost,
   cmdDmaQueueResume, cmdDmaQueueQuery, cmdDirtyLogStart, cmdDirtyLogSwap,
   cmdDirtyLogStop, cmdPartitionCapsuleExport, cmdPartitionCapsuleImport]

/-- The commands of group 0x03. -/
def commandsFlow : List Command :=
  [cmdFlowAdmit, cmdFlowPredict, cmdFlowRelease, cmdFlowQuery,
   cmdFlowStats, cmdMediumContractSet]

/-- The commands of group 0x04. -/
def commandsSwitch : List Command :=
  [cmdSwitchPortConfig, cmdSwitchVlanSet, cmdSwitchMacSet, cmdSwitchEndpointSet,
   cmdSwitchEndpointAttach, cmdSwitchQuotaSet, cmdSwitchAccountQuery, cmdSwitchGateSet,
   cmdSwitchShaperSet, cmdSwitchPreemptSet, cmdSwitchStreamSet, cmdSwitchFrerSet,
   cmdSwitchMacsecSaSet, cmdSwitchSampleSet, cmdSwitchGptpSet, cmdEthPortConfig,
   cmdEthLinkQuery, cmdEthPlcaSet, cmdEthTc10Sleep, cmdEthTc10Wake,
   cmdEthCableTest, cmdEthPortStats, cmdEthPhyMmdRead]

/-- The commands of group 0x05. -/
def commandsCan : List Command :=
  [cmdCanChannelConfig, cmdCanObjectConfig, cmdCanObjectAttach, cmdCanChannelQuery,
   cmdCanChannelRecover, cmdCanObjectQuery, cmdCanGangSet]

/-- The commands of group 0x06. -/
def commandsLocal : List Command :=
  [cmdLinChannelConfig, cmdLinScheduleSet, cmdLinFrameWrite, cmdLinFrameRead,
   cmdLinBusControl, cmdLocalPortConfig, cmdLocalTransfer, cmdLocalGpioSet,
   cmdLocalGpioGet]

/-- The commands of group 0x07. -/
def commandsLoad : List Command :=
  [cmdLoadChannelConfig, cmdLoadWireSet, cmdLoadSet, cmdLoadQuery,
   cmdLoadGangSet, cmdLoadMeasureSet, cmdLoadDiagRun, cmdLoadSafeTableSet,
   cmdLoadHoldSet, cmdLoadReclaim, cmdLoadDipSet]

/-- The commands of group 0x08. -/
def commandsSense : List Command :=
  [cmdSenseInputConfig, cmdSenseStateRead, cmdSenseSampleSet, cmdSenseGangSet,
   cmdSenseCalRun, cmdSensorSupplySet, cmdSenseQuery]

/-- The commands of group 0x09. -/
def commandsKey : List Command :=
  [cmdLifecycleRead, cmdLifecycleChallenge, cmdLifecycleAdvance, cmdDebugOpen,
   cmdOtpWrite, cmdTamperConfig, cmdTamperLogRead, cmdTamperRelease,
   cmdKeySlotOwnerSet, cmdKeyGenerate, cmdKeyDerive, cmdKeyUnwrap,
   cmdKeyImport, cmdKeyWrap, cmdKeyDestroy, cmdKeyQuery]

/-- The commands of group 0x0A. -/
def commandsCipher : List Command :=
  [cmdCipherRun, cmdCipherCounterRead, cmdCipherQuery, cmdCipherHoldSet]

/-- The commands of group 0x0B. -/
def commandsCvu : List Command :=
  [cmdCvuConfig, cmdCvuRun, cmdCvuStreamAttach, cmdCvuQuery]

/-- The commands of group 0x0C. -/
def commandsFairlead : List Command :=
  [cmdFairleadConfig, cmdFairleadWindowSet, cmdFairleadMove, cmdFairleadFenceClear,
   cmdFairleadCfg, cmdFairleadQuery]

/-- The commands of group 0x0D. -/
def commandsSleep : List Command :=
  [cmdSleepEnter, cmdSleepCancel, cmdWakeSourceSet, cmdWakeSelectiveSet,
   cmdWakeQuery, cmdWakeValidate, cmdRtcAlarmSet]

/-- The commands of group 0x0E. -/
def commandsHealth : List Command :=
  [cmdHealthClassSet, cmdHealthUnitQuery, cmdUnitFurl, cmdUnitUnfurl,
   cmdReefPlanRun, cmdReefQuery]

/-- The commands of group 0x0F. -/
def commandsSelftest : List Command :=
  [cmdSelftestRun, cmdSelftestScheduleSet, cmdSelftestQuery]

/-- Every command. -/
def allCommands : List Command :=
  commandsDevice ++ commandsPartition ++ commandsFlow ++ commandsSwitch ++ commandsCan ++ commandsLocal ++ commandsLoad ++ commandsSense ++
  commandsKey ++ commandsCipher ++ commandsCvu ++ commandsFairlead ++ commandsSleep ++ commandsHealth ++ commandsSelftest

/-- The command of an opcode, or none where the opcode is not defined (R76, R89). -/
def commandOf (opcode : Nat) : Option Command := allCommands.find? fun c => c.opcode == opcode

/-- Execute a packet and post its completion (R68). An opcode that is not defined completes with BAD_OPCODE (R89). -/
def State.perform (s : State) (x : Packet) : Ended :=
  match commandOf x.opcode with
  | some c => c.exec x.req s
  | none => { status := some .badOpcode, state := s.complete x.req x.opcode .badOpcode 0 }

/-- Whether a packet is one that Masthead has to execute (R84): an opcode that is not defined is judged at once. -/
def Packet.needsMasthead (x : Packet) : Bool :=
  match commandOf x.opcode with
  | some c => !c.fast
  | none => false

/-- Execute a command as one of a command list: its status and effect, and no completion (R589). A command that is held back
leaves the state as it was. -/
def Command.listed (c : Command) (r : Request) (s : State) : Option Status × State :=
  match c.refusal r s with
  | some st => (some st, c.spent r s)
  | none =>
    match c.run r s with
    | .refuse st _ => (some st, c.spent r s)
    | .finish st _ s1 after => (some st, c.spent r (after s1))
    | .fault f s1 => (some .bufferFault, c.spent r (s1.raiseFault f r.issuer 0xFFFF 0x07 0))
    | .wait _ => (none, s)

/-- Execute a packet of a command list. -/
def State.performListed (s : State) (x : Packet) : Option Status × State :=
  match commandOf x.opcode with
  | some c => c.listed x.req s
  | none => (some .badOpcode, s)

end Sys2Proof.Machine
end

