-- ==== Sys2Proof/Machine/Rings.lean ====
section
/-! DEFINITION. From the rings to the commands: the doorbell, intake, the order within a ring and Masthead's turns
(R64-R69, R84-R87), and the items that their bucket holds back (R175-R177). -/

namespace Sys2Proof.Machine

/-- Take the front packet of a ring's intake. -/
def State.popIntake (s : State) (p n : Nat) : Option (Packet × State) :=
  match Table.get [] (s.io.window p).intake n with
  | x :: rest => some (x, s.mapWindow p fun w => { w with intake := Table.put [] w.intake n rest })
  | [] => none

/-- Execute what a ring's intake holds in order, up to a command that Masthead has to take or that is held back (R84, R86). -/
def State.drainRing (p n : Nat) : Nat → State → State
  | 0, s => s
  | fuel + 1, s =>
    if Table.get false (s.io.window p).blocked n then s
    else
      match s.popIntake p n with
      | none => s
      | some (x, s1) =>
        if Packet.needsMasthead x ∧ !s.absent then s else State.drainRing p n fuel (s1.perform x).state

/-- How many commands a ring's intake holds. -/
def State.intakeLength (s : State) (p n : Nat) : Nat := (Table.get [] (s.io.window p).intake n).length

/-- Execute what one ring's intake allows. -/
def State.drain (s : State) (p n : Nat) : State := State.drainRing p n (s.intakeLength p n) s

/-- The rings whose intake holds a command. -/
def State.waitingRings (s : State) : List (Nat × Nat) := s.io.windows.flatMap fun w => w.2.intake.map fun x => (w.1, x.1)

/-- Execute what every ring's intake allows. -/
def State.drainAll (s : State) : State := if s.computeOn then s.each s.waitingRings fun s1 x => s1.drain x.1 x.2 else s

/-- A clock cycle in which no command arrives: time passes, and commands that have come to the front of their rings start.
DESIGN CHOICE (log entry 2). -/
def State.idle (s : State) : State := s.tick.drainAll

/-- Read a partition's rings and execute what may start. -/
def State.serveRings (s : State) (p : Nat) : State := (s.readRings p).drainAll

/-- A write to CMD_RING_TAIL (R63, R65). -/
def State.writeCmdTail (s : State) (p n value : Nat) : State :=
  if s.hasRing p (.cmd n) then (s.mapRing p (.cmd n) fun x => x.writeTail value).serveRings p else s

/-- CMD_RING_TAIL_WRITE (R65). -/
def execCmdRingTailWrite (partition ring : Nat) (tail : Word) (s : State) : Host.Outcome State Fault Refusal :=
  if s.windowOn partition then .next (s.writeCmdTail partition ring tail.toNat) else .next s

/-- A write to CMD_RING_CTRL (R61, R65, R67). -/
def State.writeCmdControl (s : State) (p n value : Nat) : State :=
  if s.hasRing p (.cmd n) then (s.mapRing p (.cmd n) fun x => x.writeCtrl (.cmd n) value).serveRings p else s

/-- CMD_RING_ENABLE (R65). -/
def execCmdRingEnable (partition ring : Nat) (control : Word) (s : State) : Host.Outcome State Fault Refusal :=
  if s.windowOn partition then .next (s.writeCmdControl partition ring (control ||| 0x80000000#32).toNat) else .next s

/-- CMD_RING_DISABLE (R67). -/
def execCmdRingDisable (partition ring : Nat) (control : Word) (s : State) : Host.Outcome State Fault Refusal :=
  if s.windowOn partition then .next (s.writeCmdControl partition ring (control &&& 0x7FFFFFFF#32).toNat) else .next s

/-- The completion ring can take completions again: those held are posted, and intake resumes (R69). -/
def State.completionSpace (s : State) (p : Nat) : State :=
  let s1 : State := { s with io := Io.flushCompletions (s.io.window p).heldCpl.length p s.io }
  s1.serveRings p

/-- A write to CPL_RING_CTRL (R61, R69). -/
def State.writeCplControl (s : State) (p value : Nat) : State :=
  (s.mapRing p .cpl fun x => x.writeCtrl .cpl value).completionSpace p

/-- CPL_RING_ENABLE (R69). -/
def execCplRingEnable (partition : Nat) (control : Word) (s : State) : Host.Outcome State Fault Refusal :=
  if s.windowOn partition then .next (s.writeCplControl partition (control ||| 0x80000000#32).toNat) else .next s

/-- A write to CPL_RING_TAIL (R63, R69). -/
def State.writeCplTail (s : State) (p value : Nat) : State :=
  (s.mapRing p .cpl fun x => x.writeTail value).completionSpace p

/-- CPL_RING_TAIL_WRITE (R69). -/
def execCplRingTailWrite (partition : Nat) (tail : Word) (s : State) : Host.Outcome State Fault Refusal :=
  if s.windowOn partition then .next (s.writeCplTail partition tail.toNat) else .next s

/-- A ring that an access fault stopped goes on (R64, R66, R71, R75). -/
def State.clearRingFault (s : State) (p : Nat) (n : RingName) : State :=
  if s.hasRing p n && ((s.io.window p).ring n).fault then
    let s1 := s.mapRing p n fun x => { x with fault := false }
    match n with
    | .cmd _ => s1.serveRings p
    | .cpl => s1.completionSpace p
    | .evt => s1.eventSpace p
  else s

/-- RING_ACCESS_FAULT_CLEAR (R64): `offset` is that of the ring's register block. -/
def execRingAccessFaultClear (partition offset : Nat) (s : State) : Host.Outcome State Fault Refusal :=
  if s.windowOn partition && decide (offset < 0xC0) then .next (s.clearRingFault partition (ringAt offset)) else .next s

/-- The ring at a place of Masthead's turn: P0's four rings, then the guests in order (R85). -/
def ringInTurn (k : Nat) : Nat × Nat := if k < 4 then (0, k) else (k - 3, 0)

/-- Whether an opcode is one of those that Masthead executes one at a time across all rings (R172). -/
def oneAtATime (opcode : Nat) : Bool :=
  decide (opcode / 256 = 0x03) ||
  [0x0406, 0x0408, 0x0409, 0x040A, 0x0440, 0x0442, 0x0501, 0x0502, 0x0601, 0x0602, 0x0701, 0x0705, 0x0706, 0x0801, 0x0803, 0x0A04,
   0x0B01, 0x0B03].contains opcode

/-- Whether a FLOW_RELEASE has begun and waits for its flow's last item (R186). -/
def State.releaseBegun (s : State) : Bool := s.flow.flows.any fun g => g.2.releasing.isSome

/-- Whether a ring's first command is one for Masthead to take now; none of R172's begins while a FLOW_RELEASE has not completed. -/
def State.awaitsMasthead (s : State) (k : Nat) : Bool :=
  let w := s.io.window (ringInTurn k).1
  !Table.get false w.blocked (ringInTurn k).2 &&
    (match Table.get [] w.intake (ringInTurn k).2 with
     | x :: _ => Packet.needsMasthead x && !(s.releaseBegun && oneAtATime x.opcode)
     | [] => false)

/-- The next ring of Masthead's turn: the first that awaits it from the place reached, else the first of a new turn (R85). -/
def State.nextRing (s : State) : Option Nat :=
  match (span s.cpu.turn (67 - s.cpu.turn)).find? s.awaitsMasthead with
  | some k => some k
  | none => (span 0 67).find? s.awaitsMasthead

/-- Masthead takes the first command of a ring. -/
def State.takeRing (s : State) (k : Nat) : State :=
  match s.popIntake (ringInTurn k).1 (ringInTurn k).2 with
  | some (x, s1) =>
    let s2 := (s1.perform x).state
    let s3 : State := { s2 with cpu := { s2.cpu with turn := k + 1 } }
    s3.drainAll
  | none => s

/-- COMMAND_EXECUTE_F (R85). -/
def execCommandExecuteF (s : State) : Host.Outcome State Fault Refusal :=
  if s.computeOn then
    let s1 := s.drainAll
    match s1.nextRing with
    | some k => .next (s1.takeRing k)
    | none => .next s1
  else .next s

/-- A ring command that its bucket holds back is tried again (R176, R177). A FLOW_RELEASE waits for items and not for a
bucket. -/
def State.retryRing (s : State) (p n : Nat) : State :=
  if Table.get false (s.io.window p).blocked n then
    match s.popIntake p n with
    | some (x, s1) =>
      if x.opcode = 0x0303 then s
      else
        let e := s1.perform x
        if e.status = none then e.state
        else (e.state.mapWindow p fun w => { w with blocked := Table.put false w.blocked n false }).drainAll
    | none => s
  else s

/-- A queue's descriptor that its bucket holds back conforms (R176, R177). -/
def State.conformQueue (s : State) (q : Nat) : State :=
  let d := s.queueOf q
  match d.desc with
  | some x => if d.delayed && !d.conforms && s.conforms (s.flowsFrom rDma q) (s.itemBytes q x) then (s.passBucket q x).1 else s
  | none => s

/-- DELAYED_ITEM_CONFORMS (R177). `kind` and `subject` say which source item: 0 the command at the front of ring
`subject mod 4` of partition `subject / 4`, 1 the frame of a CAN object, 2 the descriptor of a DMA queue, 3 an open cipher
operation. -/
def execDelayedItemConforms (kind subject : Nat) (s : State) : Host.Outcome State Fault Refusal :=
  if !s.computeOn then .next s
  else
    match kind with
    | 0 => .next (s.retryRing (subject / 4) (subject % 4))
    | 1 => .next (s.conformObject subject)
    | 2 => .next (s.conformQueue subject)
    | 3 => .next (s.conformOp subject)
    | _ => .next s

end Sys2Proof.Machine
end

