-- ==== Sys2Proof/Machine/Registers.lean ====
section
/-! DEFINITION. A write to any register of a function window, by its address (R6, R55-R64, R72, R95-R98, R264, R301-R308,
R370-R372). -/

namespace Sys2Proof.Machine

/-- A 32-bit register pair's lower or upper half replaced (R57). -/
def withHalf (w : Nat) (high : Bool) (v : Nat) : Nat :=
  if high then v % 2 ^ 32 * 2 ^ 32 + w % 2 ^ 32 else w / 2 ^ 32 * 2 ^ 32 + v % 2 ^ 32

/-- The STATUS register's write-one-to-clear bits besides ACCESS_FAULT (R64): DOORBELL_ERR, and OVERFLOW of the event ring. -/
def State.clearRingStatus (s : State) (p : Nat) (n : RingName) (v : Nat) : State :=
  let s1 := if bitOf v 2 then s.mapRing p n fun x => { x with doorbellErr := false } else s
  if bitOf v 3 && n == .evt then s1.mapWindow p fun w => { w with overflow := false } else s1

/-- A write to a ring register other than a doorbell (R59-R64, R72, R102). -/
def State.writeRing (s : State) (p : Nat) (n : RingName) (offset v : Nat) : State :=
  match offset with
  | 0x00 => s.mapRing p n fun x => x.writeBase false v
  | 0x04 => s.mapRing p n fun x => x.writeBase true v
  | 0x08 =>
    (match n with
     | .cmd k => s.writeCmdControl p k v
     | .cpl => s.writeCplControl p v
     | .evt => if bitOf v 31 then s.enableEvents p v else s.mapRing p .evt fun x => x.writeCtrl .evt v)
  | 0x0C =>
    (match n with
     | .cmd k => s.writeCmdTail p k v
     | .cpl => s.writeCplTail p v
     | .evt => s.writeEventTail p v)
  | 0x14 => let s1 := s.clearRingStatus p n v; if bitOf v 1 then s1.clearRingFault p n else s1
  | 0x18 =>
    if n == .cpl && s.has p .completionCoalesce then
      s.mapWindow p fun w => { w with coalesceUs := bitsOf v 31 16, coalesceCount := bitsOf v 7 0 }
    else s
  | _ => s

/-- A write to the interrupt vector table (R95): bit 0 of VEC_CTRL is reserved for guests. -/
def State.writeVector (s : State) (p offset v : Nat) : State :=
  let e (f : Vector → Vector) : State :=
    s.mapWindow p fun w => { w with vectors := Table.modify {} w.vectors (offset / 16) f }
  match offset % 16 with
  | 0 => e fun x => { x with addr := withHalf x.addr false (bitsOf v 31 2 * 4) }
  | 4 => e fun x => { x with addr := withHalf x.addr true (bitsOf v 15 0) }
  | 8 => e fun x => { x with data := v }
  | _ => if p = 0 then e fun x => { x with toInt := bitOf v 0 } else s

/-- A write to FEAT_ACCEPTn (R98): ignored after a commit. -/
def State.writeAccept (s : State) (p offset v : Nat) : State :=
  if (s.io.window p).committed then s
  else s.mapWindow p fun w =>
    { w with accept := Table.modify 0 w.accept (offset / 8) fun a => withHalf a (decide (offset % 8 = 4)) v }

/-- The object in a slot of a partition's window (R301). -/
def State.objectIn (s : State) (p slot : Nat) : Option Nat :=
  ((s.can.objects.filter fun x => x.2.slot == some slot && s.slotSeen p x.1).map (·.1)).head?

/-- The bits of OBJ_INFO that a send object's owner writes (R305). -/
def infoMask : Nat := 0xECFF0FFF

/-- Whether SLOT registers besides OBJ_TIME may change: ignored writes set WRITE_IGNORED (R302, R308). -/
def CanObject.writeSlot (x : CanObject) (f : CanObject → CanObject) : CanObject :=
  if x.direction ≠ 2 then x else if x.pending then { x with writeIgnored := true } else f x

/-- The payload registers with one of them replaced (R302). -/
def withWord (data i v : Nat) : Nat :=
  data - byteField data (4 * i) 4 * 256 ^ (4 * i) + v % 2 ^ 32 * 256 ^ (4 * i)

/-- A write to OBJ_CTRL: SEND_REQ, ABORT and RELEASE in that order (R303). Whether transmission has begun at an ABORT is not
in the write: it is free. -/
def State.writeObjCtrl (s : State) (p o v : Nat) : State :=
  let s1 := if bitOf v 31 then s.sendRequest o else s
  let s2 :=
    if bitOf v 30 then
      let (begun, s3) := s1.choose
      s3.abortSend o begun
    else s1
  if bitOf v 29 then s2.releaseRead p o else s2

/-- A write to a register of an object slot (R302-R306, R308). -/
def State.writeSlotReg (s : State) (p o offset v : Nat) : State :=
  let e (f : CanObject → CanObject) : State := s.mapObj o fun x => x.writeSlot f
  if offset = 0x00 then s.writeObjCtrl p o v
  else if offset = 0x04 then
    if bitOf v 26 then s.mapObj o fun x => { x with writeIgnored := false } else s
  else if offset = 0x08 then e fun x => { x with regId := v }
  else if offset = 0x0C then e fun x => { x with regInfo := v &&& infoMask }
  else if offset = 0x10 then e fun x => { x with regXl := bitsOf v 31 24 * 2 ^ 24 }
  else if offset = 0x14 then e fun x => { x with regAf := v }
  else if offset = 0x18 ∨ offset = 0x1C then
    s.mapObj o fun x =>
      if x.direction = 2 ∧ x.tt = 1 then { x with regTime := withHalf x.regTime (decide (offset = 0x1C)) v } else x
  else if 0x20 ≤ offset ∧ offset < 0x60 then e fun x => { x with regData := withWord x.regData ((offset - 0x20) / 4) v }
  else s

/-- A write to the object slots (R301). -/
def State.writeSlots (s : State) (p offset v : Nat) : State :=
  match s.objectIn p (offset / 128) with
  | some o => s.slotWrite p o fun s1 => s1.writeSlotReg p o (offset % 128) v
  | none => s

/-- A write to a load channel's block (R370-R372): LOAD_SET, or the sticky flags of LOAD_FLAGS. -/
def State.writeLoadReg (s : State) (p n offset v : Nat) : State :=
  if offset = 0 then s.directSet p n v
  else if offset = 8 then
    if !(s.has p .directWindows && decide (s.owner kindLoad n = p)) then s
    else if s.quiescing p then
      { s with io := { s.io with parts := Table.modify {} s.io.parts p fun x => { x with writesIgnored := x.writesIgnored + 1 } } }
    else s.mapLoad n fun c => { c with flags := c.flags &&& ~~~(BitVec.ofNat 32 v) }
  else s

/-- A write to SWITCH_AUDIT_CTRL (R264): ENABLE 0 is ignored while a sweep runs, and a period below 100 µs. -/
def State.writeAudit (s : State) (v : Nat) : State :=
  s.mapSwitch fun w =>
    { w with
      auditEnable := bitOf v 31 || (w.sweeping && w.auditEnable)
      auditPeriod := if bitsOf v 15 0 < 100 then w.auditPeriod else bitsOf v 15 0 }

/-- A 32-bit write to a register of a function window that is in service (R55-R57): what no register takes is ignored. -/
def State.writeRegister (s : State) (p a v : Nat) : State :=
  if a < 0xC0 then
    if s.hasRing p (ringAt a) then s.writeRing p (ringAt a) (a % 0x20) v else s
  else if a = 0x100 then s.clearStatus p (BitVec.ofNat 32 v)
  else if a = 0x104 then s.writeMask p (BitVec.ofNat 32 v)
  else if 0x200 ≤ a ∧ a < 0x400 then s.writeVector p (a - 0x200) v
  else if 0x420 ≤ a ∧ a < 0x440 then s.writeAccept p (a - 0x420) v
  else if 0x2000 ≤ a ∧ a < 0x8000 then s.writeSlots p (a - 0x2000) v
  else if 0x8000 ≤ a ∧ a < 0x8C00 then s.writeLoadReg p ((a - 0x8000) / 64) (a % 64) v
  else if a = 0x30020 ∧ p = 0 then s.writeAudit v
  else s

/-- REGISTER_WRITE (R6, R57): an aligned 32-bit write at an offset of a partition's window. -/
def execRegisterWrite (partition address : Nat) (value : Word) (s : State) : Host.Outcome State Fault Refusal :=
  if s.windowOn partition && aligned address 4 then .next (s.writeRegister partition address value.toNat) else .next s

end Sys2Proof.Machine
end

