-- ==== Sys2Proof/Machine/Startup.lean ====
section
/-! DEFINITION. The start from power-up to Run, recovery and Tamper-held starts, the return of Masthead, and the limits of R33
(R404, R469, R583-R593, R596, R600, R605). -/

namespace Sys2Proof.Machine

/-- SAFE_TABLE_BAD once Masthead is there (R395, R400). -/
def State.postTableBad (s : State) : State :=
  if s.load.badOwed then
    ({ s with load := { s.load with badOwed := false } } : State).raise
      { unit := 0, code := 0x0705, severity := 2, detail := pack [(0, 1, s.load.copyBad), (8, 8, s.now)] } [0]
  else s

/-- LOAD_HOLD_END of a window that ended while Masthead was absent (R471). -/
def State.postHoldEnd (s : State) : State :=
  match s.load.endOwed with
  | some (kept, set) => ({ s with load := { s.load with endOwed := none } } : State).holdEnd kept set
  | none => s

/-- SLEEP_ENTRY_END of an entry that Masthead's absence ended (R348). -/
def State.postEntryEnd (s : State) : State :=
  match s.sleep.endOwed with
  | some (target, phase, off) =>
    ({ s with sleep := { s.sleep with endOwed := none } } : State).entryEnd .controllerAbsent target phase 0 off
  | none => s

/-- TIME_DISCONTINUITY of a start at which Device Time began at 0 (R196). -/
def State.postDiscontinuity (s : State) : State :=
  if s.time.discontinuity then
    ({ s with time := { s.time with discontinuity := false } } : State).raise
      { unit := 0x2500, code := 0x0111, severity := 2, detail := pack [(0, 8, s.now)] } (0 :: s.io.listeners)
  else s

/-- The events that have waited for Masthead. -/
def State.postMissed (s : State) : State :=
  s.postDiscontinuity.postSupply.postTableBad.postHoldEnd.postEntryEnd.postTc10Requests.postOwed

/-- CONTROLLER_RETURNED (R46, R50, R258, R469). -/
def execControllerReturned (s : State) : Host.Outcome State Fault Refusal :=
  let m := s.cpu.masthead
  if !s.computeOn || !m.returned || !m.present then .next s
  else
    let s1 := (s.mapMasthead fun m => { m with returned := false }).raiseAll
      { unit := 0x0300, code := 0x0107, detail := pack [(0, 1, m.used), (8, 8, m.absentAt)] }
    .next s1.thaw.settleOwed.postMissed

/-- POWER_UP (R334, R404, R581-R584): VLOGIC rises above 4.8 V after Off, or after the power die's logic was lost. -/
def execPowerUp (straps vlogicMv : Nat) (heathLost : Bool) (s : State) : Host.Outcome State Fault Refusal :=
  if (s.supply.unpowered || s.boot.phase == .off) && decide (4800 < vlogicMv) then .next (s.powerUp straps vlogicMv heathLost)
  else .next s

/-- RESET_N_PULSE (R600): a pulse from 1 µs to 10 µs may or may not cause a reset, a free choice. -/
def execResetNPulse (lengthNs : Nat) (s : State) : Host.Outcome State Fault Refusal :=
  if s.supply.unpowered || s.boot.phase == .off || decide (lengthNs < 1000) then .next s
  else if 10000 ≤ lengthNs then .next s.moduleReset
  else
    let (hit, s1) := s.choose
    .next (if hit then s1.moduleReset else s1)

/-- A start that finds no bank of a kind, and why: 1 firmware, 2 configuration (R592). -/
def State.recoveryStart (s : State) (reason : Nat) : State :=
  let s1 := s.turnAllOff
  { s1 with boot := { s1.boot with phase := .recovery, recovery := reason, beaconAt := s.now } }

/-- Select the bank of a kind (R590): the record as it is written, and whether one was found. -/
def State.selectBank (s : State) (config : Bool) : State × Bool :=
  let x := (s.record config).atStart
  let s1 := s.setRecord config x
  let use_ (b fallback : Bool) : State :=
    { s1 with boot := if config then { s1.boot with useCfgB := b, cfgFallback := fallback }
                      else { s1.boot with useFwB := b, fwFallback := fallback } }
  if s1.bankStands config x.preferredB then (use_ x.preferredB false, true)
  else if s1.bankStands config (!x.preferredB) then (use_ (!x.preferredB) true, true)
  else (s1, false)

/-- STARTUP_BOOT_ROM: step 3 of the start (R477, R503, R505, R583, R590-R593). -/
def execStartupBootRom (s : State) : Host.Outcome State Fault Refusal :=
  if !s.computeOn || s.boot.phase != .released then .next s
  else
    let held := s.tamperHeld
    let (s1, fresh) := s.finishErasure.generateRoot
    let s2 : State := { s1 with boot := { s1.boot with tamperHeld := held, rootGenerated := fresh, lostTamper := s1.boot.lostTamper && held } }
    let s3 := (if s1.boot.lostTamper && !held then s2.isolation 0x02 false false else s2).lifeChange s2
    let (s4, fw) := s3.selectBank false
    if !fw then .next (s4.recoveryStart 1)
    else
      let (s5, cfg) := s4.selectBank true
      if !cfg then .next (s5.recoveryStart 2)
      else .next { s5 with boot := { s5.boot with phase := .selected } }

/-- The field of `n` bytes at an offset of a configuration body (R587). -/
def BankImage.field (i : BankImage) (off n : Nat) : Nat := byteField i.body off n

/-- The commands of a configuration, as P0 commands of ring 0 (R587, R589). -/
def BankImage.commands (i : BankImage) : List Packet :=
  (span 0 (min 4096 (i.field 32 4))).map fun k => packetOf 0 0 (i.field (64 + 64 * k) 64)

/-- Commit the configuration's FEATURES for P0 as DEVICE_FEATURES_COMMIT would (R101, R589). -/
def State.commitConfigured (s : State) (i : BankImage) : State :=
  let word (n : Nat) : Nat := i.field (8 * n) 8
  if acceptable 0 word then
    { s with io := s.io.mapWindow 0 fun w =>
        { w with committed := true, accept := (span 0 4).foldl (fun t n => Table.put 0 t n (word n)) [] } }
  else s

/-- Copy the application section to APP_LOAD_PA (R587, R589). -/
def State.copyApplication (s : State) (i : BankImage) : State :=
  let n := min 16777216 (i.field 40 4)
  if s.io.inDram (i.field 48 8) n then { s with io := s.io.writePhys (i.field 48 8) n (i.field (i.field 36 4) n) } else s

/-- Execute the packets of a command list in order until one fails, waits, or leaves the list's start behind (R589). -/
def State.runList : List Packet → State → State
  | [], s => { s with boot := { s.boot with list := [] } }
  | x :: rest, s =>
    let s0 : State := { s with boot := { s.boot with list := rest, waiting := some x.opcode, failed := 0 } }
    let (st, s1) := s0.performListed x
    let count (t : State) : State := { t with boot := { t.boot with executed := t.boot.executed + 1 } }
    if s1.boot.phase ≠ s.boot.phase then s1
    else
      match st with
      | none => { s with boot := { s.boot with list := x :: rest } }
      | some .done => State.runList rest (count { s1 with boot := { s1.boot with waiting := none } })
      | some .accepted =>
        let s2 := count s1
        if s2.boot.waiting.isSome ∨ s2.boot.failed ≠ 0 then s2 else State.runList rest s2
      | some e => count { s1 with boot := { s1.boot with waiting := none, failed := e.code, list := [] } }

/-- The leading ETH_PORT_CONFIG commands of a list (R589). -/
def preamble (l : List Packet) : List Packet := l.takeWhile fun x => x.opcode == 0x0440

/-- The port preamble of a configuration: skipped in a Tamper-held start, ended by a failing command with the whole list (R589,
R593). -/
def State.runPreamble (s : State) (l : List Packet) : State :=
  if s.boot.tamperHeld then { s with boot := { s.boot with list := l } }
  else
    let s1 := State.runList (preamble l) s
    let left := if s1.boot.failed = 0 then l.drop (preamble l).length else []
    { s1 with boot := { s1.boot with list := left } }

/-- STARTUP_SELFTEST: steps 4 and 5 (R49, R583, R585, R589); `failing` lists the units whose start-up test has a failed step. -/
def execStartupSelftest (failing : List Nat) (s : State) : Host.Outcome State Fault Refusal :=
  if !s.computeOn || s.boot.phase != .selected then .next s
  else
    let units := failing.filter fun u => unitExists u && decide (u / 256 ≠ 0)
    let stops := units.any fun u => u / 256 == 0x07 || u / 256 == 0x08 || u / 256 == 0x0A
    if stops then
      let s1 := s.turnAllOff
      .next { s1 with boot := { s1.boot with phase := .stopped } }
    else
      let s1 := s.each (units.filter fun u => u / 256 != 0x03) fun t u => t.lasting u 0x04
      if s1.boot.phase ≠ .selected ∨ units.contains (unitId 0x03 0) then .next s1
      else
        let i := s1.configuration
        let s2 := ((s1.commitConfigured i).runPreamble i.commands).copyApplication i
        .next { s2 with boot := { s2.boot with phase := .tested } }

/-- The detail of BOOT_REPORT (R596). -/
def State.bootDetail (s : State) : Nat :=
  let b := s.boot
  pack [(0, 1, b.start), (1, 1, b.cause),
    (2, 1, flag b.useFwB + 2 * flag b.useCfgB + 4 * flag b.fwFallback + 8 * flag b.cfgFallback +
      16 * flag (b.fwRecord.trial || b.cfgRecord.trial) + 32 * flag b.tamperHeld + 64 * flag b.rootGenerated + 128 * flag s.load.holdOpen),
    (4, 2, b.executed), (6, 1, b.failed), (8, 8, s.now)]

/-- BOOT_REPORT is held for P0 (R596). -/
def State.bootReport (s : State) : State :=
  let b := s.boot
  let marked := b.fwFallback || b.cfgFallback || b.fwRecord.trial || b.cfgRecord.trial || b.tamperHeld
  let (io1, tasks) := s.io.newEvent { unit := 0, code := 0x0140, severity := if marked then 2 else 1, detail := s.bootDetail } [0]
  let records := tasks.filterMap fun t => match t with | .post _ record => some record | .vector _ _ => none
  let io2 := io1.mapWindow 0 fun w => { w with bootReports := w.bootReports ++ records }
  { s with io := io2.eventSpace 0 }

/-- Run is entered: the application cores start the first time, and BOOT_REPORT tells of the list (R583, R589, R593). After a start
from sleep the wake is reported (R358). -/
def State.enterRun (s : State) : State :=
  let i := s.configuration
  let first := !s.boot.reported
  let s1 : State := { s with boot := { s.boot with phase := .run, reported := true } }
  let start : AppStart := { entry := i.field 56 8, body := i.field 48 8 }
  let s2 : State := if first then { s1 with cpu := { s1.cpu with apps := some start } } else s1
  let s3 := s2.bootReport.postMissed
  if first && decide (4 ≤ s.boot.start) then s3.reportWake else s3

/-- COMMAND_LIST_EXECUTE: steps 7 to 10 (R583, R589, R593). A list that waits for an operation goes on when this comes again. -/
def execCommandListExecute (s : State) : Host.Outcome State Fault Refusal :=
  if s.absent || !s.computeOn || s.boot.phase != .unsealed || s.boot.waiting.isSome then .next s
  else if s.boot.tamperHeld then .next s.enterRun
  else
    let s1 := State.runList s.boot.list s
    if s1.boot.phase ≠ .unsealed ∨ s1.boot.waiting.isSome ∨ s1.boot.list ≠ [] then .next s1 else .next s1.enterRun

/-- Send bytes on UART0 in a recovery start. -/
def State.sendUart (s : State) (bytes : List Nat) : State :=
  { s with boot := { s.boot with sent := bytes.map fun b => BitVec.ofNat 8 b } }

/-- RECOVERY_IMAGE_RECEIVE (R592): an image received is verified as its MAGIC selects and written to bank A of its kind. -/
def execRecoveryImageReceive (image : List Byte) (writeOk : Bool) (s : State) : Host.Outcome State Fault Refusal :=
  if !s.computeOn || s.boot.phase != .recovery then .next s
  else
    let w := ofBytes image
    let config := byteField w 0 4 == imageMagic true
    if s.judgeImage config w image.length ≠ 0 ∨ bankBytes config < image.length then .next (s.sendUart [0x11])
    else if !writeOk || s.nvFurled then .next ((s.setBank config false none).sendUart [0x7F])
    else
      let s1 := (s.setBank config false (some (s.bankImage config w))).sendUart [0x00]
      let both := (s1.bankStands false false || s1.bankStands false true) && (s1.bankStands true false || s1.bankStands true true)
      .next (if both then s1.moduleReset else s1)

/-- RECOVERY_BEACON (R592). -/
def execRecoveryBeacon (s : State) : Host.Outcome State Fault Refusal :=
  if s.computeOn && s.boot.phase == .recovery && decide (s.boot.beaconAt ≤ s.now) then
    let s1 := s.sendUart [0x52, 0x45, 0x43, 0x56, s.lifecycle, s.boot.recovery, 0, 0]
    .next { s1 with boot := { s1.boot with beaconAt := s.now + 1000000000 } }
  else .next s

/-- ISOLATION_CONDITION: the feeds or the die references leave the limits of R605, or have been within them again for 100 ms. The
conditions 0x01 and 0x02 are reported where they change. -/
def execIsolationCondition (outside : Bool) (s : State) : Host.Outcome State Fault Refusal :=
  if s.supply.unpowered || s.boot.phase == .off then .next s
  else
    let hold := s.absent || !s.computeOn
    if outside then
      let s1 : State := { s with boot := { s.boot with lostLimits := true, limitsSince := s.now } }
      .next (if s.boot.lostLimits then s1 else s1.isolation 0x03 true hold)
    else if s.boot.lostLimits && decide (s.boot.limitsSince + 100000000 ≤ s.now) then
      .next (({ s with boot := { s.boot with lostLimits := false } } : State).isolation 0x03 false hold)
    else .next s

end Sys2Proof.Machine
end

