-- ==== Sys2Proof/Machine/Dispatch.lean ====
section
/-! DEFINITION. The dispatch of commands to their meanings: one arm per command. -/

namespace Sys2Proof.Machine

/-- The effect of a command on everything but the queue of waiting commands. -/
def exec (i : Instr) (s : State) : Host.Outcome State Fault Refusal :=
  match i with
  | .deviceIdentify r => Sys2Proof.Machine.execDeviceIdentify r s
  | .deviceFeaturesCommit r => Sys2Proof.Machine.execDeviceFeaturesCommit r s
  | .deviceNop r => Sys2Proof.Machine.execDeviceNop r s
  | .timeRead r => Sys2Proof.Machine.execTimeRead r s
  | .timeSourceSet r => Sys2Proof.Machine.execTimeSourceSet r s
  | .ppsConfig r => Sys2Proof.Machine.execPpsConfig r s
  | .supplyConfig r => Sys2Proof.Machine.execSupplyConfig r s
  | .supplyQuery r => Sys2Proof.Machine.execSupplyQuery r s
  | .loadDipSet r => Sys2Proof.Machine.execLoadDipSet r s
  | .cpuQuery r => Sys2Proof.Machine.execCpuQuery r s
  | .cpuAppDvfsSet r => Sys2Proof.Machine.execCpuAppDvfsSet r s
  | .safetyCoreAssign r => Sys2Proof.Machine.execSafetyCoreAssign r s
  | .safetyCoreControl r => Sys2Proof.Machine.execSafetyCoreControl r s
  | .safetySpareSet r => Sys2Proof.Machine.execSafetySpareSet r s
  | .deviceReset r => Sys2Proof.Machine.execDeviceReset r s
  | .fwBankWrite r => Sys2Proof.Machine.execFwBankWrite r s
  | .fwBankWritten readBackOk => Sys2Proof.Machine.execFwBankWritten readBackOk s
  | .bootConfirm r => Sys2Proof.Machine.execBootConfirm r s
  | .partitionCreate r => Sys2Proof.Machine.execPartitionCreate r s
  | .partitionQuiesce r => Sys2Proof.Machine.execPartitionQuiesce r s
  | .partitionQuiet partition => Sys2Proof.Machine.execPartitionQuiet partition s
  | .quiesceDrainLimit partition => Sys2Proof.Machine.execQuiesceDrainLimit partition s
  | .partitionResume r => Sys2Proof.Machine.execPartitionResume r s
  | .partitionReset r => Sys2Proof.Machine.execPartitionReset r s
  | .partitionRemove r => Sys2Proof.Machine.execPartitionRemove r s
  | .objectAssign r => Sys2Proof.Machine.execObjectAssign r s
  | .cacheClassSet r => Sys2Proof.Machine.execCacheClassSet r s
  | .memoryOwnerSet r => Sys2Proof.Machine.execMemoryOwnerSet r s
  | .iommuRootSet r => Sys2Proof.Machine.execIommuRootSet r s
  | .iommuInvalidate r => Sys2Proof.Machine.execIommuInvalidate r s
  | .dmaQueueConfig r => Sys2Proof.Machine.execDmaQueueConfig r s
  | .dmaQueuePost r => Sys2Proof.Machine.execDmaQueuePost r s
  | .dmaQueueResume r => Sys2Proof.Machine.execDmaQueueResume r s
  | .dmaQueueQuery r => Sys2Proof.Machine.execDmaQueueQuery r s
  | .dmaSegmentMove queue => Sys2Proof.Machine.execDmaSegmentMove queue s
  | .dirtyLogStart r => Sys2Proof.Machine.execDirtyLogStart r s
  | .dirtyLogSwap r => Sys2Proof.Machine.execDirtyLogSwap r s
  | .dirtyLogStop r => Sys2Proof.Machine.execDirtyLogStop r s
  | .partitionCapsuleExport r => Sys2Proof.Machine.execPartitionCapsuleExport r s
  | .partitionCapsuleImport r => Sys2Proof.Machine.execPartitionCapsuleImport r s
  | .capsuleDone partition => Sys2Proof.Machine.execCapsuleDone partition s
  | .flowAdmit r => Sys2Proof.Machine.execFlowAdmit r s
  | .flowPredict r => Sys2Proof.Machine.execFlowPredict r s
  | .flowRelease r => Sys2Proof.Machine.execFlowRelease r s
  | .flowReleaseDone flow => Sys2Proof.Machine.execFlowReleaseDone flow s
  | .flowQuery r => Sys2Proof.Machine.execFlowQuery r s
  | .flowStats r => Sys2Proof.Machine.execFlowStats r s
  | .mediumContractSet r => Sys2Proof.Machine.execMediumContractSet r s
  | .mediumContractWindow medium usedNs largest lowestKey => Sys2Proof.Machine.execMediumContractWindow medium usedNs largest lowestKey s
  | .maintenanceRetry => Sys2Proof.Machine.execMaintenanceRetry s
  | .switchPortConfig r => Sys2Proof.Machine.execSwitchPortConfig r s
  | .switchVlanSet r => Sys2Proof.Machine.execSwitchVlanSet r s
  | .switchMacSet r => Sys2Proof.Machine.execSwitchMacSet r s
  | .switchEndpointSet r => Sys2Proof.Machine.execSwitchEndpointSet r s
  | .switchEndpointAttach r => Sys2Proof.Machine.execSwitchEndpointAttach r s
  | .switchQuotaSet r => Sys2Proof.Machine.execSwitchQuotaSet r s
  | .switchAccountQuery r => Sys2Proof.Machine.execSwitchAccountQuery r s
  | .switchGateSet r => Sys2Proof.Machine.execSwitchGateSet r s
  | .gateListActive port => Sys2Proof.Machine.execGateListActive port s
  | .gateChange port => Sys2Proof.Machine.execGateChange port s
  | .switchShaperSet r => Sys2Proof.Machine.execSwitchShaperSet r s
  | .switchPreemptSet r => Sys2Proof.Machine.execSwitchPreemptSet r s
  | .preemptVerifyDone port ok => Sys2Proof.Machine.execPreemptVerifyDone port ok s
  | .switchStreamSet r => Sys2Proof.Machine.execSwitchStreamSet r s
  | .switchFrerSet r => Sys2Proof.Machine.execSwitchFrerSet r s
  | .frerLatentError function => Sys2Proof.Machine.execFrerLatentError function s
  | .switchMacsecSaSet r => Sys2Proof.Machine.execSwitchMacsecSaSet r s
  | .switchSampleSet r => Sys2Proof.Machine.execSwitchSampleSet r s
  | .switchGptpSet r => Sys2Proof.Machine.execSwitchGptpSet r s
  | .frameReceive port frame => Sys2Proof.Machine.execFrameReceive port frame s
  | .macEntryAge vid addr => Sys2Proof.Machine.execMacEntryAge vid addr s
  | .switchCellMatch => Sys2Proof.Machine.execSwitchCellMatch s
  | .frameTransmit port => Sys2Proof.Machine.execFrameTransmit port s
  | .switchAudit found => Sys2Proof.Machine.execSwitchAudit found s
  | .switchMarkSweep cells counts => Sys2Proof.Machine.execSwitchMarkSweep cells counts s
  | .switchAuditStatusRead partition => Sys2Proof.Machine.execSwitchAuditStatusRead partition s
  | .gptpMessage port sync frame => Sys2Proof.Machine.execGptpMessage port sync frame s
  | .ethPortConfig r => Sys2Proof.Machine.execEthPortConfig r s
  | .ethLinkQuery r => Sys2Proof.Machine.execEthLinkQuery r s
  | .ethPlcaSet r => Sys2Proof.Machine.execEthPlcaSet r s
  | .ethTc10Sleep r => Sys2Proof.Machine.execEthTc10Sleep r s
  | .ethTc10Wake r => Sys2Proof.Machine.execEthTc10Wake r s
  | .ethCableTest r => Sys2Proof.Machine.execEthCableTest r s
  | .ethCableResult port result distance => Sys2Proof.Machine.execEthCableResult port result distance s
  | .ethPortStats r => Sys2Proof.Machine.execEthPortStats r s
  | .ethPhyMmdRead r => Sys2Proof.Machine.execEthPhyMmdRead r s
  | .linkTrainingDone port => Sys2Proof.Machine.execLinkTrainingDone port s
  | .linkFailure port => Sys2Proof.Machine.execLinkFailure port s
  | .tc10SleepAck port => Sys2Proof.Machine.execTc10SleepAck port s
  | .tc10SleepAckTimeout port => Sys2Proof.Machine.execTc10SleepAckTimeout port s
  | .tc10SleepRequest port => Sys2Proof.Machine.execTc10SleepRequest port s
  | .tc10WakePulse port => Sys2Proof.Machine.execTc10WakePulse port s
  | .plcaBeaconLoss port => Sys2Proof.Machine.execPlcaBeaconLoss port s
  | .plcaBeaconReturn port => Sys2Proof.Machine.execPlcaBeaconReturn port s
  | .canChannelConfig r => Sys2Proof.Machine.execCanChannelConfig r s
  | .canObjectConfig r => Sys2Proof.Machine.execCanObjectConfig r s
  | .canObjectAttach r => Sys2Proof.Machine.execCanObjectAttach r s
  | .canChannelQuery r => Sys2Proof.Machine.execCanChannelQuery r s
  | .canChannelRecover r => Sys2Proof.Machine.execCanChannelRecover r s
  | .canObjectQuery r => Sys2Proof.Machine.execCanObjectQuery r s
  | .canGangSet r => Sys2Proof.Machine.execCanGangSet r s
  | .canIntegrationDone channel => Sys2Proof.Machine.execCanIntegrationDone channel s
  | .canBusOffRecovery channel => Sys2Proof.Machine.execCanBusOffRecovery channel s
  | .canFrameReceive channel rx => Sys2Proof.Machine.execCanFrameReceive channel rx s
  | .canFrameTransmitEnd channel start result => Sys2Proof.Machine.execCanFrameTransmitEnd channel start result s
  | .canTtRelease object => Sys2Proof.Machine.execCanTtRelease object s
  | .canGangInstant channel => Sys2Proof.Machine.execCanGangInstant channel s
  | .canTxdDominantTimeout channel => Sys2Proof.Machine.execCanTxdDominantTimeout channel s
  | .objStatusRead partition object => Sys2Proof.Machine.execObjStatusRead partition object s
  | .objCtrlSendReq partition object => Sys2Proof.Machine.execObjCtrlSendReq partition object s
  | .objCtrlAbort partition object begun => Sys2Proof.Machine.execObjCtrlAbort partition object begun s
  | .objCtrlRelease partition object => Sys2Proof.Machine.execObjCtrlRelease partition object s
  | .linChannelConfig r => Sys2Proof.Machine.execLinChannelConfig r s
  | .linScheduleSet r => Sys2Proof.Machine.execLinScheduleSet r s
  | .linFrameWrite r => Sys2Proof.Machine.execLinFrameWrite r s
  | .linFrameRead r => Sys2Proof.Machine.execLinFrameRead r s
  | .linBusControl r => Sys2Proof.Machine.execLinBusControl r s
  | .linSlotStart channel => Sys2Proof.Machine.execLinSlotStart channel s
  | .linHeaderReceive channel id => Sys2Proof.Machine.execLinHeaderReceive channel id s
  | .linResponseReceive channel data checksum error => Sys2Proof.Machine.execLinResponseReceive channel data checksum error s
  | .linNoResponse channel => Sys2Proof.Machine.execLinNoResponse channel s
  | .linWakeSeen channel => Sys2Proof.Machine.execLinWakeSeen channel s
  | .linScheduleRestart channel => Sys2Proof.Machine.execLinScheduleRestart channel s
  | .localPortConfig r => Sys2Proof.Machine.execLocalPortConfig r s
  | .localTransfer r => Sys2Proof.Machine.execLocalTransfer r s
  | .localTransferDone instance_ status data => Sys2Proof.Machine.execLocalTransferDone instance_ status data s
  | .localGpioSet r => Sys2Proof.Machine.execLocalGpioSet r s
  | .localGpioGet r => Sys2Proof.Machine.execLocalGpioGet r s
  | .gpioEdge gpio level => Sys2Proof.Machine.execGpioEdge gpio level s
  | .uartByteReceive port byte error => Sys2Proof.Machine.execUartByteReceive port byte error s
  | .uartIdleTimeout port => Sys2Proof.Machine.execUartIdleTimeout port s
  | .loadChannelConfig r => Sys2Proof.Machine.execLoadChannelConfig r s
  | .loadWireSet r => Sys2Proof.Machine.execLoadWireSet r s
  | .loadSet r => Sys2Proof.Machine.execLoadSet r s
  | .loadSetDirectWrite partition channel value => Sys2Proof.Machine.execLoadSetDirectWrite partition channel value s
  | .loadSetClear r => Sys2Proof.Machine.execLoadSetClear r s
  | .loadQuery r => Sys2Proof.Machine.execLoadQuery r s
  | .loadGangSet r => Sys2Proof.Machine.execLoadGangSet r s
  | .loadMeasureSet r => Sys2Proof.Machine.execLoadMeasureSet r s
  | .loadDiagRun r => Sys2Proof.Machine.execLoadDiagRun r s
  | .loadDiagDone channel result measured => Sys2Proof.Machine.execLoadDiagDone channel result measured s
  | .loadSafeTableSet r => Sys2Proof.Machine.execLoadSafeTableSet r s
  | .safeTableWritten => Sys2Proof.Machine.execSafeTableWritten s
  | .loadHoldSet r => Sys2Proof.Machine.execLoadHoldSet r s
  | .loadReclaim r => Sys2Proof.Machine.execLoadReclaim r s
  | .loadHoldEnd => Sys2Proof.Machine.execLoadHoldEnd s
  | .loadOvercurrentTrip channel currentMa => Sys2Proof.Machine.execLoadOvercurrentTrip channel currentMa s
  | .loadThermalTrip channel => Sys2Proof.Machine.execLoadThermalTrip channel s
  | .loadDeltaTTrip channel => Sys2Proof.Machine.execLoadDeltaTTrip channel s
  | .wireModelUpdate => Sys2Proof.Machine.execWireModelUpdate s
  | .loadRestart channel => Sys2Proof.Machine.execLoadRestart channel s
  | .pwmPeriodStart channel => Sys2Proof.Machine.execPwmPeriodStart channel s
  | .currentSample channel microamps saturated => Sys2Proof.Machine.execCurrentSample channel microamps saturated s
  | .openLoadDetect channel kind => Sys2Proof.Machine.execOpenLoadDetect channel kind s
  | .rippleReplan => Sys2Proof.Machine.execRippleReplan s
  | .supplyDipStart feed mv => Sys2Proof.Machine.execSupplyDipStart feed mv s
  | .supplyDipEnd feed lowest => Sys2Proof.Machine.execSupplyDipEnd feed lowest s
  | .shedRestoreDelay channel => Sys2Proof.Machine.execShedRestoreDelay channel s
  | .supplyFeedLost feed mv => Sys2Proof.Machine.execSupplyFeedLost feed mv s
  | .vlogicLow mv => Sys2Proof.Machine.execVlogicLow mv s
  | .powerDieLogicLoss => Sys2Proof.Machine.execPowerDieLogicLoss s
  | .supplyOvervoltage feed highest => Sys2Proof.Machine.execSupplyOvervoltage feed highest s
  | .highVoltageShutdown feed mv => Sys2Proof.Machine.execHighVoltageShutdown feed mv s
  | .highVoltageRelease => Sys2Proof.Machine.execHighVoltageRelease s
  | .groundLoss blades offsetMv => Sys2Proof.Machine.execGroundLoss blades offsetMv s
  | .groundRestored largest => Sys2Proof.Machine.execGroundRestored largest s
  | .supplyRegulator rail mv above => Sys2Proof.Machine.execSupplyRegulator rail mv above s
  | .senseInputConfig r => Sys2Proof.Machine.execSenseInputConfig r s
  | .senseStateRead r => Sys2Proof.Machine.execSenseStateRead r s
  | .senseSampleSet r => Sys2Proof.Machine.execSenseSampleSet r s
  | .senseGangSet r => Sys2Proof.Machine.execSenseGangSet r s
  | .senseCalRun r => Sys2Proof.Machine.execSenseCalRun r s
  | .senseCalDone => Sys2Proof.Machine.execSenseCalDone s
  | .sensorSupplySet r => Sys2Proof.Machine.execSensorSupplySet r s
  | .senseQuery r => Sys2Proof.Machine.execSenseQuery r s
  | .senseComparatorRead input high => Sys2Proof.Machine.execSenseComparatorRead input high s
  | .senseSample input value flags => Sys2Proof.Machine.execSenseSample input value flags s
  | .converterRotation => Sys2Proof.Machine.execConverterRotation s
  | .converterCalibrationDone converter bad => Sys2Proof.Machine.execConverterCalibrationDone converter bad s
  | .sensorSupplyLimit output => Sys2Proof.Machine.execSensorSupplyLimit output s
  | .sensorSupplyOvervoltage output => Sys2Proof.Machine.execSensorSupplyOvervoltage output s
  | .sensorSupplyUndervoltage output => Sys2Proof.Machine.execSensorSupplyUndervoltage output s
  | .sleepEnter r => Sys2Proof.Machine.execSleepEnter r s
  | .sleepEntryPhase => Sys2Proof.Machine.execSleepEntryPhase s
  | .sleepCancel r => Sys2Proof.Machine.execSleepCancel r s
  | .wakeSourceSet r => Sys2Proof.Machine.execWakeSourceSet r s
  | .wakeSelectiveSet r => Sys2Proof.Machine.execWakeSelectiveSet r s
  | .wakeQuery r => Sys2Proof.Machine.execWakeQuery r s
  | .wakeValidate r => Sys2Proof.Machine.execWakeValidate r s
  | .rtcAlarmSet r => Sys2Proof.Machine.execRtcAlarmSet r s
  | .rtcAlarm => Sys2Proof.Machine.execRtcAlarm s
  | .wakeLatch source detail => Sys2Proof.Machine.execWakeLatch source detail s
  | .idleExit cause source => Sys2Proof.Machine.execIdleExit cause source s
  | .wakeWindowExpiry source => Sys2Proof.Machine.execWakeWindowExpiry source s
  | .wakeMuteExpiry source => Sys2Proof.Machine.execWakeMuteExpiry source s
  | .timeSourceMeasurement offset rate => Sys2Proof.Machine.execTimeSourceMeasurement offset rate s
  | .timeSourceLoss => Sys2Proof.Machine.execTimeSourceLoss s
  | .holdoverLimit => Sys2Proof.Machine.execHoldoverLimit s
  | .ppsInEdge => Sys2Proof.Machine.execPpsInEdge s
  | .ppsOutPulse => Sys2Proof.Machine.execPpsOutPulse s
  | .d7TimeStamp => Sys2Proof.Machine.execD7TimeStamp s
  | .d7CopyInvalid => Sys2Proof.Machine.execD7CopyInvalid s
  | .d6CopyInvalid => Sys2Proof.Machine.execD6CopyInvalid s
  | .timeReferenceRefresh => Sys2Proof.Machine.execTimeReferenceRefresh s
  | .clockMonitorExcursion unit cause => Sys2Proof.Machine.execClockMonitorExcursion unit cause s
  | .backstayFrameFail => Sys2Proof.Machine.execBackstayFrameFail s
  | .mastheadHeartbeat count => Sys2Proof.Machine.execMastheadHeartbeat count s
  | .mastheadHeartbeatTimeout cause => Sys2Proof.Machine.execMastheadHeartbeatTimeout cause s
  | .mastheadRestartAttempt => Sys2Proof.Machine.execMastheadRestartAttempt s
  | .mastheadRestartTimeout => Sys2Proof.Machine.execMastheadRestartTimeout s
  | .controllerReturned => Sys2Proof.Machine.execControllerReturned s
  | .trialHoveToReset => Sys2Proof.Machine.execTrialHoveToReset s
  | .twinPassMismatch unit again => Sys2Proof.Machine.execTwinPassMismatch unit again s
  | .cpuCclassWrite core value => Sys2Proof.Machine.execCpuCclassWrite core value s
  | .unitEvent unit cause inFlight lasting copyFails => Sys2Proof.Machine.execUnitEvent unit cause inFlight lasting copyFails s
  | .furlRevocation => Sys2Proof.Machine.execFurlRevocation s
  | .healthClassSet r => Sys2Proof.Machine.execHealthClassSet r s
  | .healthUnitQuery r => Sys2Proof.Machine.execHealthUnitQuery r s
  | .unitFurl r => Sys2Proof.Machine.execUnitFurl r s
  | .unitUnfurl r => Sys2Proof.Machine.execUnitUnfurl r s
  | .unfurlDone unit passed => Sys2Proof.Machine.execUnfurlDone unit passed s
  | .reefPlanRun r => Sys2Proof.Machine.execReefPlanRun r s
  | .reefQuery r => Sys2Proof.Machine.execReefQuery r s
  | .reefPlan => Sys2Proof.Machine.execReefPlan s
  | .reefCeilingApply => Sys2Proof.Machine.execReefCeilingApply s
  | .ageingMonitorSample domain measure index value => Sys2Proof.Machine.execAgeingMonitorSample domain measure index value s
  | .selftestRun r => Sys2Proof.Machine.execSelftestRun r s
  | .selftestScheduleSet r => Sys2Proof.Machine.execSelftestScheduleSet r s
  | .selftestQuery r => Sys2Proof.Machine.execSelftestQuery r s
  | .selftestSlice unit failed => Sys2Proof.Machine.execSelftestSlice unit failed s
  | .lifecycleRead r => Sys2Proof.Machine.execLifecycleRead r s
  | .lifecycleChallenge r => Sys2Proof.Machine.execLifecycleChallenge r s
  | .challengeExpiry => Sys2Proof.Machine.execChallengeExpiry s
  | .lifecycleAdvance r => Sys2Proof.Machine.execLifecycleAdvance r s
  | .debugOpen r => Sys2Proof.Machine.execDebugOpen r s
  | .otpWrite r => Sys2Proof.Machine.execOtpWrite r s
  | .lifecycleDone blown => Sys2Proof.Machine.execLifecycleDone blown s
  | .tamperConfig r => Sys2Proof.Machine.execTamperConfig r s
  | .tamperLogRead r => Sys2Proof.Machine.execTamperLogRead r s
  | .tamperRelease r => Sys2Proof.Machine.execTamperRelease r s
  | .tamperDetected input detail => Sys2Proof.Machine.execTamperDetected input detail s
  | .tamperEraseDone => Sys2Proof.Machine.execTamperEraseDone s
  | .keySlotOwnerSet r => Sys2Proof.Machine.execKeySlotOwnerSet r s
  | .keyGenerate r => Sys2Proof.Machine.execKeyGenerate r s
  | .keyDerive r => Sys2Proof.Machine.execKeyDerive r s
  | .keyUnwrap r => Sys2Proof.Machine.execKeyUnwrap r s
  | .keyImport r => Sys2Proof.Machine.execKeyImport r s
  | .keyWrap r => Sys2Proof.Machine.execKeyWrap r s
  | .keyDestroy r => Sys2Proof.Machine.execKeyDestroy r s
  | .keyQuery r => Sys2Proof.Machine.execKeyQuery r s
  | .keyCommitted slot ok => Sys2Proof.Machine.execKeyCommitted slot ok s
  | .keyAreaEraseDone slot ok => Sys2Proof.Machine.execKeyAreaEraseDone slot ok s
  | .trngHealthFail => Sys2Proof.Machine.execTrngHealthFail s
  | .drbgReseed => Sys2Proof.Machine.execDrbgReseed s
  | .counterHighMarkWrite slot => Sys2Proof.Machine.execCounterHighMarkWrite slot s
  | .lockerUnseal => Sys2Proof.Machine.execLockerUnseal s
  | .cipherRun r => Sys2Proof.Machine.execCipherRun r s
  | .cipherOpEnd operation => Sys2Proof.Machine.execCipherOpEnd operation s
  | .cipherCounterRead r => Sys2Proof.Machine.execCipherCounterRead r s
  | .cipherQuery r => Sys2Proof.Machine.execCipherQuery r s
  | .cipherHoldSet r => Sys2Proof.Machine.execCipherHoldSet r s
  | .cvuConfig r => Sys2Proof.Machine.execCvuConfig r s
  | .cvuRun r => Sys2Proof.Machine.execCvuRun r s
  | .cvuStreamAttach r => Sys2Proof.Machine.execCvuStreamAttach r s
  | .cvuQuery r => Sys2Proof.Machine.execCvuQuery r s
  | .fairleadConfig r => Sys2Proof.Machine.execFairleadConfig r s
  | .fairleadWindowSet r => Sys2Proof.Machine.execFairleadWindowSet r s
  | .fairleadMove r => Sys2Proof.Machine.execFairleadMove r s
  | .fairleadMoveEnd operation status data => Sys2Proof.Machine.execFairleadMoveEnd operation status data s
  | .fairleadFenceClear r => Sys2Proof.Machine.execFairleadFenceClear r s
  | .fairleadCfg r => Sys2Proof.Machine.execFairleadCfg r s
  | .fairleadQuery r => Sys2Proof.Machine.execFairleadQuery r s
  | .fairleadLinkState state speed width progress => Sys2Proof.Machine.execFairleadLinkState state speed width progress s
  | .fairleadInboundRequest write bar address data length requester => Sys2Proof.Machine.execFairleadInboundRequest write bar address data length requester s
  | .fairleadPostedError cause address length => Sys2Proof.Machine.execFairleadPostedError cause address length s
  | .fairleadBackoff operation => Sys2Proof.Machine.execFairleadBackoff operation s
  | .fairleadCompletionTimeout operation => Sys2Proof.Machine.execFairleadCompletionTimeout operation s
  | .prefetchBufferExpiry window => Sys2Proof.Machine.execPrefetchBufferExpiry window s
  | .cmdRingTailWrite partition ring tail => Sys2Proof.Machine.execCmdRingTailWrite partition ring tail s
  | .cmdRingEnable partition ring control => Sys2Proof.Machine.execCmdRingEnable partition ring control s
  | .cmdRingDisable partition ring control => Sys2Proof.Machine.execCmdRingDisable partition ring control s
  | .cplRingEnable partition control => Sys2Proof.Machine.execCplRingEnable partition control s
  | .evtRingEnable partition control => Sys2Proof.Machine.execEvtRingEnable partition control s
  | .ringConfigWrite partition offset value => Sys2Proof.Machine.execRingConfigWrite partition offset value s
  | .cplRingTailWrite partition tail => Sys2Proof.Machine.execCplRingTailWrite partition tail s
  | .evtRingTailWrite partition tail => Sys2Proof.Machine.execEvtRingTailWrite partition tail s
  | .ringAccessFaultClear partition offset => Sys2Proof.Machine.execRingAccessFaultClear partition offset s
  | .evtRingDroppedRead partition => Sys2Proof.Machine.execEvtRingDroppedRead partition s
  | .commandExecuteF => Sys2Proof.Machine.execCommandExecuteF s
  | .intStatusClear partition value => Sys2Proof.Machine.execIntStatusClear partition value s
  | .intMaskWrite partition value => Sys2Proof.Machine.execIntMaskWrite partition value s
  | .coalesceTimer partition => Sys2Proof.Machine.execCoalesceTimer partition s
  | .registerWrite partition address value => Sys2Proof.Machine.execRegisterWrite partition address value s
  | .powerUp straps vlogicMv heathLost => Sys2Proof.Machine.execPowerUp straps vlogicMv heathLost s
  | .resetNPulse lengthNs => Sys2Proof.Machine.execResetNPulse lengthNs s
  | .startupBootRom => Sys2Proof.Machine.execStartupBootRom s
  | .startupSelftest failing => Sys2Proof.Machine.execStartupSelftest failing s
  | .commandListExecute => Sys2Proof.Machine.execCommandListExecute s
  | .recoveryImageReceive image writeOk => Sys2Proof.Machine.execRecoveryImageReceive image writeOk s
  | .recoveryBeacon => Sys2Proof.Machine.execRecoveryBeacon s
  | .isolationCondition outside => Sys2Proof.Machine.execIsolationCondition outside s
  | .vlogicResetRelease => Sys2Proof.Machine.execVlogicResetRelease s
  | .overVoltageLogged feed mv => Sys2Proof.Machine.execOverVoltageLogged feed mv s
  | .d6TimeStamp => Sys2Proof.Machine.execD6TimeStamp s
  | .sensorSupplyRestart output => Sys2Proof.Machine.execSensorSupplyRestart output s
  | .sensorSupplyOvervoltageRelease output => Sys2Proof.Machine.execSensorSupplyOvervoltageRelease output s
  | .selectiveWakeDecoderFrame channel ok frame => Sys2Proof.Machine.execSelectiveWakeDecoderFrame channel ok frame s
  | .delayedItemConforms kind subject => Sys2Proof.Machine.execDelayedItemConforms kind subject s

end Sys2Proof.Machine
end

