-- ==== Sys2Proof/Machine/Readout.lean ====
section
/-! DEFINITION. What a read of a register of a function window returns (R57-R64, R95-R100, R146-R150, R190-R193, R262-R265,
R301-R305, R370-R373, R579, R580), and the levels of FAULT_N, SAFE_N and INT_N (R599). Reads that change state have commands of
their own. -/

namespace Sys2Proof.Machine

/-- A ring's STATUS register (R64). -/
def Ring.statusReg (x : Ring) (overflow : Bool) : Nat :=
  flag (x.enable && !x.fault) * 2 ^ 31 + 8 * flag overflow + 4 * flag x.doorbellErr + 2 * flag x.fault + flag x.fault

/-- A ring register as read (R58-R64, R72). -/
def Window.readRing (w : Window) (n : RingName) : Nat → Nat
  | 0x00 => (w.ring n).base % 2 ^ 32
  | 0x04 => (w.ring n).base / 2 ^ 32
  | 0x08 => flag (w.ring n).enable * 2 ^ 31 + (w.ring n).vector * 256 + (w.ring n).sizeLog2
  | 0x0C => (w.ring n).tail
  | 0x10 => (w.ring n).head
  | 0x14 => (w.ring n).statusReg (w.overflow && n == .evt)
  | 0x18 =>
    (match n with
     | .cmd _ => 0
     | .cpl => w.coalesceUs * 2 ^ 16 + w.coalesceCount
     | .evt => w.dropped)
  | _ => 0

/-- The vector table as read (R95). -/
def Window.readVector (w : Window) (offset : Nat) : Nat :=
  let e := Table.get {} w.vectors (offset / 16)
  match offset % 16 with
  | 0 => e.addr % 2 ^ 32
  | 4 => e.addr / 2 ^ 32
  | 8 => e.data
  | _ => flag e.toInt

/-- FEAT_ACCEPTn as read (R98, R100): after a guest's commit its own partition-scope bits with P0's committed device-scope
bits. -/
def State.acceptRead (s : State) (p n : Nat) : Nat :=
  if p ≠ 0 ∧ (s.io.window p).committed then
    (s.acceptWord p n - (s.acceptWord p n &&& deviceScope n)) ||| (if (s.io.window 0).committed then s.acceptWord 0 n &&& deviceScope n else 0)
  else s.acceptWord p n

/-- Half of a 64-bit word: the lower at an offset that is a multiple of 8 (R57). -/
def halfAt (w offset : Nat) : Nat := if offset % 8 = 0 then w % 2 ^ 32 else w / 2 ^ 32

/-- OBJ_STATUS (R304). -/
def CanObject.statusReg (x : CanObject) : Nat :=
  flag x.new * 2 ^ 31 + flag x.pending * 2 ^ 30 + flag x.locked * 2 ^ 29 + flag x.shadow.isSome * 2 ^ 28 + flag x.checkFail * 2 ^ 27 +
  flag x.writeIgnored * 2 ^ 26 + x.lastCause % 16 * 2 ^ 16 + min 255 x.attempts * 256

/-- The visible frame's register (R302): a receive object shows it. -/
def CanRxBuf.reg (b : CanRxBuf) (offset : Nat) : Nat :=
  if offset = 0x08 then canIdWord b.frame
  else if offset = 0x0C then canInfo b.frame
  else if offset = 0x10 then b.frame.vcid.toNat * 2 ^ 24 + b.buf % 2
  else if offset = 0x14 then b.frame.af.toNat
  else if offset = 0x18 ∨ offset = 0x1C then halfAt b.time offset
  else if 0x20 ≤ offset ∧ offset < 0x60 then byteField (ofBytes b.frame.payload) (offset - 0x20) 4
  else 0

/-- A send object's slot registers as they stand (R302). -/
def CanObject.reg (x : CanObject) (offset : Nat) : Nat :=
  if offset = 0x08 then x.regId
  else if offset = 0x0C then x.regInfo
  else if offset = 0x10 then x.regXl
  else if offset = 0x14 then x.regAf
  else if offset = 0x18 ∨ offset = 0x1C then halfAt x.regTime offset
  else if 0x20 ≤ offset ∧ offset < 0x60 then byteField x.regData (offset - 0x20) 4
  else 0

/-- A register of an object slot as read (R302-R305). -/
def CanObject.readReg (x : CanObject) (offset : Nat) : Nat :=
  if offset = 0x04 then x.statusReg
  else if offset = 0x60 then (if x.xlBytes = 0 then 0 else x.poolBlock * 2 ^ 16 + x.xlBytes)
  else if x.direction = 1 then (match x.visible with | some b => b.reg offset | none => 0)
  else x.reg offset

/-- A load channel's register as read (R370-R373). -/
def State.readLoad (s : State) (n offset : Nat) : Nat :=
  let c := s.loadOf n
  match offset with
  | 0x00 => c.setReg
  | 0x04 => s.loadState n
  | 0x08 => c.flags.toNat
  | 0x0C => ofSigned 32 c.currentUa
  | 0x10 => c.wireReg
  | 0x14 => ofSigned 16 c.deltaT * 2 ^ 16 + ofSigned 16 c.tj
  | 0x18 => ofSigned 32 c.voutMv
  | _ => 0

/-- Four one-byte entries in a register, the lowest in bits [7:0] (R146). -/
def fourBytes (entry : Nat → Nat) (k : Nat) : Nat :=
  pack ((span 0 4).map fun i => (i, 1, entry (4 * k + i)))

/-- PART_ENTRY (R147). -/
def State.partEntry (s : State) (p : Nat) : Nat :=
  let st := match (s.io.part p).state with | .free => 0 | .active => 1 | .quiescing => 2 | .quiet => 3
  let queues := ((span 0 1024).filter fun q => decide (s.owner kindQueue q = p)).length
  st * 2 ^ 29 + s.io.classOf p * 2 ^ 24 + (if p = 0 then 0 else queues) % 128 * 256 +
    flag (Table.get {} s.io.dirty p).running * 128 + flag (s.io.window p).committed * 64

/-- The tables of P0's window from 0x1_0000 (R146-R150). -/
def State.readPartitions (s : State) (o : Nat) : Nat :=
  let owners (kind base : Nat) : Nat := fourBytes (s.owner kind) ((o - base) / 4)
  if o < 0x100 then s.partEntry (o / 4)
  else if o < 0x120 then
    let c := Table.get {} s.io.classes ((o - 0x100) / 4)
    c.colourLast * 2 ^ 24 + c.colourFirst * 2 ^ 16 + c.wayMask
  else if o < 0x200 then 0
  else if o < 0x400 then
    let r := Table.get {} s.io.msRoot ((o - 0x200) / 8)
    if o % 8 = 0 then r.addr % 2 ^ 32 / 4096 * 4096 + flag r.enable else r.addr / 2 ^ 32 % 256
  else if o < 0x1400 then
    fourBytes (fun k => if k * 2 ^ 21 < s.io.dramBytes then
      (Table.get {} s.io.memOwner k).owner + 128 * flag (Table.get {} s.io.memOwner k).shared else 0) ((o - 0x400) / 4)
  else if o < 0x2000 then 0
  else if o < 0x2400 then owners kindQueue 0x2000
  else if o < 0x2A00 then owners kindCan 0x2400
  else if o < 0x2A30 then owners kindLoad 0x2A00
  else if o < 0x2A40 then 0
  else if o < 0x2A60 then owners kindSense 0x2A40
  else if o < 0x2A70 then owners kindCvu 0x2A60
  else if o < 0x2A78 then owners kindLin 0x2A70
  else if o < 0x2A84 then fourBytes (fun k => if k < 10 then s.owner kindPort k else 0) ((o - 0x2A78) / 4)
  else if o < 0x2A90 then 0
  else if o < 0x2AB0 then owners kindWindow 0x2A90
  else if o < 0x3000 then 0
  else if o < 0x4000 then fourBytes (fun f => (s.flowOf f).owner) ((o - 0x3000) / 4)
  else if o < 0x4100 then
    let d := Table.get {} s.io.dirty ((o - 0x4000) / 4)
    flag d.error * 2 ^ 31 + 2 * flag d.activeB + flag d.running
  else 0

/-- The resource of a service-curve entry; a strand's entry names the strand in INSTANCE (R192). -/
def curveRes (k : Nat) : Option Res :=
  if k < 120 then some ⟨rEgress, k % 8, k / 8⟩
  else if k < 128 then none
  else if k = 128 then some ⟨rFabric, 0, 0⟩
  else if k < 133 then some ⟨rSlice, 0, k - 129⟩
  else if k < 145 then some ⟨rBus, 0, k - 133⟩
  else if k < 147 then some ⟨rT1s, 0, k - 135⟩
  else if k = 147 then some ⟨rSense, 0, 0⟩
  else if k < 154 then some ⟨rCurrent, 0, k - 148⟩
  else if k < 178 then some ⟨rStrand, 0, k - 154⟩
  else if k < 194 then some ⟨rCvu, 0, k - 178⟩
  else if k < 242 then some ⟨rLoad, 1, k - 194⟩
  else if k < 250 then some ⟨rLin, 0, k - 242⟩
  else none

/-- The unit behind a service-curve entry (R37, R193): the whole pool of a pooled unit has none. -/
def curveUnit (r : Res) : Option Nat :=
  if r.type = rEgress then some (unitId 0x0C r.inst)
  else if r.type = rFabric then some (unitId 0x0E 0)
  else if r.type = rSlice then some (unitId 0x08 0)
  else if r.type = rBus then some (unitId 0x10 r.inst)
  else if r.type = rT1s then some (unitId 0x0C r.inst)
  else if r.type = rCurrent then some (unitId 0x15 r.inst)
  else if r.type = rStrand then some (unitId 0x1E r.inst)
  else if r.type = rCvu then some (unitId 0x20 r.inst)
  else if r.type = rLoad then some (loadUnit r.inst)
  else if r.type = rLin then some (unitId 0x11 r.inst)
  else none

/-- Whether a flow's reference is on the resource of a service-curve entry (R192). -/
def State.onEntry (s : State) (a : Res) (f : Flow) (b : Res) : Bool :=
  a.type == b.type &&
  (if a.type = rStrand then f.strand == a.inst
   else if a.type = rSense then true
   else if a.type = rCurrent then s.adcOf b.inst == a.inst
   else if a.type = rEgress then a.inst == b.inst && a.qual == b.qual
   else a.inst == b.inst)

/-- The flows, with their references, on a service-curve entry. -/
def State.entryFlows (s : State) (a : Res) : List ((Nat × Flow) × Res) :=
  s.reserved.filterMap fun g => (g.2.decl.path.find? fun b => s.onEntry a g.2 b).map fun b => (g, b)

/-- SC_RATE and SC_LATENCY of an entry (R193): the rate per ns, and θ. -/
def State.entryCurve (s : State) (a : Res) : Rat × Nat :=
  if a.type = rBus then
    let c := s.contract a.inst
    (1, if c.enable then c.maxFrame else 0)
  else if a.type = rT1s then
    let c := s.contract (a.inst + 2)
    if c.enable && (s.ethOf a.inst).plca then
      let largest := (s.reserved.filter fun g => g.2.decl.path.any fun b => s.onEntry a g.2 b).foldl (fun n g => max n g.2.decl.maxSize) 0
      ((s.curve a largest).1, (s.curve a largest).2.ceil.toNat)
    else (0, 0)
  else if a.type = rLin then
    let x := s.linOf a.inst
    if !x.enable || (x.commander && x.table.isEmpty) || (!x.commander && !(s.contract (a.inst + 14)).enable) then (0, 0)
    else (mkRat 1 1000000, s.linCycle a.inst)
  else ((s.curve a 0).1, (s.curve a 0).2.ceil.toNat)

/-- A service-curve entry's registers (R193). -/
def State.readCurve (s : State) (k offset : Nat) : Nat :=
  match curveRes k with
  | none => 0
  | some a =>
    let l : List ((Nat × Flow) × Res) := s.entryFlows a
    match offset with
    | 0x0 => (1000000 * (s.entryCurve a).1).floor.toNat
    | 0x4 => (s.entryCurve a).2
    | 0x8 => (1000000 * ((l.map fun x => s.rate x.1.2.decl x.2).foldl (· + ·) (0 : Rat))).ceil.toNat
    | 0xC =>
      flag (match curveUnit a with | some u => s.furled u | none => false) * 2 ^ 31 + (100 * share a).floor.toNat * 2 ^ 16 +
        l.length % 2 ^ 12
    | _ => 0

/-- FLOW_ENTRY (R191). -/
def Flow.entry (f : Flow) : Nat :=
  f.state.code * 2 ^ 29 + flag f.decl.tight * 2 ^ 28 + f.decl.priority % 16 * 2 ^ 24 + f.decl.type % 256 * 256

/-- The block of a contract (R164, R190). -/
def Contract.block (c : Contract) (m : Nat) : Nat :=
  pack [(0, 1, m), (1, 1, flag c.enable), (4, 4, c.utilPpm), (8, 4, c.burstNs), (12, 4, c.maxFrame), (16, 4, c.lowestKey),
    (20, 1, c.nodeCount), (22, 2, c.toTimer), (24, 4, c.cycleNs)]

/-- The admission tables of P0's window from 0x2_0000 (R190). -/
def State.readFlows (s : State) (o : Nat) : Nat :=
  if o < 0x4000 then (s.flowOf (o / 4)).entry
  else if o < 0x8000 then
    let f := s.flowOf ((o - 0x4000) / 4)
    if f.state = .admitted ∨ f.state = .held then cap32 f.promise else 0
  else if o < 0xC000 then cap32 (s.flowOf ((o - 0x8000) / 4)).watermark
  else if o < 0xCFA0 then s.readCurve ((o - 0xC000) / 16) (o % 16)
  else if o < 0xE000 then 0
  else if o < 0xE2C0 then byteField ((s.contract ((o - 0xE000) / 32)).block ((o - 0xE000) / 32)) (o % 32) 4
  else 0

/-- SWITCH_PORT_STATE (R265). -/
def State.portReg (s : State) (p : Nat) : Nat :=
  let x := s.swOf p
  let up := if p < 12 then (s.ethOf p).link == .up else s.portLive p
  flag x.enable * 2 ^ 31 + flag up * 2 ^ 30 + flag (s.furled (unitId 0x0C p)) * 2 ^ 29 + flag x.preActive * 2 ^ 28 +
    flag x.nextList.isSome * 2 ^ 27 + flag (!(s.enabledSas p 0).isEmpty || !(s.enabledSas p 1).isEmpty) * 2 ^ 26 + x.gateMask % 256 * 256

/-- The switch registers of P0's window from 0x3_0000 (R262-R265). -/
def State.readSwitch (s : State) (o : Nat) : Nat :=
  if o = 0x00 then flag s.sw.frozen * 2 ^ 31 + flag (s.has 0 .refcountMcast) * 2 ^ 30 + flag s.sw.sweeping * 2 ^ 29 + s.sw.banksOut
  else if o = 0x10 then s.sw.free
  else if o = 0x14 then s.bufferCells false
  else if o = 0x18 then s.bufferCells true
  else if o = 0x1C then s.sw.withdrawn
  else if o = 0x20 then flag s.sw.auditEnable * 2 ^ 31 + s.sw.auditPeriod
  else if o = 0x24 then flag s.sw.mismatch * 2 ^ 31 + s.sw.reclaimed
  else if o < 0x100 then 0
  else if o < 0x230 then s.reservation ((o - 0x100) / 4) * 2 ^ 16 + (s.accountOf ((o - 0x100) / 4)).quota
  else if o < 0x300 then 0
  else if o < 0x430 then (s.accountOf ((o - 0x300) / 4)).occupancy
  else if o < 0x500 then 0
  else if o < 0x540 then s.portReg ((o - 0x500) / 4)
  else 0

/-- HEALTH_CLASS (R580). -/
def State.classReg (s : State) (c : Nat) : Nat := (s.classParams c).windowMs * 1024 + (s.classParams c).threshold

/-- REEF_DOMAIN (R580). -/
def DomainReef.reg (d : DomainReef) : Nat :=
  min 255 d.slack * 2 ^ 24 + d.ceiling * 2 ^ 16 + d.guardMv * 256 + d.level % 8

/-- REEF_CHANNEL (R580). -/
def ChannelReef.reg (c : ChannelReef) : Nat := min 255 c.drift * 2 ^ 24 + c.ocPct * 2 ^ 16 + c.retryCap % 16 * 2 ^ 12 + c.step % 4

/-- The health registers of P0's window from 0x4_0000 (R579, R580). -/
def State.readHealth (s : State) (o : Nat) : Nat :=
  if o < 0xA0 then s.classReg (o / 4)
  else if 0x104 ≤ o ∧ o < 0x128 then (s.domainOf ((o - 0x100) / 4)).reg
  else if o = 0x180 then
    flag s.health.plan.isSome * 2 ^ 31 + flag s.health.nvWear * 2 ^ 30 + flag s.health.endMargin * 2 ^ 29 + s.health.planSeq % 2 ^ 16
  else if o = 0x188 ∨ o = 0x18C then halfAt s.health.planTime o
  else if 0x200 ≤ o ∧ o < 0x2C0 then (s.reefOf ((o - 0x200) / 4)).reg
  else if 0x300 ≤ o ∧ o < 0x3C0 then (s.reefOf ((o - 0x300) / 4)).cycles % 2 ^ 32
  else if 0x400 ≤ o ∧ o < 0x414 then Table.get 0 s.health.wear ((o - 0x400) / 4) % 2 ^ 32
  else if 0x1000 ≤ o ∧ o < 0x1000 + 4 * 0x2800 then s.unitReg ((o - 0x1000) / 4)
  else 0

/-- What an aligned 32-bit read at an offset of a partition's window returns (R55-R57). -/
def State.readRegister (s : State) (p a : Nat) : Nat :=
  let w := s.io.window p
  if !(s.windowOn p && aligned a 4) then 0
  else if a < 0xC0 then (if s.hasRing p (ringAt a) then w.readRing (ringAt a) (a % 0x20) else 0)
  else if a < 0x100 then 0
  else if a = 0x100 then w.intStatus.toNat
  else if a = 0x104 then w.intMask.toNat
  else if a < 0x200 then 0
  else if a < 0x400 then w.readVector (a - 0x200)
  else if a < 0x420 then halfAt (featWord ((a - 0x400) / 8)) a
  else if a < 0x440 then halfAt (s.acceptRead p ((a - 0x420) / 8)) a
  else if a < 0x2000 then 0
  else if a < 0x8000 then
    match s.objectIn p ((a - 0x2000) / 128) with
    | some o => (s.objOf o).readReg (a % 128)
    | none => 0
  else if a < 0x8C00 then
    if s.has p .directWindows && decide (s.owner kindLoad ((a - 0x8000) / 64) = p) then s.readLoad ((a - 0x8000) / 64) (a % 64) else 0
  else if p ≠ 0 ∨ a < 0x10000 then 0
  else if a < 0x20000 then s.readPartitions (a - 0x10000)
  else if a < 0x30000 then s.readFlows (a - 0x20000)
  else if a < 0x40000 then s.readSwitch (a - 0x30000)
  else if a < 0x50000 then s.readHealth (a - 0x40000)
  else 0

/-- Whether a start has not yet reached step 7 of R583 since a power-up or module reset (R599). BOOT_REPORT's START is 1 or 2
then. -/
def State.starting (s : State) : Bool :=
  decide (s.boot.start ≤ 2) &&
    (match s.boot.phase with
     | .released | .held | .selected | .tested | .off => true
     | _ => false)

/-- Whether the TZ7 is in Hove-to, in a recovery start or in a stopped start (R599). -/
def State.disabled (s : State) : Bool :=
  s.cpu.masthead.hoveTo || s.boot.phase == .recovery || s.boot.phase == .stopped

/-- Whether any unit is furled (R44). -/
def State.anyFurled (s : State) : Bool := s.health.units.any fun u => u.2.furled

/-- FAULT_N is low (R599); in Meadow and Heath it is high impedance. -/
def State.faultLow (s : State) : Bool :=
  !s.asleep && s.boot.phase != .off &&
  (s.starting || s.anyFurled || s.supply.mismatch || decide (s.load.copyBad = 2) || s.health.endMargin || s.disabled ||
    s.boot.tamperHeld)

/-- SAFE_N is low (R599, R467, R469). -/
def State.safeLow (s : State) : Bool :=
  !s.asleep && s.boot.phase != .off &&
  (s.starting || !s.cpu.masthead.present || (s.load.channels.any fun c => c.safe) || s.disabled)

/-- INT_N is low (R95, R599): throughout a compute-die reset it is high impedance. -/
def State.intLow (s : State) : Bool :=
  s.computeOn &&
  (span 0 32).any fun v => (s.io.window 0).intStatus.getLsbD v && (Table.get {} (s.io.window 0).vectors v).toInt

end Sys2Proof.Machine
end

