-- ==== Sys2Proof/Safety.lean ====
section
/-! DEFINITION. What counts as a safe run of the block, in the terms the claims use: when a command is clear to execute, and
how a step ends. -/

namespace Sys2Proof.Safety

open Sys2Proof.Machine

/-- A step that ends in a next state: the block neither faults nor refuses. -/
def Proceeds (s : State) : Prop := ∃ t, step s = .next t

/-- A command answers a next state of which `P` holds. -/
def Ends (i : Instr) (s : State) (P : State → Prop) : Prop := ∃ t, exec i s = .next t ∧ P t

/-- A ring command is clear to execute: its issuer's window is in service (R57), and none of the statuses of R89 applies. -/
def Clear (c : Command) (r : Request) (s : State) : Prop := s.windowOn r.issuer = true ∧ c.refusal r s = none

/-- None of the first four statuses of R89 applies: the packet is well formed, the features are committed where they have to be, and
no feature that is not accepted stands in the way. -/
def Gated (c : Command) (r : Request) (s : State) : Prop :=
  c.wellFormed r = true ∧ (c.always = true ∨ (s.io.window r.issuer).committed = true) ∧
  (∀ f, c.feature = some f → s.has r.issuer f = true) ∧
  ((s.io.window r.issuer).committed = true → r.deadlineValid = true → s.has r.issuer .cmdDeadline = true) ∧
  ((s.io.window r.issuer).committed = true → r.suppressDone = true → s.has r.issuer .completionSuppress = true) ∧
  c.featureBad r s = false

/-- Nor do the three that follow: no held tamper, no life-cycle state and no other owner stands in the way. -/
def Allowed (c : Command) (r : Request) (s : State) : Prop :=
  c.tamperRefused r s = false ∧ c.lifecycle r s = false ∧ (c.manager = false ∨ r.issuer = 0) ∧ c.owns r s = true

/-- A command has its effect and completes: it answers the state `u`, of which `P` holds, with the completion of the command
posted (R68). -/
def Completes (i : Instr) (r : Request) (s : State) (opcode : Nat) (st : Status) (results : Nat) (P : State → Prop) : Prop :=
  ∃ u, exec i s = .next (u.complete r opcode st results) ∧ P u

/-- As `Completes`, for results that the claim does not tell. -/
def CompletesSomehow (i : Instr) (r : Request) (s : State) (opcode : Nat) (st : Status) (P : State → Prop) : Prop :=
  ∃ res, Completes i r s opcode st res P

/-- The parts that the device has a fixed number of are all there: 48 load channels, 32 sense inputs, 5 converters and 4
sensor supply outputs. -/
def Shaped (s : State) : Prop :=
  s.load.channels.length = 48 ∧ s.sense.inputs.length = 32 ∧ s.sense.converters.length = 5 ∧ s.sense.supplies.length = 4

/-- The link of a port has moved to `next` now (R269): its sleep request is over, a failure is counted, and no other port has
changed. -/
def LinkMoved (p : Nat) (next : LinkState) (failed : Bool) (s t : State) : Prop :=
  (t.ethOf p).link = next ∧ (t.ethOf p).changed = s.now ∧ (t.ethOf p).sleepPending = false ∧
  (t.ethOf p).linkDrops = (if failed then satAdd 32 (s.ethOf p).linkDrops 1 else (s.ethOf p).linkDrops) ∧
  ∀ q, q ≠ p → t.ethOf q = s.ethOf q

end Sys2Proof.Safety
end

