-- ==== Sys2Proof/Certificates/Slice0/Obligations.lean ====
section
/-! DEFINITION. The statements about the TZ7. Those named '…Complete' say for each command of their family that it answers a next state and
what that state holds, under hypotheses on the state and operands alone; `Clear` is where a ring command executes. -/

open Sys2Proof Sys2Proof.Machine Sys2Proof.Safety

/-- A step takes the command at the front of the queue and is the command's effect on the state with the rest of the queue. -/
def Obligations.StepRunsTheFrontCommand : Prop :=
  ∀ (c : Instr) (rest : List Instr) (s : State), s.pending = c :: rest → step s = exec c { s with pending := rest }

/-- On an empty queue a cycle of the 500 MHz clock passes: Device Time moves on by its increment (R194), and nothing else happens while
the compute die does not run. That an empty queue lets the clock run is the model's choice (log entry 2). -/
def Obligations.EmptyQueueLetsTheClockRun : Prop :=
  (∀ (s : State), s.pending = [] → step s = .next s.tick.drainAll) ∧
  (∀ (s : State), s.pending = [] → s.computeOn = false → ∃ t, step s = .next t ∧ t.io = { s.io with time := s.io.time + s.increment } ∧
    t.time.tRef = s.time.tRef ∧ t.load = s.load ∧ t.flow = s.flow ∧ t.keys = s.keys ∧ t.pending = [])

/-- No command of the device touches the queue: what waits behind it still waits, in its order. -/
def Obligations.CommandsLeaveTheQueue : Prop :=
  ∀ (i : Instr) (s t : State), exec i s = .next t → t.pending = s.pending

/-- Memory keeps its canonical form in every step: addresses rise strictly and no entry equals a blank byte. -/
def Obligations.MemoryKeepsItsForm : Prop :=
  ∀ (s t : State), Memory.wf s.io.mem = true → step s = .next t → Memory.wf t.io.mem = true

/-- The device keeps its 48 load channels, 32 sense inputs, 5 converters and 4 sensor supplies in every step. -/
def Obligations.PartsStayInNumber : Prop :=
  ∀ (s t : State), Shaped s → step s = .next t → Shaped t

/-- Ageing goes one way (R565, R567): no step lowers a domain's reef level or a channel's derating step. -/
def Obligations.ReefLevelsNeverFall : Prop :=
  ∀ (s t : State), step s = .next t →
    (∀ d, (s.domainOf d).level ≤ (t.domainOf d).level) ∧ (∀ n, (s.reefOf n).step ≤ (t.reefOf n).step)

/-- The life cycle moves only forward (R496): only LIFECYCLE_DONE moves it, and to a later state that R496 allows. -/
def Obligations.LifeCycleMovesForward : Prop :=
  (∀ (i : Instr) (s t : State), exec i s = .next t → (∀ b, i ≠ .lifecycleDone b) → t.lifecycle = s.lifecycle) ∧
  (∀ (b : Bool) (s t : State), exec (.lifecycleDone b) s = .next t →
    t.lifecycle = s.lifecycle ∨ (s.lifecycle < t.lifecycle ∧ t.lifecycle ≤ 5))

/-- Memory (R8): what is written reads back, least significant byte first, and no other byte changes. -/
def Obligations.MemoryReadsBackWhatWasWritten : Prop :=
  (∀ (io : Io) (pa n w : Nat), (io.writePhys pa n w).readPhys pa n = w % 256 ^ n) ∧
  (∀ (io : Io) (pa n w a : Nat), (a < pa ∨ pa + n ≤ a) → (io.writePhys pa n w).readByte a = io.readByte a) ∧
  (∀ (io : Io) (pa n w i : Nat), i < n → (io.writePhys pa n w).readByte (pa + i) = BitVec.ofNat 8 (w / 256 ^ i))

/-- The completion of a command (R68, R79, R80): a DONE that asks for no completion leaves none, every other status is posted, and
SUPPRESS_DONE is refused without its feature. -/
def Obligations.CompletionsAreSuppressed : Prop :=
  (∀ (r : Request) (opcode results : Nat) (s : State), r.suppressDone = true → s.complete r opcode .done results = s) ∧
  (∀ (r : Request) (opcode results : Nat) (st : Status) (s : State), (r.suppressDone = false ∨ st ≠ .done) →
    s.complete r opcode st results = { s with io := s.io.postCompletion r.issuer (completionRecord r opcode st results) }) ∧
  (∀ (c : Command) (r : Request) (s : State), c.wellFormed r = true → (s.io.window r.issuer).committed = true →
    (∀ f, c.feature = some f → s.has r.issuer f = true) → (r.deadlineValid = true → s.has r.issuer .cmdDeadline = true) →
    r.suppressDone = true → s.has r.issuer .completionSuppress = false → (c.exec r s).status = some .badParam)

/-- The order of the statuses (R89): each applies where none before it does. -/
def Obligations.StatusesComeInOrder : Prop :=
  (∀ (x : Packet) (s : State), commandOf x.opcode = none → (s.perform x).status = some .badOpcode) ∧
  (∀ (c : Command) (r : Request) (s : State), c.wellFormed r = false → (c.exec r s).status = some .badParam) ∧
  (∀ (c : Command) (r : Request) (s : State), c.wellFormed r = true → c.always = false → (s.io.window r.issuer).committed = false →
    (c.exec r s).status = some .featuresNotCommitted) ∧
  (∀ (c : Command) (f : Feature) (r : Request) (s : State), c.wellFormed r = true → (s.io.window r.issuer).committed = true →
    c.feature = some f → s.has r.issuer f = false → (c.exec r s).status = some .badOpcode) ∧
  (∀ (c : Command) (r : Request) (s : State), c.wellFormed r = true → (s.io.window r.issuer).committed = true →
    (∀ f, c.feature = some f → s.has r.issuer f = true) →
    ((r.deadlineValid = true ∧ s.has r.issuer .cmdDeadline = false) ∨ (r.suppressDone = true ∧ s.has r.issuer .completionSuppress = false) ∨
      c.featureBad r s = true) → (c.exec r s).status = some .badParam) ∧
  (∀ (c : Command) (r : Request) (s : State), Gated c r s → c.tamperRefused r s = true → (c.exec r s).status = some .tamperHeld) ∧
  (∀ (c : Command) (r : Request) (s : State), Gated c r s → c.tamperRefused r s = false → c.lifecycle r s = true →
    (c.exec r s).status = some .notPermittedLifecycle) ∧
  (∀ (c : Command) (r : Request) (s : State), Gated c r s → c.tamperRefused r s = false → c.lifecycle r s = false →
    ((c.manager = true ∧ r.issuer ≠ 0) ∨ c.owns r s = false) → (c.exec r s).status = some .notOwner) ∧
  (∀ (c : Command) (r : Request) (s : State), Gated c r s → Allowed c r s → r.deadlineValid = true → r.deadline.toNat < s.now →
    (c.exec r s).status = some .deadlinePassed) ∧
  (∀ (c : Command) (r : Request) (s : State), Gated c r s → Allowed c r s → (r.deadlineValid = true → s.now ≤ r.deadline.toNat) →
    ((c.fast = false ∧ s.absent = true) ∨ (c.hoveTo = true ∧ s.cpu.masthead.hoveTo = true)) →
    (c.exec r s).status = some .controllerAbsent) ∧
  (∀ (c : Command) (r : Request) (s : State), Gated c r s → Allowed c r s → (r.deadlineValid = true → s.now ≤ r.deadline.toNat) →
    (c.fast = true ∨ s.absent = false) → (c.hoveTo = false ∨ s.cpu.masthead.hoveTo = false) → c.furled r s = true →
    (c.exec r s).status = some .unitFurled) ∧
  (∀ (c : Command) (r : Request) (s : State), c.gate r s = none → c.range r = false → (c.exec r s).status = some .badParam) ∧
  (∀ (c : Command) (r : Request) (st : Status) (s : State), c.gate r s = none → c.range r = true → firstOf (c.checks r s) = some st →
    (c.exec r s).status = some st)

/-- A command that a status refuses has no effect but its completion (R68, R88); one that takes a token spends the challenge (R498). -/
def Obligations.RefusedCommandOnlyCompletes : Prop :=
  (∀ (c : Command) (r : Request) (st : Status) (s : State), s.windowOn r.issuer = true → c.refusal r s = some st → c.spends = false →
    c.step r s = .next (s.complete r c.opcode st 0)) ∧
  (∀ (c : Command) (r : Request) (st : Status) (s : State), s.windowOn r.issuer = true → c.refusal r s = some st → c.spends = true →
    r.issuer = 0 → ∀ u, u = s.complete r c.opcode st 0 → c.step r s = .next { u with keys := { u.keys with challenge := none } }) ∧
  (∀ (c : Command) (r : Request) (s : State), s.windowOn r.issuer = false → c.step r s = .next s)

/-- The counting of a unit's events (R39): three in ten seconds by default and after a module reset, kept by a compute-die reset; an event
below the threshold is an upset, and the one that reaches it furls the unit. -/
def Obligations.UnitEventsAreCounted : Prop :=
  (∀ (c : Nat) (s : State), State.reset.classParams c = { threshold := 3, windowMs := 10000 } ∧
    s.moduleReset.classParams c = { threshold := 3, windowMs := 10000 } ∧ (s.computeReset 3 false).classParams c = s.classParams c) ∧
  (∀ (n cause inFlight : Nat) (s : State), unitExists n = true → s.furled n = false → s.counting n = true →
    (countIn ((s.now :: (s.unitHealth n).history).take 255) s.now (s.classParams (n / 256)).windowMs).length <
      (s.classParams (n / 256)).threshold →
    ((s.unitError n cause inFlight false false).unitHealth n).furled = false ∧
    ((s.unitError n cause inFlight false false).unitHealth n).upsets = satAdd 16 (s.unitHealth n).upsets 1) ∧
  (∀ (n cause inFlight : Nat) (s : State), unitExists n = true → s.furled n = false → s.counting n = true → n / 256 ≠ 0 →
    (s.classParams (n / 256)).threshold ≤
      (countIn ((s.now :: (s.unitHealth n).history).take 255) s.now (s.classParams (n / 256)).windowMs).length →
    ∃ (u : State) (count : Nat), s.unitError n cause inFlight false false = u.furlUnit n 0x01 count inFlight false ∧
      u.unitHealth n = { s.unitHealth n with history := (s.now :: (s.unitHealth n).history).take 255, lastEvent := s.now })

/-- The slack loss of a domain (R563): each sample of a replica, an NBTI or an HCI monitor makes it the larger of the replica's loss and
the loss that the shifts predict, and the replica's loss alone for D1 and D2. -/
def Obligations.SlackLossIsTheLarger : Prop :=
  ∀ (d m i : Nat) (v : Int) (s : State), 1 ≤ d → d ≤ 9 → m < 3 →
    Ends (.ageingMonitorSample d m i v) s fun t =>
      (t.domainOf d).replica = (if m = 0 then v.toNat else (s.domainOf d).replica) ∧
      (t.domainOf d).nbti = (if m = 1 then v.toNat else (s.domainOf d).nbti) ∧
      (t.domainOf d).hci = (if m = 2 then v.toNat else (s.domainOf d).hci) ∧
      (t.domainOf d).slack = (if d ≤ 2 then (t.domainOf d).replica
        else max (t.domainOf d).replica (Config.predictedLoss d (t.domainOf d).nbti (t.domainOf d).hci)) ∧
      ∀ e, e ≠ d → t.domainOf e = s.domainOf e

/-- The phase bit (R70, R80, R81): 1 on the first pass through a ring and turned at each wrap; a completion carries it in bit 56, an event
in bit 111 of its entry. -/
def Obligations.EntriesCarryThePhase : Prop :=
  ({} : Ring).phase = true ∧
  (∀ (x : Ring), x.head < x.size → x.advance.head = (x.head + 1) % x.size ∧
    x.advance.phase = (if x.head + 1 = x.size then !x.phase else x.phase) ∧ x.advance.tail = x.tail) ∧
  (∀ (io io1 : Io) (p record : Nat) (ts : List Task),
    io.devWrite p ((io.window p).evt.base + 32 * (io.window p).evt.head) 32 (record + flag (io.window p).evt.phase * 2 ^ 111) =
      (io1, none, ts) →
    (io.writeEvent p record).1 = io1.mapWindow p fun w => { w with evt := w.evt.advance }) ∧
  (∀ (io io1 io2 : Io) (p record : Nat) (ts ts2 : List Task),
    io.devWrite p ((io.window p).cpl.base + 32 * (io.window p).cpl.head) 32 (record + flag (io.window p).cpl.phase * 2 ^ 56) =
      (io1, none, ts) → (io1.mapWindow p fun w => { w with cpl := w.cpl.advance }).countCompletion p = (io2, ts2) →
    io.writeCompletion p record = io2.runTasks (ts ++ ts2))

/-- The TZ7 right after reset (R6, R57, R61, R95, R106, R107, R165, R269, R476, R479, R565, R582): what the rules give, and the invariants
of the model. -/
def Obligations.ResetState : Prop :=
  State.reset.pending = [] ∧ Memory.wf State.reset.io.mem = true ∧ Shaped State.reset ∧ State.reset.io.mem = [] ∧
  State.reset.lifecycle = 1 ∧ State.reset.boot.phase = .released ∧ State.reset.keys.sealed = true ∧
  (∀ kind n, State.reset.owner kind n = 0) ∧
  (∀ p, (State.reset.io.part p).state = (if p = 0 then .active else .free)) ∧
  (∀ p, (State.reset.io.window p).intMask = 0xFFFFFFFF#32 ∧ (State.reset.io.window p).intStatus = 0 ∧
    (State.reset.io.window p).committed = false ∧ (State.reset.io.window p).cpl.enable = false ∧
    (State.reset.io.window p).cpl.sizeLog2 = 4 ∧ (State.reset.io.window p).evt.enable = false) ∧
  (∀ f, (State.reset.flowOf f).state = .free) ∧ (∀ k, (State.reset.slotOf k).state = .empty) ∧
  (∀ u, State.reset.furled u = false) ∧ (∀ d, (State.reset.domainOf d).level = 0) ∧
  (∀ p, (State.reset.ethOf p).link = .disabled) ∧ (∀ c, (State.reset.canOf c).state = .disabled) ∧
  State.reset.fair.link = .disabled ∧ State.reset.sw.free = 16384 ∧ State.reset.boot.fwRecord.trial = false

/-- The doorbell and ENABLE of a command ring (R63, R65, R67): a TAIL below the ring size is taken, another sets DOORBELL_ERR and
leaves TAIL; ENABLE is set or cleared; then the rings are read and what may start is executed. With ENABLE 0 the doorbell sets the tail and reads nothing (R65). -/
def Obligations.CommandRingsComplete : Prop :=
  (∀ (p n : Nat) (v : Word) (s : State), s.windowOn p = true → s.hasRing p (.cmd n) = true → v.toNat < ((s.io.window p).ring (.cmd n)).size →
    exec (.cmdRingTailWrite p n v) s = .next ((s.mapRing p (.cmd n) fun x => { x with tail := v.toNat }).serveRings p)) ∧
  (∀ (p n : Nat) (v : Word) (s : State), s.windowOn p = true → s.hasRing p (.cmd n) = true → ((s.io.window p).ring (.cmd n)).size ≤ v.toNat →
    exec (.cmdRingTailWrite p n v) s = .next ((s.mapRing p (.cmd n) fun x => { x with doorbellErr := true }).serveRings p)) ∧
  (∀ (p n : Nat) (v : Word) (s : State), s.windowOn p = true → s.hasRing p (.cmd n) = true → ((s.io.window p).ring (.cmd n)).enable = true →
    exec (.cmdRingDisable p n v) s =
      .next ((s.mapRing p (.cmd n) fun x => { x with vector := 0, enable := false }).serveRings p)) ∧
  (∀ (p n : Nat) (v : Word) (s : State), s.windowOn p = true → s.hasRing p (.cmd n) = true → ((s.io.window p).ring (.cmd n)).enable = false →
    ((s.io.window p).ring (.cmd n)).sizeLog2 = bitsOf v.toNat 3 0 →
    exec (.cmdRingEnable p n v) s =
      .next ((s.mapRing p (.cmd n) fun x => { x with vector := 0, enable := true }).serveRings p)) ∧
  (∀ (p : Nat) (v : Word) (s : State), s.windowOn p = true → p ≠ 0 → ((s.io.window p).ring (.cmd 0)).enable = false →
    (∀ w ∈ s.io.windows, w.2.intake = []) → v.toNat < ((s.io.window p).ring (.cmd 0)).size →
    exec (.cmdRingTailWrite p 0 v) s = .next (s.mapRing p (.cmd 0) fun x => { x with tail := v.toNat }))

/-- The completion ring (R63, R69, R72): space and ENABLE post the held completions and resume intake; the coalescing timer
raises the ring's vector once TIME_US has passed since the first completion. The event ring (R58, R63, R73, R75): space and ENABLE post what waits; a read of EVT_RING_DROPPED clears the count. -/
def Obligations.PostingRingsComplete : Prop :=
  (∀ (p : Nat) (v : Word) (s : State), s.windowOn p = true → v.toNat < (s.io.window p).cpl.size →
    exec (.cplRingTailWrite p v) s = .next ((s.mapRing p .cpl fun x => { x with tail := v.toNat }).completionSpace p)) ∧
  (∀ (p : Nat) (v : Word) (s : State), s.windowOn p = true → (s.io.window p).cpl.enable = true →
    exec (.cplRingEnable p v) s =
      .next ((s.mapRing p .cpl fun x => { x with vector := bitsOf v.toNat 12 8, enable := true }).completionSpace p)) ∧
  (∀ (p : Nat) (s : State), s.windowOn p = true → (s.io.window p).coalesceUs ≠ 0 → 0 < (s.io.window p).sinceRaise →
    (s.io.window p).firstSince + 1000 * (s.io.window p).coalesceUs ≤ s.now →
    exec (.coalesceTimer p) s = .next ((s.mapWindow p fun w => { w with sinceRaise := 0 }).vector p (s.io.window p).cpl.vector)) ∧
  (∀ (p : Nat) (v : Word) (s : State), s.windowOn p = true → v.toNat < (s.io.window p).evt.size →
    exec (.evtRingTailWrite p v) s = .next ((s.mapRing p .evt fun x => { x with tail := v.toNat }).eventSpace p)) ∧
  (∀ (p : Nat) (v : Word) (s : State), s.windowOn p = true → (s.io.window p).evt.enable = true →
    exec (.evtRingEnable p v) s =
      .next ((s.mapRing p .evt fun x => { x with vector := bitsOf v.toNat 12 8, enable := true }).eventSpace p)) ∧
  (∀ (p : Nat) (s : State), s.windowOn p = true →
    exec (.evtRingDroppedRead p) s = .next (s.mapWindow p fun w => { w with dropped := 0 }))

/-- Configuration of a ring whose ENABLE is 0 (R59, R60, R62): a write to a BASE register puts HEAD and TAIL at 0 and the phase
at 1, and clearing ACCESS_FAULT of a stopped command ring reads its entry again (R64, R66). -/
def Obligations.RingConfigurationCompletes : Prop :=
  (∀ (p : Nat) (v : Word) (s : State), s.windowOn p = true → (s.io.window p).cpl.enable = false →
    exec (.ringConfigWrite p 0x80 v) s = .next (s.mapRing p .cpl fun x =>
      { x with base := x.base / 2 ^ 32 * 2 ^ 32 + bitsOf v.toNat 31 12 * 4096, head := 0, tail := 0, phase := true })) ∧
  (∀ (p : Nat) (v : Word) (s : State), s.windowOn p = true → (s.io.window p).evt.enable = false →
    exec (.ringConfigWrite p 0xA4 v) s = .next (s.mapRing p .evt fun x =>
      { x with base := bitsOf v.toNat 15 0 * 2 ^ 32 + x.base % 2 ^ 32, head := 0, tail := 0, phase := true })) ∧
  (∀ (p : Nat) (v : Word) (s : State), s.windowOn p = true → (s.io.window p).cpl.enable = true →
    exec (.ringConfigWrite p 0x80 v) s = .next s) ∧
  (∀ (p : Nat) (s : State), s.windowOn p = true → ((s.io.window p).ring (.cmd 0)).fault = true →
    exec (.ringAccessFaultClear p 0x00) s = .next ((s.mapRing p (.cmd 0) fun x => { x with fault := false }).serveRings p)) ∧
  (∀ (p : Nat) (s : State), s.windowOn p = true → (s.io.window p).cpl.fault = true →
    exec (.ringAccessFaultClear p 0x80) s = .next ((s.mapRing p .cpl fun x => { x with fault := false }).completionSpace p)) ∧
  (∀ (p : Nat) (s : State), s.windowOn p = true → (s.io.window p).evt.fault = true →
    exec (.ringAccessFaultClear p 0xA0) s = .next ((s.mapRing p .evt fun x => { x with fault := false }).eventSpace p))

/-- Interrupt registers (R95, R97): a 1 written to INT_STATUS clears its bit; INT_MASK takes the value written, and with no bit of
INT_STATUS uncovered nothing else changes. Registers without behaviour of their own (R6, R57, R72, R95, R98, R102, R264): CPL_RING_COALESCE with its feature and
without, VEC_DATA, FEAT_ACCEPTn before the commit, SWITCH_AUDIT_CTRL; a reserved offset and an unaligned access are ignored. -/
def Obligations.WindowRegistersComplete : Prop :=
  (∀ (p : Nat) (v : Word) (s : State), s.windowOn p = true →
    exec (.intStatusClear p v) s = .next (s.mapWindow p fun w => { w with intStatus := w.intStatus &&& ~~~v })) ∧
  (∀ (p : Nat) (v : Word) (s : State), s.windowOn p = true → (s.io.window p).intStatus &&& (s.io.window p).intMask &&& ~~~v = 0#32 →
    exec (.intMaskWrite p v) s = .next (s.mapWindow p fun w => { w with intMask := v })) ∧
  (∀ (p : Nat) (v : Word) (s : State), s.windowOn p = true → s.has p .completionCoalesce = true →
    exec (.registerWrite p 0x98 v) s =
      .next (s.mapWindow p fun w => { w with coalesceUs := bitsOf v.toNat 31 16, coalesceCount := bitsOf v.toNat 7 0 })) ∧
  (∀ (p : Nat) (v : Word) (s : State), s.has p .completionCoalesce = false → exec (.registerWrite p 0x98 v) s = .next s) ∧
  (∀ (p k : Nat) (v : Word) (s : State), s.windowOn p = true → k < 32 →
    exec (.registerWrite p (0x208 + 16 * k) v) s =
      .next (s.mapWindow p fun w => { w with vectors := Table.modify {} w.vectors k fun x => { x with data := v.toNat } })) ∧
  (∀ (p : Nat) (v : Word) (s : State), s.windowOn p = true → (s.io.window p).committed = false →
    exec (.registerWrite p 0x420 v) s =
      .next (s.mapWindow p fun w => { w with accept := Table.modify 0 w.accept 0 fun a => a / 2 ^ 32 * 2 ^ 32 + v.toNat })) ∧
  (∀ (p : Nat) (v : Word) (s : State), (s.io.window p).committed = true → exec (.registerWrite p 0x420 v) s = .next s) ∧
  (∀ (v : Word) (s : State), s.windowOn 0 = true → s.sw.sweeping = true → 100 ≤ bitsOf v.toNat 15 0 →
    exec (.registerWrite 0 0x30020 v) s =
      .next (s.mapSwitch fun w => { w with auditEnable := bitOf v.toNat 31 || w.auditEnable, auditPeriod := bitsOf v.toNat 15 0 })) ∧
  (∀ (p a : Nat) (v : Word) (s : State), 0xC0 ≤ a → a < 0x100 → exec (.registerWrite p a v) s = .next s) ∧
  (∀ (p a : Nat) (v : Word) (s : State), a % 4 ≠ 0 → exec (.registerWrite p a v) s = .next s)

/-- Masthead's turn (R85, R86): Masthead takes the first command of the first ring that awaits it, from the place its turn has
reached, executes it, and what waited behind it in its ring starts. What a bucket held back goes on once it conforms (R176, R177): the tokens of a delayed cipher operation's flow are taken, and its
latency counts from now. -/
def Obligations.HeldBackWorkGoesOn : Prop :=
  (∀ (k : Nat) (s : State), s.computeOn = true → s.drainAll.nextRing = some k →
    exec .commandExecuteF s = .next (s.drainAll.takeRing k)) ∧
  (∀ (k p n : Nat) (x : Packet) (rest : List Packet) (s : State), ringInTurn k = (p, n) →
    Table.get [] (s.io.window p).intake n = x :: rest →
    ∃ t u : State, t = s.mapWindow p (fun w => { w with intake := Table.put [] w.intake n rest }) ∧
      u.io = (t.perform x).state.io ∧ u.cpu.turn = k + 1 ∧ s.takeRing k = u.drainAll) ∧
  (∀ (i : Nat) (o : CipherOp) (f : Nat) (s : State), s.computeOn = true → s.cipher.ops[i]? = some o → o.conforms = false →
    o.flow = some f → s.laneHead i o = true → s.conforms [f] o.size = true →
    Ends (.delayedItemConforms 3 i) s fun t => t.flow = (s.takeTokens [f] o.size).flow ∧
      t.cipher.ops = setAt (s.takeTokens [f] o.size).cipher.ops i { o with conforms := true, begunAt := s.now }) ∧
  (∀ (i : Nat) (o : CipherOp) (f : Nat) (s : State), s.computeOn = true → s.cipher.ops[i]? = some o → o.flow = some f →
    s.conforms [f] o.size = false → exec (.delayedItemConforms 3 i) s = .next s)

/-- The commands of every partition (R98, R101, R76): identify and no-operation complete with their record and change nothing else;
a commit puts the accept set in force. -/
def Obligations.DeviceCommandsComplete : Prop :=
  (∀ (r : Request) (s : State), Clear cmdDeviceNop r s → exec (.deviceNop r) s = .next (s.complete r 0x0103 .done (pack [(0, 8, s.now)]))) ∧
  (∀ (r : Request) (s : State), Clear cmdDeviceFeaturesCommit r s →
    exec (.deviceFeaturesCommit r) s =
      .next ((s.mapWindow r.issuer fun w => { w with committed := true }).complete r 0x0102 .done (pack [(0, 8, s.now)]))) ∧
  (∀ (r : Request) (s : State), Clear cmdDeviceIdentify r s →
    Ends (.deviceIdentify r) s fun t => ∃ res, t = s.complete r 0x0101 .done res ∧ byteField res 0 4 = 0x00070C5A)

/-- A partition's life (R106, R133, R136, R145): created ACTIVE with an empty window and its manager-stage root; QUIESCING, then QUIET
once nothing is in flight; ACTIVE again; reset; removed to FREE with nothing owned. -/
def Obligations.PartitionLifeCompletes : Prop :=
  (∀ (r : Request) (s : State), Clear cmdPartitionCreate r s →
    Completes (.partitionCreate r) r s 0x0201 .done s.now fun u =>
      u = { s with io := u.io } ∧ u.io.part (r.byte 0) = { state := .active, cacheClass := r.byte 1 } ∧ u.io.window (r.byte 0) = {} ∧
      Table.get {} u.io.msRoot (r.byte 0) = { enable := decide (r.field 8 8 ≠ 0), addr := r.field 8 8 } ∧ u.io.mem = s.io.mem) ∧
  (∀ (r : Request) (s : State), Clear cmdPartitionQuiesce r s → r.byte 1 = 1 → r.byte 2 = 0 → s.flowsOwned (r.byte 0) = [] →
    s.ownedBy (r.byte 0) kindLin = [] →
    Completes (.partitionQuiesce r) r s 0x0202 .accepted s.now fun u =>
      u = { s with io := u.io } ∧ (u.io.part (r.byte 0)).state = .quiescing ∧ (u.io.part (r.byte 0)).drain = true ∧ u.io.mem = s.io.mem) ∧
  (∀ (p : Nat) (s : State), s.computeOn = true → s.absent = false → 1 ≤ p → p ≤ 63 → (s.io.part p).state = .quiescing →
    s.inFlight p = false → s.boot.waiting = none →
    Ends (.partitionQuiet p) s fun t => ∃ detail, t = (s.mapPart p fun x => { x with state := .quiet }).raise
      { unit := 0, code := 0x0202, partition := p, detail := detail } [0]) ∧
  (∀ (p : Nat) (s : State), s.computeOn = true → (s.io.part p).state = .quiescing → (s.io.part p).drain = true →
    (s.io.part p).drainExpired = false → (s.io.part p).drainUntil ≤ s.now →
    exec (.quiesceDrainLimit p) s = .next ((s.parkQueues p).mapPart p fun x => { x with drainExpired := true })) ∧
  (∀ (r : Request) (s : State), Clear cmdPartitionReset r s →
    CompletesSomehow (.partitionReset r) r s 0x0204 .done fun u =>
      u.io.part (r.byte 0) = { state := .active, cacheClass := (u.io.part (r.byte 0)).cacheClass } ∧ u.io.window (r.byte 0) = {}) ∧
  (∀ (r : Request) (s : State), Clear cmdPartitionRemove r s →
    CompletesSomehow (.partitionRemove r) r s 0x0205 .done fun u => u.io.part (r.byte 0) = {} ∧
      u.io.window (r.byte 0) = {} ∧ ∀ o ∈ u.owners, o.2 ≠ r.byte 0) ∧
  (∀ (r : Request) (s : State), Clear cmdPartitionResume r s → s.ownedBy (r.byte 0) kindQueue = [] → s.flowsOwned (r.byte 0) = [] →
    s.ownedBy (r.byte 0) kindLin = [] →
    exec (.partitionResume r) s = .next (((s.mapPart (r.byte 0) fun x => { x with state := .active }).complete r 0x0203 .done
      (pack [(8, 8, s.now)])).readRings (r.byte 0)))

/-- Ownership, memory and cache classes (R107-R114): one object, one memory unit and one class take what the command gives, and the
IOTLB forgets what rested on it. -/
def Obligations.OwnershipCommandsComplete : Prop :=
  (∀ (r : Request) (s : State), Clear cmdObjectAssign r s → r.field 4 2 = 1 → r.byte 0 ≠ kindCan →
    exec (.objectAssign r) s = .next ((s.setOwner (r.byte 0) (r.field 2 2) (r.byte 1)).complete r 0x0206 .done 1)) ∧
  (∀ (r : Request) (s : State), Clear cmdCacheClassSet r s →
    Completes (.cacheClassSet r) r s 0x0207 .done 0 fun u =>
      u = { s with io := u.io } ∧
      u.io.cacheClass (r.byte 0) = { wayMask := r.field 2 2, colourFirst := r.byte 4, colourLast := r.byte 5 } ∧
      (∀ e ∈ u.io.iotlb, e.cls ≠ r.byte 0) ∧ u.io.mem = s.io.mem) ∧
  (∀ (r : Request) (s : State), Clear cmdMemoryOwnerSet r s → r.field 2 2 = 1 →
    s.io.unitOwner (r.field 0 2) ≠ { owner := r.bits 4 5 0, shared := r.bit 4 7 } →
    Completes (.memoryOwnerSet r) r s 0x0208 .done 1 fun u =>
      u = { s with io := u.io } ∧ u.io.unitOwner (r.field 0 2) = { owner := r.bits 4 5 0, shared := r.bit 4 7 } ∧ u.io.mem = s.io.mem) ∧
  (∀ (r : Request) (s : State), Clear cmdIommuRootSet r s → r.byte 0 = 0 →
    Completes (.iommuRootSet r) r s 0x0209 .done 0 fun u =>
      u = { s with io := u.io } ∧
      Table.get {} u.io.psRoot r.issuer = { enable := decide (r.byte 2 = 1), addr := r.field 8 8 } ∧
      (∀ e ∈ u.io.iotlb, e.part ≠ r.issuer) ∧ u.io.mem = s.io.mem) ∧
  (∀ (r : Request) (s : State), Clear cmdIommuInvalidate r s → r.byte 2 = 0 →
    Completes (.iommuInvalidate r) r s 0x020A .done 0 fun u =>
      u = { s with io := { s.io with iotlb := u.io.iotlb } } ∧
      ∀ e ∈ u.io.iotlb, e.part ≠ (if r.byte 0 = 0 then r.issuer else r.byte 1))

/-- Dirty logging (R137-R139): it starts on bitmap A, swaps to the other bitmap, and stops. Capsules (R140, R143, R145): both commands begin an operation that returns ACCEPTED; the end of one writes the capsule of an
outward one, and reports. -/
def Obligations.MigrationCommandsComplete : Prop :=
  (∀ (r : Request) (s : State), Clear cmdDirtyLogStart r s →
    Completes (.dirtyLogStart r) r s 0x020F .done (pack [(8, 8, s.now)]) fun u =>
      u = { s with io := { s.io with dirty := u.io.dirty } } ∧
      Table.get {} u.io.dirty (r.byte 0) = { running := true, base := r.field 8 8, size2M := r.field 16 4,
                                             bitmapA := r.field 24 8, bitmapB := r.field 32 8 }) ∧
  (∀ (r : Request) (s : State), Clear cmdDirtyLogSwap r s →
    Completes (.dirtyLogSwap r) r s 0x0210 .done (pack [(0, 1, flag !(s.dirtyLog (r.byte 0)).activeB), (8, 8, s.now)]) fun u =>
      u = { s with io := { s.io with dirty := u.io.dirty } } ∧
      Table.get {} u.io.dirty (r.byte 0) = { s.dirtyLog (r.byte 0) with activeB := !(s.dirtyLog (r.byte 0)).activeB }) ∧
  (∀ (r : Request) (s : State), Clear cmdDirtyLogStop r s →
    Completes (.dirtyLogStop r) r s 0x0211 .done (pack [(0, 1, flag (s.dirtyLog (r.byte 0)).activeB), (8, 8, s.now)]) fun u =>
      u = { s with io := { s.io with dirty := u.io.dirty } } ∧
      Table.get {} u.io.dirty (r.byte 0) = { s.dirtyLog (r.byte 0) with running := false }) ∧
  (∀ (r : Request) (s : State), Clear cmdPartitionCapsuleExport r s → pairing r = none →
    s.neededLength (r.byte 0) none ≤ r.field 4 4 →
    Completes (.partitionCapsuleExport r) r s 0x0212 .accepted 0 fun u => ∃ o : CapsuleOp, u.capsules = s.capsules ++ [o] ∧
      o.outward = true ∧ o.partition = r.byte 0 ∧ o.length = s.neededLength (r.byte 0) none ∧ o.buffer = r.field 8 8) ∧
  (∀ (r : Request) (s : State), Clear cmdPartitionCapsuleExport r s → r.field 4 4 < s.neededLength (r.byte 0) (pairing r) →
    exec (.partitionCapsuleExport r) s =
      .next (s.complete r 0x0212 .capsuleBufferSmall (s.neededLength (r.byte 0) (pairing r)))) ∧
  (∀ (r : Request) (s : State), Clear cmdPartitionCapsuleImport r s →
    Completes (.partitionCapsuleImport r) r s 0x0213 .accepted 0 fun u =>
      u = { s with capsules := s.capsules ++ [{ outward := false, partition := r.byte 0, slot := pairing r, length := r.field 4 4,
                                                buffer := r.field 8 8, data := 0 }] }) ∧
  (∀ (p : Nat) (o : CapsuleOp) (u : State) (s : State), s.computeOn = true → s.absent = false → s.boot.waiting = none →
    s.capsules.find? (fun x => x.partition == p) = some o → o.outward = true →
    ({ s with capsules := s.capsules.erase o } : State).write 0 o.buffer o.length o.data = (u, none) →
    exec (.capsuleDone p) s = .next (u.raise
      { unit := 0, code := 0x0203, severity := 1, partition := o.partition,
        detail := pack [(0, 4, o.length), (4, 1, Status.done.code), (5, 1, byteField o.data 3 1), (6, 2, 0), (8, 8, u.now)] } [0]))

/-- DMA queues (R124, R126-R132): a queue is enabled IDLE and empty, takes its new TAIL, goes on after a fault, and answers a query; an
engine moves one 256-byte segment of a queue between two places in memory, and touches nothing else of the device. -/
def Obligations.DmaQueuesComplete : Prop :=
  (∀ (r : Request) (s : State), Clear cmdDmaQueueConfig r s → r.byte 4 = 1 →
    exec (.dmaQueueConfig r) s = .next ((s.mapQueue (r.field 0 2) fun d =>
      { attach := d.attach, state := .idle, base := r.field 8 8, sizeLog2 := r.byte 2, vector := r.byte 3 }).complete r 0x020B .done 0)) ∧
  (∀ (r : Request) (s : State), Clear cmdDmaQueuePost r s →
    Completes (.dmaQueuePost r) r s 0x020C .done 0 fun u =>
      u = { s with dma := u.dma } ∧ (u.queueOf (r.field 0 2)).tail = r.field 2 2 ∧
      (u.queueOf (r.field 0 2)).head = (s.queueOf (r.field 0 2)).head ∧ ∀ q, q ≠ r.field 0 2 → u.queueOf q = s.queueOf q) ∧
  (∀ (r : Request) (s : State), Clear cmdDmaQueueResume r s → r.byte 2 = 0 → s.quiescing (s.queueOwner (r.field 0 2)) = false →
    exec (.dmaQueueResume r) s = .next ((s.mapQueue (r.field 0 2) fun d =>
      { d with state := .waiting, cause := 0, faultAddr := 0 }).complete r 0x020D .done 0)) ∧
  (∀ (r : Request) (s : State), Clear cmdDmaQueueQuery r s → (s.queueOf (r.field 0 2)).state ≠ .parkedFault →
    exec (.dmaQueueQuery r) s = .next (s.complete r 0x020E .done
      (pack [(0, 1, (s.queueOf (r.field 0 2)).state.code), (1, 1, 0), (2, 2, (s.queueOf (r.field 0 2)).head),
        (4, 2, (s.queueOf (r.field 0 2)).tail), (8, 4, (s.queueOf (r.field 0 2)).offset), (16, 8, 0)]))) ∧
  (∀ (q : Nat) (x : Descriptor) (w : Nat) (s s1 s2 : State), s.computeOn = true → q < 1024 → (s.queueOf q).state = .running →
    (s.queueOf q).head ≠ (s.queueOf q).tail → (s.queueOf q).cplStatus = none → (s.queueOf q).desc = some x →
    (s.queueOf q).conforms = true → (s.queueOf q).attach = .none → s.liveEngines ≠ [] → (s.queueOf q).offset + 256 < x.length →
    s.read (s.queueOwner q) (x.source + (s.queueOf q).offset) 256 = (s1, .ok w) →
    s1.write (s.queueOwner q) (x.dest + (s.queueOf q).offset) 256 w = (s2, none) →
    exec (.dmaSegmentMove q) s = .next (s2.mapQueue q fun d => { d with offset := d.offset + 256 }))

/-- Admission (R170-R174, R187): a flow that fits is ADMITTED under the ID of the command, with the candidate's declaration and its
issuer as owner; one that does not fit is refused with the verdict's status and admits nothing. A prediction admits nothing either. -/
def Obligations.FlowAdmissionCompletes : Prop :=
  (∀ (r : Request) (s : State), Clear cmdFlowAdmit r s → (s.verdict (s.flowId r) (candidate r)).status = none →
    CompletesSomehow (.flowAdmit r) r s 0x0301 .done fun u => u = { s with flow := u.flow } ∧
      (u.flowOf (s.flowId r)).state = .admitted ∧ (u.flowOf (s.flowId r)).owner = r.issuer ∧
      (u.flowOf (s.flowId r)).decl = declOf r) ∧
  (∀ (r : Request) (s : State) (st : Status), Clear cmdFlowAdmit r s → (s.verdict (s.flowId r) (candidate r)).status = some st →
    ∃ res, exec (.flowAdmit r) s = .next (s.complete r 0x0301 st res)) ∧
  (∀ (r : Request) (s : State), Clear cmdFlowPredict r s → ∃ res, exec (.flowPredict r) s = .next (s.complete r 0x0302 .done res))

/-- Release (R174, R186): the owner's flow with nothing on its path becomes FREE at once; with items on its path the command waits at
the front of its ring, and ends when the last of them has left. -/
def Obligations.FlowReleaseCompletes : Prop :=
  (∀ (r : Request) (s : State), Clear cmdFlowRelease r s → (s.flowOf (r.field 0 2)).owner = r.issuer → s.itemsOn (r.field 0 2) = 0 →
    Completes (.flowRelease r) r s 0x0303 .done (pack [(0, 8, s.now), (8, 1, 0)]) fun u =>
      u = (s.freeFlow (r.field 0 2)).recompute) ∧
  (∀ (r : Request) (s : State), Clear cmdFlowRelease r s → (s.flowOf (r.field 0 2)).owner = r.issuer → s.itemsOn (r.field 0 2) ≠ 0 →
    exec (.flowRelease r) s = .next ((s.mapFlow (r.field 0 2) fun f => { f with releasing := some r }).hold r 0x0303)) ∧
  (∀ (r : Request) (s : State), Clear cmdFlowRelease r s → (s.flowOf (r.field 0 2)).owner ≠ r.issuer →
    exec (.flowRelease r) s = .next ((s.revokeList [r.field 0 2] 0 0x04 s.now).complete r 0x0303 .done
      (pack [(0, 8, s.now), (8, 1, 3)]))) ∧
  (∀ (f : Nat) (r : Request) (s : State), (s.flowOf f).releasing = some r → s.itemsOn f = 0 →
    exec (.flowReleaseDone f) s =
      .next ((((s.freeFlow f).recompute).complete r 0x0303 .done (pack [(0, 8, s.now), (8, 1, 0)])).unblock r)) ∧
  (∀ (f : Nat) (s : State), ((s.freeFlow f).flowOf f).state = .free)

/-- The figures of a flow (R178, R179): the query answers what the flow holds and changes nothing; FLOW_STATS writes the 128-byte record
into the caller's buffer, and ends with BUFFER_FAULT and nothing cleared when the buffer faults (R622). Medium contracts (R164, R168, R182): a contract that costs no flow its place takes effect with every bound recomputed; a window whose
use breaks the contract is reported, and the contract remembers when. Maintenance (R181): Masthead takes up each deferred activity in turn; one whose 100 ms have not passed waits on as it was, and what
becomes of another is a free choice between going on and waiting 100 ms more. -/
def Obligations.FlowFiguresAndMediaComplete : Prop :=
  (∀ (r : Request) (s : State), Clear cmdFlowQuery r s →
    exec (.flowQuery r) s = .next (s.complete r 0x0304 .done
      (pack [(0, 1, (s.flowOf (r.field 0 2)).state.code), (1, 1, (s.flowOf (r.field 0 2)).decl.priority),
        (2, 1, (s.flowOf (r.field 0 2)).decl.type), (4, 4, (s.flowOf (r.field 0 2)).promise),
        (8, 4, cap32 (s.flowOf (r.field 0 2)).computed), (12, 4, cap32 (s.flowOf (r.field 0 2)).watermark),
        (16, 4, (s.flowOf (r.field 0 2)).violations),
        (20, 4, min (2 ^ 32 - 1) ((s.flowOf (r.field 0 2)).dropExcess + (s.flowOf (r.field 0 2)).dropOver))]))) ∧
  (∀ (r : Request) (s s1 : State), Clear cmdFlowStats r s → r.bit 2 0 = false →
    s.write r.issuer (r.field 8 8) 128 ((s.flowOf (r.field 0 2)).record s.now
      (s.has (s.flowOf (r.field 0 2)).owner .latencyHistogram)) = (s1, none) →
    exec (.flowStats r) s = .next (s1.complete r 0x0305 .done 0)) ∧
  (∀ (r : Request) (s s1 : State) (f : XFault), Clear cmdFlowStats r s →
    s.write r.issuer (r.field 8 8) 128 ((s.flowOf (r.field 0 2)).record s.now
      (s.has (s.flowOf (r.field 0 2)).owner .latencyHistogram)) = (s1, some f) →
    exec (.flowStats r) s = .next ((s1.raiseFault f r.issuer 0xFFFF 0x07 0).complete r 0x0305 .bufferFault 0)) ∧
  (∀ (r : Request) (c : Contract) (s : State), Clear cmdMediumContractSet r s → c = contractOf r (s.contract (r.byte 0)) →
    ({ s with flow := { s.flow with contracts := Table.put {} s.flow.contracts (r.byte 0) c } } : State).chosen [] = [] →
    exec (.mediumContractSet r) s =
      .next ((({ s with flow := { s.flow with contracts := Table.put {} s.flow.contracts (r.byte 0) c } } : State).recompute).complete
        r 0x0306 .done (pack [(0, 2, 0), (8, 8, s.now)]))) ∧
  (∀ (m used largest lowest measure value : Nat) (s : State), s.computeOn = true → m ≤ 21 → (s.contract m).enable = true →
    (s.contract m).excess (mediumKind m) used largest lowest = [(measure, value)] →
    Ends (.mediumContractWindow m used largest lowest) s fun t => ∃ u : State, t = u.contractExceeded m measure value s.now ∧
      u = { s with flow := u.flow } ∧
      u.contract m = { s.contract m with excessFrom := s.now - 100000000, excessUntil := s.now + 100000000 }) ∧
  (∀ (s : State), s.absent = false → s.computeOn = true →
    exec .maintenanceRetry s = .next (s.noneDeferred.each s.flow.maintenance State.retryDeferred)) ∧
  (∀ (m : Maintenance) (s : State), s.now < m.triedAt + 100000000 →
    s.retryDeferred m = { s with flow := { s.flow with maintenance := s.flow.maintenance ++ [m] } }) ∧
  (∀ (m : Maintenance) (s : State), m.triedAt + 100000000 ≤ s.now →
    s.retryDeferred m = s.choose.2.proceed m ∨ s.retryDeferred m = s.choose.2.keepDeferred m s.now)

/-- Device Time's commands (R195, R198, R202): TIME_READ answers the nanoseconds and the fraction that the counter holds and changes
nothing; selecting a source from FREE leaves the servo FREE with an empty run; selecting none from another state brings the servo to
FREE at a rate of zero; PPS_CONFIG answers the next crossing. -/
def Obligations.TimeCommandsComplete : Prop :=
  (∀ (r : Request) (s : State), Clear cmdTimeRead r s →
    exec (.timeRead r) s = .next (s.complete r 0x0110 .done (pack [(0, 8, s.now), (8, 2, s.io.time / 2 ^ 16 % 2 ^ 16),
      (10, 1, s.time.servo.code + 128 * flag (!s.time.d7Valid)), (11, 1, s.time.source), (12, 8, ofSigned 64 (s.time.offset false)),
      (20, 4, if s.time.servo = .holdover then (s.now - s.time.holdoverAt) / 1000000000 else 0)]))) ∧
  (∀ (r : Request) (s : State), Clear cmdTimeSourceSet r s → s.time.servo = .free → r.byte 0 ≠ s.time.source →
    CompletesSomehow (.timeSourceSet r) r s 0x0111 .done fun u =>
      u = { s with time := { s.time with source := r.byte 0, lockNs := r.field 2 2, maxAdjPpb := r.field 4 4,
                                         holdoverLimitS := r.field 8 4, run := [] } }) ∧
  (∀ (r : Request) (s : State), Clear cmdTimeSourceSet r s → s.time.servo ≠ .free → r.byte 0 = 0 →
    CompletesSomehow (.timeSourceSet r) r s 0x0111 .done fun u =>
      u = { s with time := u.time, io := u.io } ∧ u.time.servo = .free ∧ u.time.source = 0 ∧ u.time.rate = 0 ∧
      u.time.offsetA = s.time.offsetA ∧ u.time.offsetB = s.time.offsetB) ∧
  (∀ (r : Request) (s : State), Clear cmdPpsConfig r s →
    CompletesSomehow (.ppsConfig r) r s 0x0112 .done fun u =>
      u = { s with time := u.time } ∧ u.time.ppsEnable = decide (r.byte 0 = 1) ∧ u.time.ppsScale = r.byte 1 ∧
      u.time.ppsWidthMs = r.field 2 2 ∧ u.time.servo = s.time.servo ∧
      (s.now : Int) < u.time.ppsNext ∧ u.time.ppsNext ≤ s.now + 1000000000)

/-- The servo and the pulses (R195, R198-R202): a measurement far outside LOCK_NS in LOCKED returns to ACQUIRING; the loss of the
source enters HOLDOVER, whose limit ends in FREE at a rate of zero; a refused edge of PPS_IN is counted and moves nothing; PPS_OUT rises at
its crossing and falls after its width. -/
def Obligations.ServoEventsComplete : Prop :=
  (∀ (offset rate : Int) (s : State), s.time.source ≠ 0 → s.time.backupOsc = false → s.computeOn = true → s.time.servo = .locked →
    4 * (s.time.lockNs : Int) * 65536 < ((offset - s.time.lockMean).natAbs : Int) →
    Ends (.timeSourceMeasurement offset rate) s fun t => t = { s with time := t.time, io := t.io } ∧ t.time.servo = .acquiring ∧
      t.time.run = [offset] ∧ t.time.offsetA = s.time.offsetA ∧ t.time.offsetB = s.time.offsetB) ∧
  (∀ (offset rate : Int) (s : State), s.time.source = 1 → s.time.backupOsc = false → s.computeOn = true → s.time.servo = .locked →
    ((offset - s.time.lockMean).natAbs : Int) ≤ 4 * (s.time.lockNs : Int) * 65536 →
    Ends (.timeSourceMeasurement offset rate) s fun t => t = { s with time := t.time, io := { s.io with incr := t.io.incr } } ∧
      t.time.servo = .locked ∧ t.time.everLockedA = true ∧ t.time.offsetB = s.time.offsetB ∧
      (s.time.everLockedA = true → (t.time.offsetA - s.time.offsetA).natAbs ≤ (s.now - s.time.offsetAtA) * 65536 / 10000)) ∧
  (∀ (s : State), s.time.servo = .locked → s.time.lastSync + s.lossAfter ≤ s.now →
    Ends .timeSourceLoss s fun t => t = { s with time := t.time, io := t.io } ∧ t.time.servo = .holdover ∧
      t.time.holdoverAt = s.now ∧ t.time.source = s.time.source) ∧
  (∀ (s : State), s.time.servo = .holdover → s.time.backupOsc = false →
    s.time.holdoverAt + s.time.holdoverLimitS * 1000000000 ≤ s.now →
    Ends .holdoverLimit s fun t => t = { s with time := t.time, io := t.io } ∧ t.time.servo = .free ∧ t.time.rate = 0) ∧
  (∀ (s : State), s.computeOn = true → s.time.source = 3 → s.time.servo = .locked → 100000 < edgeError s.time.ppsLastEdge s.now →
    exec .ppsInEdge s = .next { s with time := { s.time with ppsRejected := satAdd 32 s.time.ppsRejected 1 } }) ∧
  (∀ (s : State), s.computeOn = true → s.time.source = 3 → edgeError s.time.ppsLastEdge s.now ≤ 100000 →
    exec .ppsInEdge s = .next { s with time := { s.time with ppsLastEdge := s.now, lastSync := s.now } }) ∧
  (∀ (s : State), s.computeOn = true → s.time.ppsHigh = false → s.time.ppsEnable = true → s.time.pulseOk = true →
    s.time.ppsNext ≤ s.now →
    Ends .ppsOutPulse s fun t => t = { s with time := { s.time with ppsHigh := true, ppsRiseAt := s.time.ppsNext.toNat,
                                                                    ppsNext := t.time.ppsNext } }) ∧
  (∀ (s : State), s.time.ppsHigh = true → s.time.ppsRiseAt + s.time.ppsWidthMs * 1000000 ≤ s.now →
    exec .ppsOutPulse s = .next { s with time := { s.time with ppsHigh := false } })

/-- The copies of Device Time and its references (R196, R203, R210, R211): a stamp makes a copy valid again and 1 ms (D7) or 10 µs (D6)
without one makes it invalid; the reference pairs are refreshed once a second; an excursion of the crystal puts the Heath logic on its
RC fallback, and an excursion of another clock does not. -/
def Obligations.TimeCopiesComplete : Prop :=
  (∀ (s : State), s.computeOn = true → s.furled (unitId 0x05 0) = false → s.time.d7Valid = true →
    exec .d7TimeStamp s = .next { s with time := { s.time with d7Valid := true, d7Stamp := s.now } }) ∧
  (∀ (s : State), s.computeOn = true → s.furled (unitId 0x05 0) = false → s.time.d7Valid = false →
    Ends .d7TimeStamp s fun t => t = { s with time := t.time, io := t.io } ∧ t.time.d7Valid = true ∧ t.time.d7Stamp = s.now) ∧
  (∀ (s : State), s.time.d7Valid = true → s.time.d7Stamp + 1000000 ≤ s.now →
    Ends .d7CopyInvalid s fun t => t.time = { s.time with d7Valid := false }) ∧
  (∀ (s : State), s.computeOn = true → s.time.d6Valid = true →
    exec .d6TimeStamp s = .next { s with time := { s.time with d6Valid := true, d6Stamp := s.now } }) ∧
  (∀ (s : State), s.time.d6Valid = true → s.time.d6Stamp + 10000 ≤ s.now →
    Ends .d6CopyInvalid s fun t => t = { s with time := { s.time with d6Valid := false }, io := t.io }) ∧
  (∀ (s : State), s.computeOn = true → s.absent = false → s.time.tRef + 1000000000 ≤ s.now →
    Ends .timeReferenceRefresh s fun t => t = { s with time := t.time } ∧ t.time.tRef = s.now) ∧
  (∀ (cause : Nat) (s : State), exec (.clockMonitorExcursion 0x2401 cause) s =
    .next (({ s with time := { s.time with rtcFallback := true } } : State).unitEvent 0x2401 cause)) ∧
  (∀ (cause : Nat) (s : State), exec (.clockMonitorExcursion 0x2500 cause) s = .next (s.unitEvent 0x2500 cause)) ∧
  (∀ (unit cause : Nat) (s : State), unit / 256 ≠ 0x24 → unit ≠ 0x2500 → exec (.clockMonitorExcursion unit cause) s = .next s)

/-- The tables of the switch (R217, R220, R224, R249, R251, R252): each command completes with its entry written and nothing else of the
device changed; a filter that carries a flow keeps what it holds. -/
def Obligations.SwitchTablesComplete : Prop :=
  (∀ (r : Request) (s : State), Clear cmdSwitchVlanSet r s →
    exec (.switchVlanSet r) s = .next ((s.mapSwitch fun w =>
      { w with vlans := Table.put {} w.vlans (r.field 0 2) { member := r.field 2 2, untag := r.field 4 2 } }).complete r 0x0402 .done 0)) ∧
  (∀ (r : Request) (s : State), Clear cmdSwitchMacSet r s → r.byte 8 = 0 →
    Completes (.switchMacSet r) r s 0x0403 .done 0 fun u => u = { s with sw := { s.sw with macs := u.sw.macs } } ∧
      ∀ m ∈ u.sw.macs, m ∈ s.sw.macs ∧ ¬ (m.vid = r.field 6 2 ∧ m.addr = r.field 0 6 ∧ m.fixed = true ∧ m.endpointOwn = false)) ∧
  (∀ (r : Request) (s : State), Clear cmdSwitchMacSet r s → r.byte 8 = 1 → r.byte 9 < 16 →
    exec (.switchMacSet r) s = .next ((s.putStatic
      { vid := r.field 6 2, addr := r.field 0 6, fixed := true, endpointOwn := false, target := .port (r.byte 9), seenAt := s.now }).complete r 0x0403 .done 0)) ∧
  (∀ (r : Request) (s : State), Clear cmdSwitchEndpointSet r s → r.byte 1 = 0 →
    exec (.switchEndpointSet r) s = .next ((s.clearEndpoint (r.byte 0)).complete r 0x0404 .done 0)) ∧
  (∀ (r : Request) (s : State), Clear cmdSwitchEndpointSet r s → r.byte 1 ≠ 0 → r.bit 3 0 = false → vidList r = [] →
    exec (.switchEndpointSet r) s = .next (((s.clearEndpoint (r.byte 0)).mapEndpoint (r.byte 0) fun x =>
      { x with port := r.byte 1, partition := r.byte 2, addr := r.field 4 6, vids := [], trap := false }).complete r 0x0404 .done 0)) ∧
  (∀ (r : Request) (s : State), Clear cmdSwitchEndpointAttach r s → r.byte 2 = 0 → r.field 4 2 = 0xFFFF →
    Table.get 0 (s.endpointOf (r.byte 0)).txQueue (r.byte 1) = 0 →
    exec (.switchEndpointAttach r) s = .next ((s.mapEndpoint (r.byte 0) fun x =>
      { x with txQueue := Table.put 0 x.txQueue (r.byte 1) 0 }).complete r 0x0405 .done 0)) ∧
  (∀ (r : Request) (s : State), Clear cmdSwitchEndpointAttach r s → r.byte 2 = 1 → r.field 4 2 < 0xFFFF →
    Table.get 0 (s.endpointOf (r.byte 0)).rxQueue (r.byte 1) = 0 →
    exec (.switchEndpointAttach r) s = .next (((s.mapEndpoint (r.byte 0) fun x =>
      { x with rxQueue := Table.put 0 x.rxQueue (r.byte 1) (r.field 4 2 + 1) }).mapQueue (r.field 4 2) fun d =>
        { d with attach := .endpointRx (r.byte 0) (r.byte 1) }).complete r 0x0405 .done 0)) ∧
  (∀ (r : Request) (s : State), Clear cmdSwitchStreamSet r s → s.filterCarries (r.field 0 2) = true →
    exec (.switchStreamSet r) s = .next (s.complete r 0x040B .done 0)) ∧
  (∀ (r : Request) (s : State), Clear cmdSwitchStreamSet r s → s.filterCarries (r.field 0 2) = false →
    Completes (.switchStreamSet r) r s 0x040B .done 0 fun u => u = { s with sw := { s.sw with filters := u.sw.filters } } ∧
      (u.filterOf (r.field 0 2)).mode = r.byte 2 ∧ (u.filterOf (r.field 0 2)).vid = r.field 10 2 ∧
      (u.filterOf (r.field 0 2)).maxSdu = r.field 16 2 ∧ (u.filterOf (r.field 0 2)).level = r.field 24 4 * 1000000000 ∧
      ∀ n, n ≠ r.field 0 2 → u.filterOf n = s.filterOf n) ∧
  (∀ (r : Request) (s : State), Clear cmdSwitchFrerSet r s → r.byte 2 = 2 →
    Completes (.switchFrerSet r) r s 0x040C .done 0 fun u => u = { s with sw := { s.sw with frer := u.sw.frer } } ∧
      (u.frerOf (512 + r.field 0 2)).kind = 2 ∧ (u.frerOf (512 + r.field 0 2)).history = r.byte 3 ∧
      (u.frerOf (512 + r.field 0 2)).filter = r.field 4 2 ∧ ∀ n, n ≠ 512 + r.field 0 2 → u.frerOf n = s.frerOf n) ∧
  (∀ (r : Request) (s : State), Clear cmdSwitchMacsecSaSet r s →
    Completes (.switchMacsecSaSet r) r s 0x040D .done 0 fun u => u = { s with sw := { s.sw with sas := u.sw.sas } } ∧
      (u.saOf (saNamed r)).installed = true ∧ (u.saOf (saNamed r)).slot = r.field 4 2 ∧
      (u.saOf (saNamed r)).nextPn = r.field 16 4 ∧ ∀ k, k ≠ saNamed r → u.saOf k = s.saOf k) ∧
  (∀ (r : Request) (s : State), Clear cmdSwitchGptpSet r s →
    Completes (.switchGptpSet r) r s 0x040F .done 0 fun u => u = { s with sw := { s.sw with gptp := u.sw.gptp } } ∧
      Table.get {} u.sw.gptp (r.byte 0 * 16 + r.byte 2) =
        { domain := r.byte 1, role := r.byte 3, syncLog := r.signed 4 1, pdelayLog := r.signed 5 1, staticDelay := r.field 8 4 })

/-- The ports and accounts of the switch (R230, R231, R239-R244, R253): port and account settings take effect at once; a gate list waits for
its instant, and at that instant replaces the list in force and is reported; pre-emption becomes active when the link partner has
answered. -/
def Obligations.SwitchPortsComplete : Prop :=
  (∀ (r : Request) (s : State), Clear cmdSwitchPortConfig r s → r.byte 0 ≠ 0 →
    exec (.switchPortConfig r) s = .next ((s.mapSw (r.byte 0) fun x =>
      { x with enable := r.bit 1 0, learn := r.bit 1 1, unprotGptp := r.bit 1 2, omitSci := r.bit 1 3, stripRtag := r.bit 1 4,
               pvid := r.field 2 2, pcpMap := r.field 4 3, defaultPcp := r.byte 7 }).complete r 0x0401 .done 0)) ∧
  (∀ (r : Request) (s : State), Clear cmdSwitchQuotaSet r s →
    CompletesSomehow (.switchQuotaSet r) r s 0x0406 .done fun u => u = s.mapAccount (r.byte 0) fun a => { a with quota := r.field 2 2 }) ∧
  (∀ (r : Request) (s : State), Clear cmdSwitchAccountQuery r s → r.bit 1 0 = true →
    CompletesSomehow (.switchAccountQuery r) r s 0x0407 .done fun u => u = s.mapAccount (r.byte 0) fun a =>
      { a with peak := a.occupancy, drops := 0, frozenDrops := 0, since := s.now }) ∧
  (∀ (r : Request) (s : State), Clear cmdSwitchAccountQuery r s → r.bit 1 0 = false →
    CompletesSomehow (.switchAccountQuery r) r s 0x0407 .done fun u => u = s) ∧
  (∀ (r : Request) (s s1 : State) (f : XFault), Clear cmdSwitchGateSet r s →
    s.read 0 (r.field 16 8) (8 * r.field 2 2) = (s1, .error f) →
    exec (.switchGateSet r) s = .next ((s1.raiseFault f r.issuer 0xFFFF 0x07 0).complete r 0x0408 .bufferFault 0)) ∧
  (∀ (r : Request) (s s1 s2 : State) (w t : Nat), Clear cmdSwitchGateSet r s → r.field 2 2 ≠ 0 →
    s.read 0 (r.field 16 8) (8 * r.field 2 2) = (s1, .ok w) → gatesOk (r.field 2 2) w (r.field 4 4) = true →
    s1.gateInstant (r.byte 0) (r.field 8 8) (r.field 4 4) = some t →
    s2 = (s1.mapSw (r.byte 0) fun x =>
      { x with nextList := some (some { entries := gateEntries (r.field 2 2) w, cycle := r.field 4 4, base := t }), nextAt := t }) →
    s2.promisesHold = true →
    CompletesSomehow (.switchGateSet r) r s 0x0408 .done fun u => u = s2.recompute) ∧
  (∀ (p : Nat) (l : GateList) (s : State), (s.swOf p).nextList = some (some l) → s.computeOn = true → p < 15 →
    (s.swOf p).nextAt ≤ s.now → s.furled (unitId 0x0C p) = false →
    Ends (.gateListActive p) s fun t => t = { s with sw := t.sw, io := t.io } ∧
      t.swOf p = { s.swOf p with gates := some l, nextList := none, gateMask := l.mask s.now } ∧
      ∀ q, q ≠ p → t.swOf q = s.swOf q) ∧
  (∀ (p : Nat) (s : State), (s.swOf p).nextAt > s.now → exec (.gateListActive p) s = .next s) ∧
  (∀ (p : Nat) (l : GateList) (s : State), (s.swOf p).gates = some l → s.computeOn = true →
    exec (.gateChange p) s = .next (s.mapSw p fun x => { x with gateMask := l.mask s.now })) ∧
  (∀ (r : Request) (s : State), Clear cmdSwitchShaperSet r s →
    exec (.switchShaperSet r) s = .next ((s.mapSw (r.byte 0) fun x =>
      { x with slopes := Table.put 0 x.slopes (r.byte 1) (r.field 4 4), credits := Table.put 0 x.credits (r.byte 1) 0,
               creditAt := Table.put 0 x.creditAt (r.byte 1) s.now }).complete r 0x0409 .done 0)) ∧
  (∀ (r : Request) (s s1 : State), Clear cmdSwitchPreemptSet r s →
    s1 = (s.mapSw (r.byte 0) fun x =>
      { x with preempt := r.bit 2 7, express := r.byte 1, addFrag := r.bits 2 1 0, verifyMs := r.byte 3,
               preActive := x.preActive && r.bit 2 7, macHeld := x.macHeld && r.bit 2 7 }) →
    (s1.promisesHold = true → exec (.switchPreemptSet r) s = .next (s1.recompute.complete r 0x040A .done 0)) ∧
    (s1.promisesHold = false → exec (.switchPreemptSet r) s = .next (s.complete r 0x040A .scheduleConflict 0))) ∧
  (∀ (p : Nat) (s : State), s.computeOn = true → p < 10 → s.has 0 .framePreemption = true → (s.swOf p).preempt = true →
    (s.ethOf p).link = .up →
    Ends (.preemptVerifyDone p true) s fun t => t = { s with sw := t.sw, io := t.io } ∧
      t.swOf p = { s.swOf p with preActive := true, macHeld := false }) ∧
  (∀ (r : Request) (s : State), Clear cmdSwitchSampleSet r s → s.sw.sampleQueue = 0 →
    Completes (.switchSampleSet r) r s 0x040E .done s.sw.samplesLost fun u =>
      u = { s with sw := u.sw, dma := u.dma } ∧ (u.queueOf (r.field 6 2)).attach = .sample ∧ u.sw.sampleQueue = r.field 6 2 + 1 ∧
      Table.get {} u.sw.samplers (2 * r.byte 0 + r.byte 1) = { every := r.field 2 2, random := r.bit 4 0, left := r.field 2 2 })

/-- Frames through the switch (R215, R217, R220, R230, R235, R255, R256, R271): a frame with a bad FCS is counted and goes no further; a frame
of a VLAN that its port is no member of is counted; a port whose link is not UP discards the frame at its head; learned entries age out;
an audit that finds 16 384 cells changes nothing of the buffer. -/
def Obligations.FramesCrossTheSwitch : Prop :=
  (∀ (p : Nat) (f : EthFrame) (s : State), s.computeOn = true → p < 12 → (s.ethOf p).link = .up → s.portLive p = true →
    exec (.frameReceive p f) s = .next (s.receiveFrame p f)) ∧
  (∀ (p : Nat) (f : EthFrame) (s s1 : State), f.fcsOk = false →
    s1 = (s.mapEth p fun e => { e with fcsErrors := satAdd 32 e.fcsErrors 1 }) →
    s1.cutsThrough { port := p, srcEp := none, queueFlows := [], frame := plainFrame f, secured := false, at_ := s.now, stamp := s.now }
      = false → s.receiveFrame p f = s1) ∧
  (∀ (x : Entering) (s : State), bitOf (s.vlanOf (s.vidOf x.port x.frame)).member x.port = false →
    s.cross x = s.mapSw x.port fun y => { y with vlanDrops := satAdd 32 y.vlanDrops 1 }) ∧
  (∀ (p : Nat) (f : EthFrame) (s : State), (s.ethOf p).link ≠ .up → exec (.frameReceive p f) s = .next s) ∧
  (∀ (q : QFrame) (s : State), s.canCharge q.account q.cells (if q.admitted then q.flows.head? else none) = false →
    (s.sw.frozen = false ∨ q.admitted = true) →
    s.offer q = s.mapAccount q.account fun a => { a with drops := satAdd 32 a.drops 1 }) ∧
  (∀ (p : Nat) (q : QFrame) (rest : List QFrame) (s : State), s.computeOn = true → p < 12 → s.stopped (unitId 0x0C p) = false →
    (s.ethOf p).link ≠ .up → (s.sw.queue.filter fun q => q.egress == p && !q.started) = q :: rest →
    exec (.frameTransmit p) s = .next ((s.removeFrame q).mapEth p fun e => { e with downDrops := satAdd 32 e.downDrops 1 })) ∧
  (∀ (vid addr : Nat) (s : State), s.computeOn = true → s.sw.frozen = false →
    Ends (.macEntryAge vid addr) s fun t => t = { s with sw := { s.sw with macs := t.sw.macs } } ∧
      (∀ m ∈ t.sw.macs, m ∈ s.sw.macs) ∧
      (∀ m ∈ s.sw.macs, m.fixed = true ∨ s.now < m.seenAt + s.sw.ageS * 1000000000 ∨ m.vid ≠ vid ∨ m.addr ≠ addr → m ∈ t.sw.macs) ∧
      (∀ m ∈ t.sw.macs, m.vid = vid → m.addr = addr → m.fixed = false → s.now < m.seenAt + s.sw.ageS * 1000000000)) ∧
  (∀ (s : State), s.computeOn = true → s.stopped (unitId 0x0E 0) = false →
    Ends .switchCellMatch s fun t => t.io = s.io ∧ t.sw.portPointer = (s.sw.portPointer + 1) % 16 ∧
      t.sw.inputPointers = s.matching.inputs ∧ t.sw.grantPtrs = s.matching.grants ∧ t.sw.acceptPtrs = s.matching.accepts) ∧
  (∀ (s : State), s.computeOn = true → s.sw.auditEnable = true → s.sw.sweeping = false →
    s.sw.auditAt + s.sw.auditPeriod * 1000 ≤ s.now →
    Ends (.switchAudit 16384) s fun t => t = { s with sw := { s.sw with auditAt := s.now, mismatch := false, free := t.sw.free } }) ∧
  (∀ (s : State), s.computeOn = true → s.sw.auditEnable = true → s.sw.sweeping = false →
    s.sw.auditAt + s.sw.auditPeriod * 1000 ≤ s.now →
    Ends (.switchAudit 16383) s fun t => t.sw.mismatch = true ∧ t.sw.sweeping = true ∧ t.sw.queue = s.sw.queue) ∧
  (∀ (cells : List Nat) (counts : Nat) (s : State), s.computeOn = true → s.sw.sweeping = true → s.sw.lastFind = none →
    exec (.switchMarkSweep cells counts) s =
      .next { s with sw := { s.sw with sweeping := false, lastFind := some { cells := cells, counts := counts } } }) ∧
  (∀ (s : State), s.windowOn 0 = true →
    exec (.switchAuditStatusRead 0) s = .next { s with sw := { s.sw with reclaimed := 0 } }) ∧
  (∀ (p : Nat) (f : EthFrame) (s : State), s.computeOn = true → s.absent = false → s.sw.frozen = false → p < 12 →
    (s.ethOf p).link = .up → s.portLive p = true → f.fcsOk = true → f.ethType = 0x88F7#16 →
    exec (.gptpMessage p false f) s = .next (s.mapEth p fun e => { e with framesOk := satAdd 64 e.framesOk 1 })) ∧
  (∀ (k : Nat) (s : State), s.computeOn = true → k < 512 → (s.frerOf (512 + k)).kind = 2 → (s.frerOf (512 + k)).latentMs ≠ 0 →
    (s.frerOf (512 + k)).checkedAt + (s.frerOf (512 + k)).latentMs * 1000000 ≤ s.now →
    Ends (.frerLatentError k) s fun t => t = { s with sw := { s.sw with frer := t.sw.frer }, io := t.io } ∧
      t.frerOf (512 + k) = { s.frerOf (512 + k) with checkedAt := s.now, passedThen := (s.frerOf (512 + k)).passed,
                                                     discardThen := (s.frerOf (512 + k)).discarded })

/-- The Ethernet port commands (R269, R274, R276, R280-R283): enabling a DISABLED port trains it and disabling an UP port disables it; a
query answers the link's state; a sleep request is ACCEPTED and stays pending; a wake trains a sleeping port; a cable test enters
DIAG; the counters are written to the caller's buffer, and cleared where the command asks. -/
def Obligations.EthernetCommandsComplete : Prop :=
  (∀ (r : Request) (s : State), Clear cmdEthPortConfig r s → (s.ethOf (r.byte 0)).link = .disabled → r.bit 1 0 = true →
    Completes (.ethPortConfig r) r s 0x0440 .done LinkState.training.code fun u => LinkMoved (r.byte 0) .training false s u ∧
      (u.ethOf (r.byte 0)).enable = true ∧ (u.ethOf (r.byte 0)).master = r.bit 1 1) ∧
  (∀ (r : Request) (s : State), Clear cmdEthPortConfig r s → (s.ethOf (r.byte 0)).link = .up → r.bit 1 0 = false →
    Completes (.ethPortConfig r) r s 0x0440 .done LinkState.disabled.code fun u => LinkMoved (r.byte 0) .disabled false s u ∧
      (u.ethOf (r.byte 0)).enable = false) ∧
  (∀ (r : Request) (s : State), Clear cmdEthLinkQuery r s →
    CompletesSomehow (.ethLinkQuery r) r s 0x0441 .done fun u => u = { s with io := { s.io with free := u.io.free } }) ∧
  (∀ (r : Request) (s : State), Clear cmdEthPlcaSet r s →
    exec (.ethPlcaSet r) s = .next ((s.mapEth (r.byte 0) fun x =>
      { x with plca := r.bit 1 0, nodeId := r.byte 2, nodeCount := r.byte 3, toTimer := r.field 4 2,
               plcaLost := false }).complete r 0x0442 .done 0)) ∧
  (∀ (r : Request) (s : State), Clear cmdEthTc10Sleep r s →
    exec (.ethTc10Sleep r) s =
      .next ((s.mapEth (r.byte 0) fun x => { x with sleepPending := true, sleepAt := s.now }).complete r 0x0443 .accepted 0)) ∧
  (∀ (r : Request) (s : State), Clear cmdEthTc10Wake r s →
    Completes (.ethTc10Wake r) r s 0x0444 .done 0 fun u => LinkMoved (r.byte 0) .training false s u) ∧
  (∀ (r : Request) (s : State), Clear cmdEthCableTest r s →
    Completes (.ethCableTest r) r s 0x0445 .accepted 0 fun u => LinkMoved (r.byte 0) .diag false s u) ∧
  (∀ (r : Request) (s s2 : State), Clear cmdEthPortStats r s → r.bit 1 0 = true →
    (s.lineErrors (r.byte 0)).write r.issuer (r.field 8 8) 64 ((s.lineErrors (r.byte 0)).ethOf (r.byte 0)).record = (s2, none) →
    exec (.ethPortStats r) s = .next ((s2.mapEth (r.byte 0) fun x => x.cleared s.now).complete r 0x0446 .done 0)) ∧
  (∀ (r : Request) (s s2 : State) (f : XFault), Clear cmdEthPortStats r s →
    (s.lineErrors (r.byte 0)).write r.issuer (r.field 8 8) 64 ((s.lineErrors (r.byte 0)).ethOf (r.byte 0)).record = (s2, some f) →
    exec (.ethPortStats r) s = .next ((s2.raiseFault f r.issuer 0xFFFF 0x07 0).complete r 0x0446 .bufferFault 0)) ∧
  (∀ (r : Request) (s : State), Clear cmdEthPhyMmdRead r s →
    CompletesSomehow (.ethPhyMmdRead r) r s 0x0447 .done fun u => u = { s with io := { s.io with free := s.io.free + 1 } })

/-- Link events (R269, R270, R276-R283): training ends UP; a lost link trains again and is counted, but ports 10 and 11 have no link
signalling; sleep, wake and PLCA events move the link that they name, and no other; a cable test ends with the port training or
DISABLED. -/
def Obligations.LinkEventsComplete : Prop :=
  (∀ (p : Nat) (s : State), s.computeOn = true → (s.ethOf p).link = .training → (s.wakeOf (0x20 + p)).windowOpen = false →
    Ends (.linkTrainingDone p) s fun t => LinkMoved p .up false s t) ∧
  (∀ (p : Nat) (s : State), (s.ethOf p).link = .up → p < 10 → Ends (.linkFailure p) s fun t => LinkMoved p .training true s t) ∧
  (∀ (p : Nat) (s : State), 10 ≤ p → exec (.linkFailure p) s = .next s) ∧
  (∀ (p : Nat) (s : State), (s.ethOf p).link = .up → (s.ethOf p).sleepPending = true →
    Ends (.tc10SleepAck p) s fun t => LinkMoved p .sleep false s t) ∧
  (∀ (p : Nat) (s : State), (s.ethOf p).link = .up → (s.ethOf p).sleepPending = true → (s.ethOf p).sleepAt + 16000000 ≤ s.now →
    Ends (.tc10SleepAckTimeout p) s fun t => LinkMoved p .up false s t) ∧
  (∀ (p : Nat) (s : State), (s.ethOf p).link = .up → s.tc10On p = true → s.absent = false → (s.ethOf p).acceptSleep = true →
    Ends (.tc10SleepRequest p) s fun t => LinkMoved p .sleep false s t) ∧
  (∀ (p : Nat) (s : State), (s.ethOf p).link = .up → s.tc10On p = true → s.absent = true →
    exec (.tc10SleepRequest p) s = .next (s.mapEth p fun x => { x with requestHeld := true })) ∧
  (∀ (p : Nat) (s : State), s.computeOn = true → (s.ethOf p).link = .sleep →
    Ends (.tc10WakePulse p) s fun t => LinkMoved p .training false s t ∧ (t.ethOf p).tc10Wakes = satAdd 32 (s.ethOf p).tc10Wakes 1) ∧
  (∀ (p result distance : Nat) (s : State), (s.ethOf p).link = .diag → (s.ethOf p).enable = true →
    Ends (.ethCableResult p result distance) s fun t =>
      t.ethOf p = { s.ethOf p with link := .training, changed := s.now } ∧ ∀ q, q ≠ p → t.ethOf q = s.ethOf q) ∧
  (∀ (p result distance : Nat) (s : State), (s.ethOf p).link = .diag → (s.ethOf p).enable = false →
    Ends (.ethCableResult p result distance) s fun t => LinkMoved p .disabled false s t) ∧
  (∀ (p : Nat) (s : State), (s.ethOf p).plca = true → (s.ethOf p).nodeId ≠ 0 → (s.ethOf p).plcaLost = false →
    Ends (.plcaBeaconLoss p) s fun t => t = { s with eth := t.eth, io := t.io } ∧
      t.ethOf p = { s.ethOf p with plcaLost := true, beaconsLost := satAdd 32 (s.ethOf p).beaconsLost 1 }) ∧
  (∀ (p : Nat) (s : State), (s.ethOf p).plcaLost = true →
    Ends (.plcaBeaconReturn p) s fun t => t = { s with eth := t.eth, io := t.io } ∧
      t.ethOf p = { s.ethOf p with plcaLost := false })

/-- The CAN commands (R206, R287-R291, R295, R315): a DISABLED channel that is enabled integrates; an object takes its settings; a queue is attached
and detached; the queries change only the counters they are asked to clear; a bus-off channel recovers; a gang that does not run
starts. -/
def Obligations.CanCommandsComplete : Prop :=
  (∀ (r : Request) (s : State), Clear cmdCanChannelConfig r s → (s.canOf (r.byte 0)).state = .disabled → r.bit 1 0 = true →
    Completes (.canChannelConfig r) r s 0x0501 .done CanState.integrating.code fun u => u = { s with can := u.can, io := u.io } ∧
      u.canOf (r.byte 0) = { channelSettings r (s.canOf (r.byte 0)) with
        state := .integrating, transceiver := transceiverOf .integrating (r.byte 3) } ∧
      u.can.objects = s.can.objects ∧ ∀ c, c ≠ r.byte 0 → u.canOf c = s.canOf c) ∧
  (∀ (r : Request) (s : State), Clear cmdCanObjectConfig r s →
    CompletesSomehow (.canObjectConfig r) r s 0x0502 .done fun u => u = { s with can := { s.can with objects := u.can.objects } } ∧
      (u.objOf (r.field 0 2)).direction = r.byte 2 ∧ (u.objOf (r.field 0 2)).id = r.field 8 4 ∧
      (u.objOf (r.field 0 2)).mask = r.field 12 4 ∧ (u.objOf (r.field 0 2)).pending = false ∧ (u.objOf (r.field 0 2)).new = false ∧
      ∀ o, o ≠ r.field 0 2 → u.objOf o = s.objOf o) ∧
  (∀ (r : Request) (s : State), Clear cmdCanObjectAttach r s → r.field 2 2 = 0xFFFF →
    exec (.canObjectAttach r) s = .next ((s.detachObject (r.field 0 2)).complete r 0x0503 .done 0)) ∧
  (∀ (r : Request) (s : State), Clear cmdCanObjectAttach r s → r.field 2 2 ≠ 0xFFFF → (s.objOf (r.field 0 2)).queue = none →
    exec (.canObjectAttach r) s = .next (((s.mapObj (r.field 0 2) fun x => { x with queue := some (r.field 2 2) }).mapQueue (r.field 2 2)
      fun x => { x with attach := .canObject (r.field 0 2) }).complete r 0x0503 .done 0)) ∧
  (∀ (r : Request) (s : State), Clear cmdCanChannelQuery r s → r.bit 1 0 = false →
    exec (.canChannelQuery r) s = .next (s.complete r 0x0504 .done (pack [(0, 1, (s.canOf (r.byte 0)).state.code),
      (1, 1, min 255 (s.canOf (r.byte 0)).tec), (2, 1, min 255 (s.canOf (r.byte 0)).rec_), (3, 1, (s.canOf (r.byte 0)).lastError),
      (4, 4, (s.canOf (r.byte 0)).errorFrames), (8, 4, (s.canOf (r.byte 0)).noMatch), (12, 4, (s.canOf (r.byte 0)).tooLong),
      (16, 2, (s.canOf (r.byte 0)).exceptions), (18, 2, (s.canOf (r.byte 0)).busOffCount),
      (20, 1, (s.canOf (r.byte 0)).transceiver.code)]))) ∧
  (∀ (r : Request) (s : State), Clear cmdCanChannelRecover r s →
    exec (.canChannelRecover r) s = .next ((s.moveCan (r.byte 0) .recovering).complete r 0x0505 .done 0)) ∧
  (∀ (r : Request) (s : State), Clear cmdCanObjectQuery r s → r.bit 2 0 = true →
    CompletesSomehow (.canObjectQuery r) r s 0x0506 .done fun u => u = s.mapObj (r.field 0 2) fun x =>
      { x with frames := 0, overrun := 0, failed := 0, skipped := 0, checkFails := 0 }) ∧
  (∀ (r : Request) (s : State), Clear cmdCanGangSet r s → r.byte 32 = 1 → (Table.get {} s.time.canGangs (r.byte 0)).running = false →
    CompletesSomehow (.canGangSet r) r s 0x0507 .done fun u => u = { s with time := u.time } ∧
      u.time = { s.time with canGangs := u.time.canGangs } ∧
      Table.get {} u.time.canGangs (r.byte 0) = Gang.start (gangBlock r 0) r.issuer s.now .can ∧
      ∀ k, k ≠ r.byte 0 → Table.get {} u.time.canGangs k = Table.get {} s.time.canGangs k)

/-- The traffic of a CAN bus (R291-R293, R296, R297, R307-R314): a channel that has integrated is error active; a bus-off channel that has
recovered starts again with its counts at zero; a frame that no object takes is counted; a sent frame clears PENDING and counts; an
attempt that loses arbitration leaves the frame pending; an error adds 8 to TEC; a skipped time-triggered instant sends nothing. -/
def Obligations.CanTrafficCompletes : Prop :=
  (∀ (c : Nat) (s : State), s.computeOn = true → (s.canOf c).state = .integrating → (s.canOf c).mode ≠ 1 →
    exec (.canIntegrationDone c) s = .next (s.moveCan c .errorActive)) ∧
  (∀ (c : Nat) (s : State), s.computeOn = true → (s.canOf c).state = .recovering →
    Ends (.canBusOffRecovery c) s fun t => t = { s with can := t.can, io := t.io } ∧ (t.canOf c).state = .errorActive ∧
      (t.canOf c).tec = 0 ∧ (t.canOf c).rec_ = 0 ∧ t.can.objects = s.can.objects) ∧
  (∀ (c : Nat) (f : CanFrame) (s : State), s.computeOn = true → (s.wakeOf c).windowOpen = false → (s.canOf c).state = .errorActive →
    f.format.val ≤ (s.canOf c).format → (f.format.val = 1 → (s.canOf c).tms = false) → (s.canOf c).tec ≤ 127 → (s.canOf c).rec_ ≤ 127 →
    (∀ o ∈ s.channelObjects c, (s.objOf o).accepts f = false) →
    exec (.canFrameReceive c (.frame f)) s = .next (s.mapCan c fun x =>
      { x with rec_ := if x.mode ≠ 0 then x.rec_ else x.rec_ - 1, noMatch := satAdd 32 x.noMatch 1 })) ∧
  (∀ (c : Nat) (k : Fin 7) (s : State), s.computeOn = true → (s.canOf c).state = .errorActive → (s.canOf c).mode = 0 →
    (s.canOf c).tec ≤ 127 → (s.canOf c).rec_ < 127 →
    exec (.canFrameReceive c (.error k)) s = .next (s.mapCan c fun x =>
      { x with lastError := k.val, errorFrames := satAdd 32 x.errorFrames 1, rec_ := x.rec_ + 1 })) ∧
  (∀ (c start o : Nat) (x : CanTx) (s : State), s.computeOn = true → start ≤ s.now → (s.canOf c).state = .errorActive →
    (s.canOf c).mode = 0 → (s.canOf c).tec ≤ 255 → s.offered c start = some o → (s.objOf o).tx = some x →
    Ends (.canFrameTransmitEnd c start .sent) s fun t => (t.objOf o).pending = false ∧ (t.objOf o).tx = none ∧
      (t.objOf o).frames = satAdd 32 (s.objOf o).frames 1 ∧ ∀ m, m ≠ o → t.objOf m = s.objOf m) ∧
  (∀ (c start o : Nat) (x : CanTx) (s : State), s.computeOn = true → start ≤ s.now → (s.canOf c).state = .errorActive →
    (s.canOf c).mode = 0 → s.offered c start = some o → (s.objOf o).tx = some x → (s.objOf o).abort = false →
    (s.objOf o).oneShot = false →
    exec (.canFrameTransmitEnd c start .lost) s = .next (s.mapObj o fun x => { x with attempts := satAdd 8 x.attempts 1 })) ∧
  (∀ (o t : Nat) (s : State), s.computeOn = true → (s.objOf o).armedAt = some t → t ≤ s.now →
    s.quiescing (s.owner kindCan o) = true →
    exec (.canTtRelease o) s = .next (s.mapObj o fun x =>
      { x with armed := false, armedAt := none, pending := false, skipped := satAdd 32 x.skipped 1 })) ∧
  (∀ (o t : Nat) (s : State), s.computeOn = true → (s.objOf o).armedAt = some t → t ≤ s.now →
    s.quiescing (s.owner kindCan o) = false →
    exec (.canTtRelease o) s = .next (s.release o (s.objOf o).regInfo (s.objOf o).slotFrame false 25)) ∧
  (∀ (c t : Nat) (s : State), nextInstant s.time.canGangs .can c s.now = some t → s.computeOn = true → t ≤ s.now → s.channelObjects c = [] →
    exec (.canGangInstant c) s =
      .next { s with time := { s.time with canGangs := advanceMember s.time.canGangs c s.now } }) ∧
  (∀ (c : Nat) (s : State), s.computeOn = true → c < 12 → (s.canOf c).transceiver = .normal →
    exec (.canTxdDominantTimeout c) s = .next (s.unitEvent (unitId 0x10 c) 0x06))

/-- The window of CAN objects (R133, R301, R306-R312): a read of OBJ_STATUS locks a receive object; SEND_REQ of a time-triggered send object
arms it for its instant, and one that is already pending is ignored; ABORT ends a frame whose transmission has not begun; RELEASE
makes the shadow frame visible; another partition's access changes nothing, and a quiescing owner's is counted. -/
def Obligations.CanWindowCompletes : Prop :=
  (∀ (p o : Nat) (s : State), s.slotSeen p o = true → (s.objOf o).direction = 1 →
    exec (.objStatusRead p o) s = .next (s.mapObj o fun x => { x with locked := true })) ∧
  (∀ (p o : Nat) (s : State), s.slotSeen p o = true → s.quiescing p = false → s.furled (unitId 0x10 (o / 128)) = false →
    (s.objOf o).direction = 2 → (s.objOf o).pending = true →
    exec (.objCtrlSendReq p o) s = .next (s.mapObj o fun x => { x with writeIgnored := true })) ∧
  (∀ (p o : Nat) (s : State), s.slotSeen p o = true → s.quiescing p = false → s.furled (unitId 0x10 (o / 128)) = false →
    (s.objOf o).direction = 2 → (s.objOf o).pending = false → (s.objOf o).queue = none → (s.objOf o).tt = 2 →
    exec (.objCtrlSendReq p o) s = .next (s.mapObj o fun x => { x with pending := true, armed := true, attempts := 0 })) ∧
  (∀ (p o : Nat) (s : State), s.slotSeen p o = true → s.quiescing p = false → s.furled (unitId 0x10 (o / 128)) = false →
    (s.objOf o).direction = 2 → (s.objOf o).pending = true →
    exec (.objCtrlAbort p o false) s = .next (s.failSend o 0x9)) ∧
  (∀ (o : Nat) (s : State), (s.failSend o 0x9).objOf o = { s.objOf o with
      pending := false, armed := false, armedAt := none, tx := none, abort := false, lastCause := 0x9,
      failed := satAdd 32 (s.objOf o).failed 1, sfAt := ((s.failSend o 0x9).objOf o).sfAt,
      sfCount := ((s.failSend o 0x9).objOf o).sfCount }) ∧
  (∀ (p o : Nat) (b : CanRxBuf) (s : State), s.slotSeen p o = true → s.quiescing p = false →
    s.furled (unitId 0x10 (o / 128)) = false → (s.objOf o).direction = 1 → (s.objOf o).queue = none → (s.objOf o).shadow = some b →
    Ends (.objCtrlRelease p o) s fun t => t = { s with can := t.can, io := t.io } ∧
      t.objOf o = { s.objOf o with locked := false, visible := some b, shadow := none, new := true }) ∧
  (∀ (p o : Nat) (s : State), s.slotSeen p o = true → s.quiescing p = false → s.furled (unitId 0x10 (o / 128)) = false →
    (s.objOf o).direction = 1 → (s.objOf o).queue = none → (s.objOf o).shadow = none →
    exec (.objCtrlRelease p o) s = .next (s.mapObj o fun x => { x with locked := false, new := false })) ∧
  (∀ (p o : Nat) (s : State), s.slotSeen p o = false →
    exec (.objCtrlRelease p o) s = .next s ∧ exec (.objCtrlSendReq p o) s = .next s ∧ exec (.objStatusRead p o) s = .next s) ∧
  (∀ (p o : Nat) (s : State), s.slotSeen p o = true → s.quiescing p = true →
    exec (.objCtrlSendReq p o) s = .next (s.mapPart p fun x => { x with writesIgnored := x.writesIgnored + 1 }))

/-- The LIN channels (R322-R330): a schedule is installed whole or not at all; a frame written is what the entry publishes; a read clears NEW;
wake and sleep act on the channel; a commander's slot begins when its time has come; a response is taken with a right checksum and
counted as an error with a wrong one; a response that does not come is counted. -/
def Obligations.LinChannelsComplete : Prop :=
  (∀ (r : Request) (s : State), Clear cmdLinChannelConfig r s →
    Completes (.linChannelConfig r) r s 0x0601 .done 0 fun u => u = { s with lin := u.lin } ∧
      (u.linOf (r.byte 0)).enable = r.bit 1 0 ∧ (u.linOf (r.byte 0)).commander = r.bit 1 1 ∧
      (u.linOf (r.byte 0)).vector = r.byte 2 ∧ (u.linOf (r.byte 0)).bitRate = r.field 4 2 ∧
      ∀ c, c ≠ r.byte 0 → u.linOf c = s.linOf c) ∧
  (∀ (r : Request) (s s1 : State) (f : XFault), Clear cmdLinScheduleSet r s →
    s.read r.issuer (r.field 8 8) (4 * r.byte 1) = (s1, .error f) →
    exec (.linScheduleSet r) s = .next ((s1.raiseFault f r.issuer 0xFFFF 0x07 0).complete r 0x0602 .bufferFault 0)) ∧
  (∀ (r : Request) (s s1 : State) (w : Nat) (l : List LinEntry), Clear cmdLinScheduleSet r s →
    s.read r.issuer (r.field 8 8) (4 * r.byte 1) = (s1, .ok w) →
    readTable w (r.byte 1) (s1.linOf (r.byte 0)).commander (s1.linOf (r.byte 0)).bitRate = some l →
    s1.tableConflict (r.byte 0) l = false → (s1.linOf (r.byte 0)).running = true →
    CompletesSomehow (.linScheduleSet r) r s 0x0602 .done fun u => u = s1.mapLin (r.byte 0) fun x => { x with nextTable := some l }) ∧
  (∀ (r : Request) (s s1 : State) (w : Nat) (l : List LinEntry), Clear cmdLinScheduleSet r s →
    s.read r.issuer (r.field 8 8) (4 * r.byte 1) = (s1, .ok w) →
    readTable w (r.byte 1) (s1.linOf (r.byte 0)).commander (s1.linOf (r.byte 0)).bitRate = some l →
    s1.tableConflict (r.byte 0) l = true →
    exec (.linScheduleSet r) s = .next (s.complete r 0x0602 .linScheduleConflict 0)) ∧
  (∀ (r : Request) (s : State), Clear cmdLinFrameWrite r s →
    exec (.linFrameWrite r) s = .next ((s.mapLin (r.byte 0) fun x => x.mapBuf (r.byte 1) fun b =>
      { b with data := r.field 8 8, written := true, wroteAt := s.now + 1 }).complete r 0x0603 .done 0)) ∧
  (∀ (r : Request) (s : State), Clear cmdLinFrameRead r s →
    exec (.linFrameRead r) s = .next ((s.mapLin (r.byte 0) fun x => x.mapBuf (r.byte 1) fun b => { b with new := false }).complete
      r 0x0604 .done (pack [(0, 8, ((s.linOf (r.byte 0)).buf (r.byte 1)).data), (8, 1, flag ((s.linOf (r.byte 0)).buf (r.byte 1)).new),
        (9, 1, ((s.linOf (r.byte 0)).buf (r.byte 1)).length), (10, 2, ((s.linOf (r.byte 0)).buf (r.byte 1)).overruns),
        (16, 8, ((s.linOf (r.byte 0)).buf (r.byte 1)).time)]))) ∧
  (∀ (r : Request) (s : State), Clear cmdLinBusControl r s → r.byte 1 = 0 → (s.linOf (r.byte 0)).running = false →
    exec (.linBusControl r) s = .next ((s.mapLin (r.byte 0) fun x =>
      { x with asleep := true, nextTable := none, restartAt := none }).complete r 0x0605 .done s.now)) ∧
  (∀ (r : Request) (s : State), Clear cmdLinBusControl r s → r.byte 1 = 1 → (s.linOf (r.byte 0)).commander = false →
    exec (.linBusControl r) s = .next ((s.mapLin (r.byte 0) fun x =>
      { x with asleep := false, sleepAfter := false, restartAt := none }).complete r 0x0605 .done s.now)) ∧
  (∀ (c : Nat) (s : State), s.computeOn = true → (s.linOf c).enable = true → (s.linOf c).commander = true →
    (s.linOf c).running = true → (s.linOf c).slotAt ≤ s.now → (s.linOf c).inFrame = false → (s.linOf c).stopAfter = true →
    exec (.linSlotStart c) s = .next (s.mapLin c fun x => { x with running := false })) ∧
  (∀ (c : Nat) (s : State), s.computeOn = true → (s.linOf c).enable = true → (s.linOf c).commander = true →
    (s.linOf c).running = true → (s.linOf c).slotAt ≤ s.now → (s.linOf c).inFrame = false → (s.linOf c).stopAfter = false →
    (s.linOf c).entry + 1 < (s.linOf c).table.length → (s.linOf c).sleepAfter = false → (s.linOf c).nextTable = none →
    (s.linOf c).dirOf (s.linOf c).entry = 2 →
    Ends (.linSlotStart c) s fun t => t = { s with lin := t.lin } ∧ (t.linOf c).entry = (s.linOf c).entry + 1 ∧
      (t.linOf c).current = (s.linOf c).entry ∧ (t.linOf c).inFrame = true ∧ (t.linOf c).frameAt = s.now ∧
      ∀ d, d ≠ c → t.linOf d = s.linOf d) ∧
  (∀ (c id q : Nat) (s : State), s.computeOn = true → (s.wakeOf (0x10 + c)).windowOpen = false → (s.linOf c).enable = true →
    (s.linOf c).commander = false → s.furled (unitId 0x11 c) = false → (s.linOf c).inFrame = false →
    (s.linOf c).table.findIdx? (fun e => e.id == id) = some q → (s.linOf c).dirOf q = 2 →
    exec (.linHeaderReceive c id) s = .next (s.mapLin c fun x => { x with current := q, frameAt := s.now, inFrame := true })) ∧
  (∀ (c : Nat) (e : LinEntry) (data : List Byte) (sum : Byte) (s : State), s.computeOn = true → (s.linOf c).enable = true →
    s.furled (unitId 0x11 c) = false → (s.linOf c).inFrame = true → (s.linOf c).table[(s.linOf c).current]? = some e →
    (s.linOf c).frameAt ≤ s.now → s.now ≤ (s.linOf c).frameAt + linTMaxNs e.length (s.linOf c).bitRate → data.length = e.length →
    linChecksum e.enhanced e.id data = sum.toNat → s.linFlows c (s.linOf c).current = [] →
    Ends (.linResponseReceive c data sum 0) s fun t => t = { s with lin := t.lin, io := t.io } ∧ (t.linOf c).inFrame = false ∧
      ((t.linOf c).buf (s.linOf c).current).data = ofBytes data ∧ ((t.linOf c).buf (s.linOf c).current).new = true ∧
      ((t.linOf c).buf (s.linOf c).current).time = s.now) ∧
  (∀ (c : Nat) (e : LinEntry) (data : List Byte) (sum : Byte) (s : State), s.computeOn = true → (s.linOf c).enable = true →
    s.furled (unitId 0x11 c) = false → (s.linOf c).inFrame = true → (s.linOf c).table[(s.linOf c).current]? = some e →
    (s.linOf c).frameAt ≤ s.now → s.now ≤ (s.linOf c).frameAt + linTMaxNs e.length (s.linOf c).bitRate → data.length = e.length →
    linChecksum e.enhanced e.id data ≠ sum.toNat →
    Ends (.linResponseReceive c data sum 0) s fun t => t = { s with lin := t.lin, io := t.io } ∧ (t.linOf c).inFrame = false ∧
      (t.linOf c).checksum = satAdd 32 (s.linOf c).checksum 1 ∧ (t.linOf c).bufs = (s.linOf c).bufs) ∧
  (∀ (c : Nat) (e : LinEntry) (s : State), s.computeOn = true → (s.linOf c).inFrame = true →
    (s.linOf c).table[(s.linOf c).current]? = some e → (s.linOf c).frameAt + linTMaxNs e.length (s.linOf c).bitRate ≤ s.now →
    Ends (.linNoResponse c) s fun t => t = { s with lin := t.lin, io := t.io } ∧ (t.linOf c).inFrame = false ∧
      (t.linOf c).noResponse = satAdd 32 (s.linOf c).noResponse 1 ∧ (t.linOf c).bufs = (s.linOf c).bufs) ∧
  (∀ (c : Nat) (s : State), s.computeOn = true → (s.linOf c).enable = true → (s.linOf c).inFrame = false →
    s.furled (unitId 0x11 c) = false →
    Ends (.linWakeSeen c) s fun t => t = { s with io := t.io }) ∧
  (∀ (c at_ : Nat) (s : State), (s.linOf c).restartAt = some at_ → at_ ≤ s.now → s.computeOn = true →
    s.quiescing (s.owner kindLin c) = false → (s.linOf c).nextTable = none →
    exec (.linScheduleRestart c) s = .next (s.startSchedule c))

/-- The local ports (R331-R334): a port is configured; a transfer is ACCEPTED and reported when it ends, and a fault of what it reads refuses
it; levels are set, read and latched pin by pin; a UART takes bytes and counts errors. -/
def Obligations.LocalPortsComplete : Prop :=
  (∀ (r : Request) (s : State), Clear cmdLocalPortConfig r s → isUart (r.byte 0) = false → (s.portOf (r.byte 0)).txQueue = 0 →
    (s.portOf (r.byte 0)).rxQueue = 0 → r.bit 1 0 = true →
    exec (.localPortConfig r) s = .next ((s.mapPort (r.byte 0) fun x =>
      { x with enable := true, rate := r.field 2 4, mode := r.byte 6, debounce := r.byte 7, txQueue := 0, rxQueue := 0,
               vector := r.byte 12, edge := r.byte 13 }).complete r 0x0610 .done 0)) ∧
  (∀ (r : Request) (s s1 : State) (w : Nat), Clear cmdLocalTransfer r s → s.read r.issuer (r.field 8 8) (r.field 2 2) = (s1, .ok w) →
    exec (.localTransfer r) s = .next ((s1.mapPort (r.byte 0) fun x =>
      { x with transfer := some { address := r.byte 1, writeLen := r.field 2 2, readLen := r.field 4 2, writeBuf := r.field 8 8,
                                  readBuf := r.field 16 8 } }).complete r 0x0611 .accepted 0)) ∧
  (∀ (r : Request) (s s1 : State) (f : XFault), Clear cmdLocalTransfer r s →
    s.read r.issuer (r.field 8 8) (r.field 2 2) = (s1, .error f) →
    exec (.localTransfer r) s = .next ((s1.raiseFault f r.issuer 0xFFFF 0x07 0).complete r 0x0611 .bufferFault 0)) ∧
  (∀ (i : Nat) (x : Transfer) (data : List Byte) (s s1 : State), (s.portOf i).transfer = some x → s.computeOn = true →
    data.length = x.readLen → s.write (s.owner kindPort i) x.readBuf x.readLen (ofBytes data) = (s1, none) →
    exec (.localTransferDone i 0 data) s =
      .next (s1.transferDone i (if i = 0 then x.writeLen else x.writeLen + x.readLen) .done)) ∧
  (∀ (x : Transfer) (data : List Byte) (s : State), (s.portOf 1).transfer = some x → s.computeOn = true →
    exec (.localTransferDone 1 2 data) s = .next (s.transferDone 1 data.length .busStuck)) ∧
  (∀ (i n : Nat) (st : Status) (s : State), ((s.transferDone i n st).portOf i).transfer = none ∧
    ∀ j, j ≠ i → (s.transferDone i n st).portOf j = s.portOf j) ∧
  (∀ (r : Request) (s : State), Clear cmdLocalGpioSet r s →
    Completes (.localGpioSet r) r s 0x0612 .done 0 fun u => u = { s with ports := u.ports } ∧
      (∀ g, g ∈ maskGpio (r.byte 0) → u.portOf (4 + g) = { s.portOf (4 + g) with outLevel := bitOf (r.byte 1) g }) ∧
      ∀ i, (∀ g ∈ maskGpio (r.byte 0), i ≠ 4 + g) → u.portOf i = s.portOf i) ∧
  (∀ (r : Request) (s : State), Clear cmdLocalGpioGet r s →
    CompletesSomehow (.localGpioGet r) r s 0x0613 .done fun u => u = { s with ports := u.ports } ∧
      ∀ g, g < 6 → u.portOf (4 + g) = if r.issuer = 0 ∨ s.owner kindPort (4 + g) = r.issuer
        then { s.portOf (4 + g) with latched := false } else s.portOf (4 + g)) ∧
  (∀ (g : Nat) (level : Bool) (s : State), s.computeOn = true → g < 6 → (s.portOf (4 + g)).pinLevel = !level →
    bitOf (s.portOf (4 + g)).edge (if level then 0 else 1) = false →
    exec (.gpioEdge g level) s = .next (s.mapPort (4 + g) fun x => { x with pinLevel := level })) ∧
  (∀ (p : Nat) (b : Byte) (s : State), s.computeOn = true → isUart p = true → (s.portOf p).enable = true →
    s.furled (unitId 0x12 p) = false →
    exec (.uartByteReceive p b true) s = .next (s.mapPort p fun x => { x with errors := satAdd 32 x.errors 1 }) ∧
    exec (.uartByteReceive p b false) s = .next (s.takeByte p b)) ∧
  (∀ (p : Nat) (s : State), s.computeOn = true → isUart p = true → (s.portOf p).enable = true → (s.portOf p).rxQueue ≠ 0 →
    (s.queueOf ((s.portOf p).rxQueue - 1)).collected ≠ [] →
    (s.portOf p).lastByte * (s.portOf p).rate + 30000000000 ≤ s.now * (s.portOf p).rate →
    exec (.uartIdleTimeout p) s = .next (s.mapQueue ((s.portOf p).rxQueue - 1) fun d =>
      { d with desc := d.desc.map fun y => { y with length := (s.queueOf ((s.portOf p).rxQueue - 1)).collected.length } }))

/-- The sleep commands (R340, R348, R354, R358-R360): an entry is ACCEPTED and in progress, with nothing else changed; a cancelled entry is over;
wake sources, filters and the alarm take their settings; a wake that is validated is genuine, and its source's false count is zero. -/
def Obligations.SleepCommandsComplete : Prop :=
  (∀ (r : Request) (s : State), Clear cmdSleepEnter r s →
    Completes (.sleepEnter r) r s 0x0D01 .accepted (pack [(0, 8, s.now)]) fun u => u = { s with sleep := { s.sleep with
      entry := some { target := r.byte 0, phase := if r.byte 0 = 1 then 0 else 1, phaseAt := s.now, offCount := 0,
                      committed := false }, pendingWake := none } }) ∧
  (∀ (r : Request) (e : SleepEntry) (s : State), Clear cmdSleepCancel r s → s.sleep.entry = some e →
    Ends (.sleepCancel r) s fun t => t.sleep = { s.sleep with entry := none, pendingWake := none } ∧ t.sw = s.sw ∧ t.load = s.load) ∧
  (∀ (r : Request) (s : State), Clear cmdWakeSourceSet r s →
    CompletesSomehow (.wakeSourceSet r) r s 0x0D03 .done fun u => u = { s with sleep := { s.sleep with sources := u.sleep.sources } } ∧
      (u.wakeOf (r.byte 0)).meadow = r.bit 1 0 ∧ (u.wakeOf (r.byte 0)).heath = r.bit 1 1 ∧
      (u.wakeOf (r.byte 0)).falseLimit = r.byte 4 ∧ (u.wakeOf (r.byte 0)).validMs = r.field 6 2 ∧
      (u.wakeOf (r.byte 0)).falseCount = (s.wakeOf (r.byte 0)).falseCount ∧
      (u.wakeOf (r.byte 0)).muted = ((s.wakeOf (r.byte 0)).muted && !r.bit 1 5) ∧ ∀ w, w ≠ r.byte 0 → u.wakeOf w = s.wakeOf w) ∧
  (∀ (r : Request) (s : State), Clear cmdWakeSelectiveSet r s →
    Completes (.wakeSelectiveSet r) r s 0x0D04 .done 0 fun u => u = { s with sleep := { s.sleep with filters := u.sleep.filters } } ∧
      Table.get {} u.sleep.filters (r.byte 0) = { ide := r.bit 1 0, id := r.field 4 4, idMask := r.field 8 4, dlc := r.byte 12,
                                                  dataMask := r.field 16 8 }) ∧
  (∀ (r : Request) (s : State), Clear cmdWakeQuery r s → ∃ res, exec (.wakeQuery r) s = .next (s.complete r 0x0D05 .done res)) ∧
  (∀ (r : Request) (s : State), Clear cmdWakeValidate r s →
    exec (.wakeValidate r) s = .next ((s.complete r 0x0D06 .done 0).genuineWake (r.byte 0))) ∧
  (∀ (w : Nat) (s : State), w < 0x40 → (s.sleep.power ≠ .run ∨ s.boot.phase ≠ .run) →
    (s.genuineWake w).wakeOf w = { s.wakeOf w with validated := true, windowOpen := false, windowAt := none, falseCount := 0 } ∧
      (s.genuineWake w).sleep.genuine = true ∧ ∀ v, v ≠ w → (s.genuineWake w).wakeOf v = s.wakeOf v) ∧
  (∀ (r : Request) (s : State), Clear cmdRtcAlarmSet r s → r.field 0 8 = 0 →
    exec (.rtcAlarmSet r) s = .next (({ s with sleep := { s.sleep with alarm := 0 } } : State).complete r 0x0D07 .done (pack [(0, 8, 0)])))

/-- Entries and wakes (R341-R347, R352-R360): in Run and past its window a wake is nothing or false; a wake before the commit point aborts the
entry, which ends in Run; the last phase puts the TZ7 in the state asked for; a wake of the power die starts the compute die only once
it has been unpowered for 1 ms; a muted source is muted until its time. -/
def Obligations.WakesComplete : Prop :=
  (∀ (e : SleepEntry) (s : State), s.sleep.entry = some e → e.target = 1 → s.sleep.pendingWake = none →
    Ends .sleepEntryPhase s fun t => t.sleep.power = .idle ∧ t.sleep.entry = none ∧ t.sw = s.sw ∧ t.flow = s.flow) ∧
  (∀ (e : SleepEntry) (s : State), s.sleep.entry = some e → e.target = 3 → e.phase = 3 →
    exec .sleepEntryPhase s =
      .next { s with sleep := { s.sleep with entry := none, power := .heath, unpoweredAt := s.now } }) ∧
  (∀ (e : SleepEntry) (s : State), s.sleep.entry = some e → e.target = 2 → e.phase = 2 → s.outputsQuiet e = false →
    exec .sleepEntryPhase s = .next s) ∧
  (∀ (w : Nat) (s : State), s.sleep.entry = none → s.sleep.pendingWake = some w → s.sleep.power = .meadow →
    s.now < s.sleep.unpoweredAt + 1000000 → exec .sleepEntryPhase s = .next s) ∧
  (∀ (w : Nat) (s : State), s.sleep.entry = none → s.sleep.pendingWake = some w → s.sleep.power = .meadow →
    s.sleep.unpoweredAt + 1000000 ≤ s.now →
    exec .sleepEntryPhase s = .next ({ s with sleep := { s.sleep with pendingWake := none } } : State).startFromSleep) ∧
  (∀ (w d : Nat) (e : SleepEntry) (s : State), s.supply.unpowered = false → s.mayWake w = true → 0x0B < w → s.sleep.entry = some e →
    e.target ≠ 1 → e.committed = false →
    exec (.wakeLatch w d) s = .next ((s.openWindow w).abortEntry .sleepAbortedWake w)) ∧
  (∀ (st : Status) (w : Nat) (e : SleepEntry) (s : State), s.sleep.entry = some e → e.committed = false →
    ((s.abortEntry st w).sleep = { s.sleep with entry := none, pendingWake := none } ∧ (s.abortEntry st w).load = s.load)) ∧
  (∀ (w d : Nat) (s : State), s.mayWake w = false → exec (.wakeLatch w d) s = .next s) ∧
  (∀ (c : Nat) (f : CanFrame) (s : State), s.supply.unpowered = false → c ≤ 11 → (s.wakeOf c).selective = true → s.sleep.entry = none →
    s.sleep.power = .meadow → s.watched c 2 = true → (s.wakeOf c).errorCount < 31 →
    exec (.selectiveWakeDecoderFrame c false f) s = .next (s.mapWake c fun x => { x with errorCount := x.errorCount + 1 })) ∧
  (∀ (s : State), s.sleep.alarm ≠ 0 → s.now < s.sleep.alarm → exec .rtcAlarm s = .next s) ∧
  (∀ (s : State), s.sleep.alarm ≠ 0 → s.sleep.alarm ≤ s.now → s.supply.unpowered = false → s.sleep.entry = none →
    s.sleep.power = .run → s.waking = false →
    exec .rtcAlarm s = .next { s with sleep := { s.sleep with alarm := 0 } }) ∧
  (∀ (source : Nat) (s : State), s.sleep.power = .idle →
    Ends (.idleExit 0 source) s fun t => t = { s with sleep := { s.sleep with power := .run, pendingWake := none }, io := t.io }) ∧
  (∀ (w t : Nat) (s : State), wakeSource w = true → (s.wakeOf w).windowAt = some t → (s.wakeOf w).windowOpen = true → t ≤ s.now →
    (s.wakeOf w).falseCount + 1 < (s.wakeOf w).falseLimit →
    Ends (.wakeWindowExpiry w) s fun u => u = { s with sleep := u.sleep } ∧
      u.sleep.falseSince = satAdd 16 s.sleep.falseSince 1 ∧
      u.wakeOf w = { s.wakeOf w with windowOpen := false, windowAt := none, falseCount := (s.wakeOf w).falseCount + 1 }) ∧
  (∀ (w : Nat) (s : State), wakeSource w = true → (s.wakeOf w).muted = true → (s.wakeOf w).muteUntil ≤ s.now →
    exec (.wakeMuteExpiry w) s = .next (s.mapWake w fun x => { x with muted := false, muteUntil := 0 }))

/-- The settings of the load channels (R370-R377, R380, R388): a LOAD_SET item that its bucket takes is applied and its value recorded; one that
does not conform waits at the front of its ring and changes no output; CLEAR also clears the latch; a direct write of another
partition does nothing; queries, wire settings, gangs and measurements complete. -/
def Obligations.LoadSettingsComplete : Prop :=
  (∀ (r : Request) (s : State), Shaped s → Clear cmdLoadChannelConfig r s →
    Completes (.loadChannelConfig r) r s 0x0701 .done 0 fun u => u = { s with load := u.load, io := u.io } ∧
      (u.loadOf (r.field 0 2)).vector = r.byte 3 ∧ (u.loadOf (r.field 0 2)).retryMax = r.byte 6 ∧
      (u.loadOf (r.field 0 2)).restartAuto = r.bit 2 0 ∧ (u.loadOf (r.field 0 2)).retryWindow = r.field 8 2 ∧
      (u.loadOf (r.field 0 2)).duty = (s.loadOf (r.field 0 2)).duty) ∧
  (∀ (r : Request) (s : State), Clear cmdLoadWireSet r s →
    CompletesSomehow (.loadWireSet r) r s 0x0702 .done fun u => u = s.mapLoad (r.byte 0) fun c => { c with params :=
      { section_ := r.byte 1, insulation := r.byte 2, tripPct := r.byte 3, tau := r.field 4 2, ambient := r.signed 6 1,
        restartPct := r.byte 7 } }) ∧
  (∀ (r : Request) (ids : List Nat) (s : State), Clear cmdLoadSet r s → ids = s.loadFlows (r.field 0 2) 1 → s.conforms ids 1 = true →
    exec (.loadSet r) s = .next ((s.applyItem (r.field 0 2) (r.field 4 4) 1 ids).complete r 0x0703 .done
      ((s.applyItem (r.field 0 2) (r.field 4 4) 1 ids).loadState (r.field 0 2)))) ∧
  (∀ (r : Request) (s : State), Clear cmdLoadSet r s → s.resumed r = true → s.conforms (s.loadFlows (r.field 0 2) 1) 1 = false →
    exec (.loadSet r) s = .next (s.hold r 0x0703)) ∧
  (∀ (r : Request) (ids : List Nat) (s : State), Clear cmdLoadSet (withClear r) s → ids = s.loadFlows ((withClear r).field 0 2) 1 →
    s.conforms ids 1 = true →
    Ends (.loadSetClear r) s fun t => ∃ res, t = (s.applyItem ((withClear r).field 0 2) ((withClear r).field 4 4) 1 ids).complete
      (withClear r) 0x0703 .done res) ∧
  (∀ (n v : Nat) (s : State), Shaped s → n < 40 →
    ((s.loadItem n v).loadOf n).on = bitOf v 31 ∧ ((s.loadItem n v).loadOf n).duty = bitsOf v 11 0 ∧
    ((s.loadItem n v).loadOf n).safe = false ∧ ((s.loadItem n v).loadOf n).held = false ∧
    ((s.loadItem n v).loadOf n).reclaimed = true ∧
    (bitOf v 30 = true → ((s.loadItem n v).loadOf n).latched = false ∧ ((s.loadItem n v).loadOf n).restarts = [])) ∧
  (∀ (p n : Nat) (v : Word) (s : State), s.windowOn p = true → s.owner kindLoad n ≠ p →
    exec (.loadSetDirectWrite p n v) s = .next s) ∧
  (∀ (p n : Nat) (v : Word) (s : State), s.windowOn p = true → s.has p .directWindows = true → s.has p .loadChannelControl = true →
    n < 48 → s.owner kindLoad n = p → s.quiescing p = false → oddLeg n = false → loadValueOk n v.toNat = true →
    s.cpu.masthead.hoveTo = false → s.load.holdOpen = false → s.loadFurled n = false → s.conforms (s.loadFlows n 0) 1 = true →
    exec (.loadSetDirectWrite p n v) s = .next (s.applyItem n v.toNat 0 (s.loadFlows n 0))) ∧
  (∀ (r : Request) (s : State), Clear cmdLoadQuery r s → r.bit 2 0 = false →
    CompletesSomehow (.loadQuery r) r s 0x0704 .done fun u => u = s) ∧
  (∀ (r : Request) (s : State), Clear cmdLoadQuery r s → r.bit 2 0 = true →
    CompletesSomehow (.loadQuery r) r s 0x0704 .done fun u =>
      u = s.mapLoad (r.field 0 2) fun c => { c with trips := 0, dropped := 0 }) ∧
  (∀ (r : Request) (s : State), Clear cmdLoadGangSet r s → r.byte 32 = 0 →
    Completes (.loadGangSet r) r s 0x0705 .done 0 fun u => u = { s with time := u.time } ∧
      u.time = { s.time with pwmGangs := u.time.pwmGangs } ∧ Table.get {} u.time.pwmGangs (r.byte 0) = {} ∧
      ∀ k, k ≠ r.byte 0 → Table.get {} u.time.pwmGangs k = Table.get {} s.time.pwmGangs k) ∧
  (∀ (r : Request) (s : State), Clear cmdLoadMeasureSet r s → r.field 2 2 = 0xFFFF → (s.loadOf (r.field 0 2)).measure = none →
    exec (.loadMeasureSet r) s = .next ((s.mapLoad (r.field 0 2) fun c => { c with measure := none }).complete r 0x0706 .done 0)) ∧
  (∀ (r : Request) (s : State), Shaped s → Clear cmdLoadMeasureSet r s → r.field 2 2 ≠ 0xFFFF → (s.loadOf (r.field 0 2)).measure = none →
    CompletesSomehow (.loadMeasureSet r) r s 0x0706 .done fun u => u = { s with load := u.load, dma := u.dma } ∧
      (u.queueOf (r.field 2 2)).attach = .load (r.field 0 2) ∧
      ∃ m : Measure, (u.loadOf (r.field 0 2)).measure = some m ∧ m.queue = r.field 2 2 ∧ m.sync = r.bit 4 0 ∧ m.waiting = [])

/-- Checks, the safe-state table and the hold window (R389-R395): a check is ACCEPTED and its result is reported; a table that verifies is
written and then applies; the hold window keeps its time, and reclaimed channels stay with their owner when it ends. -/
def Obligations.LoadChecksComplete : Prop :=
  (∀ (r : Request) (s : State), Clear cmdLoadDiagRun r s →
    Completes (.loadDiagRun r) r s 0x0707 .accepted (flag (!s.choose.1)) fun u => ∃ t : State,
      t = { s with flow := { s.flow with maintenance := t.flow.maintenance }, io := { s.io with free := t.io.free } } ∧
      u = t.mapLoad (r.field 0 2) fun c =>
        { c with diag := some { kind := r.byte 2, pulseUs := r.field 4 2, deferred := !s.choose.1, startAt := s.now } }) ∧
  (∀ (n result measured : Nat) (d : Diag) (s : State), Shaped s → (s.loadOf n).diag = some d → s.computeOn = true → s.absent = false →
    s.diagPermitted n d.kind = true → d.deferred = false → s.boot.waiting = none →
    Ends (.loadDiagDone n result measured) s fun t => t = { s with load := t.load, flow := t.flow, io := t.io } ∧
      t.loadOf n = { s.loadOf n with diag := none } ∧ ∀ m, m ≠ n → t.loadOf m = s.loadOf m) ∧
  (∀ (r : Request) (w : Nat) (s s1 : State), Clear cmdLoadSafeTableSet r s → s.read r.issuer (r.field 0 8) 256 = (s1, .ok w) →
    s1.tableValid w = true →
    exec (.loadSafeTableSet r) s = .next (({ s1 with load := { s1.load with nextTable := some (imageEntries w, imageVersion w) } }
      : State).complete r 0x0708 .accepted 0)) ∧
  (∀ (r : Request) (w : Nat) (s s1 : State), Clear cmdLoadSafeTableSet r s → s.read r.issuer (r.field 0 8) 256 = (s1, .ok w) →
    s1.tableValid w = false → exec (.loadSafeTableSet r) s = .next (s.complete r 0x0708 .safeTableInvalid 0)) ∧
  (∀ (l : Table SafeEntry) (v : Nat) (s : State), s.load.nextTable = some (l, v) → s.absent = false → s.computeOn = true →
    s.boot.waiting = none →
    Ends .safeTableWritten s fun t => t = { s with load := t.load, io := t.io } ∧
      t.load = { s.load with safeTable := l, safeVer := v, copyBad := 0, badOwed := false, nextTable := none }) ∧
  (∀ (r : Request) (s : State), Clear cmdLoadHoldSet r s →
    exec (.loadHoldSet r) s = .next (({ s with load := { s.load with holdMs := r.field 0 2 } } : State).complete r 0x0709 .done 0)) ∧
  (∀ (r : Request) (s : State), Shaped s → Clear cmdLoadReclaim r s →
    CompletesSomehow (.loadReclaim r) r s 0x070A .done fun u => u = { s with load := u.load } ∧
      (∀ n ∈ maskChannels (r.field 0 6), u.loadOf n = { s.loadOf n with held := false, reclaimed := true }) ∧
      ∀ n, n ∉ maskChannels (r.field 0 6) → u.loadOf n = s.loadOf n) ∧
  (∀ (s : State), s.load.holdOpen = true → s.now < s.load.holdAt + s.load.holdMs * 1000000 → exec .loadHoldEnd s = .next s) ∧
  (∀ (s : State), Shaped s → s.load.holdOpen = true → s.load.holdAt + s.load.holdMs * 1000000 ≤ s.now → s.cpu.masthead.hoveOwed = none →
    s.absent = false →
    Ends .loadHoldEnd s fun t => t = { s with load := t.load, io := t.io } ∧ t.load.holdOpen = false ∧
      (∀ n, n < 48 → (t.loadOf n).held = false) ∧
      ∀ n, n < 40 → (s.loadOf n).reclaimed = true → (t.loadOf n).safe = (s.loadOf n).safe ∧ (t.loadOf n).on = (s.loadOf n).on) ∧
  (∀ (n : Nat) (s : State), Shaped s → n < 40 → (s.loadOf n).appOn = true →
    Ends (.openLoadDetect n 0) s fun t => t = { s with load := t.load, io := t.io } ∧
      t.loadOf n = { s.loadOf n with openOn := true, flags := (s.loadOf n).flags ||| BitVec.ofNat 32 (2 ^ 19) }) ∧
  (∀ (n kind : Nat) (s : State), 48 ≤ n → exec (.openLoadDetect n kind) s = .next s) ∧
  (∀ (s : State), s.now < s.load.planAt + 10000000 → exec .rippleReplan s = .next s) ∧
  (∀ (s : State), s.absent = false → s.load.holdOpen = false → s.computeOn = true → s.has 0 .ripplePlanner = true →
    s.load.planAt + 10000000 ≤ s.now → (s.planned.any fun n => (s.loadOf n).moved) = true →
    Ends .rippleReplan s fun t => t = { s with load := t.load, io := { s.io with free := t.io.free } } ∧ t.load.planAt = s.now)

/-- Protection and power stage (R369, R374, R376, R383-R388): a trip turns the output off, sets its cause and counts; an output below its
threshold does not trip; the wire model runs every channel's θ; a channel restarts only when its conditions hold, and uses a retry;
a period begins with the duty in force. -/
def Obligations.LoadProtectionCompletes : Prop :=
  (∀ (n ma : Nat) (s : State), s.drivenOn n = true → s.ocEffective n < 10 * ma →
    exec (.loadOvercurrentTrip n ma) s = .next ((s.mapLoad n fun c => { c with currentUa := 1000 * (ma : Int) }).trip n 0)) ∧
  (∀ (n ma : Nat) (s : State), 10 * ma ≤ s.ocEffective n → exec (.loadOvercurrentTrip n ma) s = .next s) ∧
  (∀ (n : Nat) (s : State), s.drivenOn n = true →
    exec (.loadThermalTrip n) s = .next ((s.mapLoad n fun c => { c with tj := 1750 }).trip n 1)) ∧
  (∀ (n : Nat) (s : State), s.drivenOn n = true →
    exec (.loadDeltaTTrip n) s = .next ((s.mapLoad n fun c => { c with deltaT := 600 }).trip n 2)) ∧
  (∀ (n cause : Nat) (s : State), Shaped s → n < 40 → cause < 4 →
    ((s.trip n cause).loadOf n).tripped = true ∧ ((s.trip n cause).loadOf n).appOn = false ∧
    ((s.trip n cause).loadOf n).tripAt = s.now ∧ ((s.trip n cause).loadOf n).trips = ((s.loadOf n).trips + 1) % 2 ^ 16 ∧
    (cause = 0 → ((s.trip n cause).loadOf n).oc = true) ∧ (cause = 3 → ((s.trip n cause).loadOf n).latched = true) ∧
    (((s.trip n cause).loadOf n).flags.toNat / 2 ^ (23 - cause)) % 2 = 1 ∧
    ∀ m, m < 40 → m ≠ n → (s.trip n cause).loadOf m = s.loadOf m) ∧
  (∀ (s : State), s.supply.unpowered = false → s.asleep = false →
    Ends .wireModelUpdate s fun t => t = { s with load := t.load, io := t.io }) ∧
  (∀ (s : State), s.asleep = true → exec .wireModelUpdate s = .next s) ∧
  (∀ (n : Nat) (s : State), n < 48 → s.mayRestart n = true → s.supplyCut n = false →
    exec (.loadRestart n) s = .next (s.restart n)) ∧
  (∀ (n : Nat) (s : State), Shaped s → n < 40 → ((s.restart n).loadOf n).tripped = false ∧ ((s.restart n).loadOf n).oc = false ∧
    ((s.restart n).loadOf n).wire = false ∧ ((s.restart n).loadOf n).restarts = s.now :: (s.loadOf n).restarts) ∧
  (∀ (n : Nat) (s : State), s.mayRestart n = false → exec (.loadRestart n) s = .next s) ∧
  (∀ (n : Nat) (s : State), Shaped s → n < 40 → nextInstant s.time.pwmGangs .pwm n s.now = none → (s.loadOf n).appOn = false →
    s.furled (unitId 0x16 n) = false → s.supply.unpowered = false → (s.loadOf n).dutyItem = none →
    Ends (.pwmPeriodStart n) s fun t => t = { s with load := t.load, io := t.io, time := t.time } ∧
      (t.loadOf n).periodAt = s.now ∧ (t.loadOf n).appPhase = (s.loadOf n).phaseUnits) ∧
  (∀ (n : Nat) (m : Measure) (ua : Int) (sat : Bool) (s : State), (s.loadOf n).measure = some m → s.computeOn = true → n < 48 →
    m.nextAt ≤ s.now → s.time.d7Valid = true → s.quiescing (s.owner kindLoad n) = false → s.furled (unitId 0x15 (s.adcOf n)) = false →
    m.waiting.length < 4 →
    ∀ x : Measure, x = { s.nextMeasure n m with waiting := m.waiting ++ [s.currentRecord n m.nextAt ua sat] } →
    exec (.currentSample n ua sat) s = .next (s.mapLoad n fun c => { c with currentUa := ua, measure := some x })) ∧
  (∀ (n : Nat) (m : Measure) (ua : Int) (sat : Bool) (s : State), (s.loadOf n).measure = some m → s.now < m.nextAt →
    exec (.currentSample n ua sat) s = .next s)

/-- The supplies (R403-R420): the levels and policies are set; a feed below its warning level is in a dip, whose end is reported once no
feed is in one; a condition is not declared twice, nor below its level; VLOGIC below 4.5 V holds the compute die in reset, and its rise
releases it; a shut-down or a lost ground turns every output off. -/
def Obligations.SuppliesComplete : Prop :=
  (∀ (r : Request) (s : State), Clear cmdSupplyConfig r s →
    Completes (.supplyConfig r) r s 0x0120 .done s.now fun u => u = { s with supply := u.supply } ∧
      u.supply.feedA = { s.supply.feedA with warn := r.field 0 2 } ∧ u.supply.feedB = { s.supply.feedB with warn := r.field 2 2 } ∧
      u.supply.filterUs = r.field 4 2) ∧
  (∀ (r : Request) (s : State), Clear cmdSupplyQuery r s →
    CompletesSomehow (.supplyQuery r) r s 0x0121 .done fun u => u = { s with supply := u.supply, io := { s.io with free := u.io.free } } ∧
      u.supply.feedA = s.supply.feedA ∧ u.supply.feedB = s.supply.feedB ∧
      u.supply.dips = (if r.bit 0 0 then 0 else s.supply.dips)) ∧
  (∀ (r : Request) (s : State), Shaped s → Clear cmdLoadDipSet r s →
    Completes (.loadDipSet r) r s 0x070B .done 0 fun u => u = { s with load := u.load, io := u.io } ∧
      (u.loadOf (r.field 0 2)).policy = { kind := r.byte 2, restoreMs := r.byte 3, cap := r.field 4 2 }) ∧
  (∀ (f mv : Nat) (s s1 : State), s.supervising = true → f ≤ 1 → (s.feed f).inDip = false → s.furled (unitId 0x1A f) = false →
    100 * mv < (s.feed f).warn * 10 * 102 →
    s1 = (s.mapFeed f fun x => { x with inDip := true, dipAt := s.crossedAt }).mapSupply (fun y => { y with dips := satAdd 16 y.dips 1 }) →
    exec (.supplyDipStart f mv) s =
      .next ((((s1.sampleFeed mv).joinChain f mv).refeed f LoadChannel.beginDip).unitEvent (unitId 0x1A f) 0x06)) ∧
  (∀ (f mv : Nat) (s : State), (s.feed f).warn * 10 * 102 ≤ 100 * mv → exec (.supplyDipStart f mv) s = .next s) ∧
  (∀ (f low : Nat) (s : State), s.supervising = true → f ≤ 1 → (s.feed f).inDip = true →
    Ends (.supplyDipEnd f low) s fun t => t = { s with supply := t.supply, load := t.load, io := t.io } ∧ (t.feed f).inDip = false ∧
      (t.feed f).lost = false ∧ t.supply.dips = s.supply.dips ∧ ((s.feed (1 - f)).inDip = false → t.supply.chain = none)) ∧
  (∀ (n at_ : Nat) (s : State), n < 48 → (s.loadOf n).shed = .restore at_ → at_ ≤ s.now → s.supervising = true →
    exec (.shedRestoreDelay n) s = .next ((s.mapLoad n fun c => { c with shed := .none }).redrive n)) ∧
  (∀ (n at_ : Nat) (s : State), (s.loadOf n).shed = .restore at_ → s.now < at_ → exec (.shedRestoreDelay n) s = .next s) ∧
  (∀ (f mv : Nat) (s : State), 4600 ≤ mv → exec (.supplyFeedLost f mv) s = .next s) ∧
  (∀ (f mv : Nat) (s s1 s2 : State), s.supervising = true → f ≤ 1 → (s.feed f).inDip = true → (s.feed f).lost = false →
    (s.feed (1 - f)).lost = false → s.supply.vlogicLow = false → s.furled (unitId 0x1A f) = false → mv < 4600 →
    s1 = ((s.mapFeed f fun x => { x with lost := true }).sampleFeed mv).joinChain f mv →
    s2 = s1.refeed f (fun c => { c with shed := .untilItem }) →
    exec (.supplyFeedLost f mv) s = .next ((s2.supplyEvent (dipEvent (2 ^ f) 2 (mv / 10) 0 (s.feed f).dipAt)
      (s2.supplyTargets (feedChannels f))).unitEvent (unitId 0x1A f) 0x06)) ∧
  (∀ (mv : Nat) (s : State), s.supply.unpowered = false → s.boot.phase ≠ .off → s.supply.vlogicLow = false → mv < 4600 → s.supply.chain = none →
    exec (.vlogicLow mv) s =
      .next (((s.sampleFeed mv).mapSupply fun y => { y with vlogicLow := true }).computeReset 1 true)) ∧
  (∀ (s : State), s.supply.vlogicLow = true → s.supply.unpowered = false → s.boot.phase = .held →
    Ends .vlogicResetRelease s fun t => t = { s with supply := t.supply, boot := t.boot, cpu := t.cpu } ∧
      t.supply = { s.supply with vlogicLow := false } ∧ t.boot = { s.boot with phase := .released } ∧
      t.cpu.masthead = { s.cpu.masthead with releasedAt := s.now }) ∧
  (∀ (s : State), s.supply.unpowered = false →
    Ends .powerDieLogicLoss s fun t => t = { s with supply := t.supply, boot := t.boot, load := t.load, io := t.io } ∧
      t.supply.unpowered = true ∧ t.boot.phase = .off ∧ ∀ n, n < 40 → Shaped s → (t.loadOf n).appOn = false) ∧
  (∀ (f mv : Nat) (s : State), s.supervising = true → f ≤ 1 → (s.feed f).logged = false → s.supply.highLevels.1 < mv →
    Ends (.overVoltageLogged f mv) s fun t => t = { s with supply := t.supply } ∧
      t.feed f = { s.feed f with logged := true, loggedAt := s.crossedAt, loggedMax := mv }) ∧
  (∀ (f top : Nat) (s : State), s.supervising = true → f ≤ 1 → (s.feed f).logged = true →
    Ends (.supplyOvervoltage f top) s fun t => t = { s with supply := t.supply, io := t.io } ∧
      t.feed f = { s.feed f with logged := false, loggedAt := 0, loggedMax := 0 }) ∧
  (∀ (f mv : Nat) (s : State), s.supervising = true → f ≤ 1 → (s.feed f).above = false → s.supply.highLevels.2 < mv →
    Ends (.highVoltageShutdown f mv) s fun t => t = { s with supply := t.supply, load := t.load, io := t.io } ∧
      t.supply.shutdown = true ∧ (t.feed f).above = true ∧ ∀ n, n < 40 → Shaped s → (t.loadOf n).appOn = false) ∧
  (∀ (s : State), s.supervising = true → s.supply.shutdown = true →
    Ends .highVoltageRelease s fun t => t = { s with supply := t.supply, load := t.load, io := t.io } ∧
      t.supply.shutdown = false ∧ t.supply.feedA.above = false ∧ t.supply.feedB.above = false) ∧
  (∀ (blades : Nat) (mv : Int) (s : State), mv ≤ 800 → exec (.groundLoss blades mv) s = .next s) ∧
  (∀ (blades : Nat) (mv : Int) (s s2 : State), s.supervising = true → s.supply.groundLost = false →
    s.furled (unitId 0x1A 2) = false → blades % 4 ≠ 0 → 800 < mv →
    s2 = (s.mapSupply fun y => { y with groundLost := true, groundAt := s.now - 2000, groundMask := blades % 4,
                                        groundMax := mv.toNat }).redriveAll →
    exec (.groundLoss blades mv) s = .next ((s2.supplyEvent (groundEvent blades 1 mv.toNat 0 (s.now - 2000))
      (s2.supplyTargets (span 0 48))).unitEvent (unitId 0x1A 2) 0x06)) ∧
  (∀ (largest : Nat) (s : State), s.supervising = true → s.supply.groundLost = true →
    Ends (.groundRestored largest) s fun t => t = { s with supply := t.supply, load := t.load, io := t.io } ∧
      t.supply.groundLost = false ∧ ∀ n, n < 40 → Shaped s → (t.loadOf n).shed = .untilItem) ∧
  (∀ (mv : Nat) (above : Bool) (s : State), s.supervising = true → s.furled (unitId 0x1A 3) = false →
    exec (.supplyRegulator 2 mv above) s = .next ((s.supplyEvent
      { unit := unitId 0x1A 3, code := 0x0123, severity := 2,
        detail := pack [(0, 1, 2), (1, 1, if above then 2 else 1), (2, 2, mv), (8, 8, s.now)] } [0]).unitEvent (unitId 0x1A 3) 0x06))

/-- The sense commands (R424-R430, R437, R438): an input takes its settings, its changed bits are read and cleared, sampling starts on a queue and
stops, gangs start and stop, a calibration run is ACCEPTED, and the figures of an input are read and cleared. -/
def Obligations.SenseCommandsComplete : Prop :=
  (∀ (r : Request) (s : State), Shaped s → Clear cmdSenseInputConfig r s → r.byte 1 ≠ 0 →
    CompletesSomehow (.senseInputConfig r) r s 0x0801 .done fun u => u = s.mapSense (r.byte 0) (senseSettings r) ∧
      (u.senseOf (r.byte 0)).mode = r.byte 1 ∧ (u.senseOf (r.byte 0)).vector = r.byte 3 ∧ ∀ i, i ≠ r.byte 0 → u.senseOf i = s.senseOf i) ∧
  (∀ (r : Request) (s : State), Shaped s → Clear cmdSenseStateRead r s →
    CompletesSomehow (.senseStateRead r) r s 0x0802 .done fun u => u = { s with sense := u.sense } ∧
      (∀ i, i < 32 → s.owner kindSense i = r.issuer → u.senseOf i = { s.senseOf i with changed := false }) ∧
      ∀ i, s.owner kindSense i ≠ r.issuer → u.senseOf i = s.senseOf i) ∧
  (∀ (r : Request) (s : State), Clear cmdSenseSampleSet r s → r.field 2 2 = 0xFFFF →
    exec (.senseSampleSet r) s = .next ((s.stopSampling (r.byte 0)).complete r 0x0803 .done 0)) ∧
  (∀ (r : Request) (s : State), Shaped s → Clear cmdSenseSampleSet r s → r.field 2 2 ≠ 0xFFFF → (s.senseOf (r.byte 0)).queue = none →
    CompletesSomehow (.senseSampleSet r) r s 0x0803 .done fun u => u = { s with sense := u.sense, dma := u.dma } ∧
      (u.senseOf (r.byte 0)).queue = some (r.field 2 2) ∧ (u.senseOf (r.byte 0)).gang = r.bit 1 0 ∧
      (u.senseOf (r.byte 0)).period = r.field 4 4 ∧ (u.queueOf (r.field 2 2)).attach = .sense (r.byte 0)) ∧
  (∀ (r : Request) (s : State), Clear cmdSenseGangSet r s → r.byte 32 = 0 →
    Completes (.senseGangSet r) r s 0x0804 .done 0 fun u => u = { s with time := u.time } ∧
      u.time = { s.time with senseGangs := u.time.senseGangs } ∧ Table.get {} u.time.senseGangs (r.byte 0) = {} ∧
      ∀ k, k ≠ r.byte 0 → Table.get {} u.time.senseGangs k = Table.get {} s.time.senseGangs k) ∧
  (∀ (r : Request) (s : State), Clear cmdSenseCalRun r s →
    Completes (.senseCalRun r) r s 0x0805 .accepted (flag (!s.choose.1)) fun u =>
      u = { s with sense := u.sense, flow := { s.flow with maintenance := u.flow.maintenance }, io := { s.io with free := u.io.free } } ∧
      u.sense = { s.sense with calRun := some { left := span 0 5, failed := 0, deferred := !s.choose.1 } }) ∧
  (∀ (r : Request) (s : State), Shaped s → Clear cmdSensorSupplySet r s → r.bit 1 0 = false →
    Completes (.sensorSupplySet r) r s 0x0806 .done 0 fun u =>
      u = { s with sense := u.sense, io := { s.io with free := u.io.free } } ∧
      u.sensorOf (r.byte 0) = { s.sensorOf (r.byte 0) with on := false, heldOff := false, latched := false, restartAt := none } ∧
      ∀ o, o ≠ r.byte 0 → u.sensorOf o = s.sensorOf o) ∧
  (∀ (r : Request) (s : State), Clear cmdSenseQuery r s → r.bit 1 0 = false →
    CompletesSomehow (.senseQuery r) r s 0x0807 .done fun u => u = s) ∧
  (∀ (r : Request) (s : State), Clear cmdSenseQuery r s → r.bit 1 0 = true →
    CompletesSomehow (.senseQuery r) r s 0x0807 .done fun u =>
      u = s.mapSense (r.byte 0) fun x => { x with skipped := 0, lost := 0 })

/-- Sense inputs, converters and sensor supplies (R426, R430-R440): a reading that agrees with the state ends a debounce run; one that differs
changes it only after DEBOUNCE; a sample is taken at its instant, skipped while its owner quiesces, lost with no converter in service;
a converter comes back from calibration; a supply in limit turns off and restarts, latched after the third time. -/
def Obligations.SenseEventsComplete : Prop :=
  (∀ (i : Nat) (high : Bool) (s : State), s.computeOn = true → i < 32 → (s.senseOf i).mode = 1 → s.furled (unitId 0x17 i) = false →
    (s.senseOf i).pulsed = false → (s.senseOf i).high = high →
    exec (.senseComparatorRead i high) s = .next (s.mapSense i fun x => { x with runSince := none })) ∧
  (∀ (i : Nat) (s : State), s.computeOn = true → i < 32 → (s.senseOf i).mode = 1 → s.furled (unitId 0x17 i) = false →
    (s.senseOf i).pulsed = false → (s.senseOf i).high = false → (s.senseOf i).runSince = none → (s.senseOf i).debounce ≠ 0 →
    exec (.senseComparatorRead i true) s = .next (s.mapSense i fun x => { x with runSince := some s.now })) ∧
  (∀ (i since : Nat) (s : State), s.computeOn = true → i < 32 → (s.senseOf i).mode = 1 → s.furled (unitId 0x17 i) = false →
    (s.senseOf i).pulsed = false → (s.senseOf i).high = false → (s.senseOf i).runSince = some since →
    since + (s.senseOf i).debounce * 100000 ≤ s.now →
    exec (.senseComparatorRead i true) s = .next (s.switchTo i true)) ∧
  (∀ (i t : Nat) (value : Int) (flags : Nat) (s : State), s.sampleDue i = some t → s.now < t →
    exec (.senseSample i value flags) s = .next s) ∧
  (∀ (i t : Nat) (value : Int) (flags : Nat) (s : State), s.sampleDue i = some t → t ≤ s.now → s.computeOn = true → i < 32 →
    s.furled (unitId 0x17 i) = false → s.quiescing (s.owner kindSense i) = true →
    exec (.senseSample i value flags) s =
      .next ((s.mapSense i fun x => { x with skipped := satAdd 32 x.skipped 1 }).nextSample i)) ∧
  (∀ (i t : Nat) (value : Int) (flags : Nat) (s : State), Shaped s → s.sampleDue i = some t → t ≤ s.now → s.computeOn = true → i < 32 →
    s.furled (unitId 0x17 i) = false → s.quiescing (s.owner kindSense i) = false →
    (∃ c, c < 5 ∧ (s.convOf c).state = .inService) → (s.senseOf i).waiting.length < 4 →
    Ends (.senseSample i value flags) s fun u => u = { s with sense := u.sense, time := u.time, io := { s.io with free := u.io.free } } ∧
      (u.senseOf i).value = ((s.senseOf i).reading value).1 ∧ (u.senseOf i).lost = (s.senseOf i).lost ∧
      (u.senseOf i).waiting.length = (s.senseOf i).waiting.length + 1) ∧
  (∀ (c : CalRun) (s : State), s.sense.calRun = some c → c.left = [] → s.absent = false → s.computeOn = true → s.boot.waiting = none →
    Ends .senseCalDone s fun t => t = { s with sense := t.sense, io := t.io } ∧ t.sense = { s.sense with calRun := none }) ∧
  (∀ (a b : Nat) (s : State), Shaped s → s.computeOn = true → s.calibrates = true → s.rotationDue = true → s.oldestConverter = some a →
    (span 0 5).find? (fun c => (s.convOf c).state == .standby) = some b → a ≠ b → a < 5 →
    Ends .converterRotation s fun t => t = { s with sense := t.sense } ∧ (t.convOf a).state = .calibrating ∧
      (t.convOf b).state = .inService ∧ (t.convOf b).since = s.now ∧ ∀ c, c ≠ a → c ≠ b → t.convOf c = s.convOf c) ∧
  (∀ (c : Nat) (s : State), Shaped s → s.computeOn = true → c < 5 → (s.convOf c).state = .calibrating → s.sense.calRun = none →
    Ends (.converterCalibrationDone c false) s fun t => t = { s with sense := t.sense } ∧
      t.convOf c = { s.convOf c with state := .standby, calAt := s.now } ∧ ∀ d, d ≠ c → t.convOf d = s.convOf d) ∧
  (∀ (o : Nat) (s : State), Shaped s → o < 4 → s.sensorLive o = true → (s.recentRestarts o).length < 3 →
    Ends (.sensorSupplyLimit o) s fun t => t = { s with sense := t.sense, io := t.io } ∧ t.sensorOf o =
      { s.sensorOf o with on := false, restarts := s.recentRestarts o, restartAt := some (s.now + 100000000) }) ∧
  (∀ (o : Nat) (s : State), Shaped s → o < 4 → s.sensorLive o = true → 3 ≤ (s.recentRestarts o).length →
    Ends (.sensorSupplyLimit o) s fun t => t = { s with sense := t.sense, io := t.io } ∧
      t.sensorOf o = { s.sensorOf o with on := false, latched := true }) ∧
  (∀ (o at_ : Nat) (s : State), (s.sensorOf o).restartAt = some at_ → at_ ≤ s.now → o < 4 → s.supply.unpowered = false →
    s.furled (unitId 0x19 o) = false →
    exec (.sensorSupplyRestart o) s =
      .next (s.mapSensor o fun x => { x with on := true, restartAt := none, restarts := s.now :: x.restarts })) ∧
  (∀ (o : Nat) (s : State), Shaped s → o < 4 → s.sensorLive o = true →
    Ends (.sensorSupplyOvervoltage o) s fun t => t = { s with sense := t.sense, io := t.io } ∧
      t.sensorOf o = { s.sensorOf o with on := false, heldOff := true }) ∧
  (∀ (o : Nat) (s : State), (s.sensorOf o).heldOff = true → o < 4 → s.supply.unpowered = false → s.furled (unitId 0x19 o) = false →
    exec (.sensorSupplyOvervoltageRelease o) s = .next (s.mapSensor o fun x => { x with on := true, heldOff := false })) ∧
  (∀ (o : Nat) (s : State), s.sensorLive o = true →
    Ends (.sensorSupplyUndervoltage o) s fun t => t = { s with io := t.io })

/-- Cores and Stay (R13, R15, R448, R455-R467): the queries and settings complete; a core is stopped and started, and loses nothing but its
registers; a lone mismatch of a core is counted and reported, a repeated one is lasting; a failing Backstay frame is counted, the
fourth in a row lasting; heartbeats in order keep Masthead present, 4 ms without one make it absent, and one within an attempt brings
it back. -/
def Obligations.CoresAndStayComplete : Prop :=
  (∀ (r : Request) (s : State), Clear cmdCpuQuery r s → ∃ res, exec (.cpuQuery r) s = .next (s.complete r 0x0130 .done res)) ∧
  (∀ (r : Request) (s : State), Clear cmdCpuAppDvfsSet r s →
    CompletesSomehow (.cpuAppDvfsSet r) r s 0x0131 .done fun u => u = { s with cpu := { s.cpu with dvfsRequest := r.byte 0 } }) ∧
  (∀ (r : Request) (s : State), Clear cmdSafetyCoreAssign r s → r.byte 1 = 0xFF →
    exec (.safetyCoreAssign r) s =
      .next (((s.mapCore (r.byte 0) fun _ => {}).setCorePart (r.byte 0) none).complete r 0x0132 .done s.now)) ∧
  (∀ (r : Request) (s s1 : State) (f : XFault), Clear cmdSafetyCoreAssign r s → r.byte 1 ≠ 0xFF →
    s.read r.issuer (r.field 8 8) (r.field 4 4) = (s1, .error f) →
    exec (.safetyCoreAssign r) s = .next ((s1.raiseFault f r.issuer 0xFFFF 0x07 0).complete r 0x0132 .bufferFault 0)) ∧
  (∀ (r : Request) (w : Nat) (s s1 : State), Clear cmdSafetyCoreAssign r s → r.byte 1 ≠ 0xFF → s1.cpu.spare ≠ some (r.byte 0) →
    s.cpu.spare ≠ some (r.byte 0) → s.read r.issuer (r.field 8 8) (r.field 4 4) = (s1, .ok w) →
    Completes (.safetyCoreAssign r) r s 0x0132 .done s.now fun u =>
      (u.coreOf (r.byte 0)).tcm = memWrite [] 0 (r.field 4 4) w ∧ (u.coreOf (r.byte 0)).running = false ∧
      (u.coreOf (r.byte 0)).iovaBase = r.field 16 8 ∧ (u.coreOf (r.byte 0)).restartEntry = r.field 24 4 ∧
      Table.get none u.io.safetyPart (r.byte 0) = some (r.byte 1)) ∧
  (∀ (r : Request) (s : State), Clear cmdSafetyCoreControl r s → r.byte 1 = 0 →
    CompletesSomehow (.safetyCoreControl r) r s 0x0133 .done fun u => u = s.mapCore (r.byte 0) fun c => { c with running := false }) ∧
  (∀ (r : Request) (s : State), Clear cmdSafetyCoreControl r s → r.byte 1 = 1 →
    CompletesSomehow (.safetyCoreControl r) r s 0x0133 .done fun u => u = s.mapCore (r.byte 0) fun c =>
      { c with running := true, a0 := 0, a1 := 0, upsets := 0 }) ∧
  (∀ (r : Request) (s : State), Clear cmdSafetySpareSet r s → r.byte 0 = 0xFF →
    exec (.safetySpareSet r) s = .next ((s.setSpare none).complete r 0x0134 .done 0xFF)) ∧
  (∀ (c : Nat) (v : BitVec 64) (x : CClass) (s : State), s.computeOn = true → c < 4 → s.furled (unitId 0x01 c) = false →
    x = { check := v.getLsbD 63, hClass := bitsOf v.toNat 10 8, vClass := bitsOf v.toNat 2 0 } →
    exec (.cpuCclassWrite c v) s = .next { s with cpu := { s.cpu with cclass := Table.put {} s.cpu.cclass c x } }) ∧
  (∀ (n : Nat) (s : State), s.computeOn = true → n < 8 → s.furled (unitId 0x02 n) = false → (s.coreOf n).running = true →
    exec (.twinPassMismatch (unitId 0x02 n) false) s = .next ((s.mapCore n fun c =>
      { c with upsets := (c.upsets + 1) % 2 ^ 32 }).unitEvent (unitId 0x02 n) 0x01) ∧
    exec (.twinPassMismatch (unitId 0x02 n) true) s = .next (s.lasting (unitId 0x02 n) 0x01)) ∧
  (∀ (n : Nat) (again : Bool) (s : State), n < 8 → (s.coreOf n).running = false →
    exec (.twinPassMismatch (unitId 0x02 n) again) s = .next s) ∧
  (∀ (s : State), s.computeOn = true → s.furled (unitId 0x05 0) = false → s.cpu.backstayFails < 3 →
    exec .backstayFrameFail s =
      .next (({ s with cpu := { s.cpu with backstayFails := s.cpu.backstayFails + 1 } } : State).unitEvent (unitId 0x05 0) 0x03)) ∧
  (∀ (s : State), s.computeOn = true → s.furled (unitId 0x05 0) = false → s.cpu.backstayFails = 3 →
    exec .backstayFrameFail s =
      .next (({ s with cpu := { s.cpu with backstayFails := 0 } } : State).lasting (unitId 0x05 0) 0x03)) ∧
  (∀ (n : Nat) (s : State), s.computeOn = true → s.furled (unitId 0x05 0) = false → s.furled (unitId 0x03 0) = false →
    s.cpu.masthead.hoveTo = false → s.cpu.masthead.present = true → n < 2 ^ 16 → s.cpu.masthead.expected = some n →
    Ends (.mastheadHeartbeat n) s fun t => t = { s with cpu := t.cpu } ∧ t.cpu.masthead =
      { s.cpu.masthead with expected := some ((n + 1) % 2 ^ 16), lastBeat := s.now }) ∧
  (∀ (n t0 : Nat) (s : State), s.computeOn = true → s.furled (unitId 0x05 0) = false → s.furled (unitId 0x03 0) = false →
    s.cpu.masthead.hoveTo = false → s.cpu.masthead.present = false → s.cpu.masthead.attempting = some t0 → s.now < t0 + 50000000 →
    Ends (.mastheadHeartbeat n) s fun t => t = { s with cpu := t.cpu } ∧ t.cpu.masthead.present = true ∧
      t.cpu.masthead.returned = true ∧ t.cpu.masthead.attempting = none ∧ t.cpu.masthead.expected = some ((n + 1) % 2 ^ 16)) ∧
  (∀ (n : Nat) (s : State), s.computeOn = true → s.cpu.masthead.present = true → s.cpu.masthead.expected = some n →
    s.cpu.masthead.lastBeat + 4000000 ≤ s.now → exec (.mastheadHeartbeatTimeout 1) s = .next (s.mastheadLost 1)) ∧
  (∀ (n : Nat) (s : State), s.cpu.masthead.expected = some n → s.now < s.cpu.masthead.lastBeat + 4000000 →
    exec (.mastheadHeartbeatTimeout 1) s = .next s) ∧
  (∀ (at_ : Nat) (s : State), s.cpu.masthead.nextAttempt = some at_ → at_ ≤ s.now → s.computeOn = true →
    exec .mastheadRestartAttempt s = .next s.beginAttempt) ∧
  (∀ (at_ : Nat) (s : State), s.cpu.masthead.attempting = some at_ → at_ + 50000000 ≤ s.now → s.computeOn = true →
    exec .mastheadRestartTimeout s = .next s.attemptFailed) ∧
  (∀ (at_ : Nat) (s : State), s.boot.hoveAt = some at_ → s.cpu.masthead.hoveTo = true → s.boot.fwRecord.trial = true →
    at_ + 1000000000 ≤ s.now → exec .trialHoveToReset s = .next s.moduleReset) ∧
  (∀ (at_ : Nat) (s : State), s.boot.hoveAt = some at_ → s.now < at_ + 1000000000 → exec .trialHoveToReset s = .next s)

/-- The key slots (R479-R482, R491-R494, R519-R522): owners are set; a volatile key is in force at once, a persistent write is ACCEPTED and
leaves the old key in force until its commit point; a wrapped key draws one counter value; a destroyed volatile slot is empty; a write
that does not read back leaves the slot as it was. -/
def Obligations.KeySlotsComplete : Prop :=
  (∀ (r : Request) (s : State), Clear cmdKeySlotOwnerSet r s → (s.slotOf (keySlot r)).state = .empty →
    exec (.keySlotOwnerSet r) s = .next ((s.mapSlot (keySlot r) fun k => { k with owners := r.field 8 8 }).complete r 0x0910 .done 0)) ∧
  (∀ (r : Request) (s : State), Clear cmdKeyGenerate r s → s.keys.trngWaiting = false → persistent (keyAttr r) = true →
    CompletesSomehow (.keyGenerate r) r s 0x0911 .accepted fun u => u = { s with keys := u.keys, io := { s.io with free := u.io.free } } ∧
      (u.slotOf (keySlot r)).state = .committing ∧ (u.slotOf (keySlot r)).key = (s.slotOf (keySlot r)).key ∧
      (u.slotOf (keySlot r)).version = (s.slotOf (keySlot r)).version ∧ ∀ k, k ≠ keySlot r → u.slotOf k = s.slotOf k) ∧
  (∀ (r : Request) (s : State), Clear cmdKeyGenerate r s → s.keys.trngWaiting = true →
    exec (.keyGenerate r) s = .next (s.hold r 0x0911)) ∧
  (∀ (r : Request) (s : State), Clear cmdKeyDerive r s → persistent (keyAttr r) = false →
    Completes (.keyDerive r) r s 0x0912 .done 0 fun u => u = { s with keys := { s.keys with slots := u.keys.slots } } ∧
      (u.slotOf (keySlot r)).state = .ready ∧ (u.slotOf (keySlot r)).attr = keyAttr r ∧ (u.slotOf (keySlot r)).counter = 0 ∧
      ∀ k, k ≠ keySlot r → u.slotOf k = s.slotOf k) ∧
  (∀ (r : Request) (w : Nat) (s s1 : State), Clear cmdKeyUnwrap r s → s.read r.issuer (r.field 16 8) 64 = (s1, .ok w) →
    unwrapBlob (s.slotOf (r.field 8 2)).octets w = none → exec (.keyUnwrap r) s = .next (s.complete r 0x0913 .tagFail 0)) ∧
  (∀ (r : Request) (w key : Nat) (s s1 : State), Clear cmdKeyUnwrap r s → s.read r.issuer (r.field 16 8) 64 = (s1, .ok w) →
    unwrapBlob (s.slotOf (r.field 8 2)).octets w = some key → permits (byteField w 2 2) (bitsOf (keyAttr r) 6 0) = true →
    bits256 (byteField w 2 2) = bits256 (keyAttr r) → persistent (keyAttr r) = false →
    exec (.keyUnwrap r) s = .next ((s1.fillVolatile (keySlot r) (keyAttr r)
      (key % 2 ^ (if bits256 (keyAttr r) then 256 else 128)) 0).complete r 0x0913 .done 0)) ∧
  (∀ (r : Request) (w : Nat) (s s1 : State), Clear cmdKeyImport r s → persistent (keyAttr r) = false →
    s.read r.issuer (r.field 8 8) (if bits256 (keyAttr r) then 32 else 16) = (s1, .ok w) →
    exec (.keyImport r) s = .next ((s1.fillVolatile (keySlot r) (keyAttr r)
      (w % 2 ^ (if bits256 (keyAttr r) then 256 else 128)) 0).complete r 0x0914 .done 0)) ∧
  (∀ (slot attr key counter : Nat) (s : State), ((s.fillVolatile slot attr key counter).slotOf slot).state = .ready ∧
    ((s.fillVolatile slot attr key counter).slotOf slot).key = key ∧ ((s.fillVolatile slot attr key counter).slotOf slot).attr = attr ∧
    ((s.fillVolatile slot attr key counter).slotOf slot).owners = (s.slotOf slot).owners) ∧
  (∀ (r : Request) (blob : Nat) (s s2 : State), Clear cmdKeyWrap r s →
    blob = wrapBlob (s.slotOf (r.field 2 2)).octets (keySlot r) (s.slotOf (keySlot r)).attr s.keys.otp.deviceTag
      (s.slotOf (r.field 2 2)).counter ((s.slotOf (keySlot r)).key % 2 ^ (if bits256 (s.slotOf (keySlot r)).attr then 256 else 128)) →
    (s.drawCounter (r.field 2 2)).2.write r.issuer (r.field 8 8) 64 blob = (s2, none) →
    exec (.keyWrap r) s = .next (s2.complete r 0x0915 .done (pack [(0, 8, (s.slotOf (r.field 2 2)).counter)]))) ∧
  (∀ (k : Nat) (s : State), (s.drawCounter k).1 = (s.slotOf k).counter ∧
    ((s.drawCounter k).2.slotOf k).counter = (s.slotOf k).counter + 1 ∧
    ∀ j, j ≠ k → (s.drawCounter k).2.slotOf j = s.slotOf j) ∧
  (∀ (r : Request) (s : State), Clear cmdKeyDestroy r s → persistent (s.slotOf (keySlot r)).attr = false →
    Completes (.keyDestroy r) r s 0x0916 .done 0 fun u => (u.slotOf (keySlot r)).state = .empty ∧
      (u.slotOf (keySlot r)).owners = (s.slotOf (keySlot r)).owners ∧ u.io = s.io ∧ ∀ k, k ≠ keySlot r → u.slotOf k = s.slotOf k) ∧
  (∀ (r : Request) (s : State), Clear cmdKeyQuery r s →
    exec (.keyQuery r) s = .next (s.complete r 0x0917 .done (pack [(0, 1, (s.slotOf (keySlot r)).state.code),
      (1, 1, (s.slotOf (keySlot r)).areaCode), (2, 2, (s.slotOf (keySlot r)).attr), (4, 4, (s.slotOf (keySlot r)).version),
      (16, 8, (s.slotOf (keySlot r)).owners)]))) ∧
  (∀ (k key : Nat) (w : KeyWrite) (s : State), s.computeOn = true → s.absent = false → (s.slotOf k).writing = some w →
    w.key = some key → (s.slotOf k).erasing (s.slotOf k).targetB = false →
    Ends (.keyCommitted k true) s fun t => (t.slotOf k).state = .ready ∧ (t.slotOf k).key = key ∧ (t.slotOf k).version = w.version ∧
      (t.slotOf k).area = some (s.slotOf k).targetB ∧ (t.slotOf k).writing = none ∧ ∀ j, j ≠ k → t.slotOf j = s.slotOf j) ∧
  (∀ (k : Nat) (w : KeyWrite) (s : State), s.computeOn = true → s.absent = false → (s.slotOf k).writing = some w →
    (w.key = none ∨ (s.slotOf k).erasing (s.slotOf k).targetB = false) →
    Ends (.keyCommitted k false) s fun t => (t.slotOf k).state = w.was ∧ (t.slotOf k).key = (s.slotOf k).key ∧
      (t.slotOf k).version = (s.slotOf k).version ∧ (t.slotOf k).writing = none ∧ ∀ j, j ≠ k → t.slotOf j = s.slotOf j) ∧
  (∀ (k : Nat) (s : State), s.computeOn = true → s.nvFurled = false →
    exec (.keyAreaEraseDone k true) s = .next (s.mapSlot k KeySlot.erased)) ∧
  (∀ (k : Nat) (s : State), s.computeOn = true → s.nvFurled = false → (s.slotOf k).hasKey = true →
    persistent (s.slotOf k).attr = true → 2048 < (s.slotOf k).counter % 4096 → (s.slotOf k).counter < (s.slotOf k).high →
    (s.slotOf k).high ≤ blockEnd (s.slotOf k).counter →
    exec (.counterHighMarkWrite k) s = .next (s.mapSlot k fun x => { x with high := blockEnd x.counter + 4096 })) ∧
  (∀ (k : Nat) (s : State), (s.slotOf k).counter % 4096 ≤ 2048 → exec (.counterHighMarkWrite k) s = .next s)

/-- Random numbers, unseal and erasure (R476, R487, R492, R503, R593): a failed health test makes requests wait until a reseed; a held tamper
leaves the Locker sealed at the unseal step; the erasure that a tamper began ends. -/
def Obligations.LockerEventsComplete : Prop :=
  (∀ (s : State), s.computeOn = true → s.furled (unitId 0x21 0) = false →
    exec .trngHealthFail s =
      .next (({ s with keys := { s.keys with trngWaiting := true } } : State).unitEvent (unitId 0x21 0) 0x04)) ∧
  (∀ (s : State), s.computeOn = true → s.furled (unitId 0x21 0) = false → s.keys.trngWaiting = true →
    exec .drbgReseed s = .next { s with keys := { s.keys with trngWaiting := false, drbgRequests := 0, drbgAt := s.now } }) ∧
  (∀ (s : State), s.boot.phase = .tested → s.tamperHeld = true →
    exec .lockerUnseal s = .next { s with boot := { s.boot with phase := .unsealed, tamperHeld := true } }) ∧
  (∀ (s : State), s.boot.phase = .tested → s.tamperHeld = false → s.lifecycle ≠ 5 → s.keys.debugSealed = false →
    Ends .lockerUnseal s fun t => t.keys.sealed = false ∧ t.keys.unsealedOnce = true ∧ t.boot.phase = .unsealed) ∧
  (∀ (s : State), s.boot.phase ≠ .tested → exec .lockerUnseal s = .next s) ∧
  (∀ (s : State), s.computeOn = true → s.keys.erasePending = 0 → exec .tamperEraseDone s = .next s) ∧
  (∀ (s : State), s.computeOn = true → s.keys.erasePending ≠ 0 →
    Ends .tamperEraseDone s fun t => t = { s with keys := t.keys } ∧ t.keys.erasePending = 0 ∧ t.keys.otp = s.keys.otp ∧
      ∀ e ∈ t.keys.log, bitOf e.flags 0 = true → bitOf e.flags 1 = true) ∧
  (∀ (s : State), s.keys.challenge.isSome = true → s.keys.challengeAt + 60000000000 ≤ s.now →
    exec .challengeExpiry s = .next { s with keys := { s.keys with challenge := none } }) ∧
  (∀ (s : State), s.now < s.keys.challengeAt + 60000000000 → exec .challengeExpiry s = .next s)

/-- Life cycle, OTP and tamper (R495-R508): the reads change nothing; a challenge is drawn and every token command spends it; a command that
asks for a token in Field is refused without one, and outside Field begins its operation; an operation that is not allowed any more
ends without its effect; a tamper input that is masked off does nothing, and one that latches stays latched. -/
def Obligations.LifeCycleComplete : Prop :=
  (∀ (r : Request) (s : State), Clear cmdLifecycleRead r s → ∃ res, exec (.lifecycleRead r) s = .next (s.complete r 0x0901 .done res)) ∧
  (∀ (r : Request) (s : State), Clear cmdLifecycleChallenge r s → s.keys.trngWaiting = false →
    CompletesSomehow (.lifecycleChallenge r) r s 0x0902 .done fun u => u = { s with keys := u.keys, io := { s.io with free := u.io.free } } ∧
      u.keys.challenge.isSome = true ∧ u.keys.challengeAt = s.now ∧ u.keys.slots = s.keys.slots) ∧
  (∀ (r : Request) (s : State), Clear cmdLifecycleAdvance r s → s.lifecycle = 3 → r.field 8 8 = 0 →
    Ends (.lifecycleAdvance r) s fun t => t = { s.complete r 0x0903 .signatureInvalid 0 with
      keys := { s.keys with challenge := if r.issuer = 0 then none else s.keys.challenge } }) ∧
  (∀ (r : Request) (s : State), Clear cmdLifecycleAdvance r s → s.lifecycle ≠ 3 →
    Ends (.lifecycleAdvance r) s fun t => t.keys.sealed = true ∧ t.keys.otp = s.keys.otp ∧
      t.keys.ops = s.keys.ops ++ [{ opcode := 0x0903, target := r.byte 0, index := 0, value := 0 }]) ∧
  (∀ (r : Request) (s : State), Clear cmdDebugOpen r s → s.lifecycle ≠ 3 →
    Ends (.debugOpen r) s fun t => t.keys.debugOpen = s.keys.debugOpen ∧
      t.keys.ops = s.keys.ops ++ [{ opcode := 0x0904, target := r.byte 0, index := 0, value := 0 }]) ∧
  (∀ (r : Request) (s : State), Clear cmdOtpWrite r s → s.lifecycle ≠ 3 → r.byte 0 = 1 → s.otpRefuses 1 (r.byte 1) 0 = false →
    Ends (.otpWrite r) s fun t => t.keys.otp = s.keys.otp ∧
      t.keys.ops = s.keys.ops ++ [{ opcode := 0x0905, target := 1, index := r.byte 1, value := 0 }]) ∧
  (∀ (r : Request) (s : State), Clear cmdTamperRelease r s → s.lifecycle ≠ 3 →
    Ends (.tamperRelease r) s fun t => t.keys.tamper = s.keys.tamper ∧
      t.keys.ops = s.keys.ops ++ [{ opcode := 0x0908, target := 0, index := 0, value := 0 }]) ∧
  (∀ (o : LifeOp) (rest : List LifeOp) (s : State), s.keys.ops = o :: rest → s.computeOn = true → o.opcode = 0x0905 →
    s.absent = false → s.otpRefuses o.target o.index o.value = true → s.lifecycle ≠ 5 → s.boot.waiting = none →
    Ends (.lifecycleDone true) s fun t => t.keys.otp = s.keys.otp ∧ t.keys.ops = rest) ∧
  (∀ (o : LifeOp) (rest : List LifeOp) (s : State), s.keys.ops = o :: rest → s.computeOn = true → o.opcode = 0x0905 →
    s.absent = false → s.otpRefuses o.target o.index o.value = false → s.boot.waiting = none →
    Ends (.lifecycleDone true) s fun t => t.keys.otp = s.keys.otp.after o.target o.index o.value ∧ t.keys.ops = rest) ∧
  (∀ (r : Request) (s : State), Clear cmdTamperConfig r s →
    exec (.tamperConfig r) s = .next ((s.mapTamper (r.byte 0) fun x =>
      { x with cls := r.byte 1, pclass := r.byte 2, activeLow := r.bit 3 0, debounce := r.byte 4, mask := r.byte 5 }).complete
        r 0x0906 .done 0)) ∧
  (∀ (r : Request) (s : State), Clear cmdTamperLogRead r s →
    (s.keys.log.filter fun e => decide (r.field 0 4 ≤ e.seq) && decide (e.seq < r.field 0 4 + r.byte 4)) = [] →
    ∃ res, exec (.tamperLogRead r) s = .next (s.complete r 0x0907 .done res)) ∧
  (∀ (i d : Nat) (s : State), s.tamperWatched i = false → exec (.tamperDetected i d) s = .next s) ∧
  (∀ (i d : Nat) (s : State), s.tamperWatched i = true → s.furled (unitId 0x22 i) = false → i < 3 → d ≠ 0 →
    exec (.tamperDetected i d) s = .next (s.tamperEvent i d)) ∧
  (∀ (i d : Nat) (s : State), s.tamperWatched i = true → 3 ≤ i → d &&& (s.tamperOf i).mask = 0 →
    exec (.tamperDetected i d) s = .next s)

/-- The cipher strands (R513-R526): a conforming operation is ACCEPTED, has drawn its counter value where it encrypts, and waits; it
ends with its output, IV, tag and status written, or, where a tag does not verify, with zeros and CIPHER_TAG_FAIL counted; the
counters, the strands and the held mask read back as they are. The check-value units (R528-R534): a block takes force with its counts at zero; a run reads LENGTH bytes, counts the item, and
ends with DONE exactly when its verdict is 0; a unit is attached to one filter and detached again; a query reads the counts and may
clear them. -/
def Obligations.CipherAndCvuCommandsComplete : Prop :=
  (∀ (r : Request) (o : CipherOp) (s : State), Clear cmdCipherRun r s → r.field 4 2 = 0xFFFF →
    o = { issuer := r.issuer, ring := r.ring.val, flow := none, desc := r.params.toNat,
          counter := if drawsCounter (r.byte 2) (r.byte 3) then some (s.slotOf (r.field 0 2)).counter else none,
          key := (s.slotOf (r.field 0 2)).key, bits256 := bits256 (s.slotOf (r.field 0 2)).attr,
          strand := nth 0 s.strands (s.draw.1 % max 1 s.strands.length), begunAt := s.now, conforms := true, repeated := false } →
    Completes (.cipherRun r) r s 0x0A01 .accepted 0 fun u => u.cipher = { s.cipher with ops := s.cipher.ops ++ [o] } ∧
      (u.slotOf (r.field 0 2)).counter = (s.slotOf (r.field 0 2)).counter + (if drawsCounter (r.byte 2) (r.byte 3) then 1 else 0) ∧
      (∀ k, k ≠ r.field 0 2 → u.slotOf k = s.slotOf k) ∧ u.flow = s.flow ∧ u.io.mem = s.io.mem) ∧
  (∀ (i : Nat) (o : CipherOp) (s : State), s.cipher.ops[i]? = some o → s.computeOn = true → o.conforms = true →
    s.laneHead i o = true → o.flow = none →
    exec (.cipherOpEnd i) s =
      .next (State.runOp { s with cipher := { s.cipher with ops := dropAt s.cipher.ops i } } o).1) ∧
  (∀ (o : CipherOp) (block aad data : List Nat) (s s1 s2 s3 : State), s.readOp o.issuer o.opb 64 = (s1, .ok block) →
    s1.readOp o.issuer o.aad (if o.mode < 2 then o.aadLen else 0) = (s2, .ok aad) →
    s2.readOp o.issuer o.src o.length = (s3, .ok data) →
    s.runOp o = if o.op = 0 then s3.sealOp o aad data else s3.openOp o block aad data) ∧
  (∀ (o : CipherOp) (block aad data out tag : List Nat) (s s1 : State), o.mode ≠ 1 → o.overlaps = false →
    cipherResult o.mode 1 o.tagLen (keyOctets o.key o.bits256) (block.take (if o.mode = 0 then 12 else 16)) aad data = (out, tag) →
    tag = (block.drop 16).take tag.length → s.writeOutput o out = (s1, none) →
    s.openOp o block aad data = (s1.writeStatus o .done, .done)) ∧
  (∀ (o : CipherOp) (block aad data out tag : List Nat) (s s1 : State), o.mode ≠ 1 →
    cipherResult o.mode 1 o.tagLen (keyOctets o.key o.bits256) (block.take (if o.mode = 0 then 12 else 16)) aad data = (out, tag) →
    tag ≠ (block.drop 16).take tag.length →
    State.writeOutput { s with cipher := { s.cipher with
      tagFails := Table.modify 0 s.cipher.tagFails o.issuer fun n => satAdd 32 n 1 } } o (out.map fun _ => 0) = (s1, none) →
    s.openOp o block aad data = (s1.spoilOp o .tagFail, .tagFail)) ∧
  (∀ (o : CipherOp) (st : Status) (s s1 : State), o.issuer ≠ 0 → o.int = false →
    s.write o.issuer (o.opb + 44) 4 (2 ^ 31 + st.code) = (s1, none) → s.writeStatus o st = s1) ∧
  (∀ (r : Request) (s : State), Clear cmdCipherCounterRead r s →
    exec (.cipherCounterRead r) s = .next (s.complete r 0x0A02 .done (pack [(0, 8, (s.slotOf (r.field 0 2)).counter),
      (8, 8, if persistent (s.slotOf (r.field 0 2)).attr then (s.slotOf (r.field 0 2)).high else 0),
      (16, 1, flag (s.nonceExhausted (r.field 0 2)) + 2 * flag (s.slotOf (r.field 0 2)).exported.isSome)]))) ∧
  (∀ (r : Request) (s : State), Clear cmdCipherQuery r s → r.issuer = 0 →
    exec (.cipherQuery r) s = .next (s.complete r 0x0A03 .done (pack [(0, 3, maskOf s.strands), (4, 3, s.cipher.held),
      (8, 2, (s.cipher.ops.filter fun o => decide (o.issuer = 0)).length), (12, 4, Table.get 0 s.cipher.tagFails 0),
      (16, 4, Table.get 0 s.cipher.accessFaults 0)]))) ∧
  (∀ (r : Request) (s : State), Clear cmdCipherHoldSet r s →
    exec (.cipherHoldSet r) s = .next (State.complete { s with cipher := { s.cipher with held := r.field 0 3 } } r 0x0A04 .done
      (pack [(0, 3, r.field 0 3)]))) ∧
  (∀ (r : Request) (s : State), Clear cmdCvuConfig r s →
    Completes (.cvuConfig r) r s 0x0B01 .done 0 fun u => u = { s with cipher := { s.cipher with cvus := u.cipher.cvus } } ∧
      u.cvuOf (r.byte 0) = cvuOfBlock r (s.cvuOf (r.byte 0)) ∧ ∀ n, n ≠ r.byte 0 → u.cvuOf n = s.cvuOf n) ∧
  (∀ (r : Request) (w : Nat) (x : Checked) (s s1 s2 : State), Clear cmdCvuRun r s → r.field 24 2 = 0xFFFF →
    s.read r.issuer (r.field 8 8) (r.field 4 4) = (s1, .ok w) →
    s1.cvuItem (r.byte 0) (r.field 8 8) (s.cvuOf (r.byte 0)).layout.checkOffset (toBytes (r.field 4 4) w)
      (if r.bit 1 0 then some (r.field 16 8) else none) (r.bit 1 0 || r.bit 1 1) (r.bit 1 1) = (s2, x) →
    exec (.cvuRun r) s = .next (s2.complete r 0x0B02 (if x.verdict = 0 then .done else .cvuMismatch)
      (pack [(0, 8, x.value), (8, 8, x.field), (16, 1, x.verdict), (18, 2, min 65535 x.lost), (20, 4, x.counter)]))) ∧
  (∀ (n address off : Nat) (data : List Byte) (e : Option Nat) (c a : Bool) (s : State),
    (s.cvuItem n address off data e c a).2.verdict = 0 →
    ((s.cvuItem n address off data e c a).1.cvuOf n).items = satAdd 32 (s.cvuOf n).items 1 ∧
    ((s.cvuItem n address off data e c a).1.cvuOf n).mismatches = (s.cvuOf n).mismatches ∧
    (s.cvuItem n address off data e c a).1.io.mem = s.io.mem ∧
    ∀ m, m ≠ n → (s.cvuItem n address off data e c a).1.cvuOf m = s.cvuOf m) ∧
  (∀ (r : Request) (s : State), Clear cmdCvuStreamAttach r s →
    Completes (.cvuStreamAttach r) r s 0x0B03 .done 0 fun u => u = { s with sw := u.sw } ∧
      (u.filterOf (r.field 2 2)).cvu = (if r.byte 0 = 0xFF then none else some (r.byte 0)) ∧
      ∀ n, n ≠ r.field 2 2 → u.filterOf n = s.filterOf n) ∧
  (∀ (r : Request) (s : State), Clear cmdCvuQuery r s →
    Completes (.cvuQuery r) r s 0x0B04 .done (pack [(0, 4, (s.cvuOf (r.byte 0)).items), (4, 4, (s.cvuOf (r.byte 0)).mismatches),
      (8, 4, (s.cvuOf (r.byte 0)).repeats), (12, 4, (s.cvuOf (r.byte 0)).outOfWindow), (16, 4, (s.cvuOf (r.byte 0)).lost),
      (20, 4, (s.cvuOf (r.byte 0)).counter)]) fun u => u = { s with cipher := { s.cipher with cvus := u.cipher.cvus } } ∧
      (u.cvuOf (r.byte 0)).items = (if r.bit 1 0 then 0 else (s.cvuOf (r.byte 0)).items) ∧
      (u.cvuOf (r.byte 0)).counter = (s.cvuOf (r.byte 0)).counter ∧ ∀ n, n ≠ r.byte 0 → u.cvuOf n = s.cvuOf n)

/-- The Fairlead bridge (R541-R552): its settings and windows take force, a move is ACCEPTED and waits or begins, a finished move writes its
status word, fences clear, and the counts read back. The bridge and its far side (R541, R544, R545, R550, R551): a training link comes UP within its maximum speed; an inbound write
reaches memory through the window that holds it and is counted where none does; a failed posted write of no known sender is
numbered and logged. -/
def Obligations.FairleadCompletes : Prop :=
  (∀ (r : Request) (s : State), Clear cmdFairleadConfig r s → s.fair.link ≠ .disabled ∨ s.fairStopped = true → r.bit 0 0 = true →
    ∀ c : FairConfig, c = ⟨true, r.byte 1, r.byte 2, r.byte 3, r.field 4 4, r.field 8 2, r.field 10 2, r.field 12 2, r.field 14 3,
      r.byte 17, r.byte 18⟩ →
      exec (.fairleadConfig r) s = .next (State.complete { s with fair := { s.fair with config := c } } r 0x0C01 .done s.fair.link.code)) ∧
  (∀ (r : Request) (s : State), Clear cmdFairleadConfig r s → s.fair.link = .disabled → s.fairStopped = false → r.bit 0 0 = true →
    Completes (.fairleadConfig r) r s 0x0C01 .done FairLink.training.code fun u => u.fair.link = .training ∧ u.fair.config.enable = true ∧
      u.fair.windows = s.fair.windows ∧ u.fair.ops = s.fair.ops) ∧
  (∀ (r : Request) (s : State), Clear cmdFairleadConfig r s → r.bit 0 0 = false →
    CompletesSomehow (.fairleadConfig r) r s 0x0C01 .done fun u => u.fair.config.enable = false) ∧
  (∀ (r : Request) (s : State), Clear cmdFairleadWindowSet r s →
    Completes (.fairleadWindowSet r) r s 0x0C02 .done 0 fun u =>
      u = { s with fair := { s.fair with windows := u.fair.windows } } ∧
      u.fairWindow (r.byte 0) = windowFrom r (s.fairWindow (r.byte 0)) ∧ ∀ w, w ≠ r.byte 0 → u.fairWindow w = s.fairWindow w) ∧
  (∀ (r : Request) (o : FairOp) (s : State), Clear cmdFairleadMove r s →
    o = { issuer := r.issuer, ring := r.ring.val, window := r.byte 0, write := decide (r.byte 1 = 0), offset := r.field 8 8,
          length := r.field 4 4, local_ := r.field 16 8, statusIova := r.field 24 8,
          vector := if r.bit 2 7 then some (r.bits 2 4 0) else none } →
    exec (.fairleadMove r) s = .next (State.advanceFair
      (State.complete { s with fair := { s.fair with ops := s.fair.ops ++ [o] } } r 0x0C03 .accepted 0))) ∧
  (∀ (i : Nat) (data : List Byte) (o : FairOp) (s : State), s.runningOp i = some o → o.write = true →
    exec (.fairleadMoveEnd i 0 data) s = .next ((s.dropOp i).endWrite o false).advanceFair) ∧
  (∀ (i : Nat) (data : List Byte) (o : FairOp) (s : State), s.runningOp i = some o → o.write = false → data.length = o.length →
    exec (.fairleadMoveEnd i 0 data) s = .next ((s.dropOp i).endRead o data).advanceFair) ∧
  (∀ (o : FairOp) (st : Status) (bytes : Nat) (s s1 : State), o.vector = none →
    s.write o.issuer o.statusIova 8 (pack [(0, 4, 0x80000000 + st.code), (4, 4, bytes)]) = (s1, none) →
    s.endFair o st bytes = s1.opEnd 0x0C03 st) ∧
  (∀ (i t : Nat) (o : FairOp) (s : State), s.runningOp i = some o → o.write = false → o.begunAt = some t →
    t + 1000 * s.fair.config.timeoutUs ≤ s.now →
    exec (.fairleadCompletionTimeout i) s = .next ((s.dropOp i).failRead o .fairleadCompletionTimeout).advanceFair) ∧
  (∀ (i : Nat) (o : FairOp) (s : State), s.runningOp i = some o → o.write = false →
    o.waitingFrom + 1000 * s.fair.config.backoffUs ≤ s.now →
    Ends (.fairleadBackoff i) s fun t => t = { s with fair := { s.fair with ops := t.fair.ops } } ∧
      t.fair.ops.length = s.fair.ops.length ∧
      (t.fair.ops[i]?).map (·.backoffUntil) = some (some (s.now + 1000 * s.fair.config.backoffUs)) ∧
      ∀ j, j ≠ i → t.fair.ops[j]? = s.fair.ops[j]?) ∧
  (∀ (w : Nat) (b : Prefetch) (s : State), (s.fairWindow w).buffer = some b → b.filledAt + 10000 ≤ s.now →
    Ends (.prefetchBufferExpiry w) s fun t => (t.fairWindow w).buffer = none ∧ t.io = s.io ∧
      ∀ x, x ≠ w → t.fairWindow x = s.fairWindow x) ∧
  (∀ (r : Request) (s : State), Clear cmdFairleadFenceClear r s →
    Completes (.fairleadFenceClear r) r s 0x0C04 .done 0 fun u => (u.fairWindow (r.byte 0)).fenced = false ∧
      u.fair.ops = s.fair.ops ∧ u.io = s.io ∧ ∀ x, x ≠ r.byte 0 → u.fairWindow x = s.fairWindow x) ∧
  (∀ (r : Request) (s : State), Clear cmdFairleadCfg r s →
    CompletesSomehow (.fairleadCfg r) r s 0x0C05
      (if s.choose.1 then (if s.choose.2.choose.1 then .fairleadFarError else .done) else .fairleadCompletionTimeout)
      fun u => u = { s with io := { s.io with free := s.io.free + 3 } }) ∧
  (∀ (r : Request) (s : State), Clear cmdFairleadQuery r s → r.field 8 8 = 0 →
    CompletesSomehow (.fairleadQuery r) r s 0x0C06 .done fun u => u.fair.ops = s.fair.ops ∧ u.fair.log = s.fair.log ∧
      u.fair.windows = s.fair.windows ∧ u.fair.drops = (if r.bit 0 0 then 0 else s.fair.drops) ∧ u.io.mem = s.io.mem) ∧
  (∀ (speed width : Nat) (l : List (Nat × Nat)) (s : State), s.computeOn = true → s.fair.config.enable = true → s.fairStopped = false →
    s.fair.link = .training → 1 ≤ speed → speed ≤ s.fair.config.maxSpeed → 1 ≤ width → width ≤ 2 →
    Ends (.fairleadLinkState 2 speed width l) s fun t => t.fair.link = .up ∧ t.fair.speed = speed ∧ t.fair.width = width ∧
      t.fair.drops = satAdd 32 s.fair.drops 0 ∧ t.fair.ops = s.fair.ops) ∧
  (∀ (bar address requester : Nat) (data : List Byte) (s : State), s.computeOn = true → s.fair.link = .up → data.length ≠ 0 →
    address % 4096 + data.length ≤ 4096 → s.inboundWindow bar address data.length = none →
    exec (.fairleadInboundRequest true bar address data data.length requester) s =
      .next { s with fair := { s.fair with unmatched := satAdd 16 s.fair.unmatched 1 } }) ∧
  (∀ (bar address requester k : Nat) (data : List Byte) (s s1 : State), s.computeOn = true → s.fair.link = .up → data.length ≠ 0 →
    address % 4096 + data.length ≤ 4096 → s.inboundWindow bar address data.length = some k → (s.fairWindow k).write = true →
    s.write (s.owner kindWindow k) ((s.fairWindow k).localBase + (address - (s.fairWindow k).farBase)) data.length (ofBytes data) =
      (s1, none) →
    exec (.fairleadInboundRequest true bar address data data.length requester) s = .next s1) ∧
  (∀ (cause address length : Nat) (s : State), s.computeOn = true → s.absent = false → s.rootComplex = true → s.fair.link = .up →
    (cause = 1 ∨ cause = 2 ∨ cause = 4) → s.sender address = none →
    Ends (.fairleadPostedError cause address length) s fun t => t.fair.errorSeq = (s.fair.errorSeq + 1) % 2 ^ 16 ∧
      t.fair.ops = s.fair.ops ∧ t.fair.windows = s.fair.windows ∧
      (s.fair.log.length < 16 → t.fair.log.length = s.fair.log.length + 1))

/-- The health block and the self-tests (R38-R49, R560, R571-R575): counting parameters and periods take force, a unit reads back, is furled on
request, starts its unfurl test, passes or fails it, and counts its online tests; one event below the threshold counts as an upset. -/
def Obligations.HealthCommandsComplete : Prop :=
  (∀ (r : Request) (s : State), Clear cmdHealthClassSet r s →
    Completes (.healthClassSet r) r s 0x0E01 .done 0 fun u =>
      u = { s with health := { s.health with classes := u.health.classes } } ∧
      u.classParams (r.byte 0) = { threshold := r.byte 1, windowMs := r.field 4 4 } ∧
      ∀ c, c ≠ r.byte 0 → u.classParams c = s.classParams c) ∧
  (∀ (r : Request) (s : State), Clear cmdHealthUnitQuery r s →
    exec (.healthUnitQuery r) s = .next (s.complete r 0x0E02 .done (pack [(0, 4, s.unitReg (r.field 0 2)),
      (8, 8, (s.unitHealth (r.field 0 2)).lastEvent), (16, 8, (s.unitHealth (r.field 0 2)).furlTime)]))) ∧
  (∀ (r : Request) (count : Nat) (s : State), Clear cmdUnitFurl r s →
    count = (countIn (s.unitHealth (r.field 0 2)).history s.now (s.classParams (r.field 0 2 / 256)).windowMs).length →
    exec (.unitFurl r) s = .next ((s.furlUnit (r.field 0 2) 0x03 count 0 false).complete r 0x0E03 .done 0)) ∧
  (∀ (r : Request) (s : State), Clear cmdUnitUnfurl r s →
    Completes (.unitUnfurl r) r s 0x0E04 .accepted 0 fun u => u = { s with health := { s.health with units := u.health.units } } ∧
      (u.unitHealth (r.field 0 2)).testing = true ∧ (u.unitHealth (r.field 0 2)).furled = (s.unitHealth (r.field 0 2)).furled ∧
      ∀ n, n ≠ r.field 0 2 → u.unitHealth n = s.unitHealth n) ∧
  (∀ (n : Nat) (s : State), (s.unitHealth n).testing = true → (s.unitHealth n).furled = true →
    Ends (.unfurlDone n false) s fun t => (t.unitHealth n).furled = true ∧ (t.unitHealth n).testing = false ∧
      (t.unitHealth n).selftestFail = true ∧ (t.unitHealth n).furls = (s.unitHealth n).furls + 1 ∧
      ∀ m, m ≠ n → t.unitHealth m = s.unitHealth m) ∧
  (∀ (n : Nat) (u : State) (s : State), (s.unitHealth n).testing = true → (s.unitHealth n).furled = true → s.absent = false →
    u = (s.mapUnit n fun h =>
      { h with furled := false, testing := false, selftestFail := false, history := [], count := 0, furlTime := 0 }).restoreUnit n →
    exec (.unfurlDone n true) s = .next ((u.raise
      { unit := n, code := 0x0E04, detail := pack [(0, 2, n), (2, 1, 0), (4, 4, 0), (8, 8, s.now)] } [0]).opEnd 0x0E04 .done)) ∧
  (∀ (s : State), s.absent = false → s.flow.owed ≠ [] → exec .furlRevocation s = .next s.settleOwed) ∧
  (∀ (n cause inFlight : Nat) (s : State), s.computeOn = true → unitExists n = true → s.furled n = false → s.counting n = true →
    n ≠ unitId 0x1C 0 →
    (countIn ((s.now :: (s.unitHealth n).history).take 255) s.now (s.classParams (n / 256)).windowMs).length <
      (s.classParams (n / 256)).threshold →
    Ends (.unitEvent n cause inFlight false false) s fun t => (t.unitHealth n).upsets = satAdd 16 (s.unitHealth n).upsets 1 ∧
      (t.unitHealth n).furled = false ∧ (t.unitHealth n).lastEvent = s.now ∧
      (t.unitHealth n).history = (s.now :: (s.unitHealth n).history).take 255 ∧
      (∀ m, m ≠ n → t.unitHealth m = s.unitHealth m) ∧ t.flow = s.flow) ∧
  (∀ (r : Request) (s : State), Clear cmdSelftestRun r s →
    Completes (.selftestRun r) r s 0x0F01 .accepted (flag (!s.choose.1)) fun u =>
      u.flow = { s.flow with maintenance := u.flow.maintenance } ∧ (u.unitHealth (r.field 0 2)).pendingTest = true ∧ ∀ n, n ≠ r.field 0 2 → u.unitHealth n = s.unitHealth n) ∧
  (∀ (r : Request) (s : State), Clear cmdSelftestScheduleSet r s →
    Completes (.selftestScheduleSet r) r s 0x0F02 .done (r.field 4 4) fun u =>
      u = { s with health := { s.health with tests := u.health.tests } } ∧ u.period (r.byte 0) = r.field 4 4 ∧
      ∀ c, c ≠ r.byte 0 → u.classTest c = s.classTest c) ∧
  (∀ (r : Request) (s : State), Clear cmdSelftestQuery r s →
    exec (.selftestQuery r) s = .next (s.complete r 0x0F03 .done (pack [(0, 4, s.period (r.byte 0)),
      (4, 4, (s.classTest (r.byte 0)).run), (8, 4, (s.classTest (r.byte 0)).failed), (16, 8, (s.classTest (r.byte 0)).lastFail)]))) ∧
  (∀ (n : Nat) (s : State), unitExists n = true → (onlinePeriod (n / 256)).isSome = true → s.period (n / 256) ≠ 0 →
    (s.unitHealth n).pendingTest = false → s.furled n = false →
    Ends (.selftestSlice n false) s fun t => t = { s with health := { s.health with units := t.health.units, tests := t.health.tests } } ∧
      (t.classTest (n / 256)).run = wrapAdd 32 (s.classTest (n / 256)).run 1 ∧
      (t.classTest (n / 256)).failed = (s.classTest (n / 256)).failed ∧ (t.unitHealth n).selftestFail = false ∧
      ∀ m, m ≠ n → t.unitHealth m = s.unitHealth m)

/-- Reef (R562-R570): a requested plan is ACCEPTED with its number, is computed with levels that never fall, and its ceilings apply; the levels
read back; a monitor's sample moves one domain's slack loss or one channel's drift. -/
def Obligations.ReefCommandsComplete : Prop :=
  (∀ (r : Request) (s : State), Clear cmdReefPlanRun r s →
    Completes (.reefPlanRun r) r s 0x0E05 .accepted ((s.health.planSeq + 1) % 2 ^ 16) fun u => u = { s with health := u.health } ∧
      u.health.plan = some { trigger := 0x03 } ∧ u.health.planSeq = (s.health.planSeq + 1) % 2 ^ 16 ∧
      u.health.domains = s.health.domains ∧ u.health.units = s.health.units) ∧
  (∀ (r : Request) (s : State), Clear cmdReefQuery r s →
    exec (.reefQuery r) s = .next (s.complete r 0x0E06 .done (pack (((span 1 9).map fun d => (d - 1, 1, (s.domainOf d).level)) ++
      [(9, 1, ceilingPoint (s.domainOf 4).ceiling), (10, 2, s.health.planSeq), (16, 8, s.health.planTime)])))) ∧
  (∀ (x : PlanRun) (s : State), s.absent = false → s.load.holdOpen = false → s.sleep.entry = none → s.computeOn = true →
    s.health.plan = some x → x.computed = false → exec .reefPlan s = .next (s.computePlan x.trigger s.health.planSeq)) ∧
  (∀ (d : DomainReef), d.level ≤ d.planned.level ∧ levelOf d.slack ≤ d.planned.level ∧ d.planned.guardMv = guardOf d.planned.level) ∧
  (∀ (n : Nat) (c : ChannelReef), c.step ≤ (c.planned n).step ∧ (c.planned n).ocPct = 100 - 10 * (c.planned n).step) ∧
  (∀ (x : PlanRun) (s : State), s.health.plan = some x → x.computed = true → s.absent = false → x.trigger ≠ 0x03 → x.raised = 0 →
    x.steps = 0 → x.revoked = 0 → x.trims = false → x.marks = false →
    Ends .reefCeilingApply s fun t => t.health.plan = none) ∧
  (∀ (d i : Nat) (v : Int) (s : State), 1 ≤ d → d ≤ 2 →
    Ends (.ageingMonitorSample d 0 i v) s fun t => t = { s with health := { s.health with domains := t.health.domains } } ∧
      (t.domainOf d).replica = v.toNat ∧ (t.domainOf d).slack = v.toNat ∧ (t.domainOf d).level = (s.domainOf d).level ∧
      ∀ e, e ≠ d → t.domainOf e = s.domainOf e) ∧
  (∀ (d n : Nat) (v : Int) (s : State), n < 48 →
    Ends (.ageingMonitorSample d 4 n v) s fun t => t = { s with health := { s.health with channels := t.health.channels } } ∧
      (t.reefOf n).drift = min 255 v.toNat ∧ (t.reefOf n).step = (s.reefOf n).step ∧ ∀ e, e ≠ n → t.reefOf e = s.reefOf e)

/-- Resets and banks (R196, R581, R582, R591, R595, R600): a reset is posted before it happens; a good image is ACCEPTED with the bank not in
use empty from then on, and stands there once the write has ended; a confirmation ends both trials. -/
def Obligations.ResetsAndBanksComplete : Prop :=
  (∀ (r : Request) (s : State), Clear cmdDeviceReset r s → r.byte 0 = 0 →
    exec (.deviceReset r) s = .next (s.complete r 0x0140 .done (pack [(0, 8, s.now)])).moduleReset) ∧
  (∀ (r : Request) (s : State), Clear cmdDeviceReset r s → r.byte 0 = 1 →
    exec (.deviceReset r) s = .next ((s.complete r 0x0140 .done (pack [(0, 8, s.now)])).computeReset 3 false)) ∧
  (∀ (r : Request) (w : Nat) (s s1 : State), Clear cmdFwBankWrite r s → s.read r.issuer (r.field 8 8) (r.field 4 4) = (s1, .ok w) →
    s1.judgeImage (r.byte 0 == 1) w (r.field 4 4) = 0 →
    Completes (.fwBankWrite r) r s 0x0141 .accepted 0 fun u =>
      u.bank (r.byte 0 == 1) (!s1.inUse (r.byte 0 == 1)) = none ∧ u.io = s1.io ∧
      u.boot.bankWrites = s1.boot.bankWrites ++ [{ config := r.byte 0 == 1, bankB := !s1.inUse (r.byte 0 == 1), activate := r.bit 1 0,
                                                   image := s1.bankImage (r.byte 0 == 1) w }]) ∧
  (∀ (r : Request) (w : Nat) (s s1 : State), Clear cmdFwBankWrite r s → s.read r.issuer (r.field 8 8) (r.field 4 4) = (s1, .ok w) →
    s1.judgeImage (r.byte 0 == 1) w (r.field 4 4) ≠ 0 →
    exec (.fwBankWrite r) s = .next (s.complete r 0x0141 .badParam (s1.judgeImage (r.byte 0 == 1) w (r.field 4 4)))) ∧
  (∀ (x : BankWrite) (rest : List BankWrite) (s : State), s.boot.bankWrites = x :: rest → s.computeOn = true → s.absent = false →
    s.nvFurled = false →
    Ends (.fwBankWritten true) s fun t => t.bank x.config x.bankB = some x.image ∧ t.boot.bankWrites = rest ∧
      t.record x.config = (if x.activate then { preferredB := x.bankB, trial := true, triesLeft := 3 } else s.record x.config) ∧
      t.bank x.config (!x.bankB) = s.bank x.config (!x.bankB)) ∧
  (∀ (r : Request) (s : State), Clear cmdBootConfirm r s →
    CompletesSomehow (.bootConfirm r) r s 0x0142 .done fun u => u = { s with boot := u.boot } ∧ u.boot.fwRecord.trial = false ∧
      u.boot.cfgRecord.trial = false ∧ u.boot.cfgMinVersion = s.configuration.version ∧
      u.boot.fwRecord.preferredB = s.boot.fwRecord.preferredB ∧ u.boot.cfgRecord.preferredB = s.boot.cfgRecord.preferredB) ∧
  (∀ (n : Nat) (s : State), s.supply.unpowered = false → s.boot.phase ≠ .off → 10000 ≤ n →
    exec (.resetNPulse n) s = .next s.moduleReset) ∧
  (∀ (straps mv : Nat) (lost : Bool) (s : State), (s.supply.unpowered = true ∨ s.boot.phase = .off) → 4800 < mv →
    exec (.powerUp straps mv lost) s = .next (s.powerUp straps mv lost)) ∧
  (∀ (straps mv : Nat) (lost : Bool) (s : State), (s.powerUp straps mv lost).boot.straps = straps % 8 ∧
    (s.powerUp straps mv lost).boot.start = 1 ∧ (s.powerUp straps mv lost).supply.profile48 = bitOf straps 0 ∧
    (s.powerUp straps mv true).time.rtc = 0 ∧ (s.powerUp straps mv lost).load.safeTable = s.load.safeTable)

/-- The start (R583-R593, R596, R605): the boot ROM selects the banks or begins a recovery start; the start-up tests pass on to the
Locker; the command list's end enters Run; a recovery start sends its beacon and answers an image; Masthead's return posts what it missed;
the limits of isolation are kept. -/
def Obligations.StartCompletes : Prop :=
  (∀ (s u : State), s.computeOn = true → s.boot.phase = .released → u = s.finishErasure.generateRoot.1 → u.boot.lostTamper = false →
    u.boot.lostLife = false → u.boot.fwA = none → u.boot.fwB = none →
    Ends .startupBootRom s fun t => t.boot.phase = .recovery ∧ t.boot.recovery = 1 ∧ t.boot.tamperHeld = s.tamperHeld) ∧
  (∀ (s u : State), s.computeOn = true → s.boot.phase = .released → u = s.finishErasure.generateRoot.1 → u.boot.lostTamper = false →
    u.boot.lostLife = false → u.bankStands false (u.record false).atStart.preferredB = true →
    u.bankStands true (u.record true).atStart.preferredB = true →
    Ends .startupBootRom s fun t => t.boot.phase = .selected ∧ t.record false = (u.record false).atStart ∧
      t.record true = (u.record true).atStart ∧ t.boot.useFwB = (u.record false).atStart.preferredB ∧
      t.boot.useCfgB = (u.record true).atStart.preferredB ∧ t.boot.fwFallback = false ∧ t.boot.cfgFallback = false ∧
      t.io = u.io ∧ t.keys = u.keys) ∧
  (∀ (failing : List Nat) (n : Nat) (s : State), s.computeOn = true → s.boot.phase = .selected → n ∈ failing → unitExists n = true →
    (n / 256 = 0x07 ∨ n / 256 = 0x08 ∨ n / 256 = 0x0A) → Ends (.startupSelftest failing) s fun t => t.boot.phase = .stopped) ∧
  (∀ (s : State), s.computeOn = true → s.boot.phase = .selected →
    Ends (.startupSelftest []) s fun t => t.boot.phase = .tested ∧
      t = ({ (((s.commitConfigured s.configuration).runPreamble s.configuration.commands).copyApplication s.configuration) with
        boot := t.boot })) ∧
  (∀ (s : State), s.absent = false → s.computeOn = true → s.boot.phase = .unsealed → s.boot.waiting = none → s.boot.tamperHeld = false →
    s.boot.list = [] → exec .commandListExecute s = .next s.enterRun) ∧
  (∀ (s : State), s.absent = false → s.computeOn = true → s.boot.phase = .unsealed → s.boot.waiting = none → s.boot.tamperHeld = true →
    exec .commandListExecute s = .next s.enterRun) ∧
  (∀ (image : List Byte) (ok : Bool) (s : State), s.computeOn = true → s.boot.phase = .recovery →
    s.judgeImage (byteField (ofBytes image) 0 4 == imageMagic true) (ofBytes image) image.length ≠ 0 →
    exec (.recoveryImageReceive image ok) s = .next (s.sendUart [0x11])) ∧
  (∀ (image : List Byte) (s : State), s.computeOn = true → s.boot.phase = .recovery →
    s.judgeImage (byteField (ofBytes image) 0 4 == imageMagic true) (ofBytes image) image.length = 0 →
    image.length ≤ bankBytes (byteField (ofBytes image) 0 4 == imageMagic true) →
    exec (.recoveryImageReceive image false) s =
      .next ((s.setBank (byteField (ofBytes image) 0 4 == imageMagic true) false none).sendUart [0x7F])) ∧
  (∀ (s : State), s.computeOn = true → s.boot.phase = .recovery → s.boot.beaconAt ≤ s.now →
    Ends .recoveryBeacon s fun t => t = { s with boot := t.boot } ∧ t.boot.beaconAt = s.now + 1000000000 ∧ t.boot.sent =
      [0x52, 0x45, 0x43, 0x56, BitVec.ofNat 8 s.lifecycle, BitVec.ofNat 8 s.boot.recovery, 0, 0]) ∧
  (∀ (s : State), s.computeOn = true → s.cpu.masthead.returned = true → s.cpu.masthead.present = true →
    exec .controllerReturned s = .next (((s.mapMasthead fun m => { m with returned := false }).raiseAll
      { unit := 0x0300, code := 0x0107,
        detail := pack [(0, 1, s.cpu.masthead.used), (8, 8, s.cpu.masthead.absentAt)] }).thaw.settleOwed.postMissed)) ∧
  (∀ (s : State), s.supply.unpowered = false → s.boot.phase ≠ .off → s.boot.lostLimits = true →
    Ends (.isolationCondition true) s fun t => t = { s with boot := { s.boot with limitsSince := s.now } }) ∧
  (∀ (s : State), s.supply.unpowered = false → s.boot.phase ≠ .off → s.boot.lostLimits = true →
    s.boot.limitsSince + 100000000 ≤ s.now →
    exec (.isolationCondition false) s =
      .next (State.isolation { s with boot := { s.boot with lostLimits := false } } 0x03 false (s.absent || !s.computeOn)))
end

