-- ==== Sys2Proof/Laws/Command.lean ====
section
/-! SUPPORT. What a ring command's step answers, by how it ends. -/

namespace Sys2Proof.Machine

open Sys2Proof.Safety

/-- A command that takes no token spends no challenge. -/
theorem Command.spent_of_not {c : Command} {r : Request} {s : State} (k : c.spends = false) : c.spent r s = s := by
  simp [Command.spent, k]

/-- A command that a status of R89 refuses: its completion, and the challenge of a token command. -/
theorem Command.step_refused_spent {c : Command} {r : Request} {s : State} {st : Status} (w : s.windowOn r.issuer = true)
    (h : c.refusal r s = some st) : c.step r s = .next (c.spent r (s.complete r c.opcode st 0)) := by
  simp [Command.step, w, Command.exec, h, Command.finish, Answer.no]

/-- A command that is clear to execute: its own answer, and the challenge of a token command. -/
theorem Command.step_clear_spent {c : Command} {r : Request} {s : State} (h : Clear c r s) :
    c.step r s = .next (c.spent r (c.finish r s (c.run r s)).state) := by
  simp [Command.step, h.1, Command.exec, h.2]

/-- A command that a status of R89 refuses posts its completion and does nothing else. -/
theorem Command.step_refused {c : Command} {r : Request} {s : State} {st : Status} (w : s.windowOn r.issuer = true)
    (h : c.refusal r s = some st) (k : c.spends = false := by rfl) : c.step r s = .next (s.complete r c.opcode st 0) := by
  rw [Command.step_refused_spent w h, Command.spent_of_not k]

/-- A command that is clear to execute is followed by its own answer. -/
theorem Command.step_clear {c : Command} {r : Request} {s : State} (h : Clear c r s) (k : c.spends = false := by rfl) :
    c.step r s = .next (c.finish r s (c.run r s)).state := by
  rw [Command.step_clear_spent h, Command.spent_of_not k]

/-- A command that is clear to execute and finishes: its effect, its completion, and what follows. -/
theorem Command.step_finish {c : Command} {r : Request} {s t : State} {st : Status} {n : Nat} {after : State → State}
    (h : Clear c r s) (e : c.run r s = .finish st n t after) (k : c.spends = false := by rfl) :
    c.step r s = .next (after (t.complete r c.opcode st n)) := by
  rw [Command.step_clear h k, e]; rfl

/-- A command without a window to issue it from does nothing. -/
theorem Command.step_off {c : Command} {r : Request} {s : State} (w : s.windowOn r.issuer = false) : c.step r s = .next s := by
  simp [Command.step, w]

end Sys2Proof.Machine
end

