-- ==== Sys2Proof/Laws/Claims.lean ====
section
/-! SUPPORT. The predicates of the claims, read off what a meaning answers. -/

namespace Sys2Proof.Safety

open Sys2Proof.Machine

theorem Ends.of_exec {i : Instr} {s t : State} {P : State → Prop} (e : exec i s = .next t) (h : P t) : Ends i s P := ⟨t, e, h⟩

theorem CompletesSomehow.of_run {i : Instr} {c : Command} {r : Request} {s t : State} {st : Status} {res : Nat}
    {P : State → Prop} (hc : Clear c r s) (hx : exec i s = c.step r s) (e : c.run r s = .finish st res t id) (h : P t)
    (k : c.spends = false := by rfl) :
    CompletesSomehow i r s c.opcode st P :=
  ⟨_, _, hx.trans (Command.step_finish hc e k), h⟩

theorem Completes.of_run {i : Instr} {c : Command} {r : Request} {s t : State} {st : Status} {res : Nat}
    {P : State → Prop} (hc : Clear c r s) (hx : exec i s = c.step r s) (e : c.run r s = .finish st res t id) (h : P t)
    (k : c.spends = false := by rfl) :
    Completes i r s c.opcode st res P :=
  ⟨_, hx.trans (Command.step_finish hc e k), h⟩

end Sys2Proof.Safety
end

