-- ==== Sys2Proof/Laws/Table.lean ====
section
/-! SUPPORT. Tables: a read after a write, a write leaves the other keys alone, and every operation keeps the canonical form;
then the same of memory. -/

namespace Sys2Proof.Machine

variable {α : Type}

@[simp] theorem Table.get_erase_self (d : α) (t : Table α) (i : Nat) : Table.get d (Table.erase i t) i = d := by
  induction t with
  | nil => rfl
  | cons x t ih =>
    obtain ⟨k, w⟩ := x
    by_cases h : k = i
    · simp [Table.erase, h, ih]
    · simp [Table.erase, Table.get, h, Ne.symm h, ih]

theorem Table.get_erase_ne (d : α) (t : Table α) {i j : Nat} (h : j ≠ i) : Table.get d (Table.erase i t) j = Table.get d t j := by
  induction t with
  | nil => rfl
  | cons x t ih =>
    obtain ⟨k, w⟩ := x
    by_cases hk : k = i
    · subst hk; simp [Table.erase, Table.get, h, ih]
    · by_cases hj : j = k <;> simp [Table.erase, Table.get, hk, hj, ih]

theorem Table.get_insert_self (d : α) (t : Table α) (i : Nat) (v : α) (h : ∀ x ∈ t, x.1 ≠ i) :
    Table.get d (Table.insertSorted i v t) i = v := by
  induction t with
  | nil => simp [Table.insertSorted, Table.get]
  | cons x t ih =>
    obtain ⟨k, w⟩ := x
    have hk : k ≠ i := h (k, w) (by simp)
    by_cases hl : i < k
    · simp [Table.insertSorted, hl, Table.get]
    · simp [Table.insertSorted, hl, Table.get, Ne.symm hk, ih fun x hx => h x (by simp [hx])]

theorem Table.get_insert_ne (d : α) (t : Table α) {i j : Nat} (v : α) (h : j ≠ i) :
    Table.get d (Table.insertSorted i v t) j = Table.get d t j := by
  induction t with
  | nil => simp [Table.insertSorted, Table.get, h]
  | cons x t ih =>
    obtain ⟨k, w⟩ := x
    by_cases hl : i < k
    · simp [Table.insertSorted, hl, Table.get, h]
    · by_cases hj : j = k <;> simp [Table.insertSorted, hl, Table.get, hj, ih]

theorem Table.not_mem_erase (t : Table α) (i : Nat) : ∀ x ∈ Table.erase i t, x.1 ≠ i := by
  induction t with
  | nil => simp [Table.erase]
  | cons y t ih =>
    obtain ⟨k, w⟩ := y
    by_cases h : k = i
    · simpa [Table.erase, h] using ih
    · simpa [Table.erase, h] using ih

variable [DecidableEq α]

/-- A read after a write to the same key gives the value written. -/
@[simp] theorem Table.get_put_self (d : α) (t : Table α) (i : Nat) (v : α) : Table.get d (Table.put d t i v) i = v := by
  by_cases h : v = d
  · simp [Table.put, h]
  · simp [Table.put, h, Table.get_insert_self d _ i v (Table.not_mem_erase t i)]

/-- A write leaves every other key alone. -/
theorem Table.get_put_ne (d : α) (t : Table α) {i j : Nat} (v : α) (h : j ≠ i) :
    Table.get d (Table.put d t i v) j = Table.get d t j := by
  by_cases hv : v = d
  · simp [Table.put, hv, Table.get_erase_ne d t h]
  · simp [Table.put, hv, Table.get_insert_ne d _ v h, Table.get_erase_ne d t h]

@[simp] theorem Table.get_modify_self (d : α) (t : Table α) (i : Nat) (f : α → α) :
    Table.get d (Table.modify d t i f) i = f (Table.get d t i) := by simp [Table.modify]

theorem Table.get_modify_ne (d : α) (t : Table α) {i j : Nat} (f : α → α) (h : j ≠ i) :
    Table.get d (Table.modify d t i f) j = Table.get d t j := by simp [Table.modify, Table.get_put_ne d t _ h]

theorem Table.wfAbove_mono {d : α} {t : Table α} {lo lo' : Nat} (h : lo' ≤ lo) (w : Table.wfAbove d lo t = true) :
    Table.wfAbove d lo' t = true := by
  cases t with
  | nil => rfl
  | cons x t =>
    simp only [Table.wfAbove, Bool.and_eq_true, decide_eq_true_eq] at w ⊢
    exact ⟨⟨by omega, w.1.2⟩, w.2⟩

theorem Table.wfAbove_erase {d : α} {t : Table α} {i lo : Nat} (w : Table.wfAbove d lo t = true) :
    Table.wfAbove d lo (Table.erase i t) = true := by
  induction t generalizing lo with
  | nil => rfl
  | cons x t ih =>
    obtain ⟨k, v⟩ := x
    simp only [Table.wfAbove, Bool.and_eq_true, decide_eq_true_eq] at w
    by_cases h : k = i
    · simp only [Table.erase, h, if_true]; exact ih (Table.wfAbove_mono (by omega) w.2)
    · simp only [Table.erase, h, if_false, Table.wfAbove, Bool.and_eq_true, decide_eq_true_eq]
      exact ⟨w.1, ih w.2⟩

theorem Table.wfAbove_insert {d v : α} {t : Table α} {i lo : Nat} (hv : v ≠ d) (hi : lo ≤ i)
    (w : Table.wfAbove d lo t = true) (h : ∀ x ∈ t, x.1 ≠ i) : Table.wfAbove d lo (Table.insertSorted i v t) = true := by
  induction t generalizing lo with
  | nil => simp [Table.insertSorted, Table.wfAbove, hi, hv]
  | cons x t ih =>
    obtain ⟨k, u⟩ := x
    simp only [Table.wfAbove, Bool.and_eq_true, decide_eq_true_eq] at w
    have hk : k ≠ i := h (k, u) (by simp)
    by_cases hl : i < k
    · simp only [Table.insertSorted, hl, if_true, Table.wfAbove, Bool.and_eq_true, decide_eq_true_eq]
      exact ⟨⟨hi, by simpa using hv⟩, ⟨⟨by omega, w.1.2⟩, w.2⟩⟩
    · simp only [Table.insertSorted, hl, if_false, Table.wfAbove, Bool.and_eq_true, decide_eq_true_eq]
      exact ⟨w.1, ih (by omega) w.2 fun x hx => h x (by simp [hx])⟩

/-- A write keeps the canonical form. -/
theorem Table.wf_put {d v : α} {t : Table α} {i : Nat} (w : Table.wf d t = true) : Table.wf d (Table.put d t i v) = true := by
  unfold Table.wf at *
  by_cases h : v = d
  · simp only [Table.put, h, if_true]; exact Table.wfAbove_erase w
  · simp only [Table.put, h, if_false]
    exact Table.wfAbove_insert h (Nat.zero_le _) (Table.wfAbove_erase w) (Table.not_mem_erase t i)

theorem Table.wf_modify {d : α} {t : Table α} {i : Nat} {f : α → α} (w : Table.wf d t = true) :
    Table.wf d (Table.modify d t i f) = true := Table.wf_put w

/-- Memory operations keep the canonical form. -/
theorem memWrite_wf {m : Table Byte} {pa n w : Nat} (h : Memory.wf m = true) : Memory.wf (memWrite m pa n w) = true := by
  induction n generalizing m pa w with
  | zero => exact h
  | succ n ih => exact ih (Table.wf_put h)

theorem fillMemory_wf {dram : Nat} {l : List (Nat × Byte)} {m : Table Byte} (h : Memory.wf m = true) :
    Memory.wf (fillMemory dram l m) = true := by
  induction l generalizing m with
  | nil => exact h
  | cons x l ih =>
    obtain ⟨off, b⟩ := x
    simp only [fillMemory]
    split
    · exact ih (Table.wf_put h)
    · exact ih h

theorem Io.writeByte_wf {io : Io} {pa : Nat} {b : Byte} (h : Memory.wf io.mem = true) :
    Memory.wf (io.writeByte pa b).mem = true := Table.wf_put h

theorem Io.writePhys_wf {io : Io} {pa n w : Nat} (h : Memory.wf io.mem = true) :
    Memory.wf (io.writePhys pa n w).mem = true := memWrite_wf h

/-- A byte written at a physical address is read there. -/
theorem Io.readByte_writeByte (io : Io) (pa : Nat) (b : Byte) : (io.writeByte pa b).readByte pa = b := by
  simp [Io.readByte, Io.writeByte]

/-- A byte written at a physical address leaves every other byte alone. -/
theorem Io.readByte_writeByte_ne (io : Io) {pa a : Nat} (b : Byte) (h : a ≠ pa) :
    (io.writeByte pa b).readByte a = io.readByte a := by
  simp [Io.readByte, Io.writeByte, Table.get_put_ne _ _ _ h]

end Sys2Proof.Machine
end

