-- ==== Sys2Proof/Laws/Memory.lean ====
section
/-! SUPPORT. Every operation of the bus keeps the canonical form of memory: translating, writing, posting records, raising vectors. -/

namespace Sys2Proof.Machine

/-- The memory behind the bus has its canonical form. -/
abbrev Io.Wf (io : Io) : Prop := Memory.wf io.mem = true

/-- What holds of a pair's bus holds of the bus that the pair is taken apart into. -/
theorem Io.wf_of_eq {α : Type} {x : Io × α} {io1 : Io} {a : α} (e : x = (io1, a)) (h : x.1.Wf) : io1.Wf := by
  subst e
  exact h

theorem Io.wf_setWindow {io : Io} {p : Nat} {w : Window} (h : io.Wf) : (io.setWindow p w).Wf := h

theorem Io.wf_mapWindow {io : Io} {p : Nat} {f : Window → Window} (h : io.Wf) : (io.mapWindow p f).Wf := h

theorem Io.wf_translate {io : Io} {p a : Nat} {w : Bool} (h : io.Wf) : (io.translate p a w).1.Wf := by
  unfold Io.translate
  dsimp only
  split
  · split
    · exact h
    · split <;> exact h
  · split
    · exact h
    · split
      · exact h
      · split <;> exact h

theorem Io.wf_translateAll {io : Io} {p : Nat} {w : Bool} (l : List (Nat × Nat × Nat)) (h : io.Wf) :
    (io.translateAll p w l).1.Wf := by
  induction l generalizing io with
  | nil => exact h
  | cons x rest ih =>
    obtain ⟨a, off, len⟩ := x
    have h1 := Io.wf_translate (p := p) (a := a) (w := w) h
    unfold Io.translateAll
    split
    · rename_i e; rw [e] at h1; exact h1
    · rename_i io1 pl e
      rw [e] at h1
      have h2 := ih h1
      split
      · rename_i e2; rw [e2] at h2; exact h2
      · rename_i e2; rw [e2] at h2; exact h2

theorem Io.wf_devRead {io : Io} {p a n : Nat} (h : io.Wf) : (io.devRead p a n).1.Wf := by
  have h1 := Io.wf_translateAll (p := p) (w := false) (pieces a n) h
  unfold Io.devRead
  split <;> (rename_i e; rw [e] at h1; exact h1)

theorem Io.wf_newEvent {io : Io} {e : Event} {l : List Nat} (h : io.Wf) : (io.newEvent e l).1.Wf := h

theorem Io.wf_reportFault {io : Io} {f : XFault} {p q r o : Nat} (h : io.Wf) : (io.reportFault f p q r o).1.Wf := h

theorem Io.wf_markDirty {io : Io} {p g : Nat} (h : io.Wf) : (io.markDirty p g).1.Wf := by
  unfold Io.markDirty
  dsimp only
  split
  · split
    · rename_i e; exact Io.writeByte_wf (Io.wf_of_eq e (Io.wf_translate h))
    · rename_i e; have h1 := Io.wf_of_eq e (Io.wf_translate h); exact h1
  · exact h

theorem Io.wf_appWatchHit {io : Io} {pa w : Nat} (l : List Nat) (h : io.Wf) : (io.appWatchHit pa w l).Wf := by
  induction l generalizing io with
  | nil => exact h
  | cons k rest ih => unfold Io.appWatchHit; apply ih; split <;> exact h

theorem Io.wf_safetyWatchHit {io : Io} {p a w : Nat} (l : List Nat) (h : io.Wf) : (io.safetyWatchHit p a w l).Wf := by
  induction l generalizing io with
  | nil => exact h
  | cons k rest ih => unfold Io.safetyWatchHit; apply ih; split <;> exact h

theorem Io.wf_scatter {io : Io} {p a n w : Nat} (l : List Piece) (h : io.Wf) : (io.scatter p a n w l).1.Wf := by
  induction l generalizing io with
  | nil => exact h
  | cons q rest ih =>
    unfold Io.scatter
    dsimp only
    apply ih
    apply Io.wf_markDirty
    split
    · exact Io.wf_safetyWatchHit _ (Io.wf_appWatchHit _ (Io.writePhys_wf h))
    · exact Io.writePhys_wf h

theorem Io.wf_devWrite {io : Io} {p a n w : Nat} (h : io.Wf) : (io.devWrite p a n w).1.Wf := by
  have h1 := Io.wf_translateAll (p := p) (w := true) (pieces a n) h
  unfold Io.devWrite
  split <;> (rename_i e; rw [e] at h1)
  · exact h1
  · exact Io.wf_scatter _ h1

theorem Io.wf_sendMessage {io : Io} {p v : Nat} (h : io.Wf) : (io.sendMessage p v).1.Wf := by
  unfold Io.sendMessage
  dsimp only
  split
  · rename_i e; exact Io.wf_of_eq e (Io.wf_devWrite h)
  · rename_i e
    have h1 := Io.wf_of_eq e (Io.wf_devWrite h)
    split <;> exact h1

theorem Io.wf_raiseVector {io : Io} {p v : Nat} (h : io.Wf) : (io.raiseVector p v).1.Wf := by
  unfold Io.raiseVector
  dsimp only
  split
  · exact h
  · exact Io.wf_sendMessage h

theorem Io.wf_writeEvent {io : Io} {p r : Nat} (h : io.Wf) : (io.writeEvent p r).1.Wf := by
  unfold Io.writeEvent
  dsimp only
  split <;> (rename_i e; have h1 := Io.wf_of_eq e (Io.wf_devWrite h); exact h1)

theorem Io.wf_postEvent {io : Io} {p r : Nat} (h : io.Wf) : (io.postEvent p r).1.Wf := by
  unfold Io.postEvent
  dsimp only
  split
  · exact Io.wf_writeEvent h
  · split <;> exact h

theorem Io.wf_runFuel (n : Nat) {ts : List Task} {io : Io} (h : io.Wf) : (Io.runFuel n ts io).Wf := by
  induction n generalizing ts io with
  | zero => exact h
  | succ n ih =>
    match ts with
    | [] => exact h
    | .post p r :: rest => exact ih (Io.wf_postEvent h)
    | .vector p v :: rest => exact ih (Io.wf_raiseVector h)

theorem Io.wf_runTasks {io : Io} {ts : List Task} (h : io.Wf) : (io.runTasks ts).Wf := Io.wf_runFuel _ h

theorem Io.wf_raise {io : Io} {e : Event} {l : List Nat} (h : io.Wf) : (io.raise e l).Wf := Io.wf_runTasks (Io.wf_newEvent h)

theorem Io.wf_raiseFault {io : Io} {f : XFault} {p q r o : Nat} (h : io.Wf) : (io.raiseFault f p q r o).Wf :=
  Io.wf_runTasks (Io.wf_reportFault h)

theorem Io.wf_vector {io : Io} {p v : Nat} (h : io.Wf) : (io.vector p v).Wf := Io.wf_runTasks h

theorem Io.wf_write {io : Io} {p a n w : Nat} (h : io.Wf) : (io.write p a n w).1.Wf := Io.wf_runTasks (Io.wf_devWrite h)

theorem Io.wf_countCompletion {io : Io} {p : Nat} (h : io.Wf) : (io.countCompletion p).1.Wf := by
  unfold Io.countCompletion
  dsimp only
  split <;> exact h

theorem Io.wf_writeCompletion {io : Io} {p r : Nat} (h : io.Wf) : (io.writeCompletion p r).Wf := by
  unfold Io.writeCompletion
  dsimp only
  split
  · rename_i e; have h1 := Io.wf_of_eq e (Io.wf_devWrite h); exact Io.wf_runTasks (Io.wf_countCompletion h1)
  · rename_i e; have h1 := Io.wf_of_eq e (Io.wf_devWrite h); exact Io.wf_raise (Io.wf_runTasks h1)

theorem Io.wf_postCompletion {io : Io} {p r : Nat} (h : io.Wf) : (io.postCompletion p r).Wf := by
  unfold Io.postCompletion
  split
  · exact Io.wf_writeCompletion h
  · exact h

theorem Io.wf_flushCompletions (n : Nat) {p : Nat} {io : Io} (h : io.Wf) : (Io.flushCompletions n p io).Wf := by
  induction n generalizing io with
  | zero => exact h
  | succ n ih =>
    unfold Io.flushCompletions
    split
    · exact h
    · split
      · exact ih (Io.wf_writeCompletion h)
      · exact h

theorem Io.wf_reportOverflow {io : Io} {p : Nat} (h : io.Wf) : (io.reportOverflow p).Wf := by
  unfold Io.reportOverflow
  dsimp only
  split
  · split
    · exact Io.wf_runTasks (Io.wf_writeEvent h)
    · exact h
  · exact h

theorem Io.wf_flushEvents (n : Nat) {p : Nat} {io : Io} (h : io.Wf) : (Io.flushEvents n p io).Wf := by
  induction n generalizing io with
  | zero => exact h
  | succ n ih =>
    unfold Io.flushEvents
    split
    · exact h
    · split
      · exact ih (Io.wf_runTasks (Io.wf_writeEvent h))
      · exact h

theorem Io.wf_bootReports {io : Io} {p : Nat} (h : io.Wf) : (io.bootReports p).Wf := by
  unfold Io.bootReports
  dsimp only
  split
  · suffices k : ∀ (l : List Nat) (a : Io), a.Wf → (l.foldl (fun io1 record => io1.runTasks [.post p record]) a).Wf from k _ _ h
    intro l
    induction l with
    | nil => exact fun _ ha => ha
    | cons x l ih => exact fun a ha => ih _ (Io.wf_runTasks ha)
  · exact h

theorem Io.wf_eventSpace {io : Io} {p : Nat} (h : io.Wf) : (io.eventSpace p).Wf :=
  Io.wf_flushEvents _ (Io.wf_reportOverflow (Io.wf_bootReports h))

end Sys2Proof.Machine
end

