-- ==== Sys2Proof/Laws/Kept.lean ====
section
/-! SUPPORT. `Kept s t`: what no operation of the device but the end of a life-cycle change can undo. Every operation on the state has one
lemma here or in a file beside it, in a form that chains: from `Kept s t` follows `Kept s (t.operation …)`. -/

namespace Sys2Proof.Machine

open Sys2Proof.Safety

/-- From `s` to `t` the queue is the same, memory keeps its canonical form and the parts their number, no reef level or derating step falls,
and the life cycle stands. -/
structure Kept (s t : State) : Prop where
  queue  : t.pending = s.pending
  memory : s.io.Wf → t.io.Wf
  shape  : Shaped s → Shaped t
  level  : ∀ d, (s.domainOf d).level ≤ (t.domainOf d).level
  step   : ∀ n, (s.reefOf n).step ≤ (t.reefOf n).step
  life   : t.lifecycle = s.lifecycle

theorem Kept.refl (s : State) : Kept s s := ⟨rfl, id, id, fun _ => Nat.le_refl _, fun _ => Nat.le_refl _, rfl⟩

theorem Kept.trans {a b c : State} (h : Kept a b) (k : Kept b c) : Kept a c :=
  ⟨k.queue.trans h.queue, k.memory ∘ h.memory, k.shape ∘ h.shape, fun d => Nat.le_trans (h.level d) (k.level d),
    fun n => Nat.le_trans (h.step n) (k.step n), k.life.trans h.life⟩

/-- A change of other parts of the state. -/
theorem Kept.upd {s0 s t : State} (h : Kept s0 s) (q : t.pending = s.pending) (m : s.io.Wf → t.io.Wf) (c : t.load.channels = s.load.channels)
    (e : t.sense = s.sense) (d : t.health.domains = s.health.domains) (n : t.health.channels = s.health.channels)
    (l : t.keys.otp.lifecycle = s.keys.otp.lifecycle) : Kept s0 t :=
  h.trans ⟨q, m, fun x => by unfold Shaped at *; rw [c, e]; exact x, fun x => Nat.le_of_eq (by unfold State.domainOf; rw [d]),
    fun x => Nat.le_of_eq (by unfold State.reefOf; rw [n]), l⟩

/-- A change that keeps the parts in number. -/
theorem Kept.shaped {s0 s t : State} (h : Kept s0 s) (q : t.pending = s.pending) (m : s.io.Wf → t.io.Wf) (c : Shaped s → Shaped t)
    (d : t.health.domains = s.health.domains) (n : t.health.channels = s.health.channels)
    (l : t.keys.otp.lifecycle = s.keys.otp.lifecycle) : Kept s0 t :=
  h.trans ⟨q, m, c, fun x => Nat.le_of_eq (by unfold State.domainOf; rw [d]),
    fun x => Nat.le_of_eq (by unfold State.reefOf; rw [n]), l⟩

/-- A change of other parts of the state, written as a record. -/
theorem Kept.record {s0 s : State} {pending : List Instr} {io : Io} {time : TimeState} {flow : FlowTables} {sw : SwitchState} {eth : Table
    EthPort} {dma : Table DmaQueue} {capsules : List CapsuleOp} {can : CanTables} {lin : Table LinChannel} {ports
    : Table LocalPort} {load : LoadTables} {supply : SupplyState} {sense : SenseState} {sleep : SleepState} {cpu :
    CpuState} {keys : KeyState} {cipher : CipherState} {fair : FairState} {health : HealthState} {boot :
    BootState} {owners : Table Nat}
    (q : pending = s.pending) (h : Kept s0 s) (m : s.io.Wf → io.Wf) (c : load.channels.length = s.load.channels.length)
    (e1 : sense.inputs.length = s.sense.inputs.length) (e2 : sense.converters.length = s.sense.converters.length)
    (e3 : sense.supplies.length = s.sense.supplies.length) (d : health.domains = s.health.domains)
    (n : health.channels = s.health.channels) (l : keys.otp.lifecycle = s.keys.otp.lifecycle) :
    Kept s0 { pending := pending, io := io, time := time, flow := flow, sw := sw, eth := eth, dma := dma,
              capsules := capsules, can := can, lin := lin, ports := ports, load := load, supply := supply,
              sense := sense, sleep := sleep, cpu := cpu, keys := keys, cipher := cipher, fair := fair,
              health := health, boot := boot, owners := owners } :=
  Kept.shaped h q m (fun x => by unfold Shaped at *; rw [c, e1, e2, e3]; exact x) d n l

/-- What keeps a command's answer: its state, and what follows its completion. -/
def Answer.Kept (s0 : State) : Answer → Prop
  | .refuse _ _ => True
  | .finish _ _ s after => Machine.Kept s0 s ∧ ∀ t, Machine.Kept s0 t → Machine.Kept s0 (after t)
  | .fault _ s => Machine.Kept s0 s
  | .wait s => Machine.Kept s0 s

/-- A command that keeps what every command keeps. -/
def Command.Keeps (c : Command) : Prop := ∀ (r : Request) (s0 s : State), Machine.Kept s0 s → (c.run r s).Kept s0

theorem Answer.kept_no {s0 : State} {st : Status} : (Answer.no st).Kept s0 := trivial

theorem Answer.kept_refuse {s0 : State} {st : Status} {n : Nat} : (Answer.refuse st n).Kept s0 := trivial

theorem Answer.kept_done {s0 s : State} {n : Nat} (h : Machine.Kept s0 s) : (Answer.done n s).Kept s0 := ⟨h, fun _ k => k⟩

theorem Answer.kept_accepted {s0 s : State} {n : Nat} (h : Machine.Kept s0 s) : (Answer.accepted n s).Kept s0 := ⟨h, fun _ k => k⟩

theorem Answer.kept_finish {s0 s : State} {st : Status} {n : Nat} {after : State → State} (h : Machine.Kept s0 s)
    (k : ∀ t, Machine.Kept s0 t → Machine.Kept s0 (after t)) : (Answer.finish st n s after).Kept s0 := ⟨h, k⟩

theorem Answer.kept_fault {s0 s : State} {f : XFault} (h : Machine.Kept s0 s) : (Answer.fault f s).Kept s0 := h

theorem Answer.kept_wait {s0 s : State} (h : Machine.Kept s0 s) : (Answer.wait s).Kept s0 := h

/-- A pair that is taken apart. -/
theorem Kept.fst {α : Type} {s0 s1 : State} {x : State × α} {a : α} (e : x = (s1, a)) (h : Kept s0 x.1) : Kept s0 s1 := by
  subst e
  exact h

theorem Kept.snd {α : Type} {s0 s1 : State} {x : α × State} {a : α} (e : x = (a, s1)) (h : Kept s0 x.2) : Kept s0 s1 := by
  subst e
  exact h

theorem Kept.fold {α : Type} {s0 s : State} {f : State → α → State} (l : List α) (hf : ∀ t x, Kept s0 t → Kept s0 (f t x)) (h : Kept s0 s) :
    Kept s0 (l.foldl f s) := by
  induction l generalizing s with
  | nil => exact h
  | cons x l ih => exact ih (hf s x h)

theorem State.kept_each {α : Type} {s0 s : State} {f : State → α → State} {l : List α} (h : Kept s0 s)
    (hf : ∀ t x, Kept s0 t → Kept s0 (f t x)) : Kept s0 (s.each l f) := Kept.fold l hf h

/-- A table's entry after a change of one that lowers none. -/
theorem Table.le_modify {α : Type} [DecidableEq α] {d : α} {m : α → Nat} {t : Table α} {k : Nat} {f : α → α} (hf : ∀ x, m x ≤ m (f x)) (n : Nat) :
    m (Table.get d t n) ≤ m (Table.get d (Table.modify d t k f) n) := by
  by_cases e : n = k
  · rw [e, Table.get_modify_self]
    exact hf _
  · exact Nat.le_of_eq (by rw [Table.get_modify_ne d t f e])

theorem Table.le_fold {α : Type} [DecidableEq α] {d : α} {m : α → Nat} {β : Type} {g : β → Nat} {f : β → α → α} (hf : ∀ y x, m x ≤ m (f y x))
    (l : List β) (t : Table α) (n : Nat) :
    m (Table.get d t n) ≤ m (Table.get d (l.foldl (fun u y => Table.modify d u (g y) (f y)) t) n) := by
  induction l generalizing t with
  | nil => exact Nat.le_refl _
  | cons y l ih => exact Nat.le_trans (Table.le_modify (hf y) n) (ih _)

/-- A change of the ageing record that lowers no level and no step. -/
theorem Kept.aged {s0 s t : State} (h : Kept s0 s) (q : t.pending = s.pending) (m : s.io.Wf → t.io.Wf) (c : Shaped s → Shaped t)
    (d : ∀ i, (s.domainOf i).level ≤ (t.domainOf i).level) (n : ∀ i, (s.reefOf i).step ≤ (t.reefOf i).step)
    (l : t.lifecycle = s.lifecycle) : Kept s0 t := h.trans ⟨q, m, c, d, n, l⟩

theorem setAt_length {α : Type} (l : List α) (n : Nat) (v : α) : (setAt l n v).length = l.length := by
  induction l generalizing n with
  | nil => rfl
  | cons x l ih => cases n <;> simp [setAt, ih]

theorem State.kept_mapLoad {s0 s : State} {n : Nat} {f : LoadChannel → LoadChannel} (h : Kept s0 s) : Kept s0 (s.mapLoad n f) :=
  Kept.shaped h rfl id (fun x => by unfold Shaped at *; simp only [State.mapLoad, setAt_length]; exact x) rfl rfl rfl

theorem State.kept_mapSense {s0 s : State} {n : Nat} {f : SenseInput → SenseInput} (h : Kept s0 s) : Kept s0 (s.mapSense n f) :=
  Kept.shaped h rfl id (fun x => by unfold Shaped at *; simp only [State.mapSense, setAt_length]; exact x) rfl rfl rfl

theorem State.kept_mapSensor {s0 s : State} {n : Nat} {f : SensorSupply → SensorSupply} (h : Kept s0 s) : Kept s0 (s.mapSensor n f) :=
  Kept.shaped h rfl id (fun x => by unfold Shaped at *; simp only [State.mapSensor, setAt_length]; exact x) rfl rfl rfl

theorem State.kept_mapConv {s0 s : State} {n : Nat} {f : Converter → Converter} (h : Kept s0 s) : Kept s0 (s.mapConv n f) :=
  Kept.shaped h rfl id (fun x => by unfold Shaped at *; simp only [State.mapConv, setAt_length]; exact x) rfl rfl rfl

theorem State.kept_raise {s0 s : State} {e : Event} {l : List Nat} (h : Kept s0 s) : Kept s0 (s.raise e l) :=
  Kept.upd h rfl (fun w => Io.wf_raise w) rfl rfl rfl rfl rfl

theorem State.kept_vector {s0 s : State} {p v : Nat} (h : Kept s0 s) : Kept s0 (s.vector p v) :=
  Kept.upd h rfl (fun w => Io.wf_vector w) rfl rfl rfl rfl rfl

theorem State.kept_raiseFault {s0 s : State} {f : XFault} {p q r o : Nat} (h : Kept s0 s) : Kept s0 (s.raiseFault f p q r o) :=
  Kept.upd h rfl (fun w => Io.wf_raiseFault w) rfl rfl rfl rfl rfl

theorem State.kept_read {s0 s : State} {p a n : Nat} (h : Kept s0 s) : Kept s0 (s.read p a n).1 :=
  Kept.upd h rfl (fun w => Io.wf_devRead w) rfl rfl rfl rfl rfl

theorem State.kept_write {s0 s : State} {p a n w : Nat} (h : Kept s0 s) : Kept s0 (s.write p a n w).1 :=
  Kept.upd h rfl (fun x => Io.wf_write x) rfl rfl rfl rfl rfl

end Sys2Proof.Machine
end

