-- ==== Sys2Proof/Laws/KeptOps.lean ====
section
/-! SUPPORT. `Kept` over the outputs, the completions and the events: one lemma for each operation. -/

namespace Sys2Proof.Machine

theorem State.kept_raiseAll {s0 s : State} {e : Event} (h : Kept s0 s) : Kept s0 (s.raiseAll e) := by
  unfold State.raiseAll
  repeat' first
    | with_reducible assumption
    | (with_reducible apply State.kept_raise)

theorem State.kept_draw {s0 s : State} (h : Kept s0 s) : Kept s0 s.draw.2 :=
  Kept.upd h rfl (fun w => w) rfl rfl rfl rfl rfl

theorem State.kept_choose {s0 s : State} (h : Kept s0 s) : Kept s0 s.choose.2 :=
  Kept.upd h rfl (fun w => w) rfl rfl rfl rfl rfl

theorem State.kept_setOwner {s0 s : State} {kind n p : Nat} (h : Kept s0 s) : Kept s0 (s.setOwner kind n p) :=
  Kept.upd h rfl (fun w => w) rfl rfl rfl rfl rfl

theorem State.kept_mapUnit {s0 s : State} {u : Nat} {f : UnitHealth → UnitHealth} (h : Kept s0 s) : Kept s0 (s.mapUnit u f) :=
  Kept.upd h rfl (fun w => w) rfl rfl rfl rfl rfl

theorem State.kept_mapFlow {s0 s : State} {f : Nat} {g : Flow → Flow} (h : Kept s0 s) : Kept s0 (s.mapFlow f g) :=
  Kept.upd h rfl (fun w => w) rfl rfl rfl rfl rfl

theorem State.kept_mapQueue {s0 s : State} {q : Nat} {g : DmaQueue → DmaQueue} (h : Kept s0 s) : Kept s0 (s.mapQueue q g) :=
  Kept.upd h rfl (fun w => w) rfl rfl rfl rfl rfl

theorem State.kept_mapSlot {s0 s : State} {k : Nat} {g : KeySlot → KeySlot} (h : Kept s0 s) : Kept s0 (s.mapSlot k g) :=
  Kept.upd h rfl (fun w => w) rfl rfl rfl rfl rfl

theorem State.kept_mapCan {s0 s : State} {c : Nat} {g : CanChannel → CanChannel} (h : Kept s0 s) : Kept s0 (s.mapCan c g) :=
  Kept.upd h rfl (fun w => w) rfl rfl rfl rfl rfl

theorem State.kept_mapObj {s0 s : State} {o : Nat} {g : CanObject → CanObject} (h : Kept s0 s) : Kept s0 (s.mapObj o g) :=
  Kept.upd h rfl (fun w => w) rfl rfl rfl rfl rfl

theorem State.kept_mapLin {s0 s : State} {c : Nat} {g : LinChannel → LinChannel} (h : Kept s0 s) : Kept s0 (s.mapLin c g) :=
  Kept.upd h rfl (fun w => w) rfl rfl rfl rfl rfl

theorem State.kept_mapPort {s0 s : State} {i : Nat} {g : LocalPort → LocalPort} (h : Kept s0 s) : Kept s0 (s.mapPort i g) :=
  Kept.upd h rfl (fun w => w) rfl rfl rfl rfl rfl

theorem State.kept_mapWake {s0 s : State} {w : Nat} {g : WakeSource → WakeSource} (h : Kept s0 s) : Kept s0 (s.mapWake w g) :=
  Kept.upd h rfl (fun w => w) rfl rfl rfl rfl rfl

theorem State.kept_mapEth {s0 s : State} {p : Nat} {g : EthPort → EthPort} (h : Kept s0 s) : Kept s0 (s.mapEth p g) :=
  Kept.upd h rfl (fun w => w) rfl rfl rfl rfl rfl

theorem State.kept_mapSw {s0 s : State} {p : Nat} {g : SwPort → SwPort} (h : Kept s0 s) : Kept s0 (s.mapSw p g) :=
  Kept.upd h rfl (fun w => w) rfl rfl rfl rfl rfl

theorem State.kept_mapAccount {s0 s : State} {a : Nat} {g : Account → Account} (h : Kept s0 s) : Kept s0 (s.mapAccount a g) :=
  Kept.upd h rfl (fun w => w) rfl rfl rfl rfl rfl

theorem State.kept_mapEndpoint {s0 s : State} {e : Nat} {g : Endpoint → Endpoint} (h : Kept s0 s) : Kept s0 (s.mapEndpoint e g) :=
  Kept.upd h rfl (fun w => w) rfl rfl rfl rfl rfl

theorem State.kept_mapFilter {s0 s : State} {f : Nat} {g : Filter → Filter} (h : Kept s0 s) : Kept s0 (s.mapFilter f g) :=
  Kept.upd h rfl (fun w => w) rfl rfl rfl rfl rfl

theorem State.kept_mapCvu {s0 s : State} {c : Nat} {g : Cvu → Cvu} (h : Kept s0 s) : Kept s0 (s.mapCvu c g) :=
  Kept.upd h rfl (fun w => w) rfl rfl rfl rfl rfl

theorem State.kept_mapCore {s0 s : State} {c : Nat} {g : SafetyCore → SafetyCore} (h : Kept s0 s) : Kept s0 (s.mapCore c g) :=
  Kept.upd h rfl (fun w => w) rfl rfl rfl rfl rfl

theorem State.kept_mapFairWindow {s0 s : State} {w : Nat} {g : FairWindow → FairWindow} (h : Kept s0 s) : Kept s0 (s.mapFairWindow w g) :=
  Kept.upd h rfl (fun w => w) rfl rfl rfl rfl rfl

theorem State.kept_tick {s0 s : State} (h : Kept s0 s) : Kept s0 s.tick :=
  Kept.upd h rfl (fun w => w) rfl rfl rfl rfl rfl

theorem State.kept_opEnd {s0 s : State} {opcode : Nat} {st : Status} (h : Kept s0 s) : Kept s0 (s.opEnd opcode st) := by
  unfold State.opEnd
  repeat' first
    | with_reducible assumption
    | (refine Kept.record rfl ?_ (fun w => w) rfl rfl rfl rfl rfl rfl rfl; with_reducible assumption)
    | split

theorem State.kept_zeroFill {s0 s : State} {p iova n : Nat} (h : Kept s0 s) : Kept s0 (s.zeroFill p iova n) := by
  unfold State.zeroFill
  repeat' first
    | with_reducible assumption
    | (with_reducible first | apply State.kept_each | apply State.kept_write)
    | (intro _ _ _)

theorem State.kept_mapFeed {s0 s : State} {f : Nat} {g : Feed → Feed} (h : Kept s0 s) : Kept s0 (s.mapFeed f g) :=
  Kept.upd h rfl (fun w => w) rfl rfl rfl rfl rfl

theorem State.kept_setFlags {s0 s : State} {n mask : Nat} (h : Kept s0 s) : Kept s0 (s.setFlags n mask) := by
  unfold State.setFlags
  dsimp only
  repeat' first
    | with_reducible assumption
    | (with_reducible first | apply State.kept_mapLoad | apply State.kept_vector)
    | split

theorem State.kept_beginPeriod {s0 s : State} {n : Nat} (h : Kept s0 s) : Kept s0 (s.beginPeriod n) := by
  unfold State.beginPeriod
  repeat' first
    | with_reducible assumption
    | (with_reducible apply State.kept_mapLoad)

theorem State.kept_driveLead {s0 s : State} {e : Nat} (h : Kept s0 s) : Kept s0 (s.driveLead e) := by
  unfold State.driveLead
  dsimp only
  repeat' first
    | with_reducible assumption
    | (with_reducible first | apply State.kept_beginPeriod | apply State.kept_mapLoad)
    | split

theorem State.kept_mirror {s0 s : State} {n : Nat} (h : Kept s0 s) : Kept s0 (s.mirror n) := by
  unfold State.mirror
  dsimp only
  repeat' first
    | with_reducible assumption
    | (with_reducible first | apply State.kept_each | apply State.kept_mapLoad | apply State.kept_setFlags)
    | split
    | (intro _ _ _)

theorem State.kept_redrive {s0 s : State} {n : Nat} (h : Kept s0 s) : Kept s0 (s.redrive n) := by
  unfold State.redrive
  repeat' first
    | with_reducible assumption
    | (with_reducible first | apply State.kept_driveLead | apply State.kept_mirror)

theorem State.kept_redriveAll {s0 s : State} (h : Kept s0 s) : Kept s0 s.redriveAll := by
  unfold State.redriveAll
  repeat' first
    | with_reducible assumption
    | (with_reducible first | apply State.kept_each | apply State.kept_redrive)

theorem State.kept_startPeriod {s0 s : State} {n : Nat} (h : Kept s0 s) : Kept s0 (s.startPeriod n) := by
  unfold State.startPeriod
  repeat' first
    | with_reducible assumption
    | (with_reducible first | apply State.kept_beginPeriod | apply State.kept_mapLoad | apply State.kept_mirror)
    | split

theorem State.kept_clearLatch {s0 s : State} {n : Nat} (h : Kept s0 s) : Kept s0 (s.clearLatch n) := by
  unfold State.clearLatch
  repeat' first
    | with_reducible assumption
    | (with_reducible first | apply State.kept_each | apply State.kept_mapLoad)
    | (intro _ _ _)

theorem State.kept_diagDone {s0 s : State} {n kind : Nat} {st : Status} {bits ua ron vout : Nat}
    (h : Kept s0 s) : Kept s0 (s.diagDone n kind st bits ua ron vout) := by
  unfold State.diagDone
  repeat' first
    | with_reducible assumption
    | (with_reducible first | apply State.kept_opEnd | apply State.kept_raise)

theorem State.kept_endDiag {s0 s : State} {n : Nat} {st : Status} (h : Kept s0 s) : Kept s0 (s.endDiag n st) := by
  unfold State.endDiag
  repeat' first
    | with_reducible assumption
    | (with_reducible first | apply State.kept_diagDone | apply State.kept_mapLoad)
    | split

theorem State.kept_loadItem {s0 s : State} {n v : Nat} (h : Kept s0 s) : Kept s0 (s.loadItem n v) := by
  unfold State.loadItem
  repeat' first
    | with_reducible assumption
    | (with_reducible first | apply State.kept_clearLatch | apply State.kept_each | apply State.kept_endDiag)
    | (with_reducible first | apply State.kept_mapLoad | apply State.kept_redrive)
    | split
    | (intro _ _ _)

theorem State.kept_reportTrip {s0 s : State} {n cause : Nat} (h : Kept s0 s) : Kept s0 (s.reportTrip n cause) := by
  unfold State.reportTrip
  dsimp only
  repeat' first
    | with_reducible assumption
    | (with_reducible first | apply State.kept_mapLoad | apply State.kept_raise)
    | split

theorem State.kept_trip {s0 s : State} {n cause : Nat} (h : Kept s0 s) : Kept s0 (s.trip n cause) := by
  unfold State.trip
  repeat' first
    | with_reducible assumption
    | (with_reducible first | apply State.kept_each | apply State.kept_mapLoad | apply State.kept_redrive)
    | (with_reducible first | apply State.kept_reportTrip | apply State.kept_setFlags)
    | (intro _ _ _)

theorem State.kept_restart {s0 s : State} {n : Nat} (h : Kept s0 s) : Kept s0 (s.restart n) := by
  unfold State.restart
  repeat' first
    | with_reducible assumption
    | (with_reducible first | apply State.kept_each | apply State.kept_mapLoad | apply State.kept_redrive)
    | (intro _ _ _)

theorem State.kept_applyEntry {s0 s : State} {n : Nat} (h : Kept s0 s) : Kept s0 (s.applyEntry n) := by
  unfold State.applyEntry
  repeat' first
    | with_reducible assumption
    | (with_reducible first | apply State.kept_each | apply State.kept_mapLoad | apply State.kept_redrive)
    | (intro _ _ _)

theorem State.kept_applyAllEntries {s0 s : State} (h : Kept s0 s) : Kept s0 s.applyAllEntries := by
  unfold State.applyAllEntries
  repeat' first
    | with_reducible assumption
    | (with_reducible first | apply State.kept_applyEntry | apply State.kept_each)

theorem State.kept_turnAllOff {s0 s : State} (h : Kept s0 s) : Kept s0 s.turnAllOff := by
  unfold State.turnAllOff
  repeat' first
    | with_reducible assumption
    | (with_reducible apply State.kept_redriveAll)
    | (refine Kept.record rfl ?_ (fun w => w) rfl rfl rfl rfl rfl rfl rfl;
       first
         | with_reducible assumption
         | (with_reducible apply State.kept_redriveAll))

theorem State.kept_openHold {s0 s : State} (h : Kept s0 s) : Kept s0 s.openHold := by
  unfold State.openHold
  repeat' first
    | with_reducible assumption
    | (with_reducible first | apply State.kept_each | apply State.kept_mapLoad)
    | (refine Kept.record rfl ?_ (fun w => w) rfl rfl rfl rfl rfl rfl rfl;
       first
         | with_reducible assumption
         | (with_reducible first | apply State.kept_each | apply State.kept_mapLoad))
    | split
    | (intro _ _ _)

theorem State.kept_complete {s0 s : State} {r : Request} {opcode : Nat} {st : Status} {results : Nat} (h : Kept s0 s) :
    Kept s0 (s.complete r opcode st results) := by
  unfold State.complete
  split
  · exact h
  · exact Kept.upd h rfl (fun w => Io.wf_postCompletion w) rfl rfl rfl rfl rfl

theorem State.kept_hold {s0 s : State} {r : Request} {opcode : Nat} (h : Kept s0 s) : Kept s0 (s.hold r opcode) :=
  Kept.upd h rfl (fun w => w) rfl rfl rfl rfl rfl

theorem Command.kept_spent {s0 s : State} {c : Command} {r : Request} (h : Kept s0 s) : Kept s0 (Command.spent c r s) := by
  unfold Command.spent
  repeat' first
    | with_reducible assumption
    | (fail)
    | (refine Kept.record rfl ?_ (fun w => w) rfl rfl rfl rfl rfl rfl rfl; with_reducible assumption)
    | split

theorem Command.kept_finish {c : Command} {s0 s : State} {r : Request} {a : Answer} (h : Kept s0 s) (k : a.Kept s0) :
    Kept s0 (c.finish r s a).state := by
  cases a with
  | refuse st n => exact State.kept_complete h
  | finish st n t after => exact k.2 _ (State.kept_complete k.1)
  | fault f t => exact State.kept_complete (State.kept_raiseFault k)
  | wait t => exact State.kept_hold k

theorem Command.kept_exec {c : Command} (keeps : c.Keeps) {s0 s : State} {r : Request} (h : Kept s0 s) : Kept s0 (c.exec r s).state := by
  unfold Command.exec
  refine Command.kept_spent ?_
  split
  · exact Command.kept_finish h trivial
  · exact Command.kept_finish h (keeps r s0 s h)

theorem Command.kept_step {c : Command} (keeps : c.Keeps) {s0 s t : State} {r : Request} (h : Kept s0 s) (e : c.step r s = .next t) :
    Kept s0 t := by
  unfold Command.step at e
  split at e
  · cases e
    exact Command.kept_exec keeps h
  · cases e
    exact h

theorem kept_cmdDeviceIdentify {s0 s : State} {r : Request} (h : Kept s0 s) : (cmdDeviceIdentify.run r s).Kept s0 := by
  unfold cmdDeviceIdentify
  repeat' first
    | with_reducible assumption
    | (with_reducible apply Answer.kept_done)

theorem State.kept_commit {s0 s : State} {p : Nat} (h : Kept s0 s) : Kept s0 (s.commit p) :=
  Kept.upd h rfl (fun w => w) rfl rfl rfl rfl rfl

theorem kept_cmdDeviceFeaturesCommit {s0 s : State} {r : Request} (h : Kept s0 s) : (cmdDeviceFeaturesCommit.run r s).Kept s0 := by
  unfold cmdDeviceFeaturesCommit
  repeat' first
    | with_reducible assumption
    | (with_reducible first | apply Answer.kept_done | apply State.kept_commit)

theorem kept_cmdDeviceNop {s0 s : State} {r : Request} (h : Kept s0 s) : (cmdDeviceNop.run r s).Kept s0 := by
  unfold cmdDeviceNop
  repeat' first
    | with_reducible assumption
    | (with_reducible apply Answer.kept_done)

theorem State.kept_fillBucket {s0 s : State} {id : Nat} (h : Kept s0 s) : Kept s0 (s.fillBucket id) :=
  Kept.upd h rfl (fun w => w) rfl rfl rfl rfl rfl

theorem State.kept_takeTokens {s0 s : State} {ids : List Nat} {size : Nat} (h : Kept s0 s) : Kept s0 (s.takeTokens ids size) := by
  unfold State.takeTokens
  repeat' first
    | with_reducible assumption
    | (with_reducible apply State.kept_each)
    | (refine Kept.record rfl ?_ (fun w => w) rfl rfl rfl rfl rfl rfl rfl;
       first
         | with_reducible assumption
         | (with_reducible apply State.kept_each))
    | (intro _ _ _)

theorem State.kept_reportEnvelope {s0 s : State} {id : Nat} (h : Kept s0 s) : Kept s0 (s.reportEnvelope id) := by
  unfold State.reportEnvelope
  dsimp only
  repeat' first
    | with_reducible assumption
    | (with_reducible first | apply State.kept_mapFlow | apply State.kept_raise)
    | split

theorem State.kept_countDelayed {s0 s : State} {ids : List Nat} (h : Kept s0 s) : Kept s0 (s.countDelayed ids) := by
  unfold State.countDelayed
  repeat' first
    | with_reducible assumption
    | (with_reducible first | apply State.kept_each | apply State.kept_mapFlow | apply State.kept_reportEnvelope)
    | (intro _ _ _)

theorem State.kept_countDropped {s0 s : State} {ids : List Nat} {oversize : Bool}
    (h : Kept s0 s) : Kept s0 (s.countDropped ids oversize) := by
  unfold State.countDropped
  repeat' first
    | with_reducible assumption
    | (with_reducible first | apply State.kept_each | apply State.kept_mapFlow | apply State.kept_reportEnvelope)
    | (intro _ _ _)

theorem State.kept_recompute {s0 s : State} (h : Kept s0 s) : Kept s0 s.recompute := by
  unfold State.recompute
  repeat' first
    | with_reducible assumption
    | (with_reducible first | apply State.kept_each | apply State.kept_mapFlow)
    | (intro _ _ _)

theorem State.kept_revokeOne {s0 s : State} {id unit cause time : Nat} (h : Kept s0 s) : Kept s0 (s.revokeOne id unit cause time) := by
  unfold State.revokeOne
  repeat' first
    | with_reducible assumption
    | (with_reducible first | apply State.kept_mapFlow | apply State.kept_raise)

theorem State.kept_revokeList {s0 s : State} {ids : List Nat} {unit cause time : Nat}
    (h : Kept s0 s) : Kept s0 (s.revokeList ids unit cause time) := by
  unfold State.revokeList
  repeat' first
    | with_reducible assumption
    | (with_reducible first | apply State.kept_each | apply State.kept_recompute | apply State.kept_revokeOne)
    | (intro _ _ _)

theorem State.kept_owe {s0 s : State} {unit cause : Nat} {flows : List Nat} (h : Kept s0 s) : Kept s0 (s.owe unit cause flows) :=
  Kept.upd h rfl (fun w => w) rfl rfl rfl rfl rfl

theorem State.kept_settleOwed {s0 s : State} (h : Kept s0 s) : Kept s0 s.settleOwed := by
  unfold State.settleOwed
  repeat' first
    | with_reducible assumption
    | (with_reducible first | apply State.kept_each | apply State.kept_recompute | apply State.kept_revokeOne)
    | (refine Kept.record rfl ?_ (fun w => w) rfl rfl rfl rfl rfl rfl rfl;
       first
         | with_reducible assumption
         | (with_reducible first | apply State.kept_each | apply State.kept_recompute | apply State.kept_revokeOne))
    | (intro _ _ _)

theorem State.kept_contractExceeded {s0 s : State} {m measure value finish : Nat}
    (h : Kept s0 s) : Kept s0 (s.contractExceeded m measure value finish) := by
  unfold State.contractExceeded
  repeat' first
    | with_reducible assumption
    | (with_reducible apply State.kept_raise)

theorem State.kept_unblock {s0 s : State} {r : Request} (h : Kept s0 s) : Kept s0 (s.unblock r) := by
  unfold State.unblock
  dsimp only
  repeat' first
    | with_reducible assumption
    | (fail)
    | (refine Kept.record rfl ?_ (fun w => w) rfl rfl rfl rfl rfl rfl rfl; with_reducible assumption)
    | split

theorem State.kept_freeFlow {s0 s : State} {id : Nat} (h : Kept s0 s) : Kept s0 (s.freeFlow id) := by
  unfold State.freeFlow
  dsimp only
  repeat' first
    | with_reducible assumption
    | (with_reducible apply State.kept_mapFlow)
    | (refine Kept.record rfl ?_ (fun w => w) rfl rfl rfl rfl rfl rfl rfl;
       first
         | with_reducible assumption
         | (with_reducible apply State.kept_mapFlow))
    | split

end Sys2Proof.Machine
end

