-- ==== Sys2Proof/Laws/KeptKeys.lean ====
section
/-! SUPPORT. `Kept` over the key store, the resets, the banks, the bridge and the wake sources: one lemma for each operation. -/

namespace Sys2Proof.Machine

theorem State.kept_drbg {s0 s : State} {bits : Nat} (h : Kept s0 s) : Kept s0 (s.drbg bits).2 :=
  Kept.upd h rfl (fun w => w) rfl rfl rfl rfl rfl

theorem State.kept_raiseOrHold {s0 s : State} {hold : Bool} {e : Event} {targets : List Nat}
    (h : Kept s0 s) : Kept s0 (s.raiseOrHold hold e targets) := by
  unfold State.raiseOrHold
  repeat' first
    | with_reducible assumption
    | (with_reducible first | apply State.kept_hold | apply State.kept_raise)
    | (refine Kept.record rfl ?_ (fun w => w) rfl rfl rfl rfl rfl rfl rfl;
       first
         | with_reducible assumption
         | (with_reducible first | apply State.kept_hold | apply State.kept_raise))
    | split

theorem State.kept_keyInvalid {s0 s : State} {slot cause : Nat} {hold : Bool} (h : Kept s0 s) : Kept s0 (s.keyInvalid slot cause hold) := by
  unfold State.keyInvalid
  repeat' first
    | with_reducible assumption
    | (with_reducible first | apply State.kept_hold | apply State.kept_raiseOrHold)

theorem State.kept_clearSas {s0 s : State} {pick : Nat → Bool} (h : Kept s0 s) : Kept s0 (s.clearSas pick) :=
  Kept.upd h rfl (fun w => w) rfl rfl rfl rfl rfl

theorem State.kept_drawCounter {s0 s : State} {slot : Nat} (h : Kept s0 s) : Kept s0 (s.drawCounter slot).2 :=
  Kept.upd h rfl (fun w => w) rfl rfl rfl rfl rfl

theorem State.kept_raiseMark {s0 s : State} {slot : Nat} (h : Kept s0 s) : Kept s0 (s.raiseMark slot) := by
  unfold State.raiseMark
  dsimp only
  repeat' first
    | with_reducible assumption
    | (with_reducible apply State.kept_mapSlot)
    | split

theorem State.kept_keyCommitted {s0 s : State} {slot : Nat} {w : KeyWrite} {st : Status}
    (h : Kept s0 s) : Kept s0 (s.keyCommitted slot w st) := by
  unfold State.keyCommitted
  repeat' first
    | with_reducible assumption
    | (with_reducible first | apply State.kept_opEnd | apply State.kept_raise)
    | split

theorem State.kept_abandonWrite {s0 s : State} {slot : Nat} {st : Status} (h : Kept s0 s) : Kept s0 (s.abandonWrite slot st) := by
  unfold State.abandonWrite
  repeat' first
    | with_reducible assumption
    | (with_reducible first | apply State.kept_keyCommitted | apply State.kept_mapSlot)
    | split

theorem State.kept_emptyNow {s0 s : State} {slot : Nat} (h : Kept s0 s) : Kept s0 (s.emptyNow slot) := by
  unfold State.emptyNow
  repeat' first
    | with_reducible assumption
    | (with_reducible first | apply State.kept_abandonWrite | apply State.kept_mapSlot)

theorem State.kept_commitWrite {s0 s : State} {slot : Nat} (h : Kept s0 s) : Kept s0 (s.commitWrite slot) := by
  unfold State.commitWrite
  repeat' first
    | with_reducible assumption
    | (with_reducible first | apply State.kept_clearSas | apply State.kept_commit | apply State.kept_drbg)
    | (with_reducible first | apply State.kept_keyCommitted | apply State.kept_mapSlot)
    | split

theorem State.kept_beginWrite {s0 s : State} {slot : Nat} {w : KeyWrite} (h : Kept s0 s) : Kept s0 (s.beginWrite slot w) :=
  Kept.upd h rfl (fun w => w) rfl rfl rfl rfl rfl

theorem State.kept_fillVolatile {s0 s : State} {slot attr key counter : Nat}
    (h : Kept s0 s) : Kept s0 (s.fillVolatile slot attr key counter) :=
  Kept.upd h rfl (fun w => w) rfl rfl rfl rfl rfl

theorem State.kept_ageImages {s0 s : State} {slot : Nat} (h : Kept s0 s) : Kept s0 (s.ageImages slot) :=
  Kept.upd h rfl (fun w => w) rfl rfl rfl rfl rfl

theorem State.kept_unbind {s0 s : State} {slot : Nat} (h : Kept s0 s) : Kept s0 (s.unbind slot) := by
  unfold State.unbind
  dsimp only
  repeat' first
    | with_reducible assumption
    | (with_reducible first | apply State.kept_commit | apply State.kept_keyInvalid | apply State.kept_mapSlot)
    | split

theorem State.kept_judgeSlot {s0 s : State} {slot : Nat} (h : Kept s0 s) : Kept s0 (s.judgeSlot slot) := by
  unfold State.judgeSlot
  dsimp only
  repeat' first
    | with_reducible assumption
    | (with_reducible first | apply State.kept_ageImages | apply State.kept_keyInvalid | apply State.kept_mapSlot)
    | (with_reducible apply State.kept_unbind)
    | split

theorem State.kept_unseal {s0 s : State} (h : Kept s0 s) : Kept s0 s.unseal := by
  unfold State.unseal
  repeat' first
    | with_reducible assumption
    | (with_reducible first | apply State.kept_each | apply State.kept_judgeSlot)
    | (refine Kept.record rfl ?_ (fun w => w) rfl rfl rfl rfl rfl rfl rfl;
       first
         | with_reducible assumption
         | (with_reducible first | apply State.kept_each | apply State.kept_judgeSlot))
    | split

theorem State.kept_serveAgain {s0 s : State} (h : Kept s0 s) : Kept s0 s.serveAgain := by
  unfold State.serveAgain
  repeat' first
    | with_reducible assumption
    | (fail)
    | (refine Kept.record rfl ?_ (fun w => w) rfl rfl rfl rfl rfl rfl rfl; with_reducible assumption)
    | split

theorem State.kept_keyMismatch {s0 s : State} {slot : Nat} {reloadFails : Bool}
    (h : Kept s0 s) : Kept s0 (s.keyMismatch slot reloadFails) := by
  unfold State.keyMismatch
  dsimp only
  repeat' first
    | with_reducible assumption
    | (with_reducible first | apply State.kept_keyInvalid | apply State.kept_mapSlot)
    | split

theorem State.kept_generateRoot {s0 s : State} (h : Kept s0 s) : Kept s0 s.generateRoot.1 := by
  unfold State.generateRoot
  dsimp only
  repeat' first
    | with_reducible assumption
    | (with_reducible first | apply State.kept_choose | apply State.kept_drbg)
    | (refine Kept.record rfl ?_ (fun w => w) rfl rfl rfl rfl rfl rfl rfl;
       first
         | with_reducible assumption
         | (with_reducible first | apply State.kept_choose | apply State.kept_drbg))
    | split

theorem State.kept_mapMasthead {s0 s : State} {f : Masthead → Masthead} (h : Kept s0 s) : Kept s0 (s.mapMasthead f) :=
  Kept.upd h rfl (fun w => w) rfl rfl rfl rfl rfl

theorem State.kept_enterHoveTo {s0 s : State} {cause : Nat} (h : Kept s0 s) : Kept s0 (s.enterHoveTo cause) := by
  unfold State.enterHoveTo
  repeat' first
    | with_reducible assumption
    | (with_reducible first | apply State.kept_hoveTo | apply State.kept_mapMasthead | apply State.kept_raiseAll)
    | (refine Kept.record rfl ?_ (fun w => w) rfl rfl rfl rfl rfl rfl rfl;
       first
         | with_reducible assumption
         | (with_reducible first | apply State.kept_hoveTo | apply State.kept_mapMasthead | apply State.kept_raiseAll))

theorem State.kept_hoveTo {s0 s : State} {cause : Nat} (h : Kept s0 s) : Kept s0 (s.hoveTo cause) := by
  unfold State.hoveTo
  repeat' first
    | with_reducible assumption
    | (with_reducible first | apply State.kept_enterHoveTo | apply State.kept_mapMasthead)
    | split

theorem State.kept_endReleases {s0 s : State} (h : Kept s0 s) : Kept s0 s.endReleases := by
  unfold State.endReleases
  repeat' first
    | with_reducible assumption
    | (with_reducible first | apply State.kept_complete | apply State.kept_each | apply State.kept_mapFlow)
    | (with_reducible apply State.kept_unblock)
    | split
    | (intro _ _ _)

theorem State.kept_dropEntry {s0 s : State} (h : Kept s0 s) : Kept s0 s.dropEntry := by
  unfold State.dropEntry
  repeat' first
    | with_reducible assumption
    | (fail)
    | (refine Kept.record rfl ?_ (fun w => w) rfl rfl rfl rfl rfl rfl rfl; with_reducible assumption)
    | split

theorem State.kept_mastheadLost {s0 s : State} {cause : Nat} (h : Kept s0 s) : Kept s0 (s.mastheadLost cause) := by
  unfold State.mastheadLost
  dsimp only
  repeat' first
    | with_reducible assumption
    | (with_reducible first | apply State.kept_applyAllEntries | apply State.kept_dropEntry | apply State.kept_endReleases)
    | (with_reducible first | apply State.kept_hoveTo | apply State.kept_mapMasthead | apply State.kept_raiseAll)
    | (with_reducible apply State.kept_turnAllOff)
    | (refine Kept.record rfl ?_ (fun w => w) rfl rfl rfl rfl rfl rfl rfl;
       first
         | with_reducible assumption
         | (with_reducible first | apply State.kept_applyAllEntries | apply State.kept_dropEntry)
         | (with_reducible first | apply State.kept_endReleases | apply State.kept_hoveTo)
         | (with_reducible first | apply State.kept_mapMasthead | apply State.kept_raiseAll)
         | (with_reducible apply State.kept_turnAllOff))
    | split

theorem State.kept_beginAttempt {s0 s : State} (h : Kept s0 s) : Kept s0 s.beginAttempt :=
  Kept.upd h rfl (fun w => w) rfl rfl rfl rfl rfl

theorem State.kept_attemptFailed {s0 s : State} (h : Kept s0 s) : Kept s0 s.attemptFailed := by
  unfold State.attemptFailed
  dsimp only
  repeat' first
    | with_reducible assumption
    | (with_reducible first | apply State.kept_hoveTo | apply State.kept_mapMasthead)
    | split

theorem State.kept_thaw {s0 s : State} (h : Kept s0 s) : Kept s0 s.thaw :=
  Kept.upd h rfl (fun w => w) rfl rfl rfl rfl rfl

theorem State.kept_refreshReference {s0 s : State} (h : Kept s0 s) : Kept s0 s.refreshReference :=
  Kept.upd h rfl (fun w => w) rfl rfl rfl rfl rfl

theorem State.kept_clearCompute {s0 s : State} {fromSleep : Bool} (h : Kept s0 s) : Kept s0 (s.clearCompute fromSleep) :=
  Kept.shaped h rfl (fun _ => fillMemory_wf rfl)
    (fun x => ⟨(List.length_map _).trans x.1, rfl, x.2.2.1, x.2.2.2⟩) rfl rfl rfl

theorem State.kept_computeReset {s0 s : State} {cause : Nat} {held : Bool} (h : Kept s0 s) : Kept s0 (s.computeReset cause held) := by
  unfold State.computeReset
  repeat' first
    | with_reducible assumption
    | (with_reducible first | apply State.kept_clearCompute | apply State.kept_openHold | apply State.kept_refreshReference)
    | (refine Kept.record rfl ?_ (fun w => w) rfl rfl rfl rfl rfl rfl rfl;
       first
         | with_reducible assumption
         | (with_reducible first | apply State.kept_clearCompute | apply State.kept_openHold)
         | (with_reducible apply State.kept_refreshReference))
    | split

theorem State.kept_clearPower {s0 s : State} (h : Kept s0 s) : Kept s0 s.clearPower :=
  Kept.shaped h rfl (fun w => w) (fun _ => ⟨rfl, rfl, rfl, rfl⟩) rfl rfl rfl

theorem State.kept_moduleReset {s0 s : State} (h : Kept s0 s) : Kept s0 s.moduleReset := by
  have k := State.kept_redriveAll (State.kept_clearPower (State.kept_clearCompute (fromSleep := false) h))
  unfold State.moduleReset
  generalize (s.clearCompute false).clearPower.redriveAll = t at k
  exact Kept.upd k rfl (fun x => x) rfl rfl rfl rfl rfl

theorem State.kept_heathReset {s0 s : State} (h : Kept s0 s) : Kept s0 s.heathReset :=
  Kept.upd h rfl (fun w => w) rfl rfl rfl rfl rfl

theorem State.kept_powerUp {s0 s : State} {straps mv : Nat} {heathLost : Bool}
    (h : Kept s0 s) : Kept s0 (s.powerUp straps mv heathLost) := by
  unfold State.powerUp
  repeat' first
    | with_reducible assumption
    | (with_reducible first | apply State.kept_heathReset | apply State.kept_moduleReset)
    | (refine Kept.record rfl ?_ (fun w => w) rfl rfl rfl rfl rfl rfl rfl;
       first
         | with_reducible assumption
         | (with_reducible first | apply State.kept_heathReset | apply State.kept_moduleReset))
    | split

theorem State.kept_setBank {s0 s : State} {config b : Bool} {i : Option BankImage} (h : Kept s0 s) : Kept s0 (s.setBank config b i) :=
  Kept.upd h rfl (fun w => w) rfl rfl rfl rfl rfl

theorem State.kept_setRecord {s0 s : State} {config : Bool} {x : BootRecord} (h : Kept s0 s) : Kept s0 (s.setRecord config x) :=
  Kept.upd h rfl (fun w => w) rfl rfl rfl rfl rfl

theorem kept_cmdDeviceReset {s0 s : State} {r : Request} (h : Kept s0 s) : (cmdDeviceReset.run r s).Kept s0 := by
  unfold cmdDeviceReset
  repeat' first
    | with_reducible assumption
    | (with_reducible first | apply State.kept_computeReset | apply State.kept_moduleReset)
    | split
    | (with_reducible first | apply Answer.kept_done | apply Answer.kept_finish)
    | (intro _ _)

theorem kept_cmdFwBankWrite {s0 s : State} {r : Request} (h : Kept s0 s) : (cmdFwBankWrite.run r s).Kept s0 := by
  unfold cmdFwBankWrite
  dsimp only
  repeat' first
    | with_reducible assumption
    | (with_reducible first | apply State.kept_read | apply State.kept_setBank)
    | (refine Kept.fst (by assumption) ?_)
    | (refine Kept.record rfl ?_ (fun w => w) rfl rfl rfl rfl rfl rfl rfl;
       first
         | with_reducible assumption
         | (with_reducible first | apply Answer.kept_accepted | apply State.kept_read | apply State.kept_setBank))
    | split
    | (with_reducible first | exact Answer.kept_refuse | apply Answer.kept_accepted)

theorem kept_cmdBootConfirm {s0 s : State} {r : Request} (h : Kept s0 s) : (cmdBootConfirm.run r s).Kept s0 := by
  unfold cmdBootConfirm
  repeat' first
    | with_reducible assumption
    | (with_reducible apply Answer.kept_done)
    | (refine Kept.record rfl ?_ (fun w => w) rfl rfl rfl rfl rfl rfl rfl;
       first
         | with_reducible assumption
         | (with_reducible apply Answer.kept_done))

theorem State.kept_moveFair {s0 s : State} {next : FairLink} {speed width : Nat}
    (h : Kept s0 s) : Kept s0 (s.moveFair next speed width) := by
  unfold State.moveFair
  dsimp only
  repeat' first
    | with_reducible assumption
    | (with_reducible apply State.kept_raise)
    | (refine Kept.record rfl ?_ (fun w => w) rfl rfl rfl rfl rfl rfl rfl;
       first
         | with_reducible assumption
         | (with_reducible apply State.kept_raise))
    | split

theorem State.kept_endFair {s0 s : State} {o : FairOp} {st : Status} {bytes : Nat} (h : Kept s0 s) : Kept s0 (s.endFair o st bytes) := by
  have k : Kept s0 (match s.write o.issuer o.statusIova 8 (pack [(0, 4, 0x80000000 + st.code), (4, 4, bytes)]) with
    | (t, none) => (match o.vector with | some v => t.vector o.issuer v | none => t)
    | (t, some _) => { t with fair := { t.fair with lostStatus := satAdd 16 t.fair.lostStatus 1 } }) := by
    have w := State.kept_write (p := o.issuer) (a := o.statusIova) (n := 8)
      (w := pack [(0, 4, 0x80000000 + st.code), (4, 4, bytes)]) h
    split
    · rename_i e
      rw [e] at w
      split
      · exact State.kept_vector w
      · exact w
    · rename_i e
      rw [e] at w
      exact Kept.upd w rfl (fun x => x) rfl rfl rfl rfl rfl
  unfold State.endFair
  dsimp only
  split
  · exact State.kept_opEnd k
  · exact k

theorem State.kept_failRead {s0 s : State} {o : FairOp} {st : Status} (h : Kept s0 s) : Kept s0 (s.failRead o st) := by
  unfold State.failRead
  repeat' first
    | with_reducible assumption
    | (with_reducible first | apply State.kept_draw | apply State.kept_endFair | apply State.kept_zeroFill)

theorem State.kept_fence {s0 s : State} {w : Nat} (h : Kept s0 s) : Kept s0 (s.fence w) :=
  Kept.upd h rfl (fun w => w) rfl rfl rfl rfl rfl

theorem State.kept_postError {s0 s : State} {w : Option FairSent} {cause address length : Nat}
    (h : Kept s0 s) : Kept s0 (s.postError w cause address length) := by
  unfold State.postError
  repeat' first
    | with_reducible assumption
    | (with_reducible first | apply State.kept_draw | apply State.kept_fence | apply State.kept_raise)
    | (refine Kept.record rfl ?_ (fun w => w) rfl rfl rfl rfl rfl rfl rfl;
       first
         | with_reducible assumption
         | (with_reducible first | apply State.kept_draw | apply State.kept_fence | apply State.kept_raise))
    | split

theorem State.kept_tlpLimit {s0 s : State} {write : Bool} (h : Kept s0 s) : Kept s0 (s.tlpLimit write).2 := by
  unfold State.tlpLimit
  repeat' first
    | with_reducible assumption
    | (with_reducible first | apply State.kept_draw | apply State.kept_write)
    | split

theorem State.kept_dropOp {s0 s : State} {i : Nat} (h : Kept s0 s) : Kept s0 (s.dropOp i) :=
  Kept.upd h rfl (fun w => w) rfl rfl rfl rfl rfl

theorem State.kept_beginFair {s0 s : State} {i : Nat} {o : FairOp} (h : Kept s0 s) : Kept s0 (s.beginFair i o) := by
  unfold State.beginFair
  dsimp only
  repeat' first
    | with_reducible assumption
    | (with_reducible first | apply State.kept_dropOp | apply State.kept_endFair | apply State.kept_mapFairWindow)
    | (with_reducible first | apply State.kept_tlpLimit | apply State.kept_write)
    | (refine Kept.record rfl ?_ (fun w => w) rfl rfl rfl rfl rfl rfl rfl;
       first
         | with_reducible assumption
         | (with_reducible first | apply State.kept_dropOp | apply State.kept_endFair | apply State.kept_mapFairWindow)
         | (with_reducible first | apply State.kept_tlpLimit | apply State.kept_write))
    | split

theorem State.kept_startFair (n : Nat) {s0 s : State} (h : Kept s0 s) : Kept s0 (State.startFair n s) := by
  induction n generalizing s with
  | zero => exact h
  | succ n ih =>
    unfold State.startFair
    split
    · exact h
    · split
      · exact ih (State.kept_beginFair h)
      · exact h

theorem State.kept_advanceFair {s0 s : State} (h : Kept s0 s) : Kept s0 s.advanceFair := State.kept_startFair _ h

theorem State.kept_postUnacked {s0 s : State} {w : FairSent} (l : List (Nat × Nat)) (h : Kept s0 s) : Kept s0 (s.postUnacked w l) := by
  induction l generalizing s with
  | nil => exact h
  | cons x l ih => exact ih (State.kept_postError h)

theorem State.kept_loseOp {s0 s : State} {o : FairOp} {progress : Nat × Nat} (h : Kept s0 s) : Kept s0 (s.loseOp o progress) := by
  unfold State.loseOp
  dsimp only
  split
  · exact State.kept_failRead h
  · split
    · exact State.kept_endFair h
    · split
      · exact State.kept_endFair h
      · exact State.kept_endFair (State.kept_postUnacked _ h)

theorem kept_loseOps {s0 s : State} {progress : List (Nat × Nat)} (l : List FairOp) (h : Kept s0 s) : Kept s0 (loseOps l progress s) := by
  induction l generalizing s progress with
  | nil => cases progress <;> exact h
  | cons o l ih => cases progress <;> exact ih (State.kept_loseOp h)

theorem State.kept_dropFair {s0 s : State} {next : FairLink} {progress : List (Nat × Nat)} (h : Kept s0 s) :
    Kept s0 (s.dropFair next progress) := by
  unfold State.dropFair
  refine kept_loseOps _ (Kept.upd (State.kept_each (State.kept_moveFair h) ?_) rfl (fun x => x) rfl rfl rfl rfl rfl)
  exact fun _ _ k => State.kept_mapFairWindow k

theorem State.kept_stopFair {s0 s : State} (h : Kept s0 s) : Kept s0 s.stopFair := by
  unfold State.stopFair
  repeat' first
    | with_reducible assumption
    | (with_reducible apply State.kept_dropFair)
    | (refine Kept.record rfl ?_ (fun w => w) rfl rfl rfl rfl rfl rfl rfl;
       first
         | with_reducible assumption
         | (with_reducible apply State.kept_dropFair))

theorem State.kept_reportMutes {s0 s : State} (h : Kept s0 s) : Kept s0 s.reportMutes := by
  unfold State.reportMutes
  repeat' first
    | with_reducible assumption
    | (with_reducible first | apply State.kept_each | apply State.kept_mapWake | apply State.kept_raise)
    | (intro _ _ _)

theorem State.kept_settleGenuine {s0 s : State} (h : Kept s0 s) : Kept s0 s.settleGenuine := by
  unfold State.settleGenuine
  repeat' first
    | with_reducible assumption
    | (with_reducible first | apply State.kept_each | apply State.kept_mapWake | apply State.kept_reportMutes)
    | (refine Kept.record rfl ?_ (fun w => w) rfl rfl rfl rfl rfl rfl rfl;
       first
         | with_reducible assumption
         | (with_reducible first | apply State.kept_each | apply State.kept_mapWake | apply State.kept_reportMutes))
    | split
    | (intro _ _ _)

theorem State.kept_genuineWake {s0 s : State} {w : Nat} (h : Kept s0 s) : Kept s0 (s.genuineWake w) := by
  unfold State.genuineWake
  dsimp only
  repeat' first
    | with_reducible assumption
    | (with_reducible first | apply State.kept_mapWake | apply State.kept_settleGenuine)
    | (refine Kept.record rfl ?_ (fun w => w) rfl rfl rfl rfl rfl rfl rfl;
       first
         | with_reducible assumption
         | (with_reducible first | apply State.kept_mapWake | apply State.kept_settleGenuine))
    | split

theorem State.kept_evidence {s0 s : State} {w : Nat} (h : Kept s0 s) : Kept s0 (s.evidence w) := by
  unfold State.evidence
  repeat' first
    | with_reducible assumption
    | (with_reducible apply State.kept_genuineWake)
    | split

theorem State.kept_openWindow {s0 s : State} {w : Nat} (h : Kept s0 s) : Kept s0 (s.openWindow w) := by
  unfold State.openWindow
  repeat' first
    | with_reducible assumption
    | (with_reducible first | apply State.kept_genuineWake | apply State.kept_mapWake)
    | split

theorem State.kept_falseWake {s0 s : State} {w : Nat} (h : Kept s0 s) : Kept s0 (s.falseWake w) :=
  Kept.upd h rfl (fun w => w) rfl rfl rfl rfl rfl

theorem State.kept_entryEnd {s0 s : State} {st : Status} {target phase source offCount : Nat}
    (h : Kept s0 s) : Kept s0 (s.entryEnd st target phase source offCount) := by
  unfold State.entryEnd
  repeat' first
    | with_reducible assumption
    | (with_reducible first | apply State.kept_opEnd | apply State.kept_raise)

theorem State.kept_abortEntry {s0 s : State} {st : Status} {source : Nat} (h : Kept s0 s) : Kept s0 (s.abortEntry st source) := by
  unfold State.abortEntry
  repeat' first
    | with_reducible assumption
    | (with_reducible apply State.kept_entryEnd)
    | (refine Kept.record rfl ?_ (fun w => w) rfl rfl rfl rfl rfl rfl rfl;
       first
         | with_reducible assumption
         | (with_reducible apply State.kept_entryEnd))
    | split

theorem State.kept_sourceLost {s0 s : State} (h : Kept s0 s) : Kept s0 s.sourceLost := by
  unfold State.sourceLost
  repeat' first
    | with_reducible assumption
    | (with_reducible apply State.kept_abortEntry)
    | split

theorem State.kept_leaveIdle {s0 s : State} {source : Nat} (h : Kept s0 s) : Kept s0 (s.leaveIdle source) := by
  unfold State.leaveIdle
  repeat' first
    | with_reducible assumption
    | (with_reducible apply State.kept_raise)
    | (refine Kept.record rfl ?_ (fun w => w) rfl rfl rfl rfl rfl rfl rfl;
       first
         | with_reducible assumption
         | (with_reducible apply State.kept_raise))

end Sys2Proof.Machine
end

