-- ==== Sys2Proof/Laws/KeptLinks.lean ====
section
/-! SUPPORT. `Kept` over the links, the check units, the CAN and LIN channels, the buffer and the sleep: one lemma for each operation. -/

namespace Sys2Proof.Machine

theorem State.kept_sqi {s0 s : State} {p : Nat} (h : Kept s0 s) : Kept s0 (s.sqi p).2 := by
  unfold State.sqi
  repeat' first
    | with_reducible assumption
    | (with_reducible apply State.kept_draw)
    | split

theorem State.kept_moveLink {s0 s : State} {p : Nat} {next : LinkState} {cause : Nat}
    (h : Kept s0 s) : Kept s0 (s.moveLink p next cause) := by
  unfold State.moveLink
  repeat' first
    | with_reducible assumption
    | (with_reducible first | apply State.kept_mapEth | apply State.kept_mapSw | apply State.kept_opEnd)
    | (with_reducible first | apply State.kept_raise | apply State.kept_sqi)
    | split

theorem State.kept_cableResult {s0 s : State} {p result distance : Nat} (h : Kept s0 s) : Kept s0 (s.cableResult p result distance) := by
  unfold State.cableResult
  repeat' first
    | with_reducible assumption
    | (with_reducible first | apply State.kept_opEnd | apply State.kept_raise)

theorem State.kept_stopPhy {s0 s : State} {p : Nat} (h : Kept s0 s) : Kept s0 (s.stopPhy p) := by
  unfold State.stopPhy
  repeat' first
    | with_reducible assumption
    | (with_reducible apply State.kept_moveLink)
    | split

theorem State.kept_forwardWakes {s0 s : State} (h : Kept s0 s) : Kept s0 s.forwardWakes := by
  unfold State.forwardWakes
  repeat' first
    | with_reducible assumption
    | (with_reducible first | apply State.kept_each | apply State.kept_moveLink)
    | split
    | (intro _ _ _)

theorem State.kept_postTc10Requests {s0 s : State} (h : Kept s0 s) : Kept s0 s.postTc10Requests := by
  unfold State.postTc10Requests
  repeat' first
    | with_reducible assumption
    | (with_reducible first | apply State.kept_each | apply State.kept_mapEth | apply State.kept_raise)
    | split
    | (intro _ _ _)

theorem State.kept_cvuMismatch {s0 s : State} {n verdict : Nat} (h : Kept s0 s) : Kept s0 (s.cvuMismatch n verdict) := by
  unfold State.cvuMismatch
  dsimp only
  repeat' first
    | with_reducible assumption
    | (with_reducible first | apply State.kept_mapCvu | apply State.kept_raise | apply State.kept_vector)
    | split

theorem State.kept_cvuItem {s0 s : State} {n address off : Nat} {data : List Byte} {expected : Option Nat}
    {compare alive : Bool} (h : Kept s0 s) : Kept s0 (s.cvuItem n address off data expected compare alive).1 := by
  unfold State.cvuItem
  dsimp only
  repeat' first
    | with_reducible assumption
    | (with_reducible first | apply State.kept_cvuMismatch | apply State.kept_draw | apply State.kept_mapCvu)
    | split

theorem State.kept_cvuCheck {s0 s : State} {n address off : Nat} {data : List Byte}
    (h : Kept s0 s) : Kept s0 (s.cvuCheck n address off data).1 := by
  unfold State.cvuCheck
  repeat' first
    | with_reducible assumption
    | (with_reducible apply State.kept_cvuItem)

theorem State.kept_cvuGenerate {s0 s : State} {n address off : Nat} {data : List Byte}
    (h : Kept s0 s) : Kept s0 (s.cvuGenerate n address off data).1 :=
  Kept.upd h rfl (fun w => w) rfl rfl rfl rfl rfl

theorem State.kept_moveCvu {s0 s : State} {n : Nat} (h : Kept s0 s) : Kept s0 (s.moveCvu n) := by
  unfold State.moveCvu
  repeat' first
    | with_reducible assumption
    | (with_reducible first | apply State.kept_each | apply State.kept_mapCvu | apply State.kept_mapFilter)
    | (with_reducible apply State.kept_mapObj)
    | split
    | (intro _ _ _)

theorem State.kept_moveCan {s0 s : State} {c : Nat} {next : CanState} (h : Kept s0 s) : Kept s0 (s.moveCan c next) := by
  unfold State.moveCan
  repeat' first
    | with_reducible assumption
    | (with_reducible first | apply State.kept_mapCan | apply State.kept_raise)

theorem State.kept_failSend {s0 s : State} {o cause : Nat} (h : Kept s0 s) : Kept s0 (s.failSend o cause) := by
  unfold State.failSend
  dsimp only
  repeat' first
    | with_reducible assumption
    | (with_reducible first | apply State.kept_mapObj | apply State.kept_raise | apply State.kept_vector)
    | split

theorem State.kept_failPending {s0 s : State} {c cause : Nat} {pick : CanObject → Bool}
    (h : Kept s0 s) : Kept s0 (s.failPending c cause pick) := by
  unfold State.failPending
  repeat' first
    | with_reducible assumption
    | (with_reducible first | apply State.kept_each | apply State.kept_failSend)
    | split
    | (intro _ _ _)

theorem State.kept_enterBusOff {s0 s : State} {c : Nat} (h : Kept s0 s) : Kept s0 (s.enterBusOff c) := by
  unfold State.enterBusOff
  repeat' first
    | with_reducible assumption
    | (with_reducible first | apply State.kept_failPending | apply State.kept_moveCan)

theorem State.kept_stopCan {s0 s : State} {c : Nat} {standby : Bool} (h : Kept s0 s) : Kept s0 (s.stopCan c standby) := by
  unfold State.stopCan
  dsimp only
  repeat' first
    | with_reducible assumption
    | (with_reducible first | apply State.kept_failPending | apply State.kept_mapCan | apply State.kept_moveCan)
    | (refine Kept.record rfl ?_ (fun w => w) rfl rfl rfl rfl rfl rfl rfl;
       first
         | with_reducible assumption
         | (with_reducible first | apply State.kept_failPending | apply State.kept_mapCan | apply State.kept_moveCan))
    | split

theorem State.kept_linError {s0 s : State} {c q kind : Nat} (h : Kept s0 s) : Kept s0 (s.linError c q kind) := by
  unfold State.linError
  dsimp only
  repeat' first
    | with_reducible assumption
    | (with_reducible first | apply State.kept_mapLin | apply State.kept_raise)
    | split

theorem State.kept_startSchedule {s0 s : State} {c : Nat} (h : Kept s0 s) : Kept s0 (s.startSchedule c) :=
  Kept.upd h rfl (fun w => w) rfl rfl rfl rfl rfl

theorem State.kept_stopLin {s0 s : State} {c : Nat} (h : Kept s0 s) : Kept s0 (s.stopLin c) :=
  Kept.upd h rfl (fun w => w) rfl rfl rfl rfl rfl

theorem State.kept_quiesceLin {s0 s : State} {p : Nat} (h : Kept s0 s) : Kept s0 (s.quiesceLin p) := by
  unfold State.quiesceLin
  repeat' first
    | with_reducible assumption
    | (with_reducible first | apply State.kept_each | apply State.kept_mapLin)
    | (intro _ _ _)

theorem State.kept_resumeLin {s0 s : State} {p : Nat} (h : Kept s0 s) : Kept s0 (s.resumeLin p) := by
  unfold State.resumeLin
  repeat' first
    | with_reducible assumption
    | (with_reducible first | apply State.kept_each | apply State.kept_startSchedule)
    | split
    | (intro _ _ _)

theorem State.kept_mapSwitch {s0 s : State} {f : SwitchState → SwitchState} (h : Kept s0 s) : Kept s0 (s.mapSwitch f) :=
  Kept.upd h rfl (fun w => w) rfl rfl rfl rfl rfl

theorem State.kept_enqueue {s0 s : State} {q : QFrame} (h : Kept s0 s) : Kept s0 (s.enqueue q) := by
  unfold State.enqueue
  dsimp only
  repeat' first
    | with_reducible assumption
    | (with_reducible first | apply State.kept_mapAccount | apply State.kept_mapSwitch | apply Kept.fold)
    | split

theorem State.kept_countDrop {s0 s : State} {a : Nat} (h : Kept s0 s) : Kept s0 (s.countDrop a) :=
  Kept.upd h rfl (fun w => w) rfl rfl rfl rfl rfl

theorem State.kept_removeFrame {s0 s : State} {q : QFrame} (h : Kept s0 s) : Kept s0 (s.removeFrame q) :=
  Kept.upd h rfl (fun w => w) rfl rfl rfl rfl rfl

theorem State.kept_removeFrames {s0 s : State} {pick : QFrame → Bool} (h : Kept s0 s) : Kept s0 (s.removeFrames pick) := by
  unfold State.removeFrames
  repeat' first
    | with_reducible assumption
    | (with_reducible first | apply State.kept_each | apply State.kept_removeFrame)

theorem State.kept_lowerQuota {s0 s : State} {unit a target : Nat} (h : Kept s0 s) : Kept s0 (s.lowerQuota unit a target) := by
  unfold State.lowerQuota
  dsimp only
  repeat' first
    | with_reducible assumption
    | (with_reducible first | apply State.kept_mapAccount | apply State.kept_raise)
    | split

theorem State.kept_lowerPartitions {s0 s : State} {unit : Nat} (h : Kept s0 s) : Kept s0 (s.lowerPartitions unit) := by
  unfold State.lowerPartitions
  repeat' first
    | with_reducible assumption
    | (with_reducible first | apply State.kept_each | apply State.kept_lowerQuota)
    | (intro _ _ _)

theorem State.kept_lowerPools {s0 s : State} {unit : Nat} (n : Nat) (h : Kept s0 s) : Kept s0 (s.lowerPools unit n) := by
  induction n generalizing s with
  | zero => exact h
  | succ n ih =>
    unfold State.lowerPools
    dsimp only
    split
    · exact h
    · exact ih (State.kept_lowerQuota h)

theorem State.kept_lowerFlows {s0 s : State} {unit : Nat} (n : Nat) {flows : List Reserved} (h : Kept s0 s) :
    Kept s0 (s.lowerFlows unit n flows).1 := by
  induction n generalizing s flows with
  | zero => exact h
  | succ n ih =>
    unfold State.lowerFlows
    dsimp only
    split
    · exact h
    · split
      · exact h
      · exact ih (State.kept_lowerQuota h)

theorem State.kept_withdrawBank {s0 s : State} {k : Nat} (h : Kept s0 s) : Kept s0 (s.withdrawBank k).1 := by
  unfold State.withdrawBank
  exact State.kept_lowerFlows _ (State.kept_lowerPartitions (State.kept_lowerPools _ (State.kept_mapSwitch (State.kept_removeFrames h))))

theorem State.kept_returnBank {s0 s : State} {k : Nat} (h : Kept s0 s) : Kept s0 (s.returnBank k) :=
  Kept.upd h rfl (fun w => w) rfl rfl rfl rfl rfl

theorem State.kept_stopSwitchPort {s0 s : State} {p : Nat} (h : Kept s0 s) : Kept s0 (s.stopSwitchPort p) := by
  unfold State.stopSwitchPort
  repeat' first
    | with_reducible assumption
    | (with_reducible first | apply State.kept_mapSw | apply State.kept_removeFrames)

theorem kept_cmdSleepEnter {s0 s : State} {r : Request} (h : Kept s0 s) : (cmdSleepEnter.run r s).Kept s0 := by
  unfold cmdSleepEnter
  repeat' first
    | with_reducible assumption
    | (with_reducible apply Answer.kept_accepted)
    | (refine Kept.record rfl ?_ (fun w => w) rfl rfl rfl rfl rfl rfl rfl;
       first
         | with_reducible assumption
         | (with_reducible apply Answer.kept_accepted))

theorem State.kept_outputsOff {s0 s : State} (h : Kept s0 s) : Kept s0 s.outputsOff.1 := by
  unfold State.outputsOff
  repeat' first
    | with_reducible assumption
    | (with_reducible first | apply State.kept_each | apply State.kept_mapLoad | apply State.kept_mapSensor)
    | (with_reducible apply State.kept_redrive)
    | (intro _ _ _)

theorem State.kept_commitSleep {s0 s : State} {e : SleepEntry} (h : Kept s0 s) : Kept s0 (s.commitSleep e) := by
  unfold State.commitSleep
  repeat' first
    | with_reducible assumption
    | (with_reducible first | apply State.kept_each | apply State.kept_falseWake | apply State.kept_mapCan)
    | (with_reducible apply State.kept_refreshReference)
    | (refine Kept.record rfl ?_ (fun w => w) rfl rfl rfl rfl rfl rfl rfl;
       first
         | with_reducible assumption
         | (with_reducible first | apply State.kept_each | apply State.kept_falseWake | apply State.kept_mapCan)
         | (with_reducible apply State.kept_refreshReference))
    | split
    | (intro _ _ _)

theorem State.kept_startFromSleep {s0 s : State} (h : Kept s0 s) : Kept s0 s.startFromSleep := by
  unfold State.startFromSleep
  refine State.kept_each (Kept.shaped (State.kept_clearCompute (fromSleep := true) h) rfl (fun x => x) ?_ rfl rfl rfl) ?_
  · exact fun x => ⟨by rw [List.length_map, List.length_zipIdx]; exact x.1, x.2⟩
  · exact fun _ _ k => State.kept_mapEth k

theorem State.kept_recordWake {s0 s : State} {source detail : Nat} {late : Bool}
    (h : Kept s0 s) : Kept s0 (s.recordWake source detail late) := by
  unfold State.recordWake
  repeat' first
    | with_reducible assumption
    | (fail)
    | (refine Kept.record rfl ?_ (fun w => w) rfl rfl rfl rfl rfl rfl rfl; with_reducible assumption)
    | split

theorem State.kept_latchWake {s0 s : State} {source detail : Nat} (h : Kept s0 s) : Kept s0 (s.latchWake source detail) := by
  unfold State.latchWake
  repeat' first
    | with_reducible assumption
    | (with_reducible first | apply State.kept_abortEntry | apply State.kept_leaveIdle | apply State.kept_openWindow)
    | (with_reducible first | apply State.kept_recordWake | apply State.kept_startFromSleep)
    | (refine Kept.record rfl ?_ (fun w => w) rfl rfl rfl rfl rfl rfl rfl;
       first
         | with_reducible assumption
         | (with_reducible first | apply State.kept_abortEntry | apply State.kept_leaveIdle)
         | (with_reducible first | apply State.kept_openWindow | apply State.kept_recordWake)
         | (with_reducible apply State.kept_startFromSleep))
    | split

theorem kept_cmdSleepCancel {s0 s : State} {r : Request} (h : Kept s0 s) : (cmdSleepCancel.run r s).Kept s0 := by
  unfold cmdSleepCancel
  repeat' first
    | with_reducible assumption
    | (with_reducible apply State.kept_abortEntry)
    | (with_reducible first | apply Answer.kept_done | apply Answer.kept_finish)
    | (intro _ _)

theorem kept_cmdWakeSourceSet {s0 s : State} {r : Request} (h : Kept s0 s) : (cmdWakeSourceSet.run r s).Kept s0 := by
  unfold cmdWakeSourceSet
  repeat' first
    | with_reducible assumption
    | (with_reducible first | apply Answer.kept_done | apply State.kept_mapWake)

theorem kept_cmdWakeSelectiveSet {s0 s : State} {r : Request} (h : Kept s0 s) : (cmdWakeSelectiveSet.run r s).Kept s0 := by
  unfold cmdWakeSelectiveSet
  repeat' first
    | with_reducible assumption
    | (with_reducible apply Answer.kept_done)
    | (refine Kept.record rfl ?_ (fun w => w) rfl rfl rfl rfl rfl rfl rfl;
       first
         | with_reducible assumption
         | (with_reducible apply Answer.kept_done))

theorem kept_cmdWakeQuery {s0 s : State} {r : Request} (h : Kept s0 s) : (cmdWakeQuery.run r s).Kept s0 := by
  unfold cmdWakeQuery
  dsimp -zeta only
  repeat' first
    | with_reducible assumption
    | (with_reducible apply Answer.kept_done)
    | split

theorem kept_cmdWakeValidate {s0 s : State} {r : Request} (h : Kept s0 s) : (cmdWakeValidate.run r s).Kept s0 := by
  unfold cmdWakeValidate
  repeat' first
    | with_reducible assumption
    | (with_reducible apply State.kept_genuineWake)
    | (with_reducible first | apply Answer.kept_done | apply Answer.kept_finish)
    | (intro _ _)

theorem kept_cmdRtcAlarmSet {s0 s : State} {r : Request} (h : Kept s0 s) : (cmdRtcAlarmSet.run r s).Kept s0 := by
  unfold cmdRtcAlarmSet
  repeat' first
    | with_reducible assumption
    | (with_reducible apply Answer.kept_done)
    | (refine Kept.record rfl ?_ (fun w => w) rfl rfl rfl rfl rfl rfl rfl;
       first
         | with_reducible assumption
         | (with_reducible apply Answer.kept_done))

theorem State.kept_reportWake {s0 s : State} (h : Kept s0 s) : Kept s0 s.reportWake := by
  unfold State.reportWake
  repeat' first
    | with_reducible assumption
    | (with_reducible first | apply State.kept_each | apply State.kept_forwardWakes | apply State.kept_mapWake)
    | (with_reducible first | apply State.kept_raise | apply State.kept_settleGenuine)
    | split
    | (intro _ _ _)

end Sys2Proof.Machine
end

