-- ==== Sys2Proof/Laws/KeptStops.lean ====
section
/-! SUPPORT. `Kept` over the cipher strands, the tamper monitor and the furling of a unit: one lemma for each operation. -/

namespace Sys2Proof.Machine

theorem State.kept_writeStatus {s0 s : State} {o : CipherOp} {st : Status} (h : Kept s0 s) : Kept s0 (s.writeStatus o st) := by
  unfold State.writeStatus
  dsimp only
  repeat' first
    | with_reducible assumption
    | (with_reducible first | apply State.kept_opEnd | apply State.kept_raise | apply State.kept_raiseFault)
    | (with_reducible first | apply State.kept_vector | apply State.kept_write)
    | (refine Kept.fst (by assumption) ?_)
    | split

theorem State.kept_spoilOp {s0 s : State} {o : CipherOp} {st : Status} (h : Kept s0 s) : Kept s0 (s.spoilOp o st) := by
  unfold State.spoilOp
  repeat' first
    | with_reducible assumption
    | (with_reducible first | apply State.kept_writeStatus | apply State.kept_zeroFill)
    | split

theorem State.kept_faultOp {s0 s : State} {o : CipherOp} {f : XFault} (h : Kept s0 s) : Kept s0 (s.faultOp o f).1 := by
  unfold State.faultOp
  repeat' first
    | with_reducible assumption
    | (with_reducible first | apply State.kept_raiseFault | apply State.kept_spoilOp)
    | (refine Kept.record rfl ?_ (fun w => w) rfl rfl rfl rfl rfl rfl rfl;
       first
         | with_reducible assumption
         | (with_reducible first | apply State.kept_raiseFault | apply State.kept_spoilOp))

theorem State.kept_readOp {s0 s : State} {p iova n : Nat} (h : Kept s0 s) : Kept s0 (s.readOp p iova n).1 := by
  unfold State.readOp
  repeat' first
    | with_reducible assumption
    | (with_reducible apply State.kept_read)
    | (refine Kept.fst (by assumption) ?_)
    | split

theorem State.kept_writeOutput {s0 s : State} {o : CipherOp} {out : List Nat} (h : Kept s0 s) : Kept s0 (s.writeOutput o out).1 := by
  unfold State.writeOutput
  repeat' first
    | with_reducible assumption
    | (with_reducible first | apply State.kept_draw | apply State.kept_write)
    | split

theorem State.kept_writeEach {s0 s : State} {p a : Nat} (l : List (Nat × Nat × Nat)) {bad : Option XFault} (h : Kept s0 s) :
    Kept s0 (l.foldl (fun (x : State × Option XFault) w =>
      match x with
      | (t, some f) => (t, some f)
      | (t, none) => t.write p (a + w.1) w.2.1 w.2.2) (s, bad)).1 := by
  induction l generalizing s bad with
  | nil => exact h
  | cons w l ih =>
    cases bad with
    | some f => exact ih h
    | none => exact ih (State.kept_write h)

theorem State.kept_sealOp {s0 s : State} {o : CipherOp} {aad data : List Nat} (h : Kept s0 s) : Kept s0 (s.sealOp o aad data).1 := by
  unfold State.sealOp
  dsimp only
  split
  · rename_i e
    exact State.kept_faultOp (Kept.fst e (State.kept_writeOutput h))
  · rename_i e
    have k := Kept.fst e (State.kept_writeOutput h)
    split
    · exact State.kept_faultOp (State.kept_writeEach _ k)
    · exact State.kept_writeStatus (State.kept_writeEach _ k)

theorem State.kept_openOp {s0 s : State} {o : CipherOp} {block aad data : List Nat}
    (h : Kept s0 s) : Kept s0 (s.openOp o block aad data).1 := by
  unfold State.openOp
  dsimp only
  repeat' first
    | with_reducible assumption
    | (with_reducible first | apply State.kept_faultOp | apply State.kept_spoilOp | apply State.kept_writeOutput)
    | (with_reducible apply State.kept_writeStatus)
    | (refine Kept.fst (by assumption) ?_)
    | (refine Kept.record rfl ?_ (fun w => w) rfl rfl rfl rfl rfl rfl rfl;
       first
         | with_reducible assumption
         | (with_reducible first | apply State.kept_faultOp | apply State.kept_spoilOp | apply State.kept_writeOutput)
         | (with_reducible apply State.kept_writeStatus))
    | split

theorem State.kept_runOp {s0 s : State} {o : CipherOp} (h : Kept s0 s) : Kept s0 (s.runOp o).1 := by
  unfold State.runOp
  repeat' first
    | with_reducible assumption
    | (with_reducible first | apply State.kept_faultOp | apply State.kept_openOp | apply State.kept_readOp)
    | (with_reducible apply State.kept_sealOp)
    | (refine Kept.fst (by assumption) ?_)
    | split

theorem State.kept_abortOps {s0 s : State} {st : Status} (h : Kept s0 s) : Kept s0 (s.abortOps st) := by
  unfold State.abortOps
  repeat' first
    | with_reducible assumption
    | (with_reducible first | apply State.kept_each | apply State.kept_spoilOp)
    | (refine Kept.record rfl ?_ (fun w => w) rfl rfl rfl rfl rfl rfl rfl;
       first
         | with_reducible assumption
         | (with_reducible first | apply State.kept_each | apply State.kept_spoilOp))
    | (intro _ _ _)

theorem State.kept_stopStrand {s0 s : State} {n : Nat} (h : Kept s0 s) : Kept s0 (s.stopStrand n).1 := by
  unfold State.stopStrand
  dsimp only
  refine State.kept_each ?_ (fun _ _ k => State.kept_spoilOp k)
  have u : ∀ (t : State) (ops : List CipherOp), Kept s0 t → Kept s0 { t with cipher := { t.cipher with ops := ops } } :=
    fun _ _ k => Kept.upd k rfl (fun x => x) rfl rfl rfl rfl rfl
  apply u
  split
  · have e : ∀ l : List Nat, ∀ g : Nat → Flow → Flow, Kept s0 (s.each l fun t i => t.mapFlow i (g i)) :=
      fun _ _ => State.kept_each h (fun _ _ k => State.kept_mapFlow k)
    split
    · exact State.kept_each h (fun _ _ k => State.kept_mapFlow k)
    · exact Kept.upd (State.kept_each h (fun _ _ k => State.kept_mapFlow k)) rfl (fun x => x) rfl rfl rfl rfl rfl
  · exact h

theorem State.kept_mapTamper {s0 s : State} {i : Nat} {f : TamperInput → TamperInput} (h : Kept s0 s) : Kept s0 (s.mapTamper i f) :=
  Kept.upd h rfl (fun w => w) rfl rfl rfl rfl rfl

theorem State.kept_isolation {s0 s : State} {condition : Nat} {lost hold : Bool}
    (h : Kept s0 s) : Kept s0 (s.isolation condition lost hold) := by
  unfold State.isolation
  repeat' first
    | with_reducible assumption
    | (with_reducible first | apply State.kept_hold | apply State.kept_raiseOrHold)

theorem State.kept_lifeChange {s0 s : State} {before : State} (h : Kept s0 s) : Kept s0 (s.lifeChange before) := by
  unfold State.lifeChange
  repeat' first
    | with_reducible assumption
    | (with_reducible apply State.kept_isolation)
    | (refine Kept.record rfl ?_ (fun w => w) rfl rfl rfl rfl rfl rfl rfl;
       first
         | with_reducible assumption
         | (with_reducible apply State.kept_isolation))
    | split

theorem State.kept_logTamper {s0 s : State} {e : TamperEntry} (h : Kept s0 s) : Kept s0 (s.logTamper e) :=
  Kept.upd h rfl (fun w => w) rfl rfl rfl rfl rfl

theorem State.kept_logOnly {s0 s : State} {input detector : Nat} (h : Kept s0 s) : Kept s0 (s.logOnly input detector) := by
  unfold State.logOnly
  dsimp only
  repeat' first
    | with_reducible assumption
    | (with_reducible apply State.kept_logTamper)
    | (refine Kept.record rfl ?_ (fun w => w) rfl rfl rfl rfl rfl rfl rfl;
       first
         | with_reducible assumption
         | (with_reducible apply State.kept_logTamper))
    | split

theorem State.kept_tamperAsleep {s0 s : State} {input detector : Nat} (h : Kept s0 s) : Kept s0 (s.tamperAsleep input detector) :=
  Kept.upd h rfl (fun w => w) rfl rfl rfl rfl rfl

theorem State.kept_tamperAwake {s0 s : State} {input detector : Nat} (h : Kept s0 s) : Kept s0 (s.tamperAwake input detector) := by
  unfold State.tamperAwake
  repeat' first
    | with_reducible assumption
    | (with_reducible first | apply State.kept_abandonWrite | apply State.kept_abortOps | apply State.kept_clearSas)
    | (with_reducible first | apply State.kept_each | apply State.kept_hold | apply State.kept_keyInvalid)
    | (with_reducible first | apply State.kept_logTamper | apply State.kept_mapSlot | apply State.kept_raiseOrHold)
    | (refine Kept.record rfl ?_ (fun w => w) rfl rfl rfl rfl rfl rfl rfl;
       first
         | with_reducible assumption
         | (with_reducible first | apply State.kept_abandonWrite | apply State.kept_abortOps)
         | (with_reducible first | apply State.kept_clearSas | apply State.kept_each | apply State.kept_hold)
         | (with_reducible first | apply State.kept_keyInvalid | apply State.kept_logTamper | apply State.kept_mapSlot)
         | (with_reducible apply State.kept_raiseOrHold))
    | (intro _ _ _)

theorem State.kept_tamperEvent {s0 s : State} {input detector : Nat} (h : Kept s0 s) : Kept s0 (s.tamperEvent input detector) := by
  unfold State.tamperEvent
  dsimp only
  repeat' first
    | with_reducible assumption
    | (with_reducible first | apply State.kept_isolation | apply State.kept_latchWake | apply State.kept_logOnly)
    | (with_reducible first | apply State.kept_mapTamper | apply State.kept_tamperAsleep | apply State.kept_tamperAwake)
    | (refine Kept.record rfl ?_ (fun w => w) rfl rfl rfl rfl rfl rfl rfl;
       first
         | with_reducible assumption
         | (with_reducible first | apply State.kept_isolation | apply State.kept_latchWake | apply State.kept_logOnly)
         | (with_reducible first | apply State.kept_mapTamper | apply State.kept_tamperAsleep)
         | (with_reducible apply State.kept_tamperAwake))
    | split

theorem State.kept_finishErasure {s0 s : State} (h : Kept s0 s) : Kept s0 s.finishErasure := by
  unfold State.finishErasure
  dsimp only
  repeat' first
    | with_reducible assumption
    | (with_reducible first | apply State.kept_each | apply State.kept_mapSlot)
    | (refine Kept.record rfl ?_ (fun w => w) rfl rfl rfl rfl rfl rfl rfl;
       first
         | with_reducible assumption
         | (with_reducible first | apply State.kept_each | apply State.kept_mapSlot))
    | split
    | (intro _ _ _)

theorem State.kept_postOwed {s0 s : State} (h : Kept s0 s) : Kept s0 s.postOwed := by
  unfold State.postOwed
  repeat' first
    | with_reducible assumption
    | (with_reducible first | apply State.kept_each | apply State.kept_raise)
    | (refine Kept.record rfl ?_ (fun w => w) rfl rfl rfl rfl rfl rfl rfl;
       first
         | with_reducible assumption
         | (with_reducible first | apply State.kept_each | apply State.kept_raise))
    | (intro _ _ _)

theorem State.kept_transferDone {s0 s : State} {i bytes : Nat} {st : Status} (h : Kept s0 s) : Kept s0 (s.transferDone i bytes st) := by
  unfold State.transferDone
  repeat' first
    | with_reducible assumption
    | (with_reducible first | apply State.kept_mapPort | apply State.kept_opEnd | apply State.kept_raise)

theorem State.kept_coreMoved {s0 s : State} {core spare outcome part : Nat}
    (h : Kept s0 s) : Kept s0 (s.coreMoved core spare outcome part) := by
  unfold State.coreMoved
  repeat' first
    | with_reducible assumption
    | (with_reducible apply State.kept_raise)

theorem State.kept_stopCore {s0 s : State} {n : Nat} {copyFails : Bool} (h : Kept s0 s) : Kept s0 (s.stopCore n copyFails) := by
  unfold State.stopCore
  dsimp only
  repeat' first
    | with_reducible assumption
    | (with_reducible first | apply State.kept_coreMoved | apply State.kept_mapCore)
    | (refine Kept.record rfl ?_ (fun w => w) rfl rfl rfl rfl rfl rfl rfl;
       first
         | with_reducible assumption
         | (with_reducible first | apply State.kept_coreMoved | apply State.kept_mapCore))
    | split

theorem State.kept_stopSampling {s0 s : State} {i : Nat} (h : Kept s0 s) : Kept s0 (s.stopSampling i) := by
  unfold State.stopSampling
  dsimp only
  repeat' first
    | with_reducible assumption
    | (with_reducible first | apply State.kept_mapQueue | apply State.kept_mapSense)
    | split

theorem State.kept_stopGangs {s0 s : State} (h : Kept s0 s) : Kept s0 s.stopGangs := by
  unfold State.stopGangs
  repeat' first
    | with_reducible assumption
    | (with_reducible first | apply State.kept_each | apply State.kept_mapObj | apply State.kept_stopSampling)
    | (refine Kept.record rfl ?_ (fun w => w) rfl rfl rfl rfl rfl rfl rfl;
       first
         | with_reducible assumption
         | (with_reducible first | apply State.kept_each | apply State.kept_mapObj | apply State.kept_stopSampling))
    | (intro _ _ _)

theorem State.kept_stopEngine {s0 s : State} {e : Nat} (h : Kept s0 s) : Kept s0 (s.stopEngine e).state := by
  unfold State.stopEngine
  repeat' first
    | with_reducible assumption
    | (with_reducible first | apply State.kept_each | apply State.kept_mapQueue)
    | split
    | (intro _ _ _)

theorem State.kept_stopConverter {s0 s : State} {c : Nat} (h : Kept s0 s) : Kept s0 (s.stopConverter c) := by
  unfold State.stopConverter
  repeat' first
    | with_reducible assumption
    | (with_reducible first | apply State.kept_each | apply State.kept_mapConv | apply Kept.fold)
    | (refine Kept.record rfl ?_ (fun w => w) rfl rfl rfl rfl rfl rfl rfl;
       first
         | with_reducible assumption
         | (with_reducible first | apply State.kept_each | apply State.kept_mapConv | apply Kept.fold))
    | (intro _ _ _)

theorem State.kept_stopSupervisor {s0 s : State} {n : Nat} (h : Kept s0 s) : Kept s0 (s.stopSupervisor n) := by
  unfold State.stopSupervisor
  repeat' first
    | with_reducible assumption
    | (with_reducible first | apply State.kept_computeReset | apply State.kept_mapUnit | apply State.kept_redriveAll)
    | (refine Kept.record rfl ?_ (fun w => w) rfl rfl rfl rfl rfl rfl rfl;
       first
         | with_reducible assumption
         | (with_reducible first | apply State.kept_computeReset | apply State.kept_mapUnit)
         | (with_reducible apply State.kept_redriveAll))
    | split

theorem State.kept_stopPort {s0 s : State} {i : Nat} (h : Kept s0 s) : Kept s0 (s.stopPort i) := by
  unfold State.stopPort
  repeat' first
    | with_reducible assumption
    | (with_reducible first | apply State.kept_mapPort | apply State.kept_transferDone)
    | split

theorem State.kept_stopClock {s0 s : State} {d : Nat} (h : Kept s0 s) : Kept s0 (s.stopClock d) := by
  unfold State.stopClock
  repeat' first
    | with_reducible assumption
    | (with_reducible first | apply State.kept_computeReset | apply State.kept_each | apply State.kept_mapCore)
    | (with_reducible first | apply State.kept_mastheadLost | apply State.kept_sourceLost | apply State.kept_stopCan)
    | (with_reducible first | apply State.kept_stopFair | apply State.kept_stopGangs | apply State.kept_stopLin)
    | (with_reducible first | apply State.kept_stopPhy | apply State.kept_turnAllOff)
    | (refine Kept.record rfl ?_ (fun w => w) rfl rfl rfl rfl rfl rfl rfl;
       first
         | with_reducible assumption
         | (with_reducible first | apply State.kept_computeReset | apply State.kept_each | apply State.kept_mapCore)
         | (with_reducible first | apply State.kept_mastheadLost | apply State.kept_sourceLost)
         | (with_reducible first | apply State.kept_stopCan | apply State.kept_stopFair | apply State.kept_stopGangs)
         | (with_reducible first | apply State.kept_stopLin | apply State.kept_stopPhy | apply State.kept_turnAllOff))
    | split
    | (intro _ _ _)

theorem State.kept_stopDeviceTime {s0 s : State} (h : Kept s0 s) : Kept s0 s.stopDeviceTime := by
  unfold State.stopDeviceTime
  repeat' first
    | with_reducible assumption
    | (with_reducible first | apply State.kept_choose | apply State.kept_draw | apply State.kept_stopGangs)
    | (refine Kept.record rfl ?_ (fun w => w) rfl rfl rfl rfl rfl rfl rfl;
       first
         | with_reducible assumption
         | (with_reducible first | apply State.kept_choose | apply State.kept_draw | apply State.kept_stopGangs))
    | split

theorem State.kept_stopUnit {s0 s : State} {u : Nat} {copyFails : Bool} (h : Kept s0 s) : Kept s0 (s.stopUnit u copyFails).state := by
  unfold State.stopUnit
  repeat' first
    | with_reducible assumption
    | (with_reducible first | apply State.kept_abortOps | apply State.kept_applyEntry | apply State.kept_computeReset)
    | (with_reducible first | apply State.kept_mapSensor | apply State.kept_mastheadLost | apply State.kept_moveCvu)
    | (with_reducible first | apply State.kept_sourceLost | apply State.kept_stopCan | apply State.kept_stopClock)
    | (with_reducible first | apply State.kept_stopConverter | apply State.kept_stopCore | apply State.kept_stopDeviceTime)
    | (with_reducible first | apply State.kept_stopEngine | apply State.kept_stopFair | apply State.kept_stopLin)
    | (with_reducible first | apply State.kept_stopPhy | apply State.kept_stopPort | apply State.kept_stopSampling)
    | (with_reducible first | apply State.kept_stopStrand | apply State.kept_stopSupervisor | apply State.kept_stopSwitchPort)
    | (with_reducible first | apply State.kept_tamperEvent | apply State.kept_withdrawBank)
    | split

theorem State.kept_restoreUnit {s0 s : State} {u : Nat} (h : Kept s0 s) : Kept s0 (s.restoreUnit u) := by
  unfold State.restoreUnit
  repeat' first
    | with_reducible assumption
    | (with_reducible first | apply State.kept_each | apply State.kept_mapCan | apply State.kept_mapConv)
    | (with_reducible first | apply State.kept_mapCore | apply State.kept_mapEth | apply State.kept_mapLin)
    | (with_reducible first | apply State.kept_mapLoad | apply State.kept_mapPort | apply State.kept_mapSense)
    | (with_reducible first | apply State.kept_mapSensor | apply State.kept_redrive | apply State.kept_redriveAll)
    | (with_reducible apply State.kept_returnBank)
    | (refine Kept.record rfl ?_ (fun w => w) rfl rfl rfl rfl rfl rfl rfl;
       first
         | with_reducible assumption
         | (with_reducible first | apply State.kept_each | apply State.kept_mapCan | apply State.kept_mapConv)
         | (with_reducible first | apply State.kept_mapCore | apply State.kept_mapEth | apply State.kept_mapLin)
         | (with_reducible first | apply State.kept_mapLoad | apply State.kept_mapPort | apply State.kept_mapSense)
         | (with_reducible first | apply State.kept_mapSensor | apply State.kept_redrive | apply State.kept_redriveAll)
         | (with_reducible apply State.kept_returnBank))
    | split
    | (intro _ _ _)

theorem State.kept_furlOne {s0 s : State} {u cause count inFlight : Nat} {copyFails : Bool} (h : Kept s0 s) :
    Kept s0 (s.furlOne u cause count inFlight copyFails) := by
  unfold State.furlOne
  dsimp only
  have u : ∀ (t : State) (l : List (Nat × Nat)), Kept s0 t → Kept s0 { t with health := { t.health with record := l } } :=
    fun _ _ k => Kept.upd k rfl (fun x => x) rfl rfl rfl rfl rfl
  exact State.kept_raise (State.kept_owe (State.kept_stopUnit (u _ _ (State.kept_mapUnit h))))

theorem State.kept_furlUnit {s0 s : State} {u cause count inFlight : Nat} {copyFails : Bool}
    (h : Kept s0 s) : Kept s0 (s.furlUnit u cause count inFlight copyFails) := by
  unfold State.furlUnit
  repeat' first
    | with_reducible assumption
    | (with_reducible first | apply State.kept_furlOne | apply Kept.fold)
    | split
    | (intro _ _ _)

theorem State.kept_unitError {s0 s : State} {u cause inFlight : Nat} {lasting copyFails : Bool}
    (h : Kept s0 s) : Kept s0 (s.unitError u cause inFlight lasting copyFails) := by
  unfold State.unitError
  dsimp only
  repeat' first
    | with_reducible assumption
    | (with_reducible first | apply State.kept_furlUnit | apply State.kept_lasting | apply State.kept_mapUnit)
    | (with_reducible apply State.kept_raise)
    | split

theorem State.kept_unitEvent {s0 s : State} {u cause : Nat} (h : Kept s0 s) : Kept s0 (s.unitEvent u cause) := by
  unfold State.unitEvent
  repeat' first
    | with_reducible assumption
    | (with_reducible apply State.kept_unitError)

theorem State.kept_lasting {s0 s : State} {u cause : Nat} (h : Kept s0 s) : Kept s0 (s.lasting u cause) := by
  unfold State.lasting
  repeat' first
    | with_reducible assumption
    | (with_reducible apply State.kept_unitError)

theorem State.kept_copyMismatch {s0 s : State} {unit cause : Nat} {copyFails : Bool}
    (h : Kept s0 s) : Kept s0 (s.copyMismatch unit cause copyFails) := by
  unfold State.copyMismatch
  repeat' first
    | with_reducible assumption
    | (with_reducible first | apply State.kept_draw | apply State.kept_keyMismatch)
    | split

theorem State.kept_late {s0 s : State} {id latency delivered unit : Nat} (h : Kept s0 s) : Kept s0 (s.late id latency delivered unit) := by
  unfold State.late
  dsimp only
  repeat' first
    | with_reducible assumption
    | (with_reducible first | apply State.kept_mapFlow | apply State.kept_raise | apply State.kept_unitEvent)
    | split

theorem State.kept_measure {s0 s : State} {id ingress delivered err unit : Nat}
    (h : Kept s0 s) : Kept s0 (s.measure id ingress delivered err unit) := by
  unfold State.measure
  dsimp only
  repeat' first
    | with_reducible assumption
    | (with_reducible first | apply State.kept_late | apply State.kept_mapFlow)
    | split

theorem State.kept_deliver {s0 s : State} {ids : List Nat} {ingress delivered err unit : Nat}
    (h : Kept s0 s) : Kept s0 (s.deliver ids ingress delivered err unit) := by
  unfold State.deliver
  repeat' first
    | with_reducible assumption
    | (with_reducible first | apply State.kept_each | apply State.kept_measure)
    | (intro _ _ _)

end Sys2Proof.Machine
end

