-- ==== Sys2Proof/Laws/KeptPorts.lean ====
section
/-! SUPPORT. `Kept` over the CAN objects, the windows, the ageing plan, the flows and the intake: one lemma for each operation. -/

namespace Sys2Proof.Machine

theorem kept_cmdCanChannelConfig {s0 s : State} {r : Request} (h : Kept s0 s) : (cmdCanChannelConfig.run r s).Kept s0 := by
  unfold cmdCanChannelConfig
  repeat' first
    | with_reducible assumption
    | (with_reducible first | apply Answer.kept_done | apply State.kept_failPending | apply State.kept_mapCan)
    | (with_reducible apply State.kept_moveCan)
    | split

theorem kept_cmdCanObjectConfig {s0 s : State} {r : Request} (h : Kept s0 s) : (cmdCanObjectConfig.run r s).Kept s0 := by
  unfold cmdCanObjectConfig
  repeat' first
    | with_reducible assumption
    | (with_reducible first | apply Answer.kept_done | apply State.kept_mapObj | apply Kept.fold)

theorem State.kept_detachObject {s0 s : State} {o : Nat} (h : Kept s0 s) : Kept s0 (s.detachObject o) := by
  unfold State.detachObject
  repeat' first
    | with_reducible assumption
    | (with_reducible first | apply State.kept_mapObj | apply State.kept_mapQueue)
    | split

theorem kept_cmdCanObjectAttach {s0 s : State} {r : Request} (h : Kept s0 s) : (cmdCanObjectAttach.run r s).Kept s0 := by
  unfold cmdCanObjectAttach
  dsimp -zeta only
  repeat' first
    | with_reducible assumption
    | (with_reducible first | apply Answer.kept_done | apply State.kept_detachObject | apply State.kept_mapObj)
    | (with_reducible apply State.kept_mapQueue)
    | split

theorem kept_cmdCanChannelQuery {s0 s : State} {r : Request} (h : Kept s0 s) : (cmdCanChannelQuery.run r s).Kept s0 := by
  unfold cmdCanChannelQuery
  repeat' first
    | with_reducible assumption
    | (with_reducible first | apply Answer.kept_done | apply State.kept_mapCan | apply State.kept_tooLong)
    | split

theorem kept_cmdCanChannelRecover {s0 s : State} {r : Request} (h : Kept s0 s) : (cmdCanChannelRecover.run r s).Kept s0 := by
  unfold cmdCanChannelRecover
  repeat' first
    | with_reducible assumption
    | (with_reducible first | apply Answer.kept_done | apply State.kept_moveCan)

theorem kept_cmdCanObjectQuery {s0 s : State} {r : Request} (h : Kept s0 s) : (cmdCanObjectQuery.run r s).Kept s0 := by
  unfold cmdCanObjectQuery
  repeat' first
    | with_reducible assumption
    | (with_reducible first | apply Answer.kept_done | apply State.kept_mapObj | apply State.kept_overrun)
    | split

theorem kept_cmdCanGangSet {s0 s : State} {r : Request} (h : Kept s0 s) : (cmdCanGangSet.run r s).Kept s0 := by
  unfold cmdCanGangSet
  repeat' first
    | with_reducible assumption
    | (with_reducible apply Answer.kept_done)
    | (refine Kept.record rfl ?_ (fun w => w) rfl rfl rfl rfl rfl rfl rfl;
       first
         | with_reducible assumption
         | (with_reducible apply Answer.kept_done))

theorem State.kept_judgeErrors {s0 s : State} {c : Nat} (h : Kept s0 s) : Kept s0 (s.judgeErrors c) := by
  unfold State.judgeErrors
  dsimp only
  repeat' first
    | with_reducible assumption
    | (with_reducible first | apply State.kept_enterBusOff | apply State.kept_moveCan)
    | split

theorem State.kept_receiveError {s0 s : State} {c kind : Nat} (h : Kept s0 s) : Kept s0 (s.receiveError c kind) := by
  unfold State.receiveError
  repeat' first
    | with_reducible assumption
    | (with_reducible first | apply State.kept_judgeErrors | apply State.kept_mapCan)

theorem State.kept_joinBus {s0 s : State} {o : Nat} (h : Kept s0 s) : Kept s0 (s.joinBus o) := by
  unfold State.joinBus
  repeat' first
    | with_reducible assumption
    | (with_reducible first | apply State.kept_deliver | apply State.kept_mapObj)
    | split

theorem State.kept_inlineDone {s0 s : State} {n : Nat} (h : Kept s0 s) : Kept s0 (s.inlineDone n) := by
  unfold State.inlineDone
  repeat' first
    | with_reducible assumption
    | (with_reducible apply State.kept_deliver)

theorem State.kept_release {s0 s : State} {o info : Nat} {f : CanFrame} {fromQueue : Bool} {stampError : Nat}
    (h : Kept s0 s) : Kept s0 (s.release o info f fromQueue stampError) := by
  unfold State.release
  dsimp only
  repeat' first
    | with_reducible assumption
    | (with_reducible first | apply State.kept_countDelayed | apply State.kept_cvuGenerate | apply State.kept_failSend)
    | (with_reducible first | apply State.kept_inlineDone | apply State.kept_joinBus | apply State.kept_mapObj)
    | (with_reducible apply State.kept_takeTokens)
    | split

theorem State.kept_conformObject {s0 s : State} {o : Nat} (h : Kept s0 s) : Kept s0 (s.conformObject o) := by
  unfold State.conformObject
  dsimp only
  repeat' first
    | with_reducible assumption
    | (with_reducible first | apply State.kept_joinBus | apply State.kept_mapObj | apply State.kept_takeTokens)
    | split

theorem State.kept_sentFrame {s0 s : State} {o start : Nat} {t : CanTx} (h : Kept s0 s) : Kept s0 (s.sentFrame o start t) := by
  unfold State.sentFrame
  repeat' first
    | with_reducible assumption
    | (with_reducible first | apply State.kept_deliver | apply State.kept_mapObj | apply State.kept_vector)
    | split

theorem State.kept_errorFrame {s0 s : State} {o cause : Nat} (h : Kept s0 s) : Kept s0 (s.errorFrame o cause) := by
  unfold State.errorFrame
  dsimp only
  repeat' first
    | with_reducible assumption
    | (with_reducible first | apply State.kept_failSend | apply State.kept_mapObj)
    | split

theorem State.kept_overrun {s0 s : State} {o : Nat} (h : Kept s0 s) : Kept s0 (s.overrun o) := by
  unfold State.overrun
  dsimp only
  repeat' first
    | with_reducible assumption
    | (with_reducible first | apply State.kept_mapObj | apply State.kept_raise)
    | split

theorem State.kept_tooLong {s0 s : State} {c : Nat} (h : Kept s0 s) : Kept s0 (s.tooLong c) :=
  Kept.upd h rfl (fun w => w) rfl rfl rfl rfl rfl

theorem State.kept_checkFrame {s0 s : State} {o : Nat} {f : CanFrame} (h : Kept s0 s) : Kept s0 (s.checkFrame o f).1 := by
  unfold State.checkFrame
  repeat' first
    | with_reducible assumption
    | (with_reducible first | apply State.kept_cvuCheck | apply State.kept_inlineDone)
    | split

theorem State.kept_placeFrame {s0 s : State} {o : Nat} {f : CanFrame} {buf : Nat} (h : Kept s0 s) : Kept s0 (s.placeFrame o f buf) := by
  unfold State.placeFrame
  dsimp only
  repeat' first
    | with_reducible assumption
    | (with_reducible first | apply State.kept_checkFrame | apply State.kept_deliver | apply State.kept_mapObj)
    | (with_reducible first | apply State.kept_overrun | apply State.kept_vector)
    | split

theorem State.kept_acceptFrame {s0 s : State} {o : Nat} {f : CanFrame} (h : Kept s0 s) : Kept s0 (s.acceptFrame o f) := by
  unfold State.acceptFrame
  dsimp only
  repeat' first
    | with_reducible assumption
    | (with_reducible first | apply State.kept_countDropped | apply State.kept_placeFrame | apply State.kept_raiseFault)
    | (with_reducible first | apply State.kept_takeTokens | apply State.kept_tooLong | apply State.kept_write)
    | (refine Kept.fst (by assumption) ?_)
    | split

theorem State.kept_canEvidence {s0 s : State} {channel : Nat} {rx : CanRx} (h : Kept s0 s) : Kept s0 (s.canEvidence channel rx) := by
  unfold State.canEvidence
  repeat' first
    | with_reducible assumption
    | (with_reducible apply State.kept_evidence)
    | split

theorem State.kept_gangRelease {s0 s : State} {o : Nat} (h : Kept s0 s) : Kept s0 (s.gangRelease o) := by
  unfold State.gangRelease
  dsimp only
  repeat' first
    | with_reducible assumption
    | (with_reducible first | apply State.kept_mapObj | apply State.kept_release)
    | split

theorem State.kept_slotWrite {s0 s : State} {p o : Nat} {f : State → State} (h : Kept s0 s) (k : Kept s0 (f s)) :
    Kept s0 (s.slotWrite p o f) := by
  unfold State.slotWrite
  split
  · exact h
  · split
    · exact Kept.upd h rfl (fun x => x) rfl rfl rfl rfl rfl
    · split
      · exact h
      · exact k

theorem State.kept_sendRequest {s0 s : State} {o : Nat} (h : Kept s0 s) : Kept s0 (s.sendRequest o) := by
  unfold State.sendRequest
  dsimp only
  repeat' first
    | with_reducible assumption
    | (with_reducible first | apply State.kept_failSend | apply State.kept_mapObj | apply State.kept_release)
    | split

theorem State.kept_abortSend {s0 s : State} {o : Nat} {begun : Bool} (h : Kept s0 s) : Kept s0 (s.abortSend o begun) := by
  unfold State.abortSend
  dsimp only
  repeat' first
    | with_reducible assumption
    | (with_reducible first | apply State.kept_failSend | apply State.kept_mapObj)
    | split

theorem State.kept_releaseRead {s0 s : State} {p o : Nat} (h : Kept s0 s) : Kept s0 (s.releaseRead p o) := by
  unfold State.releaseRead
  dsimp only
  repeat' first
    | with_reducible assumption
    | (with_reducible first | apply State.kept_mapObj | apply State.kept_vector)
    | split

theorem State.kept_mapRing {s0 s : State} {p : Nat} {n : RingName} {f : Ring → Ring} (h : Kept s0 s) : Kept s0 (s.mapRing p n f) :=
  Kept.upd h rfl (fun w => w) rfl rfl rfl rfl rfl

theorem State.kept_eventSpace {s0 s : State} {p : Nat} (h : Kept s0 s) : Kept s0 (s.eventSpace p) :=
  Kept.upd h rfl (fun w => Io.wf_eventSpace w) rfl rfl rfl rfl rfl

theorem State.kept_enableEvents {s0 s : State} {p : Nat} {control : Nat} (h : Kept s0 s) : Kept s0 (s.enableEvents p control) := by
  unfold State.enableEvents
  repeat' first
    | with_reducible assumption
    | (with_reducible first | apply State.kept_eventSpace | apply State.kept_mapRing)

theorem State.kept_writeEventTail {s0 s : State} {p value : Nat} (h : Kept s0 s) : Kept s0 (s.writeEventTail p value) := by
  unfold State.writeEventTail
  repeat' first
    | with_reducible assumption
    | (with_reducible first | apply State.kept_eventSpace | apply State.kept_mapRing)

theorem State.kept_clearStatus {s0 s : State} {p : Nat} {value : Word} (h : Kept s0 s) : Kept s0 (s.clearStatus p value) :=
  Kept.upd h rfl (fun w => w) rfl rfl rfl rfl rfl

theorem wf_sendUncovered {p : Nat} {w : Word} (l : List Nat) {io : Io} (h : io.Wf) : (sendUncovered p w l io).Wf := by
  induction l generalizing io with
  | nil => exact h
  | cons v l ih =>
    unfold sendUncovered
    split
    · exact ih (Io.wf_runTasks (Io.wf_sendMessage h))
    · exact ih h

theorem State.kept_writeMask {s0 s : State} {p : Nat} {value : Word} (h : Kept s0 s) : Kept s0 (s.writeMask p value) :=
  Kept.upd h rfl (fun w => wf_sendUncovered _ (Io.wf_mapWindow w)) rfl rfl rfl rfl rfl

theorem kept_cmdHealthClassSet {s0 s : State} {r : Request} (h : Kept s0 s) : (cmdHealthClassSet.run r s).Kept s0 := by
  unfold cmdHealthClassSet
  repeat' first
    | with_reducible assumption
    | (with_reducible apply Answer.kept_done)
    | (refine Kept.record rfl ?_ (fun w => w) rfl rfl rfl rfl rfl rfl rfl;
       first
         | with_reducible assumption
         | (with_reducible apply Answer.kept_done))

theorem kept_cmdHealthUnitQuery {s0 s : State} {r : Request} (h : Kept s0 s) : (cmdHealthUnitQuery.run r s).Kept s0 := by
  unfold cmdHealthUnitQuery
  repeat' first
    | with_reducible assumption
    | (with_reducible apply Answer.kept_done)

theorem kept_cmdUnitFurl {s0 s : State} {r : Request} (h : Kept s0 s) : (cmdUnitFurl.run r s).Kept s0 := by
  unfold cmdUnitFurl
  repeat' first
    | with_reducible assumption
    | (with_reducible first | apply Answer.kept_done | apply State.kept_furlUnit)

theorem kept_cmdUnitUnfurl {s0 s : State} {r : Request} (h : Kept s0 s) : (cmdUnitUnfurl.run r s).Kept s0 := by
  unfold cmdUnitUnfurl
  repeat' first
    | with_reducible assumption
    | (with_reducible first | apply Answer.kept_accepted | apply State.kept_mapUnit)

theorem State.kept_withCeilings {s0 s : State} {l : List (Nat × Nat)} (h : Kept s0 s) : Kept s0 (s.withCeilings l) := by
  refine Kept.aged h rfl (fun x => x) (fun x => x) ?_ (fun _ => Nat.le_refl _) rfl
  exact fun i => Table.le_fold (m := DomainReef.level) (g := fun c : Nat × Nat => c.1)
    (f := fun c d => { d with ceiling := c.2 }) (fun _ _ => Nat.le_refl _) l s.health.domains i

theorem Kept.planned {s0 t : State} {doms : Table DomainReef} {chans : Table ChannelReef} {seq time : Nat} {margin worn : Bool}
    (h : Kept s0 t) (d : ∀ i, (t.domainOf i).level ≤ (Table.get {} doms i).level) (c : ∀ i, (t.reefOf i).step ≤ (Table.get
        {} chans i).step) :
    Kept s0 { t with health := { t.health with
      domains := doms, channels := chans, planSeq := seq, planTime := time, endMargin := margin, nvWear := worn } } :=
  Kept.aged h rfl (fun x => x) (fun x => x) d c rfl

theorem State.kept_computePlan {s0 s : State} {trigger seq : Nat} (h : Kept s0 s) : Kept s0 (s.computePlan trigger seq) := by
  have u : ∀ (t : State) (x : Option PlanRun), Kept s0 t → Kept s0 { t with health := { t.health with plan := x } } :=
    fun _ _ k => Kept.upd k rfl (fun x => x) rfl rfl rfl rfl rfl
  have d := fun i => Table.le_fold (m := DomainReef.level) (d := {}) (g := fun d : Nat => d) (f := fun _ => DomainReef.planned)
    (fun _ _ => Nat.le_max_left _ _) (span 1 9) s.health.domains i
  have c := fun i => Table.le_fold (m := ChannelReef.step) (d := {}) (g := fun n : Nat => n) (f := fun n c => c.planned n)
    (fun _ _ => Nat.le_max_left _ _) (span 0 48) s.health.channels i
  unfold State.computePlan
  dsimp only
  exact u _ _ (State.kept_revokeList (Kept.planned (State.kept_choose h) d c))

theorem kept_cmdReefPlanRun {s0 s : State} {r : Request} (h : Kept s0 s) : (cmdReefPlanRun.run r s).Kept s0 := by
  unfold cmdReefPlanRun
  repeat' first
    | with_reducible assumption
    | (with_reducible apply Answer.kept_accepted)
    | (refine Kept.record rfl ?_ (fun w => w) rfl rfl rfl rfl rfl rfl rfl;
       first
         | with_reducible assumption
         | (with_reducible apply Answer.kept_accepted))

theorem kept_cmdReefQuery {s0 s : State} {r : Request} (h : Kept s0 s) : (cmdReefQuery.run r s).Kept s0 := by
  unfold cmdReefQuery
  repeat' first
    | with_reducible assumption
    | (with_reducible apply Answer.kept_done)

theorem State.kept_defer {s0 s : State} {kind subject detail requester : Nat}
    (h : Kept s0 s) : Kept s0 (s.defer kind subject detail requester) :=
  Kept.upd h rfl (fun w => w) rfl rfl rfl rfl rfl

theorem kept_cmdSelftestRun {s0 s : State} {r : Request} (h : Kept s0 s) : (cmdSelftestRun.run r s).Kept s0 := by
  unfold cmdSelftestRun
  repeat' first
    | with_reducible assumption
    | (with_reducible first | apply Answer.kept_accepted | apply State.kept_choose | apply State.kept_defer)
    | (with_reducible apply State.kept_mapUnit)
    | split

theorem kept_cmdSelftestScheduleSet {s0 s : State} {r : Request} (h : Kept s0 s) : (cmdSelftestScheduleSet.run r s).Kept s0 := by
  unfold cmdSelftestScheduleSet
  repeat' first
    | with_reducible assumption
    | (with_reducible apply Answer.kept_done)
    | (refine Kept.record rfl ?_ (fun w => w) rfl rfl rfl rfl rfl rfl rfl;
       first
         | with_reducible assumption
         | (with_reducible apply Answer.kept_done))

theorem kept_cmdSelftestQuery {s0 s : State} {r : Request} (h : Kept s0 s) : (cmdSelftestQuery.run r s).Kept s0 := by
  unfold cmdSelftestQuery
  repeat' first
    | with_reducible assumption
    | (with_reducible apply Answer.kept_done)

theorem State.kept_selftestDone {s0 s : State} {u : Nat} {st : Status} {requested : Bool} {step : Nat}
    (h : Kept s0 s) : Kept s0 (s.selftestDone u st requested step) := by
  unfold State.selftestDone
  repeat' first
    | with_reducible assumption
    | (with_reducible first | apply State.kept_opEnd | apply State.kept_raise)
    | split

theorem State.kept_accept {s0 s : State} {id : Nat} {f : Flow} {v : Verdict} (h : Kept s0 s) : Kept s0 (s.accept id f v) := by
  unfold State.accept
  repeat' first
    | with_reducible assumption
    | (with_reducible first | apply State.kept_fillBucket | apply State.kept_mapFlow | apply State.kept_recompute)
    | (refine Kept.record rfl ?_ (fun w => w) rfl rfl rfl rfl rfl rfl rfl;
       first
         | with_reducible assumption
         | (with_reducible first | apply State.kept_fillBucket | apply State.kept_mapFlow | apply State.kept_recompute))
    | split

theorem kept_cmdFlowAdmit {s0 s : State} {r : Request} (h : Kept s0 s) : (cmdFlowAdmit.run r s).Kept s0 := by
  unfold cmdFlowAdmit
  dsimp only
  repeat' first
    | with_reducible assumption
    | (with_reducible apply State.kept_accept)
    | split
    | (with_reducible first | exact Answer.kept_refuse | apply Answer.kept_done)

theorem kept_cmdFlowPredict {s0 s : State} {r : Request} (h : Kept s0 s) : (cmdFlowPredict.run r s).Kept s0 := by
  unfold cmdFlowPredict
  repeat' first
    | with_reducible assumption
    | (with_reducible apply Answer.kept_done)

theorem kept_cmdFlowRelease {s0 s : State} {r : Request} (h : Kept s0 s) : (cmdFlowRelease.run r s).Kept s0 := by
  unfold cmdFlowRelease
  dsimp only
  repeat' first
    | with_reducible assumption
    | (with_reducible first | apply State.kept_freeFlow | apply State.kept_mapFlow | apply State.kept_recompute)
    | (with_reducible apply State.kept_revokeList)
    | split
    | (with_reducible first | apply Answer.kept_done | apply Answer.kept_wait)

theorem kept_cmdFlowQuery {s0 s : State} {r : Request} (h : Kept s0 s) : (cmdFlowQuery.run r s).Kept s0 := by
  unfold cmdFlowQuery
  repeat' first
    | with_reducible assumption
    | (with_reducible apply Answer.kept_done)

theorem kept_cmdFlowStats {s0 s : State} {r : Request} (h : Kept s0 s) : (cmdFlowStats.run r s).Kept s0 := by
  unfold cmdFlowStats
  dsimp only
  repeat' first
    | with_reducible assumption
    | (with_reducible first | apply Answer.kept_done | apply State.kept_mapFlow | apply State.kept_write)
    | (refine Kept.fst (by assumption) ?_)
    | split

theorem kept_cmdMediumContractSet {s0 s : State} {r : Request} (h : Kept s0 s) : (cmdMediumContractSet.run r s).Kept s0 := by
  unfold cmdMediumContractSet
  repeat' first
    | with_reducible assumption
    | (with_reducible first | apply Answer.kept_done | apply State.kept_each | apply State.kept_recompute)
    | (with_reducible apply State.kept_revokeOne)
    | (refine Kept.record rfl ?_ (fun w => w) rfl rfl rfl rfl rfl rfl rfl;
       first
         | with_reducible assumption
         | (with_reducible first | apply Answer.kept_done | apply State.kept_each | apply State.kept_recompute)
         | (with_reducible apply State.kept_revokeOne))
    | (intro _ _)

theorem State.kept_proceed {s0 s : State} {m : Maintenance} (h : Kept s0 s) : Kept s0 (s.proceed m) := by
  unfold State.proceed
  repeat' first
    | with_reducible assumption
    | (with_reducible apply State.kept_mapLoad)
    | (refine Kept.record rfl ?_ (fun w => w) rfl rfl rfl rfl rfl rfl rfl;
       first
         | with_reducible assumption
         | (with_reducible apply State.kept_mapLoad))
    | split

theorem State.kept_keepDeferred {s0 s : State} {m : Maintenance} {at_ : Nat} (h : Kept s0 s) : Kept s0 (s.keepDeferred m at_) :=
  Kept.upd h rfl (fun w => w) rfl rfl rfl rfl rfl

theorem State.kept_retryDeferred {s0 s : State} {m : Maintenance} (h : Kept s0 s) : Kept s0 (s.retryDeferred m) := by
  unfold State.retryDeferred
  repeat' first
    | with_reducible assumption
    | (with_reducible first | apply State.kept_choose | apply State.kept_keepDeferred | apply State.kept_proceed)
    | (refine Kept.snd (by assumption) ?_)
    | split

theorem State.kept_noneDeferred {s0 s : State} (h : Kept s0 s) : Kept s0 s.noneDeferred :=
  Kept.upd h rfl (fun w => w) rfl rfl rfl rfl rfl

theorem State.kept_mapWindow {s0 s : State} {p : Nat} {f : Window → Window} (h : Kept s0 s) : Kept s0 (s.mapWindow p f) :=
  Kept.upd h rfl (fun w => w) rfl rfl rfl rfl rfl

theorem State.kept_readEntries {p k : Nat} (n : Nat) {s0 s : State} (h : Kept s0 s) : Kept s0 (State.readEntries p k n s) := by
  induction n generalizing s with
  | zero => exact h
  | succ n ih =>
    unfold State.readEntries
    dsimp only
    split
    · exact h
    · split
      · rename_i e
        exact State.kept_raise (State.kept_mapRing (Kept.fst e (State.kept_read h)))
      · rename_i e
        exact ih (State.kept_mapWindow (State.kept_mapRing (Kept.fst e (State.kept_read h))))

theorem State.kept_readRings {s0 s : State} {p : Nat} (h : Kept s0 s) : Kept s0 (s.readRings p) :=
  State.kept_each h (fun _ _ k => State.kept_readEntries _ k)

end Sys2Proof.Machine
end

