-- ==== Sys2Proof/Laws/KeptFrames.lean ====
section
/-! SUPPORT. `Kept` over the switch, the clock, the queues, the local ports and the samples: one lemma for each operation. -/

namespace Sys2Proof.Machine

theorem State.kept_mapSa {s0 s : State} {k : Nat} {f : MacsecSa → MacsecSa} (h : Kept s0 s) : Kept s0 (s.mapSa k f) :=
  Kept.upd h rfl (fun w => w) rfl rfl rfl rfl rfl

theorem State.kept_macsecIn {s0 s : State} {p : Nat} {f : EthFrame} (h : Kept s0 s) : Kept s0 (s.macsecIn p f).1 := by
  unfold State.macsecIn
  dsimp only
  repeat' first
    | with_reducible assumption
    | (with_reducible apply State.kept_mapSa)
    | split

theorem State.kept_meter {s0 s : State} {n length : Nat} (h : Kept s0 s) : Kept s0 (s.meter n length).1 := by
  unfold State.meter
  dsimp only
  repeat' first
    | with_reducible assumption
    | (with_reducible apply State.kept_mapFilter)
    | split

theorem State.kept_filterDrop {s0 s : State} {n : Nat} (h : Kept s0 s) : Kept s0 (s.filterDrop n) :=
  Kept.upd h rfl (fun w => w) rfl rfl rfl rfl rfl

theorem State.kept_police {s0 s : State} {n : Nat} {ids : List Nat} {length : Nat} (h : Kept s0 s) : Kept s0 (s.police n ids length).1 := by
  unfold State.police
  repeat' first
    | with_reducible assumption
    | (with_reducible first | apply State.kept_countDropped | apply State.kept_filterDrop | apply State.kept_meter)
    | (with_reducible apply State.kept_takeTokens)
    | (refine Kept.fst (by assumption) ?_)
    | split

theorem State.kept_filterCvu {s0 s : State} {n : Nat} {f : EthFrame} (h : Kept s0 s) : Kept s0 (s.filterCvu n f).1 := by
  unfold State.filterCvu
  dsimp only
  repeat' first
    | with_reducible assumption
    | (with_reducible first | apply State.kept_cvuCheck | apply State.kept_cvuGenerate | apply State.kept_filterDrop)
    | split

theorem State.kept_mapFrer {s0 s : State} {k : Nat} {f : FrerFn → FrerFn} (h : Kept s0 s) : Kept s0 (s.mapFrer k f) :=
  Kept.upd h rfl (fun w => w) rfl rfl rfl rfl rfl

theorem State.kept_recovery {s0 s : State} {filter : Nat} {f : EthFrame} (h : Kept s0 s) : Kept s0 (s.recovery filter f).1 := by
  unfold State.recovery
  generalize s.frerOn 2 filter = l
  suffices g : ∀ (acc : State × Bool), Kept s0 acc.1 → Kept s0 (l.foldl (fun (acc : State × Bool) k =>
    if !acc.2 then acc
    else
      match f.rtag with
      | some n =>
        let (x, ok) := (acc.1.frerOf k).recover n.toNat s.now
        (acc.1.mapFrer k fun _ => x, ok)
      | none => (acc.1.mapFrer k fun x => { x with discarded := satAdd 32 x.discarded 1 }, false)) acc).1 from g (s, true) h
  induction l with
  | nil => exact fun _ k => k
  | cons x l ih =>
    intro acc k
    refine ih _ ?_
    dsimp only
    split
    · exact k
    · split
      · exact State.kept_mapFrer k
      · exact State.kept_mapFrer k

theorem State.kept_generation {s0 s : State} {filter : Nat} {f : EthFrame} (h : Kept s0 s) : Kept s0 (s.generation filter f).1 := by
  unfold State.generation
  repeat' first
    | with_reducible assumption
    | (with_reducible apply State.kept_mapFrer)
    | split

theorem State.kept_learnMac {s0 s : State} {p vid : Nat} {a : BitVec 48} (h : Kept s0 s) : Kept s0 (s.learnMac p vid a) := by
  unfold State.learnMac
  repeat' first
    | with_reducible assumption
    | (with_reducible apply State.kept_mapSwitch)
    | split

theorem State.kept_setCredit {s0 s : State} {p q : Nat} {c : Int} {at_ : Nat} (h : Kept s0 s) : Kept s0 (s.setCredit p q c at_) :=
  Kept.upd h rfl (fun w => w) rfl rfl rfl rfl rfl

theorem State.kept_touchCredit {s0 s : State} {p q : Nat} (h : Kept s0 s) : Kept s0 (s.touchCredit p q) := by
  unfold State.touchCredit
  repeat' first
    | with_reducible assumption
    | (with_reducible apply State.kept_setCredit)
    | split

theorem State.kept_offer {s0 s : State} {q : QFrame} (h : Kept s0 s) : Kept s0 (s.offer q) := by
  unfold State.offer
  repeat' first
    | with_reducible assumption
    | (with_reducible first | apply State.kept_countDrop | apply State.kept_enqueue | apply State.kept_mapAccount)
    | (with_reducible apply State.kept_touchCredit)
    | split

theorem State.kept_sample {s0 s : State} {p direction : Nat} {q : QFrame} (h : Kept s0 s) : Kept s0 (s.sample p direction q) := by
  unfold State.sample
  dsimp only
  repeat' first
    | with_reducible assumption
    | (with_reducible first | apply State.kept_draw | apply State.kept_enqueue | apply State.kept_mapSwitch)
    | split

theorem State.kept_forward {s0 s : State} {x : Entering} {vid pcp : Nat} {ids : List Nat} {recovered : Bool}
    (h : Kept s0 s) : Kept s0 (s.forward x vid pcp ids recovered) := by
  unfold State.forward
  repeat' first
    | with_reducible assumption
    | (with_reducible first | apply State.kept_each | apply State.kept_offer)
    | (intro _ _ _)

theorem State.kept_cross {s0 s : State} {x : Entering} (h : Kept s0 s) : Kept s0 (s.cross x) := by
  unfold State.cross
  dsimp only
  repeat' first
    | with_reducible assumption
    | (with_reducible first | apply State.kept_filterCvu | apply State.kept_forward | apply State.kept_generation)
    | (with_reducible first | apply State.kept_learnMac | apply State.kept_mapSw | apply State.kept_police)
    | (with_reducible apply State.kept_recovery)
    | (refine Kept.fst (by assumption) ?_)
    | split

theorem State.kept_receiveFrame {s0 s : State} {p : Nat} {f : EthFrame} (h : Kept s0 s) : Kept s0 (s.receiveFrame p f) := by
  unfold State.receiveFrame
  dsimp only
  repeat' first
    | with_reducible assumption
    | (with_reducible first | apply State.kept_choose | apply State.kept_cross | apply State.kept_macsecIn)
    | (with_reducible first | apply State.kept_mapEth | apply State.kept_sample)
    | (refine Kept.fst (by assumption) ?_)
    | split

theorem State.kept_mapTime {s0 s : State} {f : TimeState → TimeState} (h : Kept s0 s) : Kept s0 (s.mapTime f) :=
  Kept.upd h rfl (fun w => w) rfl rfl rfl rfl rfl

theorem State.kept_timeChanged {s0 s : State} {scope old new : Nat} {step : Int}
    (h : Kept s0 s) : Kept s0 (s.timeChanged scope old new step) := by
  unfold State.timeChanged
  repeat' first
    | with_reducible assumption
    | (with_reducible apply State.kept_raise)

theorem State.kept_moveServo {s0 s : State} {next : ServoState} {step : Int} (h : Kept s0 s) : Kept s0 (s.moveServo next step) := by
  unfold State.moveServo
  repeat' first
    | with_reducible assumption
    | (with_reducible first | apply State.kept_mapTime | apply State.kept_timeChanged)

theorem State.kept_setRate {s0 s : State} {rate : Int} (h : Kept s0 s) : Kept s0 (s.setRate rate) :=
  Kept.upd h rfl (fun w => w) rfl rfl rfl rfl rfl

theorem State.kept_followRate {s0 s : State} {rate : Int} (h : Kept s0 s) : Kept s0 (s.followRate rate) :=
  Kept.upd h rfl (fun w => w) rfl rfl rfl rfl rfl

theorem State.kept_takeOffset {s0 s : State} {measured : Int} (h : Kept s0 s) : Kept s0 (s.takeOffset measured).1 := by
  unfold State.takeOffset
  dsimp only
  repeat' first
    | with_reducible assumption
    | (with_reducible apply State.kept_mapTime)
    | split

theorem kept_cmdTimeRead {s0 s : State} {r : Request} (h : Kept s0 s) : (cmdTimeRead.run r s).Kept s0 := by
  unfold cmdTimeRead
  repeat' first
    | with_reducible assumption
    | (with_reducible apply Answer.kept_done)

theorem kept_cmdTimeSourceSet {s0 s : State} {r : Request} (h : Kept s0 s) : (cmdTimeSourceSet.run r s).Kept s0 := by
  unfold cmdTimeSourceSet
  repeat' first
    | with_reducible assumption
    | (with_reducible first | apply Answer.kept_done | apply State.kept_mapTime | apply State.kept_moveServo)
    | (with_reducible apply State.kept_setRate)
    | split

theorem kept_cmdPpsConfig {s0 s : State} {r : Request} (h : Kept s0 s) : (cmdPpsConfig.run r s).Kept s0 := by
  unfold cmdPpsConfig
  repeat' first
    | with_reducible assumption
    | (with_reducible first | apply Answer.kept_done | apply State.kept_mapTime)

theorem State.kept_preemptState {s0 s : State} {p : Nat} (h : Kept s0 s) : Kept s0 (s.preemptState p) := by
  unfold State.preemptState
  repeat' first
    | with_reducible assumption
    | (with_reducible apply State.kept_raise)

theorem State.kept_moveCell {s0 s : State} {serial : Nat} (h : Kept s0 s) : Kept s0 (s.moveCell serial) := by
  unfold State.moveCell
  repeat' first
    | with_reducible assumption
    | (with_reducible first | apply State.kept_mapSwitch | apply State.kept_removeFrame)
    | split

theorem State.kept_macsecOut {s0 s : State} {p : Nat} {f : EthFrame} (h : Kept s0 s) : Kept s0 (s.macsecOut p f).1 := by
  unfold State.macsecOut
  dsimp only
  repeat' first
    | with_reducible assumption
    | (with_reducible first | apply State.kept_mapSa | apply State.kept_raise)
    | split

theorem State.kept_startFrame {s0 s : State} {p : Nat} {q : QFrame} (h : Kept s0 s) : Kept s0 (s.startFrame p q) := by
  unfold State.startFrame
  repeat' first
    | with_reducible assumption
    | (with_reducible first | apply State.kept_deliver | apply State.kept_macsecOut | apply State.kept_mapSw)
    | (with_reducible first | apply State.kept_mapSwitch | apply State.kept_removeFrame | apply State.kept_sample)
    | (with_reducible apply State.kept_setCredit)
    | (refine Kept.fst (by assumption) ?_)
    | split

theorem State.kept_presentTo {s0 s : State} {p : Nat} {q : QFrame} (h : Kept s0 s) : Kept s0 (s.presentTo p q) := by
  unfold State.presentTo
  repeat' first
    | with_reducible assumption
    | (with_reducible first | apply State.kept_mapEndpoint | apply State.kept_mapSwitch | apply State.kept_removeFrame)
    | (with_reducible apply State.kept_sample)
    | split

theorem State.kept_parkFault {s0 s : State} {q : Nat} {f : XFault} {requester offset : Nat}
    (h : Kept s0 s) : Kept s0 (s.parkFault q f requester offset) := by
  unfold State.parkFault
  repeat' first
    | with_reducible assumption
    | (with_reducible first | apply State.kept_mapQueue | apply State.kept_raiseFault)

theorem State.kept_nextDescriptor {s0 s : State} {q : Nat} (h : Kept s0 s) : Kept s0 (s.nextDescriptor q) :=
  Kept.upd h rfl (fun w => w) rfl rfl rfl rfl rfl

theorem State.kept_countDrained {s0 s : State} {q : Nat} (h : Kept s0 s) : Kept s0 (s.countDrained q) := by
  unfold State.countDrained
  dsimp only
  repeat' first
    | with_reducible assumption
    | (fail)
    | (refine Kept.record rfl ?_ (fun w => w) rfl rfl rfl rfl rfl rfl rfl; with_reducible assumption)
    | split

theorem State.kept_consumeRecord {s0 s : State} {q : Nat} (h : Kept s0 s) : Kept s0 (s.consumeRecord q) := by
  unfold State.consumeRecord
  repeat' first
    | with_reducible assumption
    | (with_reducible first | apply State.kept_mapLoad | apply State.kept_mapObj | apply State.kept_mapSense)
    | (with_reducible first | apply State.kept_measure | apply State.kept_removeFrame)
    | split

theorem State.kept_recordTooLong {s0 s : State} {q : Nat} (h : Kept s0 s) : Kept s0 (s.recordTooLong q) := by
  unfold State.recordTooLong
  repeat' first
    | with_reducible assumption
    | (with_reducible first | apply State.kept_consumeRecord | apply State.kept_mapEndpoint | apply State.kept_mapSwitch)
    | (with_reducible first | apply State.kept_sample | apply State.kept_tooLong)
    | split

theorem State.kept_sendFrame {s0 s : State} {q e cls : Nat} {bytes : List Byte} (h : Kept s0 s) : Kept s0 (s.sendFrame q e cls bytes) := by
  unfold State.sendFrame
  dsimp only
  repeat' first
    | with_reducible assumption
    | (with_reducible first | apply State.kept_cross | apply State.kept_mapEndpoint | apply State.kept_sample)
    | split

theorem State.kept_writeCpl {s0 s : State} {q : Nat} {st : Nat} (h : Kept s0 s) : Kept s0 (s.writeCpl q st).1 := by
  unfold State.writeCpl
  dsimp only
  repeat' first
    | with_reducible assumption
    | (with_reducible first | apply State.kept_mapQueue | apply State.kept_parkFault | apply State.kept_write)
    | (refine Kept.fst (by assumption) ?_)
    | split

theorem State.kept_afterCpl {s0 s : State} {q : Nat} {st : Nat} (h : Kept s0 s) : Kept s0 (s.afterCpl q st) := by
  unfold State.afterCpl
  dsimp only
  repeat' first
    | with_reducible assumption
    | (with_reducible first | apply State.kept_consumeRecord | apply State.kept_deliver | apply State.kept_release)
    | (with_reducible apply State.kept_vector)
    | split

theorem State.kept_completeDescriptor {s0 s : State} {q : Nat} {st : Nat} (h : Kept s0 s) : Kept s0 (s.completeDescriptor q st) := by
  unfold State.completeDescriptor
  repeat' first
    | with_reducible assumption
    | (with_reducible first | apply State.kept_afterCpl | apply State.kept_countDrained | apply State.kept_nextDescriptor)
    | (with_reducible apply State.kept_writeCpl)
    | (refine Kept.fst (by assumption) ?_)
    | split

theorem State.kept_fetchDescriptor {s0 s : State} {q : Nat} (h : Kept s0 s) : Kept s0 (s.fetchDescriptor q).1 := by
  unfold State.fetchDescriptor
  dsimp only
  repeat' first
    | with_reducible assumption
    | (with_reducible first | apply State.kept_completeDescriptor | apply State.kept_mapQueue | apply State.kept_parkFault)
    | (with_reducible apply State.kept_read)
    | (refine Kept.fst (by assumption) ?_)
    | split

theorem State.kept_passBucket {s0 s : State} {q : Nat} {x : Descriptor} (h : Kept s0 s) : Kept s0 (s.passBucket q x).1 := by
  unfold State.passBucket
  dsimp only
  repeat' first
    | with_reducible assumption
    | (with_reducible first | apply State.kept_countDelayed | apply State.kept_mapQueue | apply State.kept_takeTokens)
    | split

theorem State.kept_fillUart {s0 s : State} {q i : Nat} {x : Descriptor} (h : Kept s0 s) : Kept s0 (s.fillUart q i x) :=
  Kept.upd h rfl (fun w => w) rfl rfl rfl rfl rfl

theorem State.kept_deviceReady {s0 s : State} {q : Nat} {x : Descriptor} (h : Kept s0 s) : Kept s0 (s.deviceReady q x).1 := by
  unfold State.deviceReady
  dsimp only
  repeat' first
    | with_reducible assumption
    | (with_reducible first | apply State.kept_fillUart | apply State.kept_mapQueue | apply State.kept_recordTooLong)
    | split

theorem State.kept_moveSegment {s0 s : State} {q engine : Nat} {x : Descriptor} (h : Kept s0 s) : Kept s0 (s.moveSegment q engine x) := by
  unfold State.moveSegment
  dsimp only
  repeat' first
    | with_reducible assumption
    | (with_reducible first | apply State.kept_completeDescriptor | apply State.kept_mapQueue | apply State.kept_parkFault)
    | (with_reducible first | apply State.kept_read | apply State.kept_sendFrame | apply State.kept_write)
    | split

theorem State.kept_takeEngine {s0 s : State} {q : Nat} (h : Kept s0 s) : Kept s0 (s.takeEngine q).2 := by
  unfold State.takeEngine
  repeat' first
    | with_reducible assumption
    | (with_reducible first | apply State.kept_draw | apply State.kept_each | apply State.kept_mapQueue)
    | split
    | (intro _ _ _)

theorem State.kept_serveQueue {s0 s : State} {q : Nat} (h : Kept s0 s) : Kept s0 (s.serveQueue q) := by
  unfold State.serveQueue
  repeat' first
    | with_reducible assumption
    | (with_reducible first | apply State.kept_completeDescriptor | apply State.kept_deviceReady)
    | (with_reducible first | apply State.kept_fetchDescriptor | apply State.kept_moveSegment | apply State.kept_passBucket)
    | (with_reducible apply State.kept_takeEngine)
    | (refine Kept.fst (by assumption) ?_)
    | split

theorem kept_cmdDmaQueueConfig {s0 s : State} {r : Request} (h : Kept s0 s) : (cmdDmaQueueConfig.run r s).Kept s0 := by
  unfold cmdDmaQueueConfig
  repeat' first
    | with_reducible assumption
    | (with_reducible first | apply Answer.kept_done | apply State.kept_mapQueue | apply State.kept_vector)

theorem kept_cmdDmaQueuePost {s0 s : State} {r : Request} (h : Kept s0 s) : (cmdDmaQueuePost.run r s).Kept s0 := by
  unfold cmdDmaQueuePost
  repeat' first
    | with_reducible assumption
    | (with_reducible first | apply Answer.kept_done | apply State.kept_mapQueue)

theorem kept_cmdDmaQueueResume {s0 s : State} {r : Request} (h : Kept s0 s) : (cmdDmaQueueResume.run r s).Kept s0 := by
  unfold cmdDmaQueueResume
  repeat' first
    | with_reducible assumption
    | (with_reducible first | apply Answer.kept_done | apply State.kept_completeDescriptor | apply State.kept_mapQueue)
    | (with_reducible apply State.kept_nextDescriptor)
    | split

theorem kept_cmdDmaQueueQuery {s0 s : State} {r : Request} (h : Kept s0 s) : (cmdDmaQueueQuery.run r s).Kept s0 := by
  unfold cmdDmaQueueQuery
  repeat' first
    | with_reducible assumption
    | (with_reducible apply Answer.kept_done)

theorem kept_cmdLoadChannelConfig {s0 s : State} {r : Request} (h : Kept s0 s) : (cmdLoadChannelConfig.run r s).Kept s0 := by
  unfold cmdLoadChannelConfig
  repeat' first
    | with_reducible assumption
    | (with_reducible first | apply Answer.kept_done | apply State.kept_mapLoad | apply State.kept_redrive)
    | (with_reducible apply State.kept_vector)

theorem kept_cmdLoadWireSet {s0 s : State} {r : Request} (h : Kept s0 s) : (cmdLoadWireSet.run r s).Kept s0 := by
  unfold cmdLoadWireSet
  repeat' first
    | with_reducible assumption
    | (with_reducible first | apply Answer.kept_done | apply State.kept_mapLoad)

theorem State.kept_applyItem {s0 s : State} {n v qual : Nat} {ids : List Nat} (h : Kept s0 s) : Kept s0 (s.applyItem n v qual ids) := by
  unfold State.applyItem
  dsimp only
  repeat' first
    | with_reducible assumption
    | (with_reducible first | apply State.kept_deliver | apply State.kept_loadItem | apply State.kept_mapLoad)
    | (with_reducible apply State.kept_takeTokens)
    | split

theorem kept_cmdLoadSet {s0 s : State} {r : Request} (h : Kept s0 s) : (cmdLoadSet.run r s).Kept s0 := by
  unfold cmdLoadSet
  dsimp only
  repeat' first
    | with_reducible assumption
    | (with_reducible first | apply State.kept_applyItem | apply State.kept_countDelayed | apply State.kept_hoveTo)
    | split
    | (with_reducible first | apply Answer.kept_done | apply Answer.kept_wait)

theorem State.kept_ignoreWrite {s0 s : State} {n : Nat} (h : Kept s0 s) : Kept s0 (s.ignoreWrite n) := by
  unfold State.ignoreWrite
  repeat' first
    | with_reducible assumption
    | (with_reducible apply State.kept_setFlags)

theorem State.kept_directSet {s0 s : State} {p n v : Nat} (h : Kept s0 s) : Kept s0 (s.directSet p n v) := by
  unfold State.directSet
  dsimp only
  repeat' first
    | with_reducible assumption
    | (with_reducible first | apply State.kept_applyItem | apply State.kept_countDropped | apply State.kept_hoveTo)
    | (with_reducible first | apply State.kept_ignoreWrite | apply State.kept_mapLoad | apply State.kept_setFlags)
    | (refine Kept.record rfl ?_ (fun w => w) rfl rfl rfl rfl rfl rfl rfl;
       first
         | with_reducible assumption
         | (with_reducible first | apply State.kept_applyItem | apply State.kept_countDropped | apply State.kept_hoveTo)
         | (with_reducible first | apply State.kept_ignoreWrite | apply State.kept_mapLoad | apply State.kept_setFlags))
    | split

theorem kept_cmdLoadQuery {s0 s : State} {r : Request} (h : Kept s0 s) : (cmdLoadQuery.run r s).Kept s0 := by
  unfold cmdLoadQuery
  repeat' first
    | with_reducible assumption
    | (with_reducible first | apply Answer.kept_done | apply State.kept_mapLoad)
    | split

theorem kept_cmdLoadGangSet {s0 s : State} {r : Request} (h : Kept s0 s) : (cmdLoadGangSet.run r s).Kept s0 := by
  unfold cmdLoadGangSet
  repeat' first
    | with_reducible assumption
    | (with_reducible apply Answer.kept_done)
    | (refine Kept.record rfl ?_ (fun w => w) rfl rfl rfl rfl rfl rfl rfl;
       first
         | with_reducible assumption
         | (with_reducible apply Answer.kept_done))

theorem kept_cmdLoadMeasureSet {s0 s : State} {r : Request} (h : Kept s0 s) : (cmdLoadMeasureSet.run r s).Kept s0 := by
  unfold cmdLoadMeasureSet
  dsimp only
  repeat' first
    | with_reducible assumption
    | (with_reducible first | apply Answer.kept_done | apply State.kept_mapLoad | apply State.kept_mapQueue)
    | (with_reducible apply State.kept_measure)
    | split

theorem kept_cmdLoadDiagRun {s0 s : State} {r : Request} (h : Kept s0 s) : (cmdLoadDiagRun.run r s).Kept s0 := by
  unfold cmdLoadDiagRun
  repeat' first
    | with_reducible assumption
    | (with_reducible first | apply Answer.kept_accepted | apply State.kept_choose | apply State.kept_defer)
    | (with_reducible apply State.kept_mapLoad)
    | split

theorem kept_cmdLoadSafeTableSet {s0 s : State} {r : Request} (h : Kept s0 s) : (cmdLoadSafeTableSet.run r s).Kept s0 := by
  unfold cmdLoadSafeTableSet
  dsimp only
  split
  · rename_i e
    exact Kept.fst e (State.kept_read h)
  · rename_i e
    split
    · exact Answer.kept_accepted (Kept.upd (Kept.fst e (State.kept_read h)) rfl (fun x => x) rfl rfl rfl rfl rfl)
    · trivial

theorem kept_cmdLoadHoldSet {s0 s : State} {r : Request} (h : Kept s0 s) : (cmdLoadHoldSet.run r s).Kept s0 := by
  unfold cmdLoadHoldSet
  repeat' first
    | with_reducible assumption
    | (with_reducible apply Answer.kept_done)
    | (refine Kept.record rfl ?_ (fun w => w) rfl rfl rfl rfl rfl rfl rfl;
       first
         | with_reducible assumption
         | (with_reducible apply Answer.kept_done))

theorem kept_cmdLoadReclaim {s0 s : State} {r : Request} (h : Kept s0 s) : (cmdLoadReclaim.run r s).Kept s0 := by
  unfold cmdLoadReclaim
  repeat' first
    | with_reducible assumption
    | (with_reducible first | apply Answer.kept_done | apply State.kept_each | apply State.kept_mapLoad)
    | (intro _ _)

theorem State.kept_holdEnd {s0 s : State} {reclaimed set : Nat} (h : Kept s0 s) : Kept s0 (s.holdEnd reclaimed set) := by
  unfold State.holdEnd
  repeat' first
    | with_reducible assumption
    | (with_reducible apply State.kept_raise)

theorem State.kept_measureChannel {s0 s : State} {n : Nat} (h : Kept s0 s) : Kept s0 (s.measureChannel n) := by
  unfold State.measureChannel
  repeat' first
    | with_reducible assumption
    | (with_reducible first | apply State.kept_draw | apply State.kept_mapLoad)

theorem State.kept_detachUart {s0 s : State} {i : Nat} (h : Kept s0 s) : Kept s0 (s.detachUart i) := by
  unfold State.detachUart
  repeat' first
    | with_reducible assumption
    | (with_reducible first | apply State.kept_each | apply State.kept_mapQueue)
    | (intro _ _ _)

theorem kept_cmdLocalPortConfig {s0 s : State} {r : Request} (h : Kept s0 s) : (cmdLocalPortConfig.run r s).Kept s0 := by
  unfold cmdLocalPortConfig
  repeat' first
    | with_reducible assumption
    | (with_reducible first | apply Answer.kept_done | apply State.kept_detachUart | apply State.kept_each)
    | (with_reducible first | apply State.kept_mapPort | apply State.kept_mapQueue | apply State.kept_vector)
    | (intro _ _)

theorem kept_cmdLocalTransfer {s0 s : State} {r : Request} (h : Kept s0 s) : (cmdLocalTransfer.run r s).Kept s0 := by
  unfold cmdLocalTransfer
  dsimp -zeta only
  repeat' first
    | with_reducible assumption
    | (with_reducible first | apply Answer.kept_accepted | apply State.kept_mapPort | apply State.kept_read)
    | (refine Kept.fst (by assumption) ?_)
    | split

theorem kept_cmdLocalGpioSet {s0 s : State} {r : Request} (h : Kept s0 s) : (cmdLocalGpioSet.run r s).Kept s0 := by
  unfold cmdLocalGpioSet
  repeat' first
    | with_reducible assumption
    | (with_reducible first | apply Answer.kept_done | apply State.kept_each | apply State.kept_mapPort)
    | (intro _ _)

theorem kept_cmdLocalGpioGet {s0 s : State} {r : Request} (h : Kept s0 s) : (cmdLocalGpioGet.run r s).Kept s0 := by
  unfold cmdLocalGpioGet
  repeat' first
    | with_reducible assumption
    | (with_reducible first | apply Answer.kept_done | apply State.kept_each | apply State.kept_mapPort | apply Kept.fold)
    | (intro _ _)

theorem kept_cmdSenseInputConfig {s0 s : State} {r : Request} (h : Kept s0 s) : (cmdSenseInputConfig.run r s).Kept s0 := by
  unfold cmdSenseInputConfig
  repeat' first
    | with_reducible assumption
    | (with_reducible first | apply Answer.kept_done | apply State.kept_mapSense | apply State.kept_stopSampling)
    | split

theorem kept_cmdSenseStateRead {s0 s : State} {r : Request} (h : Kept s0 s) : (cmdSenseStateRead.run r s).Kept s0 := by
  unfold cmdSenseStateRead
  repeat' first
    | with_reducible assumption
    | (with_reducible first | apply Answer.kept_done | apply State.kept_each | apply State.kept_mapSense)
    | (intro _ _)

theorem kept_cmdSenseSampleSet {s0 s : State} {r : Request} (h : Kept s0 s) : (cmdSenseSampleSet.run r s).Kept s0 := by
  unfold cmdSenseSampleSet
  dsimp only
  repeat' first
    | with_reducible assumption
    | (with_reducible first | apply Answer.kept_done | apply State.kept_mapQueue | apply State.kept_mapSense)
    | (with_reducible apply State.kept_stopSampling)
    | split

theorem kept_cmdSenseGangSet {s0 s : State} {r : Request} (h : Kept s0 s) : (cmdSenseGangSet.run r s).Kept s0 := by
  unfold cmdSenseGangSet
  repeat' first
    | with_reducible assumption
    | (with_reducible apply Answer.kept_done)
    | (refine Kept.record rfl ?_ (fun w => w) rfl rfl rfl rfl rfl rfl rfl;
       first
         | with_reducible assumption
         | (with_reducible apply Answer.kept_done))

theorem kept_cmdSenseCalRun {s0 s : State} {r : Request} (h : Kept s0 s) : (cmdSenseCalRun.run r s).Kept s0 := by
  unfold cmdSenseCalRun
  repeat' first
    | with_reducible assumption
    | (with_reducible first | apply Answer.kept_accepted | apply State.kept_choose | apply State.kept_defer)
    | (refine Kept.record rfl ?_ (fun w => w) rfl rfl rfl rfl rfl rfl rfl;
       first
         | with_reducible assumption
         | (with_reducible first | apply Answer.kept_accepted | apply State.kept_choose | apply State.kept_defer))
    | split

theorem kept_cmdSenseQuery {s0 s : State} {r : Request} (h : Kept s0 s) : (cmdSenseQuery.run r s).Kept s0 := by
  unfold cmdSenseQuery
  repeat' first
    | with_reducible assumption
    | (with_reducible first | apply Answer.kept_done | apply State.kept_mapSense)
    | split

theorem State.kept_switchTo {s0 s : State} {i : Nat} {high : Bool} (h : Kept s0 s) : Kept s0 (s.switchTo i high) := by
  unfold State.switchTo
  dsimp only
  repeat' first
    | with_reducible assumption
    | (with_reducible first | apply State.kept_mapSense | apply State.kept_raise | apply State.kept_vector)
    | split

theorem kept_cmdSensorSupplySet {s0 s : State} {r : Request} (h : Kept s0 s) : (cmdSensorSupplySet.run r s).Kept s0 := by
  unfold cmdSensorSupplySet
  repeat' first
    | with_reducible assumption
    | (with_reducible first | apply Answer.kept_done | apply State.kept_choose | apply State.kept_mapSensor)

theorem State.kept_sensorFault {s0 s : State} {o kind restarts : Nat} (h : Kept s0 s) : Kept s0 (s.sensorFault o kind restarts) := by
  unfold State.sensorFault
  repeat' first
    | with_reducible assumption
    | (with_reducible first | apply State.kept_draw | apply State.kept_raise)

theorem State.kept_takeByte {s0 s : State} {i : Nat} {b : Byte} (h : Kept s0 s) : Kept s0 (s.takeByte i b) := by
  unfold State.takeByte
  dsimp only
  repeat' first
    | with_reducible assumption
    | (with_reducible first | apply State.kept_fetchDescriptor | apply State.kept_fillUart | apply State.kept_mapPort)
    | (with_reducible apply State.kept_mapQueue)
    | (refine Kept.fst (by assumption) ?_)
    | split

theorem State.kept_nextSample {s0 s : State} {i : Nat} (h : Kept s0 s) : Kept s0 (s.nextSample i) := by
  unfold State.nextSample
  dsimp only
  repeat' first
    | with_reducible assumption
    | (with_reducible apply State.kept_mapSense)
    | (refine Kept.record rfl ?_ (fun w => w) rfl rfl rfl rfl rfl rfl rfl;
       first
         | with_reducible assumption
         | (with_reducible apply State.kept_mapSense))
    | split

theorem kept_cmdLinChannelConfig {s0 s : State} {r : Request} (h : Kept s0 s) : (cmdLinChannelConfig.run r s).Kept s0 := by
  unfold cmdLinChannelConfig
  repeat' first
    | with_reducible assumption
    | (with_reducible first | apply Answer.kept_done | apply State.kept_mapLin | apply State.kept_startSchedule)
    | (with_reducible apply State.kept_vector)
    | split

theorem kept_cmdLinScheduleSet {s0 s : State} {r : Request} (h : Kept s0 s) : (cmdLinScheduleSet.run r s).Kept s0 := by
  unfold cmdLinScheduleSet
  dsimp only
  repeat' first
    | with_reducible assumption
    | (with_reducible first | apply Answer.kept_done | apply Answer.kept_no | apply State.kept_mapLin | apply State.kept_read)
    | (with_reducible first | apply State.kept_recompute | apply State.kept_startSchedule | apply Kept.fold)
    | (refine Kept.fst (by assumption) ?_)
    | split

theorem kept_cmdLinFrameWrite {s0 s : State} {r : Request} (h : Kept s0 s) : (cmdLinFrameWrite.run r s).Kept s0 := by
  unfold cmdLinFrameWrite
  repeat' first
    | with_reducible assumption
    | (with_reducible first | apply Answer.kept_done | apply State.kept_mapLin)

theorem kept_cmdLinFrameRead {s0 s : State} {r : Request} (h : Kept s0 s) : (cmdLinFrameRead.run r s).Kept s0 := by
  unfold cmdLinFrameRead
  repeat' first
    | with_reducible assumption
    | (with_reducible first | apply Answer.kept_done | apply State.kept_mapLin)

theorem kept_cmdLinBusControl {s0 s : State} {r : Request} (h : Kept s0 s) : (cmdLinBusControl.run r s).Kept s0 := by
  unfold cmdLinBusControl
  dsimp only
  repeat' first
    | with_reducible assumption
    | (with_reducible first | apply Answer.kept_done | apply State.kept_mapLin)
    | split

theorem State.kept_publish {s0 s : State} {c q : Nat} (h : Kept s0 s) : Kept s0 (s.publish c q) := by
  unfold State.publish
  dsimp only
  repeat' first
    | with_reducible assumption
    | (with_reducible first | apply State.kept_deliver | apply State.kept_draw | apply State.kept_mapLin)
    | split

theorem State.kept_closeFrame {s0 s : State} {c : Nat} (h : Kept s0 s) : Kept s0 (s.closeFrame c) := by
  unfold State.closeFrame
  repeat' first
    | with_reducible assumption
    | (with_reducible apply State.kept_linError)
    | split

theorem State.kept_beginFrame {s0 s : State} {c q : Nat} {publishes : Bool} (h : Kept s0 s) : Kept s0 (s.beginFrame c q publishes) := by
  unfold State.beginFrame
  dsimp only
  repeat' first
    | with_reducible assumption
    | (with_reducible first | apply State.kept_mapLin | apply State.kept_publish)
    | split

end Sys2Proof.Machine
end

