-- ==== Sys2Proof/Laws/KeptParts.lean ====
section
/-! SUPPORT. `Kept` over the partitions, the keys, the capsules and the life cycle: one lemma for each operation. -/

namespace Sys2Proof.Machine

theorem State.kept_mapPart {s0 s : State} {p : Nat} {f : Part → Part} (h : Kept s0 s) : Kept s0 (s.mapPart p f) :=
  Kept.upd h rfl (fun w => w) rfl rfl rfl rfl rfl

theorem State.kept_invalidate {s0 s : State} {drop : TlbEntry → Bool} (h : Kept s0 s) : Kept s0 (s.invalidate drop) :=
  Kept.upd h rfl (fun w => w) rfl rfl rfl rfl rfl

theorem kept_cmdPartitionCreate {s0 s : State} {r : Request} (h : Kept s0 s) : (cmdPartitionCreate.run r s).Kept s0 := by
  unfold cmdPartitionCreate
  repeat' first
    | with_reducible assumption
    | (with_reducible first | apply Answer.kept_done | apply State.kept_invalidate | apply State.kept_mapPart)
    | (refine Kept.record rfl ?_ (fun w => w) rfl rfl rfl rfl rfl rfl rfl;
       first
         | with_reducible assumption
         | (with_reducible first | apply Answer.kept_done | apply State.kept_invalidate | apply State.kept_mapPart))

theorem State.kept_parkQueues {s0 s : State} {p : Nat} (h : Kept s0 s) : Kept s0 (s.parkQueues p) := by
  unfold State.parkQueues
  repeat' first
    | with_reducible assumption
    | (with_reducible first | apply State.kept_each | apply State.kept_mapQueue)
    | (intro _ _ _)

theorem kept_cmdPartitionQuiesce {s0 s : State} {r : Request} (h : Kept s0 s) : (cmdPartitionQuiesce.run r s).Kept s0 := by
  unfold cmdPartitionQuiesce
  repeat' first
    | with_reducible assumption
    | (with_reducible first | apply Answer.kept_accepted | apply State.kept_applyEntry | apply State.kept_drain)
    | (with_reducible first | apply State.kept_each | apply State.kept_mapFlow | apply State.kept_mapPart)
    | (with_reducible first | apply State.kept_parkQueues | apply State.kept_quiesceLin)
    | split
    | (intro _ _)

theorem State.kept_resumeObjects {s0 s : State} {p : Nat} (h : Kept s0 s) (f : Nat → DmaQueue → DmaQueue) (g : Nat → Flow → Flow) :
    Kept s0 ((s.each (s.ownedBy p kindQueue) fun t q => t.mapQueue q (f q)).each
      ((s.each (s.ownedBy p kindQueue) fun t q => t.mapQueue q (f q)).flowsOwned p) fun t n => t.mapFlow n (g n)) :=
  State.kept_each (State.kept_each h fun _ _ k => State.kept_mapQueue k) fun _ _ k => State.kept_mapFlow k

theorem kept_cmdPartitionResume {s0 s : State} {r : Request} (h : Kept s0 s) : (cmdPartitionResume.run r s).Kept s0 :=
  Answer.kept_finish (State.kept_resumeLin (State.kept_resumeObjects (State.kept_mapPart h) _ _)) fun _ k => State.kept_readRings k

theorem State.kept_dropFlows {s0 s : State} {p : Nat} (h : Kept s0 s) : Kept s0 (s.dropFlows p).1 := by
  unfold State.dropFlows
  repeat' first
    | with_reducible assumption
    | (with_reducible first | apply State.kept_each | apply State.kept_freeFlow | apply State.kept_recompute)

theorem State.kept_clearQueue {s0 s : State} {q : Nat} (h : Kept s0 s) : Kept s0 (s.clearQueue q) := by
  unfold State.clearQueue
  repeat' first
    | with_reducible assumption
    | (with_reducible first | apply State.kept_mapEndpoint | apply State.kept_mapQueue)
    | split

theorem State.kept_releaseLoad {s0 s : State} {remove : Bool} {n : Nat} (h : Kept s0 s) : Kept s0 (s.releaseLoad remove n) := by
  unfold State.releaseLoad
  repeat' first
    | with_reducible assumption
    | (with_reducible first | apply State.kept_applyEntry | apply State.kept_mapLoad | apply State.kept_measure)
    | (refine Kept.record rfl ?_ (fun w => w) rfl rfl rfl rfl rfl rfl rfl;
       first
         | with_reducible assumption
         | (with_reducible first | apply State.kept_applyEntry | apply State.kept_mapLoad | apply State.kept_measure))
    | split

theorem State.kept_resetObjects {s0 s : State} {p : Nat} (h : Kept s0 s) : Kept s0 (s.resetObjects p) := by
  unfold State.resetObjects
  repeat' first
    | with_reducible assumption
    | (with_reducible first | apply State.kept_each | apply State.kept_mapCvu | apply State.kept_mapFairWindow)
    | (with_reducible first | apply State.kept_mapLin | apply State.kept_mapObj | apply State.kept_mapPort)
    | (with_reducible apply State.kept_mapSense)
    | (refine Kept.record rfl ?_ (fun w => w) rfl rfl rfl rfl rfl rfl rfl;
       first
         | with_reducible assumption
         | (with_reducible first | apply State.kept_each | apply State.kept_mapCvu | apply State.kept_mapFairWindow)
         | (with_reducible first | apply State.kept_mapLin | apply State.kept_mapObj | apply State.kept_mapPort)
         | (with_reducible apply State.kept_mapSense))
    | (intro _ _ _)

theorem State.kept_releaseCores {s0 s : State} {p : Nat} {remove : Bool} (h : Kept s0 s) : Kept s0 (s.releaseCores p remove) := by
  unfold State.releaseCores
  repeat' first
    | with_reducible assumption
    | (with_reducible first | apply State.kept_each | apply State.kept_mapCore)
    | (refine Kept.record rfl ?_ (fun w => w) rfl rfl rfl rfl rfl rfl rfl;
       first
         | with_reducible assumption
         | (with_reducible first | apply State.kept_each | apply State.kept_mapCore))
    | split
    | (intro _ _ _)

theorem State.kept_releaseSlots {s0 s : State} {p : Nat} {remove : Bool} (h : Kept s0 s) : Kept s0 (s.releaseSlots p remove) := by
  unfold State.releaseSlots
  dsimp only
  repeat' first
    | with_reducible assumption
    | (with_reducible first | apply State.kept_each | apply State.kept_mapSlot)
    | split
    | (intro _ _ _)

theorem State.kept_resetPartition {s0 s : State} {p : Nat} {remove : Bool} (h : Kept s0 s) : Kept s0 (s.resetPartition p remove).1 := by
  unfold State.resetPartition
  dsimp only
  have k2 := State.kept_each (f := State.clearQueue) (l := (s.dropFlows p).1.ownedBy p kindQueue) (State.kept_dropFlows (p := p) h)
    (fun _ x k => State.kept_clearQueue (q := x) k)
  have k3 := State.kept_each
    (l := ((s.dropFlows p).1.each ((s.dropFlows p).1.ownedBy p kindQueue) State.clearQueue).ownedBy p kindLoad) k2
    (fun _ x k => State.kept_releaseLoad (remove := remove) (n := x) k)
  have k4 := State.kept_releaseSlots (p := p) (remove := remove) (State.kept_releaseCores (p := p) (remove := remove)
    (State.kept_resetObjects (p := p) k3))
  refine State.kept_invalidate ?_
  have u : ∀ t : State, Kept s0 t → Kept s0 { t with io := { t.io.setWindow p {} with
      psRoot := Table.put {} t.io.psRoot p {},
      dirty := Table.modify {} t.io.dirty p fun d => { d with running := false } } } :=
    fun _ k => Kept.upd k rfl (fun x => x) rfl rfl rfl rfl rfl
  exact u _ k4

theorem kept_cmdPartitionReset {s0 s : State} {r : Request} (h : Kept s0 s) : (cmdPartitionReset.run r s).Kept s0 := by
  unfold cmdPartitionReset
  repeat' first
    | with_reducible assumption
    | (with_reducible first | apply Answer.kept_done | apply State.kept_mapPart | apply State.kept_resetPartition)

theorem kept_cmdPartitionRemove {s0 s : State} {r : Request} (h : Kept s0 s) : (cmdPartitionRemove.run r s).Kept s0 := by
  have k := State.kept_resetPartition (p := r.byte 0) (remove := true) h
  unfold cmdPartitionRemove
  dsimp only
  generalize s.resetPartition (r.byte 0) true = x at k
  exact Answer.kept_done (State.kept_mapPart (Kept.upd k rfl (fun w => w) rfl rfl rfl rfl rfl))

theorem kept_cmdObjectAssign {s0 s : State} {r : Request} (h : Kept s0 s) : (cmdObjectAssign.run r s).Kept s0 := by
  refine Answer.kept_done (State.kept_each h fun t n k => ?_)
  have k1 := State.kept_setOwner (kind := r.byte 0) (n := n) (p := r.byte 1) k
  dsimp only
  split
  · exact State.kept_mapObj (State.kept_detachObject k1)
  · exact k1

theorem kept_cmdCacheClassSet {s0 s : State} {r : Request} (h : Kept s0 s) : (cmdCacheClassSet.run r s).Kept s0 := by
  unfold cmdCacheClassSet
  repeat' first
    | with_reducible assumption
    | (with_reducible first | apply Answer.kept_done | apply State.kept_invalidate)
    | (refine Kept.record rfl ?_ (fun w => w) rfl rfl rfl rfl rfl rfl rfl;
       first
         | with_reducible assumption
         | (with_reducible first | apply Answer.kept_done | apply State.kept_invalidate))

theorem kept_cmdMemoryOwnerSet {s0 s : State} {r : Request} (h : Kept s0 s) : (cmdMemoryOwnerSet.run r s).Kept s0 := by
  unfold cmdMemoryOwnerSet
  repeat' first
    | with_reducible assumption
    | (with_reducible first | apply Answer.kept_done | apply State.kept_invalidate | apply Kept.fold)
    | (refine Kept.record rfl ?_ (fun w => w) rfl rfl rfl rfl rfl rfl rfl;
       first
         | with_reducible assumption
         | (with_reducible first | apply Answer.kept_done | apply State.kept_invalidate | apply Kept.fold))

theorem kept_cmdIommuRootSet {s0 s : State} {r : Request} (h : Kept s0 s) : (cmdIommuRootSet.run r s).Kept s0 := by
  unfold cmdIommuRootSet
  repeat' first
    | with_reducible assumption
    | (with_reducible first | apply Answer.kept_done | apply State.kept_invalidate)
    | (refine Kept.record rfl ?_ (fun w => w) rfl rfl rfl rfl rfl rfl rfl;
       first
         | with_reducible assumption
         | (with_reducible first | apply Answer.kept_done | apply State.kept_invalidate))
    | split

theorem kept_cmdIommuInvalidate {s0 s : State} {r : Request} (h : Kept s0 s) : (cmdIommuInvalidate.run r s).Kept s0 := by
  unfold cmdIommuInvalidate
  repeat' first
    | with_reducible assumption
    | (with_reducible first | apply Answer.kept_done | apply State.kept_invalidate)

theorem State.kept_setDirty {s0 s : State} {p : Nat} {d : DirtyLog} (h : Kept s0 s) : Kept s0 (s.setDirty p d) :=
  Kept.upd h rfl (fun w => w) rfl rfl rfl rfl rfl

theorem kept_cmdDirtyLogStart {s0 s : State} {r : Request} (h : Kept s0 s) : (cmdDirtyLogStart.run r s).Kept s0 := by
  unfold cmdDirtyLogStart
  repeat' first
    | with_reducible assumption
    | (with_reducible first | apply Answer.kept_done | apply State.kept_setDirty)

theorem kept_cmdDirtyLogSwap {s0 s : State} {r : Request} (h : Kept s0 s) : (cmdDirtyLogSwap.run r s).Kept s0 := by
  unfold cmdDirtyLogSwap
  repeat' first
    | with_reducible assumption
    | (with_reducible first | apply Answer.kept_done | apply State.kept_setDirty)

theorem kept_cmdDirtyLogStop {s0 s : State} {r : Request} (h : Kept s0 s) : (cmdDirtyLogStop.run r s).Kept s0 := by
  unfold cmdDirtyLogStop
  repeat' first
    | with_reducible assumption
    | (with_reducible first | apply Answer.kept_done | apply State.kept_setDirty)

theorem State.kept_enterKey {s0 s : State} {r : Request} {opcode key : Nat} (h : Kept s0 s) : (s.enterKey r opcode key).Kept s0 := by
  unfold State.enterKey
  dsimp only
  split
  · exact Answer.kept_accepted (State.kept_beginWrite h)
  · exact Answer.kept_done (State.kept_fillVolatile h)

theorem kept_cmdKeySlotOwnerSet {s0 s : State} {r : Request} (h : Kept s0 s) : (cmdKeySlotOwnerSet.run r s).Kept s0 := by
  unfold cmdKeySlotOwnerSet
  dsimp only
  repeat' first
    | with_reducible assumption
    | (with_reducible first | apply Answer.kept_accepted | apply Answer.kept_done | apply State.kept_beginWrite)
    | (with_reducible apply State.kept_mapSlot)
    | split

theorem kept_cmdKeyGenerate {s0 s : State} {r : Request} (h : Kept s0 s) : (cmdKeyGenerate.run r s).Kept s0 := by
  unfold cmdKeyGenerate
  dsimp -zeta only
  repeat' first
    | with_reducible assumption
    | (with_reducible first | apply State.kept_drbg | apply State.kept_enterKey)
    | split
    | (with_reducible apply Answer.kept_wait)

theorem kept_cmdKeyDerive {s0 s : State} {r : Request} (h : Kept s0 s) : (cmdKeyDerive.run r s).Kept s0 := by
  unfold cmdKeyDerive
  repeat' first
    | with_reducible assumption
    | (with_reducible apply State.kept_enterKey)

theorem kept_cmdKeyUnwrap {s0 s : State} {r : Request} (h : Kept s0 s) : (cmdKeyUnwrap.run r s).Kept s0 := by
  unfold cmdKeyUnwrap
  dsimp only
  repeat' first
    | with_reducible assumption
    | (with_reducible first | apply Answer.kept_no | apply State.kept_enterKey | apply State.kept_read)
    | (refine Kept.fst (by assumption) ?_)
    | split

theorem kept_cmdKeyImport {s0 s : State} {r : Request} (h : Kept s0 s) : (cmdKeyImport.run r s).Kept s0 := by
  unfold cmdKeyImport
  dsimp -zeta only
  repeat' first
    | with_reducible assumption
    | (with_reducible first | apply State.kept_enterKey | apply State.kept_read)
    | (refine Kept.fst (by assumption) ?_)
    | split

theorem kept_cmdKeyWrap {s0 s : State} {r : Request} (h : Kept s0 s) : (cmdKeyWrap.run r s).Kept s0 := by
  unfold cmdKeyWrap
  dsimp only
  split
  · rename_i e
    have k := Kept.fst e (State.kept_write (State.kept_drawCounter (Kept.refl s)))
    exact Answer.kept_fault (Kept.upd h rfl k.memory rfl rfl rfl rfl rfl)
  · rename_i e
    exact Answer.kept_done (Kept.fst e (State.kept_write (State.kept_drawCounter h)))

theorem kept_cmdKeyDestroy {s0 s : State} {r : Request} (h : Kept s0 s) : (cmdKeyDestroy.run r s).Kept s0 := by
  unfold cmdKeyDestroy
  dsimp only
  repeat' first
    | with_reducible assumption
    | (with_reducible first | apply Answer.kept_accepted | apply Answer.kept_done | apply State.kept_beginWrite)
    | (with_reducible first | apply State.kept_clearSas | apply State.kept_mapSlot)
    | split

theorem kept_cmdKeyQuery {s0 s : State} {r : Request} (h : Kept s0 s) : (cmdKeyQuery.run r s).Kept s0 := by
  unfold cmdKeyQuery
  repeat' first
    | with_reducible assumption
    | (with_reducible apply Answer.kept_done)

theorem kept_cmdCipherRun {s0 s : State} {r : Request} (h : Kept s0 s) : (cmdCipherRun.run r s).Kept s0 := by
  unfold cmdCipherRun
  dsimp only
  repeat' first
    | with_reducible assumption
    | (with_reducible first | apply Answer.kept_accepted | apply State.kept_countDelayed | apply State.kept_draw)
    | (with_reducible first | apply State.kept_drawCounter | apply State.kept_takeTokens)
    | (refine Kept.record rfl ?_ (fun w => w) rfl rfl rfl rfl rfl rfl rfl;
       first
         | with_reducible assumption
         | (with_reducible first | apply Answer.kept_accepted | apply State.kept_countDelayed | apply State.kept_draw)
         | (with_reducible first | apply State.kept_drawCounter | apply State.kept_takeTokens))
    | split

theorem State.kept_conformOp {s0 s : State} {i : Nat} (h : Kept s0 s) : Kept s0 (s.conformOp i) := by
  unfold State.conformOp
  dsimp only
  repeat' first
    | with_reducible assumption
    | (with_reducible apply State.kept_takeTokens)
    | (refine Kept.record rfl ?_ (fun w => w) rfl rfl rfl rfl rfl rfl rfl;
       first
         | with_reducible assumption
         | (with_reducible apply State.kept_takeTokens))
    | split

theorem kept_cmdCipherCounterRead {s0 s : State} {r : Request} (h : Kept s0 s) : (cmdCipherCounterRead.run r s).Kept s0 := by
  unfold cmdCipherCounterRead
  repeat' first
    | with_reducible assumption
    | (with_reducible apply Answer.kept_done)

theorem kept_cmdCipherQuery {s0 s : State} {r : Request} (h : Kept s0 s) : (cmdCipherQuery.run r s).Kept s0 := by
  unfold cmdCipherQuery
  repeat' first
    | with_reducible assumption
    | (with_reducible apply Answer.kept_done)

theorem kept_cmdCipherHoldSet {s0 s : State} {r : Request} (h : Kept s0 s) : (cmdCipherHoldSet.run r s).Kept s0 := by
  unfold cmdCipherHoldSet
  repeat' first
    | with_reducible assumption
    | (with_reducible apply Answer.kept_done)
    | (refine Kept.record rfl ?_ (fun w => w) rfl rfl rfl rfl rfl rfl rfl;
       first
         | with_reducible assumption
         | (with_reducible apply Answer.kept_done))

theorem kept_cmdCvuConfig {s0 s : State} {r : Request} (h : Kept s0 s) : (cmdCvuConfig.run r s).Kept s0 := by
  unfold cmdCvuConfig
  repeat' first
    | with_reducible assumption
    | (with_reducible first | apply Answer.kept_done | apply State.kept_mapCvu)

theorem kept_cmdCvuRun {s0 s : State} {r : Request} (h : Kept s0 s) : (cmdCvuRun.run r s).Kept s0 := by
  unfold cmdCvuRun
  dsimp only
  repeat' first
    | with_reducible assumption
    | (with_reducible first | apply State.kept_countDelayed | apply State.kept_cvuItem | apply State.kept_cvuMismatch)
    | (with_reducible first | apply State.kept_deliver | apply State.kept_read | apply State.kept_takeTokens)
    | (refine Kept.fst (by assumption) ?_)
    | split
    | (with_reducible first | apply Answer.kept_done | apply Answer.kept_wait | apply Answer.kept_finish)
    | (intro _ _)

theorem kept_cmdCvuStreamAttach {s0 s : State} {r : Request} (h : Kept s0 s) : (cmdCvuStreamAttach.run r s).Kept s0 := by
  unfold cmdCvuStreamAttach
  repeat' first
    | with_reducible assumption
    | (with_reducible first | apply Answer.kept_done | apply State.kept_mapFilter)

theorem kept_cmdCvuQuery {s0 s : State} {r : Request} (h : Kept s0 s) : (cmdCvuQuery.run r s).Kept s0 := by
  unfold cmdCvuQuery
  repeat' first
    | with_reducible assumption
    | (with_reducible first | apply Answer.kept_done | apply State.kept_mapCvu)
    | split

theorem kept_cmdFairleadConfig {s0 s : State} {r : Request} (h : Kept s0 s) : (cmdFairleadConfig.run r s).Kept s0 := by
  unfold cmdFairleadConfig
  repeat' first
    | with_reducible assumption
    | (with_reducible first | apply Answer.kept_done | apply State.kept_dropFair | apply State.kept_moveFair)
    | (refine Kept.record rfl ?_ (fun w => w) rfl rfl rfl rfl rfl rfl rfl;
       first
         | with_reducible assumption
         | (with_reducible first | apply Answer.kept_done | apply State.kept_dropFair | apply State.kept_moveFair))
    | split

theorem kept_cmdFairleadWindowSet {s0 s : State} {r : Request} (h : Kept s0 s) : (cmdFairleadWindowSet.run r s).Kept s0 := by
  unfold cmdFairleadWindowSet
  repeat' first
    | with_reducible assumption
    | (with_reducible first | apply Answer.kept_done | apply State.kept_mapFairWindow)

theorem kept_cmdFairleadMove {s0 s : State} {r : Request} (h : Kept s0 s) : (cmdFairleadMove.run r s).Kept s0 := by
  unfold cmdFairleadMove
  repeat' first
    | with_reducible assumption
    | (with_reducible first | apply State.kept_advanceFair | apply State.kept_vector | apply State.kept_write)
    | (refine Kept.record rfl ?_ (fun w => w) rfl rfl rfl rfl rfl rfl rfl;
       first
         | with_reducible assumption
         | (with_reducible first | apply Answer.kept_accepted | apply State.kept_advanceFair | apply State.kept_vector)
         | (with_reducible apply State.kept_write))
    | (with_reducible first | apply Answer.kept_accepted | apply Answer.kept_finish)

theorem State.kept_fairFault {s0 s : State} {o : FairOp} {f : XFault} (h : Kept s0 s) : Kept s0 (s.fairFault o f) := by
  unfold State.fairFault
  repeat' first
    | with_reducible assumption
    | (with_reducible apply State.kept_raiseFault)

theorem kept_sendTlps {p : Nat} (l : List (Nat × Nat)) {iova sent : Nat} {s0 s : State} (h : Kept s0 s) :
    Kept s0 (sendTlps p l iova sent s).1 := by
  induction l generalizing s iova sent with
  | nil => exact h
  | cons x l ih =>
    unfold sendTlps
    split
    · rename_i e
      exact ih (Kept.fst e (State.kept_read h))
    · rename_i e
      exact Kept.fst e (State.kept_read h)

theorem State.kept_endWrite {s0 s : State} {o : FairOp} {far : Bool} (h : Kept s0 s) : Kept s0 (s.endWrite o far) := by
  unfold State.endWrite
  split
  · rename_i e
    exact State.kept_endFair (Kept.fst e (kept_sendTlps _ h))
  · rename_i e
    exact State.kept_endFair (State.kept_fairFault (Kept.fst e (kept_sendTlps _ h)))

theorem kept_landTlps {p : Nat} (l : List (Nat × Nat)) {iova : Nat} {data : List Byte} {s0 s : State} (h : Kept s0 s) :
    Kept s0 (landTlps p l iova data s).1 := by
  induction l generalizing s iova data with
  | nil => exact h
  | cons x l ih =>
    unfold landTlps
    split
    · rename_i e
      exact ih (Kept.fst e (State.kept_write h))
    · rename_i e
      exact Kept.fst e (State.kept_write h)

theorem State.kept_endRead {s0 s : State} {o : FairOp} {data : List Byte} (h : Kept s0 s) : Kept s0 (s.endRead o data) := by
  unfold State.endRead
  dsimp only
  split
  · rename_i e
    exact State.kept_failRead (State.kept_fairFault (Kept.fst e (kept_landTlps _ h)))
  · rename_i e
    have k := Kept.fst e (kept_landTlps _ h)
    refine State.kept_endFair ?_
    split
    · exact k
    · exact State.kept_mapFairWindow k

theorem kept_cmdFairleadFenceClear {s0 s : State} {r : Request} (h : Kept s0 s) : (cmdFairleadFenceClear.run r s).Kept s0 := by
  unfold cmdFairleadFenceClear
  repeat' first
    | with_reducible assumption
    | (with_reducible first | apply Answer.kept_done | apply State.kept_mapFairWindow)

theorem kept_cmdFairleadCfg {s0 s : State} {r : Request} (h : Kept s0 s) : (cmdFairleadCfg.run r s).Kept s0 := by
  unfold cmdFairleadCfg
  dsimp -zeta only
  repeat' first
    | with_reducible assumption
    | (with_reducible first | apply State.kept_choose | apply State.kept_draw)
    | split
    | (with_reducible first | apply Answer.kept_done | apply Answer.kept_finish)
    | (exact fun _ k => k)

theorem kept_cmdFairleadQuery {s0 s : State} {r : Request} (h : Kept s0 s) : (cmdFairleadQuery.run r s).Kept s0 := by
  have k : ∀ a w, Kept s (if r.field 8 8 = 0 then (s.draw.2, none) else s.draw.2.write r.issuer a 512 w).1 := by
    intro a w
    split
    · exact State.kept_draw (Kept.refl s)
    · exact State.kept_write (State.kept_draw (Kept.refl s))
  unfold cmdFairleadQuery
  dsimp only
  split
  · rename_i e
    have k1 := Kept.fst e (k _ _)
    exact Answer.kept_fault (Kept.upd h rfl k1.memory rfl rfl rfl rfl rfl)
  · rename_i e
    have k1 := h.trans (Kept.fst e (k _ _))
    refine Answer.kept_done ?_
    split
    · exact Kept.upd k1 rfl (fun x => x) rfl rfl rfl rfl rfl
    · exact k1

theorem State.kept_inboundFault {s0 s : State} {w requester : Nat} {f : XFault}
    (h : Kept s0 s) : Kept s0 (s.inboundFault w requester f) := by
  unfold State.inboundFault
  repeat' first
    | with_reducible assumption
    | (with_reducible first | apply State.kept_raise | apply State.kept_write)

theorem State.kept_wrapSlots {pair : Nat} (l : List Nat) {s0 s : State} (h : Kept s0 s) : Kept s0 (s.wrapSlots pair l).1 := by
  induction l generalizing s with
  | nil => exact h
  | cons x l ih => exact ih (State.kept_drawCounter h)

theorem kept_cmdPartitionCapsuleExport {s0 s : State} {r : Request} (h : Kept s0 s) : (cmdPartitionCapsuleExport.run r s).Kept s0 := by
  have u : ∀ (t : State) (l : List CapsuleOp), Kept s0 t → Kept s0 { t with capsules := l } :=
    fun _ _ k => Kept.upd k rfl (fun x => x) rfl rfl rfl rfl rfl
  unfold cmdPartitionCapsuleExport
  dsimp only
  split
  · trivial
  · refine Answer.kept_accepted (u _ _ (State.kept_each ?_ fun _ _ k => State.kept_mapSlot k))
    split
    · split
      · exact State.kept_wrapSlots _ h
      · exact h
    · exact h

theorem kept_cmdPartitionCapsuleImport {s0 s : State} {r : Request} (h : Kept s0 s) : (cmdPartitionCapsuleImport.run r s).Kept s0 := by
  unfold cmdPartitionCapsuleImport
  repeat' first
    | with_reducible assumption
    | (with_reducible apply Answer.kept_accepted)
    | (refine Kept.record rfl ?_ (fun w => w) rfl rfl rfl rfl rfl rfl rfl;
       first
         | with_reducible assumption
         | (with_reducible apply Answer.kept_accepted))

theorem State.kept_importMark {s0 s : State} {record : Nat} (h : Kept s0 s) : Kept s0 (s.importMark record) :=
  Kept.upd h rfl (fun w => w) rfl rfl rfl rfl rfl

theorem State.kept_importFlow {s0 s : State} {p : Nat} {numbers : List (Nat × Nat)} {record : Nat}
    (h : Kept s0 s) : Kept s0 (s.importFlow p numbers record).1 := by
  unfold State.importFlow
  dsimp only
  repeat' first
    | with_reducible assumption
    | (with_reducible first | apply State.kept_accept | apply kept_cmdFlowAdmit)
    | split

theorem State.kept_capsuleDone {s0 s : State} {o : CapsuleOp} {st : Status} {sections refused : Nat}
    (h : Kept s0 s) : Kept s0 (s.capsuleDone o st sections refused) := by
  unfold State.capsuleDone
  repeat' first
    | with_reducible assumption
    | (with_reducible first | apply State.kept_opEnd | apply State.kept_raise)

theorem configCommand_keeps {n : Nat} {c : Command} (e : configCommand n = some c) : c.Keeps := by
  unfold configCommand at e
  split at e
  · cases e; exact fun _ _ _ => kept_cmdCanObjectConfig
  · cases e; exact fun _ _ _ => kept_cmdLoadChannelConfig
  · cases e; exact fun _ _ _ => kept_cmdSenseInputConfig
  · cases e; exact fun _ _ _ => kept_cmdLinChannelConfig
  · cases e; exact fun _ _ _ => kept_cmdLocalPortConfig
  · cases e; exact fun _ _ _ => kept_cmdFairleadWindowSet
  · cases e

theorem State.kept_importObject {s0 s t : State} {p record : Nat} {numbers : List (Nat × Nat)} (h : Kept s0 s)
    (e : s.importObject p numbers record = some t) : Kept s0 t := by
  unfold State.importObject at e
  dsimp only at e
  split at e
  · rename_i c n ec _
    split at e
    · cases e
      exact h
    · split at e
      · cases e
      · split at e
        · rename_i ea
          have k : (Answer.finish _ _ _ _).Kept s0 := ea ▸ configCommand_keeps ec _ s0 s h
          cases e
          exact k.2 _ k.1
        · cases e
  · cases e

theorem State.kept_importQueue {s0 s t : State} {p record : Nat} {numbers : List (Nat × Nat)} (h : Kept s0 s)
    (e : s.importQueue p numbers record = some t) : Kept s0 t := by
  unfold State.importQueue at e
  dsimp only at e
  split at e
  · cases e
  · cases e
    exact State.kept_mapQueue h

theorem State.kept_importCvu {s0 s t : State} {p record : Nat} {numbers : List (Nat × Nat)} (h : Kept s0 s)
    (e : s.importCvu p numbers record = some t) : Kept s0 t := by
  unfold State.importCvu at e
  dsimp only at e
  split at e
  · cases e
  · split at e
    · cases e
      exact State.kept_mapCvu h
    · cases e

theorem State.kept_importKey {s0 s t : State} {p blob : Nat} {key : List Nat} (h : Kept s0 s)
    (e : s.importKey p key blob = some t) : Kept s0 t := by
  unfold State.importKey at e
  split at e
  · unfold State.placeKey at e
    dsimp only at e
    split at e
    · cases e
    · cases e
      exact State.kept_mapSlot (State.kept_drbg h)
  · cases e

theorem State.kept_importAll {s0 s t : State} {f : State → Nat → Option State} (l : List Nat)
    (hf : ∀ a b x, Kept s0 a → f a x = some b → Kept s0 b) (h : Kept s0 s) (e : State.importAll f l s = some t) : Kept s0 t := by
  induction l generalizing s with
  | nil => cases e; exact h
  | cons x l ih =>
    unfold State.importAll at e
    split at e
    · rename_i e1
      exact ih (hf _ _ _ h e1) e
    · cases e

theorem State.kept_importRest {s0 s t : State} {p features : Nat} {key : Option (List Nat)} {l : List Section} (h : Kept s0 s)
    (e : s.importRest p features key l = some t) : Kept s0 t := by
  have w : Kept s0 ((recordsOf l 1).foldl
      (fun t x => { t with io := t.io.setWindow p (windowOf (takeOut 1 640 407 x) features) }) s) :=
    Kept.fold _ (fun _ _ k => Kept.upd k rfl (fun x => x) rfl rfl rfl rfl rfl) h
  unfold State.importRest at e
  dsimp only at e
  generalize (recordsOf l 1).foldl
      (fun t x => { t with io := t.io.setWindow p (windowOf (takeOut 1 640 407 x) features) }) s = s1 at w e
  split at e
  · cases e
  · split at e
    · cases e
    · rename_i e1
      have k1 := State.kept_importAll _ (fun _ _ _ k d => State.kept_importObject k d) w e1
      split at e
      · cases e
      · rename_i e2
        have k2 := State.kept_importAll _ (fun _ _ _ k d => State.kept_importQueue k d) k1 e2
        split at e
        · cases e
        · rename_i e3
          have k3 := State.kept_importAll _ (fun _ _ _ k d => State.kept_importCvu k d) k2 e3
          split at e
          · cases e
          · rename_i e4
            have k4 := State.kept_importAll _ (fun _ _ _ k d => State.kept_importKey k d) k3 e4
            cases e
            exact State.kept_each k4 (fun _ _ k => State.kept_importMark k)

theorem State.kept_importFlows {p : Nat} {numbers : List (Nat × Nat)} (l : List Nat) {s0 s : State} (h : Kept s0 s) :
    Kept s0 (State.importFlows p numbers l s).1 := by
  induction l generalizing s with
  | nil => exact h
  | cons x l ih => exact ih (State.kept_importFlow h)

theorem State.kept_importCapsule {s0 s : State} {o : CapsuleOp} {w : Nat} (h : Kept s0 s) : Kept s0 (s.importCapsule o w) := by
  unfold State.importCapsule
  dsimp only
  split
  · exact State.kept_capsuleDone h
  · split
    · exact State.kept_capsuleDone h
    · split
      · exact State.kept_capsuleDone h
      · rename_i e
        exact State.kept_capsuleDone (State.kept_importFlows _ (State.kept_importRest h e))

theorem kept_cmdCpuQuery {s0 s : State} {r : Request} (h : Kept s0 s) : (cmdCpuQuery.run r s).Kept s0 := by
  unfold cmdCpuQuery
  repeat' first
    | with_reducible assumption
    | (with_reducible first | apply Answer.kept_done | apply State.kept_hoveTo)

theorem kept_cmdCpuAppDvfsSet {s0 s : State} {r : Request} (h : Kept s0 s) : (cmdCpuAppDvfsSet.run r s).Kept s0 := by
  unfold cmdCpuAppDvfsSet
  repeat' first
    | with_reducible assumption
    | (with_reducible apply Answer.kept_done)
    | (refine Kept.record rfl ?_ (fun w => w) rfl rfl rfl rfl rfl rfl rfl;
       first
         | with_reducible assumption
         | (with_reducible apply Answer.kept_done))

theorem State.kept_setCorePart {s0 s : State} {c : Nat} {p : Option Nat} (h : Kept s0 s) : Kept s0 (s.setCorePart c p) :=
  Kept.upd h rfl (fun w => w) rfl rfl rfl rfl rfl

theorem State.kept_setSpare {s0 s : State} {c : Option Nat} (h : Kept s0 s) : Kept s0 (s.setSpare c) :=
  Kept.upd h rfl (fun w => w) rfl rfl rfl rfl rfl

theorem kept_cmdSafetyCoreAssign {s0 s : State} {r : Request} (h : Kept s0 s) : (cmdSafetyCoreAssign.run r s).Kept s0 := by
  unfold cmdSafetyCoreAssign
  dsimp -zeta only
  repeat' first
    | with_reducible assumption
    | (with_reducible first | apply Answer.kept_done | apply State.kept_mapCore | apply State.kept_read)
    | (with_reducible first | apply State.kept_setCorePart | apply State.kept_setSpare)
    | (refine Kept.fst (by assumption) ?_)
    | split

theorem kept_cmdSafetyCoreControl {s0 s : State} {r : Request} (h : Kept s0 s) : (cmdSafetyCoreControl.run r s).Kept s0 := by
  unfold cmdSafetyCoreControl
  repeat' first
    | with_reducible assumption
    | (with_reducible first | apply Answer.kept_done | apply State.kept_mapCore)

theorem kept_cmdSafetySpareSet {s0 s : State} {r : Request} (h : Kept s0 s) : (cmdSafetySpareSet.run r s).Kept s0 := by
  unfold cmdSafetySpareSet
  repeat' first
    | with_reducible assumption
    | (with_reducible first | apply Answer.kept_done | apply State.kept_setSpare)

theorem State.kept_configurePort {s0 s : State} {p flags : Nat} (h : Kept s0 s) : Kept s0 (s.configurePort p flags) := by
  unfold State.configurePort
  dsimp only
  repeat' first
    | with_reducible assumption
    | (with_reducible first | apply State.kept_cableResult | apply State.kept_mapEth | apply State.kept_moveLink)
    | split

theorem kept_cmdEthPortConfig {s0 s : State} {r : Request} (h : Kept s0 s) : (cmdEthPortConfig.run r s).Kept s0 := by
  unfold cmdEthPortConfig
  repeat' first
    | with_reducible assumption
    | (with_reducible first | apply Answer.kept_done | apply State.kept_configurePort)

theorem kept_cmdEthLinkQuery {s0 s : State} {r : Request} (h : Kept s0 s) : (cmdEthLinkQuery.run r s).Kept s0 := by
  unfold cmdEthLinkQuery
  repeat' first
    | with_reducible assumption
    | (with_reducible first | apply Answer.kept_done | apply State.kept_sqi)

theorem kept_cmdEthPlcaSet {s0 s : State} {r : Request} (h : Kept s0 s) : (cmdEthPlcaSet.run r s).Kept s0 := by
  unfold cmdEthPlcaSet
  repeat' first
    | with_reducible assumption
    | (with_reducible first | apply Answer.kept_done | apply State.kept_mapEth)

theorem kept_cmdEthTc10Sleep {s0 s : State} {r : Request} (h : Kept s0 s) : (cmdEthTc10Sleep.run r s).Kept s0 := by
  unfold cmdEthTc10Sleep
  repeat' first
    | with_reducible assumption
    | (with_reducible first | apply Answer.kept_accepted | apply State.kept_mapEth)

theorem kept_cmdEthTc10Wake {s0 s : State} {r : Request} (h : Kept s0 s) : (cmdEthTc10Wake.run r s).Kept s0 := by
  unfold cmdEthTc10Wake
  repeat' first
    | with_reducible assumption
    | (with_reducible first | apply Answer.kept_done | apply State.kept_moveLink)

theorem kept_cmdEthCableTest {s0 s : State} {r : Request} (h : Kept s0 s) : (cmdEthCableTest.run r s).Kept s0 := by
  unfold cmdEthCableTest
  repeat' first
    | with_reducible assumption
    | (with_reducible first | apply Answer.kept_accepted | apply State.kept_moveLink)

theorem State.kept_lineErrors {s0 s : State} {p : Nat} (h : Kept s0 s) : Kept s0 (s.lineErrors p) :=
  Kept.upd h rfl (fun w => w) rfl rfl rfl rfl rfl

theorem kept_cmdEthPortStats {s0 s : State} {r : Request} (h : Kept s0 s) : (cmdEthPortStats.run r s).Kept s0 := by
  unfold cmdEthPortStats
  dsimp only
  repeat' first
    | with_reducible assumption
    | (with_reducible first | apply Answer.kept_done | apply State.kept_lineErrors | apply State.kept_mapEth)
    | (with_reducible apply State.kept_write)
    | (refine Kept.fst (by assumption) ?_)
    | split

theorem kept_cmdEthPhyMmdRead {s0 s : State} {r : Request} (h : Kept s0 s) : (cmdEthPhyMmdRead.run r s).Kept s0 := by
  unfold cmdEthPhyMmdRead
  repeat' first
    | with_reducible assumption
    | (with_reducible first | apply Answer.kept_done | apply State.kept_draw)

theorem State.kept_plcaEvent {s0 s : State} {p : Nat} (h : Kept s0 s) : Kept s0 (s.plcaEvent p) := by
  unfold State.plcaEvent
  repeat' first
    | with_reducible assumption
    | (with_reducible apply State.kept_raise)

theorem State.kept_mapSupply {s0 s : State} {f : SupplyState → SupplyState} (h : Kept s0 s) : Kept s0 (s.mapSupply f) :=
  Kept.upd h rfl (fun w => w) rfl rfl rfl rfl rfl

theorem State.kept_holdSupply {s0 s : State} {e : Event} {targets : List Nat} (h : Kept s0 s) : Kept s0 (s.holdSupply e targets) := by
  unfold State.holdSupply
  repeat' first
    | with_reducible assumption
    | (with_reducible apply State.kept_mapSupply)
    | split

theorem State.kept_supplyEvent {s0 s : State} {e : Event} {targets : List Nat} (h : Kept s0 s) : Kept s0 (s.supplyEvent e targets) := by
  unfold State.supplyEvent
  repeat' first
    | with_reducible assumption
    | (with_reducible first | apply State.kept_holdSupply | apply State.kept_raise)
    | split

theorem State.kept_postSupply {s0 s : State} (h : Kept s0 s) : Kept s0 s.postSupply := by
  unfold State.postSupply
  repeat' first
    | with_reducible assumption
    | (with_reducible first | apply State.kept_each | apply State.kept_mapSupply | apply State.kept_raise)
    | split
    | (intro _ _ _)

theorem State.kept_sampleFeed {s0 s : State} {mv : Nat} (h : Kept s0 s) : Kept s0 (s.sampleFeed mv) :=
  Kept.upd h rfl (fun w => w) rfl rfl rfl rfl rfl

theorem kept_cmdSupplyConfig {s0 s : State} {r : Request} (h : Kept s0 s) : (cmdSupplyConfig.run r s).Kept s0 := by
  unfold cmdSupplyConfig
  repeat' first
    | with_reducible assumption
    | (with_reducible first | apply Answer.kept_done | apply State.kept_mapFeed | apply State.kept_mapSupply)

theorem kept_cmdSupplyQuery {s0 s : State} {r : Request} (h : Kept s0 s) : (cmdSupplyQuery.run r s).Kept s0 := by
  unfold cmdSupplyQuery
  repeat' first
    | with_reducible assumption
    | (with_reducible first | apply Answer.kept_done | apply State.kept_draw | apply State.kept_mapSupply)
    | (with_reducible first | apply State.kept_sampleFeed | apply Kept.fold)
    | split
    | (intro _ _)

theorem kept_cmdLoadDipSet {s0 s : State} {r : Request} (h : Kept s0 s) : (cmdLoadDipSet.run r s).Kept s0 := by
  unfold cmdLoadDipSet
  repeat' first
    | with_reducible assumption
    | (with_reducible first | apply Answer.kept_done | apply State.kept_mapLoad | apply State.kept_redrive)

theorem State.kept_refeed {s0 s : State} {f : Nat} {g : LoadChannel → LoadChannel} (h : Kept s0 s) : Kept s0 (s.refeed f g) := by
  unfold State.refeed
  repeat' first
    | with_reducible assumption
    | (with_reducible first | apply State.kept_each | apply State.kept_mapLoad | apply State.kept_redrive)
    | (intro _ _ _)

theorem State.kept_joinChain {s0 s : State} {f mv : Nat} (h : Kept s0 s) : Kept s0 (s.joinChain f mv) :=
  Kept.upd h rfl (fun w => w) rfl rfl rfl rfl rfl

theorem kept_cmdSwitchPortConfig {s0 s : State} {r : Request} (h : Kept s0 s) : (cmdSwitchPortConfig.run r s).Kept s0 := by
  unfold cmdSwitchPortConfig
  repeat' first
    | with_reducible assumption
    | (with_reducible first | apply Answer.kept_done | apply State.kept_mapSw | apply State.kept_mapSwitch)
    | split

theorem kept_cmdSwitchVlanSet {s0 s : State} {r : Request} (h : Kept s0 s) : (cmdSwitchVlanSet.run r s).Kept s0 := by
  unfold cmdSwitchVlanSet
  repeat' first
    | with_reducible assumption
    | (with_reducible first | apply Answer.kept_done | apply State.kept_mapSwitch)

theorem State.kept_putStatic {s0 s : State} {e : MacEntry} (h : Kept s0 s) : Kept s0 (s.putStatic e) :=
  Kept.upd h rfl (fun w => w) rfl rfl rfl rfl rfl

theorem kept_cmdSwitchMacSet {s0 s : State} {r : Request} (h : Kept s0 s) : (cmdSwitchMacSet.run r s).Kept s0 := by
  unfold cmdSwitchMacSet
  repeat' first
    | with_reducible assumption
    | (with_reducible first | apply Answer.kept_done | apply State.kept_mapSwitch | apply State.kept_putStatic)
    | split

theorem State.kept_clearEndpoint {s0 s : State} {e : Nat} (h : Kept s0 s) : Kept s0 (s.clearEndpoint e) := by
  unfold State.clearEndpoint
  repeat' first
    | with_reducible assumption
    | (with_reducible first | apply State.kept_countDrop | apply State.kept_each | apply State.kept_mapEndpoint)
    | (with_reducible first | apply State.kept_mapQueue | apply State.kept_mapSwitch | apply State.kept_removeFrame)
    | (intro _ _ _)

theorem kept_cmdSwitchEndpointSet {s0 s : State} {r : Request} (h : Kept s0 s) : (cmdSwitchEndpointSet.run r s).Kept s0 := by
  unfold cmdSwitchEndpointSet
  dsimp -zeta only
  repeat' first
    | with_reducible assumption
    | (with_reducible first | apply Answer.kept_done | apply State.kept_clearEndpoint | apply State.kept_each)
    | (with_reducible first | apply State.kept_mapEndpoint | apply State.kept_putStatic | apply Kept.fold)
    | split
    | (intro _ _)

theorem kept_cmdSwitchEndpointAttach {s0 s : State} {r : Request} (h : Kept s0 s) : (cmdSwitchEndpointAttach.run r s).Kept s0 := by
  unfold cmdSwitchEndpointAttach
  repeat' first
    | with_reducible assumption
    | (with_reducible first | apply Answer.kept_done | apply State.kept_mapEndpoint | apply State.kept_mapQueue)
    | split

theorem kept_cmdSwitchQuotaSet {s0 s : State} {r : Request} (h : Kept s0 s) : (cmdSwitchQuotaSet.run r s).Kept s0 := by
  unfold cmdSwitchQuotaSet
  repeat' first
    | with_reducible assumption
    | (with_reducible first | apply Answer.kept_done | apply State.kept_mapAccount)

theorem kept_cmdSwitchAccountQuery {s0 s : State} {r : Request} (h : Kept s0 s) : (cmdSwitchAccountQuery.run r s).Kept s0 := by
  unfold cmdSwitchAccountQuery
  repeat' first
    | with_reducible assumption
    | (with_reducible first | apply Answer.kept_done | apply State.kept_mapAccount)
    | split

theorem kept_cmdSwitchGateSet {s0 s : State} {r : Request} (h : Kept s0 s) : (cmdSwitchGateSet.run r s).Kept s0 := by
  unfold cmdSwitchGateSet
  dsimp only
  repeat' first
    | with_reducible assumption
    | (with_reducible first | apply Answer.kept_done | apply Answer.kept_no | apply State.kept_mapSw | apply State.kept_read)
    | (with_reducible apply State.kept_recompute)
    | (refine Kept.fst (by assumption) ?_)
    | split

theorem kept_cmdSwitchShaperSet {s0 s : State} {r : Request} (h : Kept s0 s) : (cmdSwitchShaperSet.run r s).Kept s0 := by
  unfold cmdSwitchShaperSet
  repeat' first
    | with_reducible assumption
    | (with_reducible first | apply Answer.kept_done | apply State.kept_mapSw | apply Kept.fold)

theorem kept_cmdSwitchPreemptSet {s0 s : State} {r : Request} (h : Kept s0 s) : (cmdSwitchPreemptSet.run r s).Kept s0 := by
  unfold cmdSwitchPreemptSet
  dsimp only
  repeat' first
    | with_reducible assumption
    | (with_reducible first | apply Answer.kept_done | apply Answer.kept_no | apply State.kept_mapSw)
    | (with_reducible apply State.kept_recompute)
    | split

theorem kept_cmdSwitchStreamSet {s0 s : State} {r : Request} (h : Kept s0 s) : (cmdSwitchStreamSet.run r s).Kept s0 := by
  unfold cmdSwitchStreamSet
  repeat' first
    | with_reducible assumption
    | (with_reducible first | apply Answer.kept_done | apply State.kept_mapFilter)
    | split

theorem kept_cmdSwitchFrerSet {s0 s : State} {r : Request} (h : Kept s0 s) : (cmdSwitchFrerSet.run r s).Kept s0 := by
  unfold cmdSwitchFrerSet
  repeat' first
    | with_reducible assumption
    | (with_reducible first | apply Answer.kept_done | apply State.kept_mapFrer)
    | split

theorem kept_cmdSwitchMacsecSaSet {s0 s : State} {r : Request} (h : Kept s0 s) : (cmdSwitchMacsecSaSet.run r s).Kept s0 := by
  unfold cmdSwitchMacsecSaSet
  repeat' first
    | with_reducible assumption
    | (with_reducible first | apply Answer.kept_done | apply State.kept_mapSa)

theorem kept_cmdSwitchSampleSet {s0 s : State} {r : Request} (h : Kept s0 s) : (cmdSwitchSampleSet.run r s).Kept s0 := by
  unfold cmdSwitchSampleSet
  repeat' first
    | with_reducible assumption
    | (with_reducible first | apply Answer.kept_done | apply State.kept_mapQueue | apply State.kept_mapSwitch)
    | (with_reducible apply State.kept_sample)
    | split

theorem kept_cmdSwitchGptpSet {s0 s : State} {r : Request} (h : Kept s0 s) : (cmdSwitchGptpSet.run r s).Kept s0 := by
  unfold cmdSwitchGptpSet
  repeat' first
    | with_reducible assumption
    | (with_reducible first | apply Answer.kept_done | apply State.kept_mapSwitch)

theorem kept_cmdLifecycleRead {s0 s : State} {r : Request} (h : Kept s0 s) : (cmdLifecycleRead.run r s).Kept s0 := by
  unfold cmdLifecycleRead
  repeat' first
    | with_reducible assumption
    | (with_reducible first | apply Answer.kept_done | apply Kept.fold)

theorem kept_cmdLifecycleChallenge {s0 s : State} {r : Request} (h : Kept s0 s) : (cmdLifecycleChallenge.run r s).Kept s0 := by
  unfold cmdLifecycleChallenge
  dsimp -zeta only
  repeat' first
    | with_reducible assumption
    | (with_reducible first | apply Answer.kept_done | apply State.kept_drbg)
    | (refine Kept.record rfl ?_ (fun w => w) rfl rfl rfl rfl rfl rfl rfl;
       first
         | with_reducible assumption
         | (with_reducible first | apply Answer.kept_done | apply State.kept_drbg))
    | split

theorem State.kept_withToken {s0 s : State} {target iova : Nat} {go : State → Answer} (k : ∀ t, Kept s0 t → (go t).Kept s0)
    (h : Kept s0 s) : (s.withToken target iova go).Kept s0 := by
  unfold State.withToken
  split
  · exact k _ h
  · split
    · exact trivial
    · split
      · rename_i e
        exact Kept.fst e (State.kept_read h)
      · rename_i e
        split
        · exact k _ (Kept.fst e (State.kept_read h))
        · exact trivial

theorem State.kept_beginLife {s0 s : State} {o : LifeOp} (h : Kept s0 s) : Kept s0 (s.beginLife o) :=
  Kept.upd h rfl (fun w => w) rfl rfl rfl rfl rfl

theorem kept_cmdLifecycleAdvance {s0 s : State} {r : Request} (h : Kept s0 s) : (cmdLifecycleAdvance.run r s).Kept s0 := by
  unfold cmdLifecycleAdvance
  repeat' first
    | with_reducible assumption
    | (with_reducible first | apply Answer.kept_accepted | apply State.kept_beginLife | apply State.kept_withToken)
    | (refine Kept.record rfl ?_ (fun w => w) rfl rfl rfl rfl rfl rfl rfl;
       first
         | with_reducible assumption
         | (with_reducible first | apply Answer.kept_accepted | apply State.kept_beginLife | apply State.kept_withToken))
    | (intro _ _)

theorem kept_cmdDebugOpen {s0 s : State} {r : Request} (h : Kept s0 s) : (cmdDebugOpen.run r s).Kept s0 := by
  unfold cmdDebugOpen
  repeat' first
    | with_reducible assumption
    | (with_reducible first | apply Answer.kept_accepted | apply State.kept_beginLife | apply State.kept_withToken)
    | (intro _ _)

theorem kept_cmdOtpWrite {s0 s : State} {r : Request} (h : Kept s0 s) : (cmdOtpWrite.run r s).Kept s0 := by
  unfold cmdOtpWrite
  dsimp only
  repeat' first
    | with_reducible assumption
    | (with_reducible first | apply Answer.kept_accepted | apply Answer.kept_no | apply State.kept_beginLife)
    | (with_reducible first | apply State.kept_read | apply State.kept_withToken)
    | (refine Kept.fst (by assumption) ?_)
    | split
    | (intro _ _)

theorem kept_cmdTamperRelease {s0 s : State} {r : Request} (h : Kept s0 s) : (cmdTamperRelease.run r s).Kept s0 := by
  unfold cmdTamperRelease
  repeat' first
    | with_reducible assumption
    | (with_reducible first | apply Answer.kept_accepted | apply State.kept_beginLife | apply State.kept_withToken)
    | (intro _ _)

theorem State.kept_advance {s0 s : State} {target : Nat}
    (h : Kept s0 { s with keys := { s.keys with otp := { s.keys.otp with lifecycle := target } } }) : Kept s0 (s.advance target).1 := by
  unfold State.advance
  dsimp only
  refine State.kept_serveAgain (State.kept_each (Kept.upd h rfl (fun x => x) rfl rfl rfl rfl rfl) ?_)
  exact fun _ _ k => State.kept_clearSas (State.kept_mapSlot (State.kept_emptyNow (State.kept_keyInvalid k)))

theorem State.kept_setDebug {s0 s : State} {op : Nat} (h : Kept s0 s) : Kept s0 (s.setDebug op) := by
  unfold State.setDebug
  repeat' first
    | with_reducible assumption
    | (with_reducible first | apply State.kept_each | apply State.kept_emptyNow)
    | (refine Kept.record rfl ?_ (fun w => w) rfl rfl rfl rfl rfl rfl rfl;
       first
         | with_reducible assumption
         | (with_reducible first | apply State.kept_each | apply State.kept_emptyNow))
    | split
    | (intro _ _ _)

theorem State.kept_releaseTamper {s0 s : State} (h : Kept s0 s) : Kept s0 s.releaseTamper := by
  have k1 := State.kept_each (l := span 0 5) (f := fun t i => t.mapTamper i fun x => { x with latched := false }) h
    (fun _ _ k => State.kept_mapTamper k)
  unfold State.releaseTamper
  generalize s.each (span 0 5) (fun t i => t.mapTamper i fun x => { x with latched := false }) = s1 at *
  extract_lets _ log _ _ s2 s3
  have k2 : Kept s0 s2 := Kept.upd k1 rfl (fun x => x) rfl rfl rfl rfl rfl
  have k3 : Kept s0 s3 := by
    show Kept s0 (if _ then _ else _)
    split
    · exact State.kept_isolation k2
    · exact k2
  split
  · exact State.kept_serveAgain k3
  · split
    · exact Kept.upd k3 rfl (fun x => x) rfl rfl rfl rfl rfl
    · exact k3

theorem Otp.lifecycle_after (o : Otp) (k i v : Nat) : (o.after k i v).lifecycle = o.lifecycle := by
  unfold Otp.after
  split <;> rfl

/-- Every end but that of a change of life-cycle state. -/
theorem State.kept_endLife {s0 s : State} {o : LifeOp} {blown : Bool} (n : o.opcode ≠ 0x0903) (h : Kept s0 s) :
    Kept s0 (s.endLife o blown).1 := by
  unfold State.endLife
  rw [if_neg n]
  split
  · exact h
  · split
    · exact State.kept_setDebug h
    · split
      · split
        · exact h
        · split
          · exact Kept.upd h rfl (fun x => x) rfl rfl rfl rfl (Otp.lifecycle_after _ _ _ _)
          · exact h
      · split
        · exact h
        · exact State.kept_releaseTamper h

theorem kept_cmdTamperConfig {s0 s : State} {r : Request} (h : Kept s0 s) : (cmdTamperConfig.run r s).Kept s0 := by
  unfold cmdTamperConfig
  repeat' first
    | with_reducible assumption
    | (with_reducible first | apply Answer.kept_done | apply State.kept_mapTamper)

theorem kept_cmdTamperLogRead {s0 s : State} {r : Request} (h : Kept s0 s) : (cmdTamperLogRead.run r s).Kept s0 := by
  unfold cmdTamperLogRead
  dsimp only
  repeat' first
    | with_reducible assumption
    | (with_reducible first | apply Answer.kept_done | apply State.kept_write)
    | (refine Kept.fst (by assumption) ?_)
    | split

end Sys2Proof.Machine
end

