-- ==== Sys2Proof/Laws/KeptRings.lean ====
section
/-! SUPPORT. `Kept` over the rings, the registers and the start: one lemma for each operation. -/

namespace Sys2Proof.Machine

theorem commandsDevice_keep : ∀ c ∈ commandsDevice, c.Keeps := by
  simp only [commandsDevice, List.forall_mem_cons, List.not_mem_nil, false_imp_iff, implies_true, and_true]
  exact ⟨fun _ _ _ => kept_cmdDeviceIdentify, fun _ _ _ => kept_cmdDeviceFeaturesCommit, fun _ _ _ => kept_cmdDeviceNop,
      fun _ _ _ => kept_cmdTimeRead, fun _ _ _ => kept_cmdTimeSourceSet, fun _ _ _ => kept_cmdPpsConfig,
          fun _ _ _ => kept_cmdSupplyConfig, fun _ _ _ => kept_cmdSupplyQuery, fun _ _ _ => kept_cmdCpuQuery,
              fun _ _ _ => kept_cmdCpuAppDvfsSet, fun _ _ _ => kept_cmdSafetyCoreAssign, fun _ _ _ => kept_cmdSafetyCoreControl,
                  fun _ _ _ => kept_cmdSafetySpareSet, fun _ _ _ => kept_cmdDeviceReset, fun _ _ _ => kept_cmdFwBankWrite,
                      fun _ _ _ => kept_cmdBootConfirm⟩

theorem commandsPartition_keep : ∀ c ∈ commandsPartition, c.Keeps := by
  simp only [commandsPartition, List.forall_mem_cons, List.not_mem_nil, false_imp_iff, implies_true, and_true]
  exact ⟨fun _ _ _ => kept_cmdPartitionCreate, fun _ _ _ => kept_cmdPartitionQuiesce, fun _ _ _ => kept_cmdPartitionResume,
      fun _ _ _ => kept_cmdPartitionReset, fun _ _ _ => kept_cmdPartitionRemove, fun _ _ _ => kept_cmdObjectAssign,
          fun _ _ _ => kept_cmdCacheClassSet, fun _ _ _ => kept_cmdMemoryOwnerSet, fun _ _ _ => kept_cmdIommuRootSet,
              fun _ _ _ => kept_cmdIommuInvalidate, fun _ _ _ => kept_cmdDmaQueueConfig, fun _ _ _ => kept_cmdDmaQueuePost,
                  fun _ _ _ => kept_cmdDmaQueueResume, fun _ _ _ => kept_cmdDmaQueueQuery, fun _ _ _ => kept_cmdDirtyLogStart,
                      fun _ _ _ => kept_cmdDirtyLogSwap, fun _ _ _ => kept_cmdDirtyLogStop,
                          fun _ _ _ => kept_cmdPartitionCapsuleExport, fun _ _ _ => kept_cmdPartitionCapsuleImport⟩

theorem commandsFlow_keep : ∀ c ∈ commandsFlow, c.Keeps := by
  simp only [commandsFlow, List.forall_mem_cons, List.not_mem_nil, false_imp_iff, implies_true, and_true]
  exact ⟨fun _ _ _ => kept_cmdFlowAdmit, fun _ _ _ => kept_cmdFlowPredict, fun _ _ _ => kept_cmdFlowRelease,
      fun _ _ _ => kept_cmdFlowQuery, fun _ _ _ => kept_cmdFlowStats, fun _ _ _ => kept_cmdMediumContractSet⟩

theorem commandsSwitch_keep : ∀ c ∈ commandsSwitch, c.Keeps := by
  simp only [commandsSwitch, List.forall_mem_cons, List.not_mem_nil, false_imp_iff, implies_true, and_true]
  exact ⟨fun _ _ _ => kept_cmdSwitchPortConfig, fun _ _ _ => kept_cmdSwitchVlanSet, fun _ _ _ => kept_cmdSwitchMacSet,
      fun _ _ _ => kept_cmdSwitchEndpointSet, fun _ _ _ => kept_cmdSwitchEndpointAttach, fun _ _ _ => kept_cmdSwitchQuotaSet,
          fun _ _ _ => kept_cmdSwitchAccountQuery, fun _ _ _ => kept_cmdSwitchGateSet, fun _ _ _ => kept_cmdSwitchShaperSet,
              fun _ _ _ => kept_cmdSwitchPreemptSet, fun _ _ _ => kept_cmdSwitchStreamSet, fun _ _ _ => kept_cmdSwitchFrerSet,
                  fun _ _ _ => kept_cmdSwitchMacsecSaSet, fun _ _ _ => kept_cmdSwitchSampleSet,
                      fun _ _ _ => kept_cmdSwitchGptpSet, fun _ _ _ => kept_cmdEthPortConfig, fun _ _ _ => kept_cmdEthLinkQuery,
                          fun _ _ _ => kept_cmdEthPlcaSet, fun _ _ _ => kept_cmdEthTc10Sleep, fun _ _ _ => kept_cmdEthTc10Wake,
                              fun _ _ _ => kept_cmdEthCableTest, fun _ _ _ => kept_cmdEthPortStats, fun _ _ _ => kept_cmdEthPhyMmdRead⟩

theorem commandsCan_keep : ∀ c ∈ commandsCan, c.Keeps := by
  simp only [commandsCan, List.forall_mem_cons, List.not_mem_nil, false_imp_iff, implies_true, and_true]
  exact ⟨fun _ _ _ => kept_cmdCanChannelConfig, fun _ _ _ => kept_cmdCanObjectConfig, fun _ _ _ => kept_cmdCanObjectAttach,
      fun _ _ _ => kept_cmdCanChannelQuery, fun _ _ _ => kept_cmdCanChannelRecover, fun _ _ _ => kept_cmdCanObjectQuery,
          fun _ _ _ => kept_cmdCanGangSet⟩

theorem commandsLocal_keep : ∀ c ∈ commandsLocal, c.Keeps := by
  simp only [commandsLocal, List.forall_mem_cons, List.not_mem_nil, false_imp_iff, implies_true, and_true]
  exact ⟨fun _ _ _ => kept_cmdLinChannelConfig, fun _ _ _ => kept_cmdLinScheduleSet, fun _ _ _ => kept_cmdLinFrameWrite,
      fun _ _ _ => kept_cmdLinFrameRead, fun _ _ _ => kept_cmdLinBusControl, fun _ _ _ => kept_cmdLocalPortConfig,
          fun _ _ _ => kept_cmdLocalTransfer, fun _ _ _ => kept_cmdLocalGpioSet, fun _ _ _ => kept_cmdLocalGpioGet⟩

theorem commandsLoad_keep : ∀ c ∈ commandsLoad, c.Keeps := by
  simp only [commandsLoad, List.forall_mem_cons, List.not_mem_nil, false_imp_iff, implies_true, and_true]
  exact ⟨fun _ _ _ => kept_cmdLoadChannelConfig, fun _ _ _ => kept_cmdLoadWireSet, fun _ _ _ => kept_cmdLoadSet,
      fun _ _ _ => kept_cmdLoadQuery, fun _ _ _ => kept_cmdLoadGangSet, fun _ _ _ => kept_cmdLoadMeasureSet,
          fun _ _ _ => kept_cmdLoadDiagRun, fun _ _ _ => kept_cmdLoadSafeTableSet, fun _ _ _ => kept_cmdLoadHoldSet,
              fun _ _ _ => kept_cmdLoadReclaim, fun _ _ _ => kept_cmdLoadDipSet⟩

theorem commandsSense_keep : ∀ c ∈ commandsSense, c.Keeps := by
  simp only [commandsSense, List.forall_mem_cons, List.not_mem_nil, false_imp_iff, implies_true, and_true]
  exact ⟨fun _ _ _ => kept_cmdSenseInputConfig, fun _ _ _ => kept_cmdSenseStateRead, fun _ _ _ => kept_cmdSenseSampleSet,
      fun _ _ _ => kept_cmdSenseGangSet, fun _ _ _ => kept_cmdSenseCalRun, fun _ _ _ => kept_cmdSensorSupplySet,
          fun _ _ _ => kept_cmdSenseQuery⟩

theorem commandsKey_keep : ∀ c ∈ commandsKey, c.Keeps := by
  simp only [commandsKey, List.forall_mem_cons, List.not_mem_nil, false_imp_iff, implies_true, and_true]
  exact ⟨fun _ _ _ => kept_cmdLifecycleRead, fun _ _ _ => kept_cmdLifecycleChallenge, fun _ _ _ => kept_cmdLifecycleAdvance,
      fun _ _ _ => kept_cmdDebugOpen, fun _ _ _ => kept_cmdOtpWrite, fun _ _ _ => kept_cmdTamperConfig,
          fun _ _ _ => kept_cmdTamperLogRead, fun _ _ _ => kept_cmdTamperRelease, fun _ _ _ => kept_cmdKeySlotOwnerSet,
              fun _ _ _ => kept_cmdKeyGenerate, fun _ _ _ => kept_cmdKeyDerive, fun _ _ _ => kept_cmdKeyUnwrap,
                  fun _ _ _ => kept_cmdKeyImport, fun _ _ _ => kept_cmdKeyWrap, fun _ _ _ => kept_cmdKeyDestroy,
                      fun _ _ _ => kept_cmdKeyQuery⟩

theorem commandsCipher_keep : ∀ c ∈ commandsCipher, c.Keeps := by
  simp only [commandsCipher, List.forall_mem_cons, List.not_mem_nil, false_imp_iff, implies_true, and_true]
  exact ⟨fun _ _ _ => kept_cmdCipherRun, fun _ _ _ => kept_cmdCipherCounterRead, fun _ _ _ => kept_cmdCipherQuery,
      fun _ _ _ => kept_cmdCipherHoldSet⟩

theorem commandsCvu_keep : ∀ c ∈ commandsCvu, c.Keeps := by
  simp only [commandsCvu, List.forall_mem_cons, List.not_mem_nil, false_imp_iff, implies_true, and_true]
  exact ⟨fun _ _ _ => kept_cmdCvuConfig, fun _ _ _ => kept_cmdCvuRun, fun _ _ _ => kept_cmdCvuStreamAttach, fun _ _ _ => kept_cmdCvuQuery⟩

theorem commandsFairlead_keep : ∀ c ∈ commandsFairlead, c.Keeps := by
  simp only [commandsFairlead, List.forall_mem_cons, List.not_mem_nil, false_imp_iff, implies_true, and_true]
  exact ⟨fun _ _ _ => kept_cmdFairleadConfig, fun _ _ _ => kept_cmdFairleadWindowSet, fun _ _ _ => kept_cmdFairleadMove,
      fun _ _ _ => kept_cmdFairleadFenceClear, fun _ _ _ => kept_cmdFairleadCfg, fun _ _ _ => kept_cmdFairleadQuery⟩

theorem commandsSleep_keep : ∀ c ∈ commandsSleep, c.Keeps := by
  simp only [commandsSleep, List.forall_mem_cons, List.not_mem_nil, false_imp_iff, implies_true, and_true]
  exact ⟨fun _ _ _ => kept_cmdSleepEnter, fun _ _ _ => kept_cmdSleepCancel, fun _ _ _ => kept_cmdWakeSourceSet,
      fun _ _ _ => kept_cmdWakeSelectiveSet, fun _ _ _ => kept_cmdWakeQuery, fun _ _ _ => kept_cmdWakeValidate,
          fun _ _ _ => kept_cmdRtcAlarmSet⟩

theorem commandsHealth_keep : ∀ c ∈ commandsHealth, c.Keeps := by
  simp only [commandsHealth, List.forall_mem_cons, List.not_mem_nil, false_imp_iff, implies_true, and_true]
  exact ⟨fun _ _ _ => kept_cmdHealthClassSet, fun _ _ _ => kept_cmdHealthUnitQuery, fun _ _ _ => kept_cmdUnitFurl,
      fun _ _ _ => kept_cmdUnitUnfurl, fun _ _ _ => kept_cmdReefPlanRun, fun _ _ _ => kept_cmdReefQuery⟩

theorem commandsSelftest_keep : ∀ c ∈ commandsSelftest, c.Keeps := by
  simp only [commandsSelftest, List.forall_mem_cons, List.not_mem_nil, false_imp_iff, implies_true, and_true]
  exact ⟨fun _ _ _ => kept_cmdSelftestRun, fun _ _ _ => kept_cmdSelftestScheduleSet, fun _ _ _ => kept_cmdSelftestQuery⟩

theorem commandOf_keeps {n : Nat} {c : Command} (e : commandOf n = some c) : c.Keeps := by
  have m := List.mem_of_find?_eq_some e
  simp only [allCommands, List.mem_append] at m
  rcases m with ((((((((((((((m | m) | m) | m) | m) | m) | m) | m) | m) | m) | m) | m) | m) | m) | m)
  · exact commandsDevice_keep _ m
  · exact commandsPartition_keep _ m
  · exact commandsFlow_keep _ m
  · exact commandsSwitch_keep _ m
  · exact commandsCan_keep _ m
  · exact commandsLocal_keep _ m
  · exact commandsLoad_keep _ m
  · exact commandsSense_keep _ m
  · exact commandsKey_keep _ m
  · exact commandsCipher_keep _ m
  · exact commandsCvu_keep _ m
  · exact commandsFairlead_keep _ m
  · exact commandsSleep_keep _ m
  · exact commandsHealth_keep _ m
  · exact commandsSelftest_keep _ m

theorem State.kept_perform {s0 s : State} {x : Packet} (h : Kept s0 s) : Kept s0 (s.perform x).state := by
  unfold State.perform
  split
  · rename_i e
    exact Command.kept_exec (commandOf_keeps e) h
  · exact State.kept_complete h

theorem Command.kept_listed {c : Command} (keeps : c.Keeps) {s0 s : State} {r : Request} (h : Kept s0 s) : Kept s0 (c.listed r s).2 := by
  have k := keeps r s0 s h
  unfold Command.listed
  split
  · exact Command.kept_spent h
  · split
    · exact Command.kept_spent h
    · rename_i e
      rw [e] at k
      exact Command.kept_spent (k.2 _ k.1)
    · rename_i e
      rw [e] at k
      exact Command.kept_spent (State.kept_raiseFault k)
    · exact h

theorem State.kept_performListed {s0 s : State} {x : Packet} (h : Kept s0 s) : Kept s0 (s.performListed x).2 := by
  unfold State.performListed
  split
  · rename_i e
    exact Command.kept_listed (commandOf_keeps e) h
  · exact h

theorem State.kept_popIntake {s0 s t : State} {p n : Nat} {x : Packet} (h : Kept s0 s) (e : s.popIntake p n = some (x, t)) : Kept s0 t := by
  unfold State.popIntake at e
  split at e
  · cases e
    exact State.kept_mapWindow h
  · cases e

theorem State.kept_drainRing {p k : Nat} (n : Nat) {s0 s : State} (h : Kept s0 s) : Kept s0 (State.drainRing p k n s) := by
  induction n generalizing s with
  | zero => exact h
  | succ n ih =>
    unfold State.drainRing
    split
    · exact h
    · split
      · exact h
      · rename_i e
        split
        · exact h
        · exact ih (State.kept_perform (State.kept_popIntake h e))

theorem State.kept_drain {s0 s : State} {p n : Nat} (h : Kept s0 s) : Kept s0 (s.drain p n) := State.kept_drainRing _ h

theorem State.kept_drainAll {s0 s : State} (h : Kept s0 s) : Kept s0 s.drainAll := by
  unfold State.drainAll
  repeat' first
    | with_reducible assumption
    | (with_reducible first | apply State.kept_drain | apply State.kept_each)
    | split
    | (intro _ _ _)

theorem State.kept_idle {s0 s : State} (h : Kept s0 s) : Kept s0 s.idle := by
  unfold State.idle
  repeat' first
    | with_reducible assumption
    | (with_reducible first | apply State.kept_drainAll | apply State.kept_tick)

theorem State.kept_serveRings {s0 s : State} {p : Nat} (h : Kept s0 s) : Kept s0 (s.serveRings p) := by
  unfold State.serveRings
  repeat' first
    | with_reducible assumption
    | (with_reducible first | apply State.kept_drainAll | apply State.kept_readRings)

theorem State.kept_writeCmdTail {s0 s : State} {p n value : Nat} (h : Kept s0 s) : Kept s0 (s.writeCmdTail p n value) := by
  unfold State.writeCmdTail
  repeat' first
    | with_reducible assumption
    | (with_reducible first | apply State.kept_mapRing | apply State.kept_serveRings)
    | split

theorem State.kept_writeCmdControl {s0 s : State} {p n value : Nat} (h : Kept s0 s) : Kept s0 (s.writeCmdControl p n value) := by
  unfold State.writeCmdControl
  repeat' first
    | with_reducible assumption
    | (with_reducible first | apply State.kept_mapRing | apply State.kept_serveRings)
    | split

theorem State.kept_completionSpace {s0 s : State} {p : Nat} (h : Kept s0 s) : Kept s0 (s.completionSpace p) :=
  State.kept_serveRings (Kept.upd h rfl (fun w => Io.wf_flushCompletions _ w) rfl rfl rfl rfl rfl)

theorem State.kept_writeCplControl {s0 s : State} {p value : Nat} (h : Kept s0 s) : Kept s0 (s.writeCplControl p value) := by
  unfold State.writeCplControl
  repeat' first
    | with_reducible assumption
    | (with_reducible first | apply State.kept_completionSpace | apply State.kept_mapRing)

theorem State.kept_writeCplTail {s0 s : State} {p value : Nat} (h : Kept s0 s) : Kept s0 (s.writeCplTail p value) := by
  unfold State.writeCplTail
  repeat' first
    | with_reducible assumption
    | (with_reducible first | apply State.kept_completionSpace | apply State.kept_mapRing)

theorem State.kept_clearRingFault {s0 s : State} {p : Nat} {n : RingName} (h : Kept s0 s) : Kept s0 (s.clearRingFault p n) := by
  unfold State.clearRingFault
  repeat' first
    | with_reducible assumption
    | (with_reducible first | apply State.kept_completionSpace | apply State.kept_eventSpace | apply State.kept_mapRing)
    | (with_reducible apply State.kept_serveRings)
    | split

theorem State.kept_takeRing {s0 s : State} {k : Nat} (h : Kept s0 s) : Kept s0 (s.takeRing k) := by
  unfold State.takeRing
  split
  · rename_i e
    exact State.kept_drainAll (Kept.upd (State.kept_perform (State.kept_popIntake h e)) rfl (fun x => x) rfl rfl rfl rfl rfl)
  · exact h

theorem State.kept_retryRing {s0 s : State} {p n : Nat} (h : Kept s0 s) : Kept s0 (s.retryRing p n) := by
  unfold State.retryRing
  split
  · split
    · rename_i e
      have k := State.kept_popIntake h e
      dsimp only
      split
      · exact h
      · split
        · exact State.kept_perform k
        · exact State.kept_drainAll (State.kept_mapWindow (State.kept_perform k))
    · exact h
  · exact h

theorem State.kept_conformQueue {s0 s : State} {q : Nat} (h : Kept s0 s) : Kept s0 (s.conformQueue q) := by
  unfold State.conformQueue
  dsimp only
  repeat' first
    | with_reducible assumption
    | (with_reducible apply State.kept_passBucket)
    | split

theorem State.kept_clearRingStatus {s0 s : State} {p : Nat} {n : RingName} {v : Nat}
    (h : Kept s0 s) : Kept s0 (s.clearRingStatus p n v) := by
  unfold State.clearRingStatus
  repeat' first
    | with_reducible assumption
    | (with_reducible first | apply State.kept_mapRing | apply State.kept_mapWindow)
    | split

theorem State.kept_writeRing {s0 s : State} {p : Nat} {n : RingName} {offset v : Nat}
    (h : Kept s0 s) : Kept s0 (s.writeRing p n offset v) := by
  unfold State.writeRing
  repeat' first
    | with_reducible assumption
    | (with_reducible first | apply State.kept_clearRingFault | apply State.kept_clearRingStatus)
    | (with_reducible first | apply State.kept_enableEvents | apply State.kept_mapRing | apply State.kept_mapWindow)
    | (with_reducible first | apply State.kept_writeCmdControl | apply State.kept_writeCmdTail)
    | (with_reducible first | apply State.kept_writeCplControl | apply State.kept_writeCplTail)
    | (with_reducible apply State.kept_writeEventTail)
    | split

theorem State.kept_writeVector {s0 s : State} {p offset v : Nat} (h : Kept s0 s) : Kept s0 (s.writeVector p offset v) := by
  unfold State.writeVector
  repeat' first
    | with_reducible assumption
    | (with_reducible apply State.kept_mapWindow)
    | split

theorem State.kept_writeAccept {s0 s : State} {p offset v : Nat} (h : Kept s0 s) : Kept s0 (s.writeAccept p offset v) := by
  unfold State.writeAccept
  repeat' first
    | with_reducible assumption
    | (with_reducible first | apply State.kept_accept | apply State.kept_mapWindow)
    | split

theorem State.kept_writeObjCtrl {s0 s : State} {p o v : Nat} (h : Kept s0 s) : Kept s0 (s.writeObjCtrl p o v) := by
  unfold State.writeObjCtrl
  repeat' first
    | with_reducible assumption
    | (with_reducible first | apply State.kept_abortSend | apply State.kept_choose | apply State.kept_releaseRead)
    | (with_reducible apply State.kept_sendRequest)
    | split

theorem State.kept_writeSlotReg {s0 s : State} {p o offset v : Nat} (h : Kept s0 s) : Kept s0 (s.writeSlotReg p o offset v) := by
  unfold State.writeSlotReg
  dsimp only
  repeat' first
    | with_reducible assumption
    | (with_reducible first | apply State.kept_mapObj | apply State.kept_writeObjCtrl)
    | split

theorem State.kept_writeSlots {s0 s : State} {p offset v : Nat} (h : Kept s0 s) : Kept s0 (s.writeSlots p offset v) := by
  unfold State.writeSlots
  repeat' first
    | with_reducible assumption
    | (with_reducible first | apply State.kept_slotWrite | apply State.kept_writeSlotReg)
    | split

theorem State.kept_writeLoadReg {s0 s : State} {p n offset v : Nat} (h : Kept s0 s) : Kept s0 (s.writeLoadReg p n offset v) := by
  unfold State.writeLoadReg
  repeat' first
    | with_reducible assumption
    | (with_reducible first | apply State.kept_directSet | apply State.kept_mapLoad)
    | (refine Kept.record rfl ?_ (fun w => w) rfl rfl rfl rfl rfl rfl rfl;
       first
         | with_reducible assumption
         | (with_reducible first | apply State.kept_directSet | apply State.kept_mapLoad))
    | split

theorem State.kept_writeAudit {s0 s : State} {v : Nat} (h : Kept s0 s) : Kept s0 (s.writeAudit v) :=
  Kept.upd h rfl (fun w => w) rfl rfl rfl rfl rfl

theorem State.kept_writeRegister {s0 s : State} {p a v : Nat} (h : Kept s0 s) : Kept s0 (s.writeRegister p a v) := by
  unfold State.writeRegister
  repeat' first
    | with_reducible assumption
    | (with_reducible first | apply State.kept_clearStatus | apply State.kept_writeAccept | apply State.kept_writeAudit)
    | (with_reducible first | apply State.kept_writeLoadReg | apply State.kept_writeMask | apply State.kept_writeRing)
    | (with_reducible first | apply State.kept_writeSlots | apply State.kept_writeVector)
    | split

theorem State.kept_postTableBad {s0 s : State} (h : Kept s0 s) : Kept s0 s.postTableBad := by
  unfold State.postTableBad
  repeat' first
    | with_reducible assumption
    | (with_reducible apply State.kept_raise)
    | (refine Kept.record rfl ?_ (fun w => w) rfl rfl rfl rfl rfl rfl rfl;
       first
         | with_reducible assumption
         | (with_reducible apply State.kept_raise))
    | split

theorem State.kept_postHoldEnd {s0 s : State} (h : Kept s0 s) : Kept s0 s.postHoldEnd := by
  unfold State.postHoldEnd
  repeat' first
    | with_reducible assumption
    | (with_reducible apply State.kept_holdEnd)
    | (refine Kept.record rfl ?_ (fun w => w) rfl rfl rfl rfl rfl rfl rfl;
       first
         | with_reducible assumption
         | (with_reducible apply State.kept_holdEnd))
    | split

theorem State.kept_postEntryEnd {s0 s : State} (h : Kept s0 s) : Kept s0 s.postEntryEnd := by
  unfold State.postEntryEnd
  repeat' first
    | with_reducible assumption
    | (with_reducible apply State.kept_entryEnd)
    | (refine Kept.record rfl ?_ (fun w => w) rfl rfl rfl rfl rfl rfl rfl;
       first
         | with_reducible assumption
         | (with_reducible apply State.kept_entryEnd))
    | split

theorem State.kept_postDiscontinuity {s0 s : State} (h : Kept s0 s) : Kept s0 s.postDiscontinuity := by
  unfold State.postDiscontinuity
  repeat' first
    | with_reducible assumption
    | (with_reducible apply State.kept_raise)
    | (refine Kept.record rfl ?_ (fun w => w) rfl rfl rfl rfl rfl rfl rfl;
       first
         | with_reducible assumption
         | (with_reducible apply State.kept_raise))
    | split

theorem State.kept_postMissed {s0 s : State} (h : Kept s0 s) : Kept s0 s.postMissed := by
  unfold State.postMissed
  repeat' first
    | with_reducible assumption
    | (with_reducible first | apply State.kept_postDiscontinuity | apply State.kept_postEntryEnd)
    | (with_reducible first | apply State.kept_postHoldEnd | apply State.kept_postOwed | apply State.kept_postSupply)
    | (with_reducible first | apply State.kept_postTableBad | apply State.kept_postTc10Requests)

theorem State.kept_recoveryStart {s0 s : State} {reason : Nat} (h : Kept s0 s) : Kept s0 (s.recoveryStart reason) := by
  unfold State.recoveryStart
  repeat' first
    | with_reducible assumption
    | (with_reducible first | apply State.kept_recovery | apply State.kept_turnAllOff)
    | (refine Kept.record rfl ?_ (fun w => w) rfl rfl rfl rfl rfl rfl rfl;
       first
         | with_reducible assumption
         | (with_reducible first | apply State.kept_recovery | apply State.kept_turnAllOff))

theorem State.kept_selectBank {s0 s : State} {config : Bool} (h : Kept s0 s) : Kept s0 (s.selectBank config).1 := by
  unfold State.selectBank
  dsimp only
  repeat' first
    | with_reducible assumption
    | (with_reducible apply State.kept_setRecord)
    | (refine Kept.record rfl ?_ (fun w => w) rfl rfl rfl rfl rfl rfl rfl;
       first
         | with_reducible assumption
         | (with_reducible apply State.kept_setRecord))
    | split

theorem State.kept_commitConfigured {s0 s : State} {i : BankImage} (h : Kept s0 s) : Kept s0 (s.commitConfigured i) := by
  unfold State.commitConfigured
  dsimp only
  repeat' first
    | with_reducible assumption
    | (with_reducible first | apply State.kept_accept | apply State.kept_mapWindow | apply Kept.fold)
    | (refine Kept.record rfl ?_ (fun w => w) rfl rfl rfl rfl rfl rfl rfl;
       first
         | with_reducible assumption
         | (with_reducible first | apply State.kept_accept | apply State.kept_mapWindow | apply Kept.fold))
    | split

theorem State.kept_copyApplication {s0 s : State} {i : BankImage} (h : Kept s0 s) : Kept s0 (s.copyApplication i) := by
  unfold State.copyApplication
  dsimp only
  split
  · exact Kept.upd h rfl (fun w => Io.writePhys_wf w) rfl rfl rfl rfl rfl
  · exact h

theorem State.kept_runList (l : List Packet) {s0 s : State} (h : Kept s0 s) : Kept s0 (State.runList l s) := by
  induction l generalizing s with
  | nil => exact Kept.upd h rfl (fun x => x) rfl rfl rfl rfl rfl
  | cons x l ih =>
    have u : ∀ (t : State) (b : BootState), Kept s0 t → Kept s0 { t with boot := b } :=
      fun _ _ k => Kept.upd k rfl (fun x => x) rfl rfl rfl rfl rfl
    unfold State.runList
    dsimp only
    have k1 := State.kept_performListed (x := x)
      (u s { s.boot with list := l, waiting := some x.opcode, failed := 0 } h)
    split
    · exact k1
    · split
      · exact u _ _ h
      · exact ih (u _ _ (u _ _ k1))
      · split
        · exact u _ _ k1
        · exact ih (u _ _ k1)
      · exact u _ _ (u _ _ k1)

theorem State.kept_runPreamble {s0 s : State} {l : List Packet} (h : Kept s0 s) : Kept s0 (s.runPreamble l) := by
  unfold State.runPreamble
  dsimp only
  split
  · exact Kept.upd h rfl (fun x => x) rfl rfl rfl rfl rfl
  · exact Kept.upd (State.kept_runList _ h) rfl (fun x => x) rfl rfl rfl rfl rfl

theorem State.kept_bootReport {s0 s : State} (h : Kept s0 s) : Kept s0 s.bootReport :=
  Kept.upd h rfl (fun w => Io.wf_eventSpace (Io.wf_mapWindow (Io.wf_newEvent (l := [0]) w))) rfl rfl rfl rfl rfl

theorem State.kept_enterRun {s0 s : State} (h : Kept s0 s) : Kept s0 s.enterRun := by
  have u : ∀ (t : State) (b : BootState), Kept s0 t → Kept s0 { t with boot := b } :=
    fun _ _ k => Kept.upd k rfl (fun x => x) rfl rfl rfl rfl rfl
  have v : ∀ (t : State) (c : CpuState), Kept s0 t → Kept s0 { t with cpu := c } :=
    fun _ _ k => Kept.upd k rfl (fun x => x) rfl rfl rfl rfl rfl
  have k : ∀ t, Kept s0 t → Kept s0 t.bootReport.postMissed := fun _ k => State.kept_postMissed (State.kept_bootReport k)
  unfold State.enterRun
  dsimp only
  have k1 := u s { s.boot with phase := .run, reported := true } h
  split
  · split
    · exact State.kept_reportWake (k _ (v _ _ k1))
    · exact State.kept_reportWake (k _ k1)
  · split
    · exact k _ (v _ _ k1)
    · exact k _ k1

theorem State.kept_sendUart {s0 s : State} {bytes : List Nat} (h : Kept s0 s) : Kept s0 (s.sendUart bytes) :=
  Kept.upd h rfl (fun w => w) rfl rfl rfl rfl rfl

end Sys2Proof.Machine
end

