-- ==== Sys2Proof/Laws/State.lean ====
section
/-! SUPPORT. One lemma per field and update: what an accessor leaves as it was. -/

namespace Sys2Proof.Machine

@[simp] theorem State.mapSwitch_pending (s : State) (f : SwitchState → SwitchState) : (s.mapSwitch f).pending = s.pending := rfl
@[simp] theorem State.mapSwitch_io (s : State) (f : SwitchState → SwitchState) : (s.mapSwitch f).io = s.io := rfl
@[simp] theorem State.mapSwitch_time (s : State) (f : SwitchState → SwitchState) : (s.mapSwitch f).time = s.time := rfl
@[simp] theorem State.mapSwitch_flow (s : State) (f : SwitchState → SwitchState) : (s.mapSwitch f).flow = s.flow := rfl
@[simp] theorem State.mapSwitch_eth (s : State) (f : SwitchState → SwitchState) : (s.mapSwitch f).eth = s.eth := rfl
@[simp] theorem State.mapSwitch_dma (s : State) (f : SwitchState → SwitchState) : (s.mapSwitch f).dma = s.dma := rfl
@[simp] theorem State.mapSwitch_capsules (s : State) (f : SwitchState → SwitchState) :
    (s.mapSwitch f).capsules = s.capsules := rfl
@[simp] theorem State.mapSwitch_can (s : State) (f : SwitchState → SwitchState) : (s.mapSwitch f).can = s.can := rfl
@[simp] theorem State.mapSwitch_lin (s : State) (f : SwitchState → SwitchState) : (s.mapSwitch f).lin = s.lin := rfl
@[simp] theorem State.mapSwitch_ports (s : State) (f : SwitchState → SwitchState) : (s.mapSwitch f).ports = s.ports := rfl
@[simp] theorem State.mapSwitch_load (s : State) (f : SwitchState → SwitchState) : (s.mapSwitch f).load = s.load := rfl
@[simp] theorem State.mapSwitch_supply (s : State) (f : SwitchState → SwitchState) : (s.mapSwitch f).supply = s.supply := rfl
@[simp] theorem State.mapSwitch_sense (s : State) (f : SwitchState → SwitchState) : (s.mapSwitch f).sense = s.sense := rfl
@[simp] theorem State.mapSwitch_sleep (s : State) (f : SwitchState → SwitchState) : (s.mapSwitch f).sleep = s.sleep := rfl
@[simp] theorem State.mapSwitch_cpu (s : State) (f : SwitchState → SwitchState) : (s.mapSwitch f).cpu = s.cpu := rfl
@[simp] theorem State.mapSwitch_keys (s : State) (f : SwitchState → SwitchState) : (s.mapSwitch f).keys = s.keys := rfl
@[simp] theorem State.mapSwitch_cipher (s : State) (f : SwitchState → SwitchState) : (s.mapSwitch f).cipher = s.cipher := rfl
@[simp] theorem State.mapSwitch_fair (s : State) (f : SwitchState → SwitchState) : (s.mapSwitch f).fair = s.fair := rfl
@[simp] theorem State.mapSwitch_health (s : State) (f : SwitchState → SwitchState) : (s.mapSwitch f).health = s.health := rfl
@[simp] theorem State.mapSwitch_boot (s : State) (f : SwitchState → SwitchState) : (s.mapSwitch f).boot = s.boot := rfl
@[simp] theorem State.mapSwitch_owners (s : State) (f : SwitchState → SwitchState) : (s.mapSwitch f).owners = s.owners := rfl

@[simp] theorem State.mapTime_pending (s : State) (f : TimeState → TimeState) : (s.mapTime f).pending = s.pending := rfl
@[simp] theorem State.mapTime_io (s : State) (f : TimeState → TimeState) : (s.mapTime f).io = s.io := rfl
@[simp] theorem State.mapTime_flow (s : State) (f : TimeState → TimeState) : (s.mapTime f).flow = s.flow := rfl
@[simp] theorem State.mapTime_sw (s : State) (f : TimeState → TimeState) : (s.mapTime f).sw = s.sw := rfl
@[simp] theorem State.mapTime_eth (s : State) (f : TimeState → TimeState) : (s.mapTime f).eth = s.eth := rfl
@[simp] theorem State.mapTime_dma (s : State) (f : TimeState → TimeState) : (s.mapTime f).dma = s.dma := rfl
@[simp] theorem State.mapTime_capsules (s : State) (f : TimeState → TimeState) : (s.mapTime f).capsules = s.capsules := rfl
@[simp] theorem State.mapTime_can (s : State) (f : TimeState → TimeState) : (s.mapTime f).can = s.can := rfl
@[simp] theorem State.mapTime_lin (s : State) (f : TimeState → TimeState) : (s.mapTime f).lin = s.lin := rfl
@[simp] theorem State.mapTime_ports (s : State) (f : TimeState → TimeState) : (s.mapTime f).ports = s.ports := rfl
@[simp] theorem State.mapTime_load (s : State) (f : TimeState → TimeState) : (s.mapTime f).load = s.load := rfl
@[simp] theorem State.mapTime_supply (s : State) (f : TimeState → TimeState) : (s.mapTime f).supply = s.supply := rfl
@[simp] theorem State.mapTime_sense (s : State) (f : TimeState → TimeState) : (s.mapTime f).sense = s.sense := rfl
@[simp] theorem State.mapTime_sleep (s : State) (f : TimeState → TimeState) : (s.mapTime f).sleep = s.sleep := rfl
@[simp] theorem State.mapTime_cpu (s : State) (f : TimeState → TimeState) : (s.mapTime f).cpu = s.cpu := rfl
@[simp] theorem State.mapTime_keys (s : State) (f : TimeState → TimeState) : (s.mapTime f).keys = s.keys := rfl
@[simp] theorem State.mapTime_cipher (s : State) (f : TimeState → TimeState) : (s.mapTime f).cipher = s.cipher := rfl
@[simp] theorem State.mapTime_fair (s : State) (f : TimeState → TimeState) : (s.mapTime f).fair = s.fair := rfl
@[simp] theorem State.mapTime_health (s : State) (f : TimeState → TimeState) : (s.mapTime f).health = s.health := rfl
@[simp] theorem State.mapTime_boot (s : State) (f : TimeState → TimeState) : (s.mapTime f).boot = s.boot := rfl
@[simp] theorem State.mapTime_owners (s : State) (f : TimeState → TimeState) : (s.mapTime f).owners = s.owners := rfl

@[simp] theorem State.mapWindow_pending (s : State) (p : Nat) (f : Window → Window) :
    (s.mapWindow p f).pending = s.pending := rfl
@[simp] theorem State.mapWindow_time (s : State) (p : Nat) (f : Window → Window) : (s.mapWindow p f).time = s.time := rfl
@[simp] theorem State.mapWindow_flow (s : State) (p : Nat) (f : Window → Window) : (s.mapWindow p f).flow = s.flow := rfl
@[simp] theorem State.mapWindow_sw (s : State) (p : Nat) (f : Window → Window) : (s.mapWindow p f).sw = s.sw := rfl
@[simp] theorem State.mapWindow_eth (s : State) (p : Nat) (f : Window → Window) : (s.mapWindow p f).eth = s.eth := rfl
@[simp] theorem State.mapWindow_dma (s : State) (p : Nat) (f : Window → Window) : (s.mapWindow p f).dma = s.dma := rfl
@[simp] theorem State.mapWindow_capsules (s : State) (p : Nat) (f : Window → Window) :
    (s.mapWindow p f).capsules = s.capsules := rfl
@[simp] theorem State.mapWindow_can (s : State) (p : Nat) (f : Window → Window) : (s.mapWindow p f).can = s.can := rfl
@[simp] theorem State.mapWindow_lin (s : State) (p : Nat) (f : Window → Window) : (s.mapWindow p f).lin = s.lin := rfl
@[simp] theorem State.mapWindow_ports (s : State) (p : Nat) (f : Window → Window) : (s.mapWindow p f).ports = s.ports := rfl
@[simp] theorem State.mapWindow_load (s : State) (p : Nat) (f : Window → Window) : (s.mapWindow p f).load = s.load := rfl
@[simp] theorem State.mapWindow_supply (s : State) (p : Nat) (f : Window → Window) : (s.mapWindow p f).supply = s.supply := rfl
@[simp] theorem State.mapWindow_sense (s : State) (p : Nat) (f : Window → Window) : (s.mapWindow p f).sense = s.sense := rfl
@[simp] theorem State.mapWindow_sleep (s : State) (p : Nat) (f : Window → Window) : (s.mapWindow p f).sleep = s.sleep := rfl
@[simp] theorem State.mapWindow_cpu (s : State) (p : Nat) (f : Window → Window) : (s.mapWindow p f).cpu = s.cpu := rfl
@[simp] theorem State.mapWindow_keys (s : State) (p : Nat) (f : Window → Window) : (s.mapWindow p f).keys = s.keys := rfl
@[simp] theorem State.mapWindow_cipher (s : State) (p : Nat) (f : Window → Window) : (s.mapWindow p f).cipher = s.cipher := rfl
@[simp] theorem State.mapWindow_fair (s : State) (p : Nat) (f : Window → Window) : (s.mapWindow p f).fair = s.fair := rfl
@[simp] theorem State.mapWindow_health (s : State) (p : Nat) (f : Window → Window) : (s.mapWindow p f).health = s.health := rfl
@[simp] theorem State.mapWindow_boot (s : State) (p : Nat) (f : Window → Window) : (s.mapWindow p f).boot = s.boot := rfl
@[simp] theorem State.mapWindow_owners (s : State) (p : Nat) (f : Window → Window) : (s.mapWindow p f).owners = s.owners := rfl

@[simp] theorem State.mapFeed_pending (s : State) (f : Nat) (g : Feed → Feed) : (s.mapFeed f g).pending = s.pending := rfl
@[simp] theorem State.mapFeed_io (s : State) (f : Nat) (g : Feed → Feed) : (s.mapFeed f g).io = s.io := rfl
@[simp] theorem State.mapFeed_time (s : State) (f : Nat) (g : Feed → Feed) : (s.mapFeed f g).time = s.time := rfl
@[simp] theorem State.mapFeed_flow (s : State) (f : Nat) (g : Feed → Feed) : (s.mapFeed f g).flow = s.flow := rfl
@[simp] theorem State.mapFeed_sw (s : State) (f : Nat) (g : Feed → Feed) : (s.mapFeed f g).sw = s.sw := rfl
@[simp] theorem State.mapFeed_eth (s : State) (f : Nat) (g : Feed → Feed) : (s.mapFeed f g).eth = s.eth := rfl
@[simp] theorem State.mapFeed_dma (s : State) (f : Nat) (g : Feed → Feed) : (s.mapFeed f g).dma = s.dma := rfl
@[simp] theorem State.mapFeed_capsules (s : State) (f : Nat) (g : Feed → Feed) : (s.mapFeed f g).capsules = s.capsules := rfl
@[simp] theorem State.mapFeed_can (s : State) (f : Nat) (g : Feed → Feed) : (s.mapFeed f g).can = s.can := rfl
@[simp] theorem State.mapFeed_lin (s : State) (f : Nat) (g : Feed → Feed) : (s.mapFeed f g).lin = s.lin := rfl
@[simp] theorem State.mapFeed_ports (s : State) (f : Nat) (g : Feed → Feed) : (s.mapFeed f g).ports = s.ports := rfl
@[simp] theorem State.mapFeed_load (s : State) (f : Nat) (g : Feed → Feed) : (s.mapFeed f g).load = s.load := rfl
@[simp] theorem State.mapFeed_sense (s : State) (f : Nat) (g : Feed → Feed) : (s.mapFeed f g).sense = s.sense := rfl
@[simp] theorem State.mapFeed_sleep (s : State) (f : Nat) (g : Feed → Feed) : (s.mapFeed f g).sleep = s.sleep := rfl
@[simp] theorem State.mapFeed_cpu (s : State) (f : Nat) (g : Feed → Feed) : (s.mapFeed f g).cpu = s.cpu := rfl
@[simp] theorem State.mapFeed_keys (s : State) (f : Nat) (g : Feed → Feed) : (s.mapFeed f g).keys = s.keys := rfl
@[simp] theorem State.mapFeed_cipher (s : State) (f : Nat) (g : Feed → Feed) : (s.mapFeed f g).cipher = s.cipher := rfl
@[simp] theorem State.mapFeed_fair (s : State) (f : Nat) (g : Feed → Feed) : (s.mapFeed f g).fair = s.fair := rfl
@[simp] theorem State.mapFeed_health (s : State) (f : Nat) (g : Feed → Feed) : (s.mapFeed f g).health = s.health := rfl
@[simp] theorem State.mapFeed_boot (s : State) (f : Nat) (g : Feed → Feed) : (s.mapFeed f g).boot = s.boot := rfl
@[simp] theorem State.mapFeed_owners (s : State) (f : Nat) (g : Feed → Feed) : (s.mapFeed f g).owners = s.owners := rfl

@[simp] theorem State.raise_pending (s : State) (e : Event) (targets : List Nat) :
    (s.raise e targets).pending = s.pending := rfl
@[simp] theorem State.raise_time (s : State) (e : Event) (targets : List Nat) : (s.raise e targets).time = s.time := rfl
@[simp] theorem State.raise_flow (s : State) (e : Event) (targets : List Nat) : (s.raise e targets).flow = s.flow := rfl
@[simp] theorem State.raise_sw (s : State) (e : Event) (targets : List Nat) : (s.raise e targets).sw = s.sw := rfl
@[simp] theorem State.raise_eth (s : State) (e : Event) (targets : List Nat) : (s.raise e targets).eth = s.eth := rfl
@[simp] theorem State.raise_dma (s : State) (e : Event) (targets : List Nat) : (s.raise e targets).dma = s.dma := rfl
@[simp] theorem State.raise_capsules (s : State) (e : Event) (targets : List Nat) :
    (s.raise e targets).capsules = s.capsules := rfl
@[simp] theorem State.raise_can (s : State) (e : Event) (targets : List Nat) : (s.raise e targets).can = s.can := rfl
@[simp] theorem State.raise_lin (s : State) (e : Event) (targets : List Nat) : (s.raise e targets).lin = s.lin := rfl
@[simp] theorem State.raise_ports (s : State) (e : Event) (targets : List Nat) : (s.raise e targets).ports = s.ports := rfl
@[simp] theorem State.raise_load (s : State) (e : Event) (targets : List Nat) : (s.raise e targets).load = s.load := rfl
@[simp] theorem State.raise_supply (s : State) (e : Event) (targets : List Nat) : (s.raise e targets).supply = s.supply := rfl
@[simp] theorem State.raise_sense (s : State) (e : Event) (targets : List Nat) : (s.raise e targets).sense = s.sense := rfl
@[simp] theorem State.raise_sleep (s : State) (e : Event) (targets : List Nat) : (s.raise e targets).sleep = s.sleep := rfl
@[simp] theorem State.raise_cpu (s : State) (e : Event) (targets : List Nat) : (s.raise e targets).cpu = s.cpu := rfl
@[simp] theorem State.raise_keys (s : State) (e : Event) (targets : List Nat) : (s.raise e targets).keys = s.keys := rfl
@[simp] theorem State.raise_cipher (s : State) (e : Event) (targets : List Nat) : (s.raise e targets).cipher = s.cipher := rfl
@[simp] theorem State.raise_fair (s : State) (e : Event) (targets : List Nat) : (s.raise e targets).fair = s.fair := rfl
@[simp] theorem State.raise_health (s : State) (e : Event) (targets : List Nat) : (s.raise e targets).health = s.health := rfl
@[simp] theorem State.raise_boot (s : State) (e : Event) (targets : List Nat) : (s.raise e targets).boot = s.boot := rfl
@[simp] theorem State.raise_owners (s : State) (e : Event) (targets : List Nat) : (s.raise e targets).owners = s.owners := rfl

@[simp] theorem State.vector_pending (s : State) (p v : Nat) : (s.vector p v).pending = s.pending := rfl
@[simp] theorem State.vector_time (s : State) (p v : Nat) : (s.vector p v).time = s.time := rfl
@[simp] theorem State.vector_flow (s : State) (p v : Nat) : (s.vector p v).flow = s.flow := rfl
@[simp] theorem State.vector_sw (s : State) (p v : Nat) : (s.vector p v).sw = s.sw := rfl
@[simp] theorem State.vector_eth (s : State) (p v : Nat) : (s.vector p v).eth = s.eth := rfl
@[simp] theorem State.vector_dma (s : State) (p v : Nat) : (s.vector p v).dma = s.dma := rfl
@[simp] theorem State.vector_capsules (s : State) (p v : Nat) : (s.vector p v).capsules = s.capsules := rfl
@[simp] theorem State.vector_can (s : State) (p v : Nat) : (s.vector p v).can = s.can := rfl
@[simp] theorem State.vector_lin (s : State) (p v : Nat) : (s.vector p v).lin = s.lin := rfl
@[simp] theorem State.vector_ports (s : State) (p v : Nat) : (s.vector p v).ports = s.ports := rfl
@[simp] theorem State.vector_load (s : State) (p v : Nat) : (s.vector p v).load = s.load := rfl
@[simp] theorem State.vector_supply (s : State) (p v : Nat) : (s.vector p v).supply = s.supply := rfl
@[simp] theorem State.vector_sense (s : State) (p v : Nat) : (s.vector p v).sense = s.sense := rfl
@[simp] theorem State.vector_sleep (s : State) (p v : Nat) : (s.vector p v).sleep = s.sleep := rfl
@[simp] theorem State.vector_cpu (s : State) (p v : Nat) : (s.vector p v).cpu = s.cpu := rfl
@[simp] theorem State.vector_keys (s : State) (p v : Nat) : (s.vector p v).keys = s.keys := rfl
@[simp] theorem State.vector_cipher (s : State) (p v : Nat) : (s.vector p v).cipher = s.cipher := rfl
@[simp] theorem State.vector_fair (s : State) (p v : Nat) : (s.vector p v).fair = s.fair := rfl
@[simp] theorem State.vector_health (s : State) (p v : Nat) : (s.vector p v).health = s.health := rfl
@[simp] theorem State.vector_boot (s : State) (p v : Nat) : (s.vector p v).boot = s.boot := rfl
@[simp] theorem State.vector_owners (s : State) (p v : Nat) : (s.vector p v).owners = s.owners := rfl

@[simp] theorem State.raiseFault_pending (s : State) (f : XFault) (p queue requester offset : Nat) :
    (s.raiseFault f p queue requester offset).pending = s.pending := rfl
@[simp] theorem State.raiseFault_time (s : State) (f : XFault) (p queue requester offset : Nat) :
    (s.raiseFault f p queue requester offset).time = s.time := rfl
@[simp] theorem State.raiseFault_flow (s : State) (f : XFault) (p queue requester offset : Nat) :
    (s.raiseFault f p queue requester offset).flow = s.flow := rfl
@[simp] theorem State.raiseFault_sw (s : State) (f : XFault) (p queue requester offset : Nat) :
    (s.raiseFault f p queue requester offset).sw = s.sw := rfl
@[simp] theorem State.raiseFault_eth (s : State) (f : XFault) (p queue requester offset : Nat) :
    (s.raiseFault f p queue requester offset).eth = s.eth := rfl
@[simp] theorem State.raiseFault_dma (s : State) (f : XFault) (p queue requester offset : Nat) :
    (s.raiseFault f p queue requester offset).dma = s.dma := rfl
@[simp] theorem State.raiseFault_capsules (s : State) (f : XFault) (p queue requester offset : Nat) :
    (s.raiseFault f p queue requester offset).capsules = s.capsules := rfl
@[simp] theorem State.raiseFault_can (s : State) (f : XFault) (p queue requester offset : Nat) :
    (s.raiseFault f p queue requester offset).can = s.can := rfl
@[simp] theorem State.raiseFault_lin (s : State) (f : XFault) (p queue requester offset : Nat) :
    (s.raiseFault f p queue requester offset).lin = s.lin := rfl
@[simp] theorem State.raiseFault_ports (s : State) (f : XFault) (p queue requester offset : Nat) :
    (s.raiseFault f p queue requester offset).ports = s.ports := rfl
@[simp] theorem State.raiseFault_load (s : State) (f : XFault) (p queue requester offset : Nat) :
    (s.raiseFault f p queue requester offset).load = s.load := rfl
@[simp] theorem State.raiseFault_supply (s : State) (f : XFault) (p queue requester offset : Nat) :
    (s.raiseFault f p queue requester offset).supply = s.supply := rfl
@[simp] theorem State.raiseFault_sense (s : State) (f : XFault) (p queue requester offset : Nat) :
    (s.raiseFault f p queue requester offset).sense = s.sense := rfl
@[simp] theorem State.raiseFault_sleep (s : State) (f : XFault) (p queue requester offset : Nat) :
    (s.raiseFault f p queue requester offset).sleep = s.sleep := rfl
@[simp] theorem State.raiseFault_cpu (s : State) (f : XFault) (p queue requester offset : Nat) :
    (s.raiseFault f p queue requester offset).cpu = s.cpu := rfl
@[simp] theorem State.raiseFault_keys (s : State) (f : XFault) (p queue requester offset : Nat) :
    (s.raiseFault f p queue requester offset).keys = s.keys := rfl
@[simp] theorem State.raiseFault_cipher (s : State) (f : XFault) (p queue requester offset : Nat) :
    (s.raiseFault f p queue requester offset).cipher = s.cipher := rfl
@[simp] theorem State.raiseFault_fair (s : State) (f : XFault) (p queue requester offset : Nat) :
    (s.raiseFault f p queue requester offset).fair = s.fair := rfl
@[simp] theorem State.raiseFault_health (s : State) (f : XFault) (p queue requester offset : Nat) :
    (s.raiseFault f p queue requester offset).health = s.health := rfl
@[simp] theorem State.raiseFault_boot (s : State) (f : XFault) (p queue requester offset : Nat) :
    (s.raiseFault f p queue requester offset).boot = s.boot := rfl
@[simp] theorem State.raiseFault_owners (s : State) (f : XFault) (p queue requester offset : Nat) :
    (s.raiseFault f p queue requester offset).owners = s.owners := rfl

@[simp] theorem State.setOwner_pending (s : State) (kind n p : Nat) : (s.setOwner kind n p).pending = s.pending := rfl
@[simp] theorem State.setOwner_io (s : State) (kind n p : Nat) : (s.setOwner kind n p).io = s.io := rfl
@[simp] theorem State.setOwner_time (s : State) (kind n p : Nat) : (s.setOwner kind n p).time = s.time := rfl
@[simp] theorem State.setOwner_flow (s : State) (kind n p : Nat) : (s.setOwner kind n p).flow = s.flow := rfl
@[simp] theorem State.setOwner_sw (s : State) (kind n p : Nat) : (s.setOwner kind n p).sw = s.sw := rfl
@[simp] theorem State.setOwner_eth (s : State) (kind n p : Nat) : (s.setOwner kind n p).eth = s.eth := rfl
@[simp] theorem State.setOwner_dma (s : State) (kind n p : Nat) : (s.setOwner kind n p).dma = s.dma := rfl
@[simp] theorem State.setOwner_capsules (s : State) (kind n p : Nat) : (s.setOwner kind n p).capsules = s.capsules := rfl
@[simp] theorem State.setOwner_can (s : State) (kind n p : Nat) : (s.setOwner kind n p).can = s.can := rfl
@[simp] theorem State.setOwner_lin (s : State) (kind n p : Nat) : (s.setOwner kind n p).lin = s.lin := rfl
@[simp] theorem State.setOwner_ports (s : State) (kind n p : Nat) : (s.setOwner kind n p).ports = s.ports := rfl
@[simp] theorem State.setOwner_load (s : State) (kind n p : Nat) : (s.setOwner kind n p).load = s.load := rfl
@[simp] theorem State.setOwner_supply (s : State) (kind n p : Nat) : (s.setOwner kind n p).supply = s.supply := rfl
@[simp] theorem State.setOwner_sense (s : State) (kind n p : Nat) : (s.setOwner kind n p).sense = s.sense := rfl
@[simp] theorem State.setOwner_sleep (s : State) (kind n p : Nat) : (s.setOwner kind n p).sleep = s.sleep := rfl
@[simp] theorem State.setOwner_cpu (s : State) (kind n p : Nat) : (s.setOwner kind n p).cpu = s.cpu := rfl
@[simp] theorem State.setOwner_keys (s : State) (kind n p : Nat) : (s.setOwner kind n p).keys = s.keys := rfl
@[simp] theorem State.setOwner_cipher (s : State) (kind n p : Nat) : (s.setOwner kind n p).cipher = s.cipher := rfl
@[simp] theorem State.setOwner_fair (s : State) (kind n p : Nat) : (s.setOwner kind n p).fair = s.fair := rfl
@[simp] theorem State.setOwner_health (s : State) (kind n p : Nat) : (s.setOwner kind n p).health = s.health := rfl
@[simp] theorem State.setOwner_boot (s : State) (kind n p : Nat) : (s.setOwner kind n p).boot = s.boot := rfl

@[simp] theorem State.mapUnit_pending (s : State) (u : Nat) (f : UnitHealth → UnitHealth) :
    (s.mapUnit u f).pending = s.pending := rfl
@[simp] theorem State.mapUnit_io (s : State) (u : Nat) (f : UnitHealth → UnitHealth) : (s.mapUnit u f).io = s.io := rfl
@[simp] theorem State.mapUnit_time (s : State) (u : Nat) (f : UnitHealth → UnitHealth) : (s.mapUnit u f).time = s.time := rfl
@[simp] theorem State.mapUnit_flow (s : State) (u : Nat) (f : UnitHealth → UnitHealth) : (s.mapUnit u f).flow = s.flow := rfl
@[simp] theorem State.mapUnit_sw (s : State) (u : Nat) (f : UnitHealth → UnitHealth) : (s.mapUnit u f).sw = s.sw := rfl
@[simp] theorem State.mapUnit_eth (s : State) (u : Nat) (f : UnitHealth → UnitHealth) : (s.mapUnit u f).eth = s.eth := rfl
@[simp] theorem State.mapUnit_dma (s : State) (u : Nat) (f : UnitHealth → UnitHealth) : (s.mapUnit u f).dma = s.dma := rfl
@[simp] theorem State.mapUnit_capsules (s : State) (u : Nat) (f : UnitHealth → UnitHealth) :
    (s.mapUnit u f).capsules = s.capsules := rfl
@[simp] theorem State.mapUnit_can (s : State) (u : Nat) (f : UnitHealth → UnitHealth) : (s.mapUnit u f).can = s.can := rfl
@[simp] theorem State.mapUnit_lin (s : State) (u : Nat) (f : UnitHealth → UnitHealth) : (s.mapUnit u f).lin = s.lin := rfl
@[simp] theorem State.mapUnit_ports (s : State) (u : Nat) (f : UnitHealth → UnitHealth) : (s.mapUnit u f).ports = s.ports := rfl
@[simp] theorem State.mapUnit_load (s : State) (u : Nat) (f : UnitHealth → UnitHealth) : (s.mapUnit u f).load = s.load := rfl
@[simp] theorem State.mapUnit_supply (s : State) (u : Nat) (f : UnitHealth → UnitHealth) :
    (s.mapUnit u f).supply = s.supply := rfl
@[simp] theorem State.mapUnit_sense (s : State) (u : Nat) (f : UnitHealth → UnitHealth) : (s.mapUnit u f).sense = s.sense := rfl
@[simp] theorem State.mapUnit_sleep (s : State) (u : Nat) (f : UnitHealth → UnitHealth) : (s.mapUnit u f).sleep = s.sleep := rfl
@[simp] theorem State.mapUnit_cpu (s : State) (u : Nat) (f : UnitHealth → UnitHealth) : (s.mapUnit u f).cpu = s.cpu := rfl
@[simp] theorem State.mapUnit_keys (s : State) (u : Nat) (f : UnitHealth → UnitHealth) : (s.mapUnit u f).keys = s.keys := rfl
@[simp] theorem State.mapUnit_cipher (s : State) (u : Nat) (f : UnitHealth → UnitHealth) :
    (s.mapUnit u f).cipher = s.cipher := rfl
@[simp] theorem State.mapUnit_fair (s : State) (u : Nat) (f : UnitHealth → UnitHealth) : (s.mapUnit u f).fair = s.fair := rfl
@[simp] theorem State.mapUnit_boot (s : State) (u : Nat) (f : UnitHealth → UnitHealth) : (s.mapUnit u f).boot = s.boot := rfl
@[simp] theorem State.mapUnit_owners (s : State) (u : Nat) (f : UnitHealth → UnitHealth) :
    (s.mapUnit u f).owners = s.owners := rfl

@[simp] theorem State.mapFlow_pending (s : State) (f : Nat) (g : Flow → Flow) : (s.mapFlow f g).pending = s.pending := rfl
@[simp] theorem State.mapFlow_io (s : State) (f : Nat) (g : Flow → Flow) : (s.mapFlow f g).io = s.io := rfl
@[simp] theorem State.mapFlow_time (s : State) (f : Nat) (g : Flow → Flow) : (s.mapFlow f g).time = s.time := rfl
@[simp] theorem State.mapFlow_sw (s : State) (f : Nat) (g : Flow → Flow) : (s.mapFlow f g).sw = s.sw := rfl
@[simp] theorem State.mapFlow_eth (s : State) (f : Nat) (g : Flow → Flow) : (s.mapFlow f g).eth = s.eth := rfl
@[simp] theorem State.mapFlow_dma (s : State) (f : Nat) (g : Flow → Flow) : (s.mapFlow f g).dma = s.dma := rfl
@[simp] theorem State.mapFlow_capsules (s : State) (f : Nat) (g : Flow → Flow) : (s.mapFlow f g).capsules = s.capsules := rfl
@[simp] theorem State.mapFlow_can (s : State) (f : Nat) (g : Flow → Flow) : (s.mapFlow f g).can = s.can := rfl
@[simp] theorem State.mapFlow_lin (s : State) (f : Nat) (g : Flow → Flow) : (s.mapFlow f g).lin = s.lin := rfl
@[simp] theorem State.mapFlow_ports (s : State) (f : Nat) (g : Flow → Flow) : (s.mapFlow f g).ports = s.ports := rfl
@[simp] theorem State.mapFlow_load (s : State) (f : Nat) (g : Flow → Flow) : (s.mapFlow f g).load = s.load := rfl
@[simp] theorem State.mapFlow_supply (s : State) (f : Nat) (g : Flow → Flow) : (s.mapFlow f g).supply = s.supply := rfl
@[simp] theorem State.mapFlow_sense (s : State) (f : Nat) (g : Flow → Flow) : (s.mapFlow f g).sense = s.sense := rfl
@[simp] theorem State.mapFlow_sleep (s : State) (f : Nat) (g : Flow → Flow) : (s.mapFlow f g).sleep = s.sleep := rfl
@[simp] theorem State.mapFlow_cpu (s : State) (f : Nat) (g : Flow → Flow) : (s.mapFlow f g).cpu = s.cpu := rfl
@[simp] theorem State.mapFlow_keys (s : State) (f : Nat) (g : Flow → Flow) : (s.mapFlow f g).keys = s.keys := rfl
@[simp] theorem State.mapFlow_cipher (s : State) (f : Nat) (g : Flow → Flow) : (s.mapFlow f g).cipher = s.cipher := rfl
@[simp] theorem State.mapFlow_fair (s : State) (f : Nat) (g : Flow → Flow) : (s.mapFlow f g).fair = s.fair := rfl
@[simp] theorem State.mapFlow_health (s : State) (f : Nat) (g : Flow → Flow) : (s.mapFlow f g).health = s.health := rfl
@[simp] theorem State.mapFlow_boot (s : State) (f : Nat) (g : Flow → Flow) : (s.mapFlow f g).boot = s.boot := rfl
@[simp] theorem State.mapFlow_owners (s : State) (f : Nat) (g : Flow → Flow) : (s.mapFlow f g).owners = s.owners := rfl

@[simp] theorem State.mapQueue_pending (s : State) (q : Nat) (g : DmaQueue → DmaQueue) :
    (s.mapQueue q g).pending = s.pending := rfl
@[simp] theorem State.mapQueue_io (s : State) (q : Nat) (g : DmaQueue → DmaQueue) : (s.mapQueue q g).io = s.io := rfl
@[simp] theorem State.mapQueue_time (s : State) (q : Nat) (g : DmaQueue → DmaQueue) : (s.mapQueue q g).time = s.time := rfl
@[simp] theorem State.mapQueue_flow (s : State) (q : Nat) (g : DmaQueue → DmaQueue) : (s.mapQueue q g).flow = s.flow := rfl
@[simp] theorem State.mapQueue_sw (s : State) (q : Nat) (g : DmaQueue → DmaQueue) : (s.mapQueue q g).sw = s.sw := rfl
@[simp] theorem State.mapQueue_eth (s : State) (q : Nat) (g : DmaQueue → DmaQueue) : (s.mapQueue q g).eth = s.eth := rfl
@[simp] theorem State.mapQueue_capsules (s : State) (q : Nat) (g : DmaQueue → DmaQueue) :
    (s.mapQueue q g).capsules = s.capsules := rfl
@[simp] theorem State.mapQueue_can (s : State) (q : Nat) (g : DmaQueue → DmaQueue) : (s.mapQueue q g).can = s.can := rfl
@[simp] theorem State.mapQueue_lin (s : State) (q : Nat) (g : DmaQueue → DmaQueue) : (s.mapQueue q g).lin = s.lin := rfl
@[simp] theorem State.mapQueue_ports (s : State) (q : Nat) (g : DmaQueue → DmaQueue) : (s.mapQueue q g).ports = s.ports := rfl
@[simp] theorem State.mapQueue_load (s : State) (q : Nat) (g : DmaQueue → DmaQueue) : (s.mapQueue q g).load = s.load := rfl
@[simp] theorem State.mapQueue_supply (s : State) (q : Nat) (g : DmaQueue → DmaQueue) :
    (s.mapQueue q g).supply = s.supply := rfl
@[simp] theorem State.mapQueue_sense (s : State) (q : Nat) (g : DmaQueue → DmaQueue) : (s.mapQueue q g).sense = s.sense := rfl
@[simp] theorem State.mapQueue_sleep (s : State) (q : Nat) (g : DmaQueue → DmaQueue) : (s.mapQueue q g).sleep = s.sleep := rfl
@[simp] theorem State.mapQueue_cpu (s : State) (q : Nat) (g : DmaQueue → DmaQueue) : (s.mapQueue q g).cpu = s.cpu := rfl
@[simp] theorem State.mapQueue_keys (s : State) (q : Nat) (g : DmaQueue → DmaQueue) : (s.mapQueue q g).keys = s.keys := rfl
@[simp] theorem State.mapQueue_cipher (s : State) (q : Nat) (g : DmaQueue → DmaQueue) :
    (s.mapQueue q g).cipher = s.cipher := rfl
@[simp] theorem State.mapQueue_fair (s : State) (q : Nat) (g : DmaQueue → DmaQueue) : (s.mapQueue q g).fair = s.fair := rfl
@[simp] theorem State.mapQueue_health (s : State) (q : Nat) (g : DmaQueue → DmaQueue) :
    (s.mapQueue q g).health = s.health := rfl
@[simp] theorem State.mapQueue_boot (s : State) (q : Nat) (g : DmaQueue → DmaQueue) : (s.mapQueue q g).boot = s.boot := rfl
@[simp] theorem State.mapQueue_owners (s : State) (q : Nat) (g : DmaQueue → DmaQueue) :
    (s.mapQueue q g).owners = s.owners := rfl

@[simp] theorem State.mapSlot_pending (s : State) (k : Nat) (g : KeySlot → KeySlot) : (s.mapSlot k g).pending = s.pending := rfl
@[simp] theorem State.mapSlot_io (s : State) (k : Nat) (g : KeySlot → KeySlot) : (s.mapSlot k g).io = s.io := rfl
@[simp] theorem State.mapSlot_time (s : State) (k : Nat) (g : KeySlot → KeySlot) : (s.mapSlot k g).time = s.time := rfl
@[simp] theorem State.mapSlot_flow (s : State) (k : Nat) (g : KeySlot → KeySlot) : (s.mapSlot k g).flow = s.flow := rfl
@[simp] theorem State.mapSlot_sw (s : State) (k : Nat) (g : KeySlot → KeySlot) : (s.mapSlot k g).sw = s.sw := rfl
@[simp] theorem State.mapSlot_eth (s : State) (k : Nat) (g : KeySlot → KeySlot) : (s.mapSlot k g).eth = s.eth := rfl
@[simp] theorem State.mapSlot_dma (s : State) (k : Nat) (g : KeySlot → KeySlot) : (s.mapSlot k g).dma = s.dma := rfl
@[simp] theorem State.mapSlot_capsules (s : State) (k : Nat) (g : KeySlot → KeySlot) :
    (s.mapSlot k g).capsules = s.capsules := rfl
@[simp] theorem State.mapSlot_can (s : State) (k : Nat) (g : KeySlot → KeySlot) : (s.mapSlot k g).can = s.can := rfl
@[simp] theorem State.mapSlot_lin (s : State) (k : Nat) (g : KeySlot → KeySlot) : (s.mapSlot k g).lin = s.lin := rfl
@[simp] theorem State.mapSlot_ports (s : State) (k : Nat) (g : KeySlot → KeySlot) : (s.mapSlot k g).ports = s.ports := rfl
@[simp] theorem State.mapSlot_load (s : State) (k : Nat) (g : KeySlot → KeySlot) : (s.mapSlot k g).load = s.load := rfl
@[simp] theorem State.mapSlot_supply (s : State) (k : Nat) (g : KeySlot → KeySlot) : (s.mapSlot k g).supply = s.supply := rfl
@[simp] theorem State.mapSlot_sense (s : State) (k : Nat) (g : KeySlot → KeySlot) : (s.mapSlot k g).sense = s.sense := rfl
@[simp] theorem State.mapSlot_sleep (s : State) (k : Nat) (g : KeySlot → KeySlot) : (s.mapSlot k g).sleep = s.sleep := rfl
@[simp] theorem State.mapSlot_cpu (s : State) (k : Nat) (g : KeySlot → KeySlot) : (s.mapSlot k g).cpu = s.cpu := rfl
@[simp] theorem State.mapSlot_cipher (s : State) (k : Nat) (g : KeySlot → KeySlot) : (s.mapSlot k g).cipher = s.cipher := rfl
@[simp] theorem State.mapSlot_fair (s : State) (k : Nat) (g : KeySlot → KeySlot) : (s.mapSlot k g).fair = s.fair := rfl
@[simp] theorem State.mapSlot_health (s : State) (k : Nat) (g : KeySlot → KeySlot) : (s.mapSlot k g).health = s.health := rfl
@[simp] theorem State.mapSlot_boot (s : State) (k : Nat) (g : KeySlot → KeySlot) : (s.mapSlot k g).boot = s.boot := rfl
@[simp] theorem State.mapSlot_owners (s : State) (k : Nat) (g : KeySlot → KeySlot) : (s.mapSlot k g).owners = s.owners := rfl

@[simp] theorem State.mapCan_pending (s : State) (c : Nat) (g : CanChannel → CanChannel) :
    (s.mapCan c g).pending = s.pending := rfl
@[simp] theorem State.mapCan_io (s : State) (c : Nat) (g : CanChannel → CanChannel) : (s.mapCan c g).io = s.io := rfl
@[simp] theorem State.mapCan_time (s : State) (c : Nat) (g : CanChannel → CanChannel) : (s.mapCan c g).time = s.time := rfl
@[simp] theorem State.mapCan_flow (s : State) (c : Nat) (g : CanChannel → CanChannel) : (s.mapCan c g).flow = s.flow := rfl
@[simp] theorem State.mapCan_sw (s : State) (c : Nat) (g : CanChannel → CanChannel) : (s.mapCan c g).sw = s.sw := rfl
@[simp] theorem State.mapCan_eth (s : State) (c : Nat) (g : CanChannel → CanChannel) : (s.mapCan c g).eth = s.eth := rfl
@[simp] theorem State.mapCan_dma (s : State) (c : Nat) (g : CanChannel → CanChannel) : (s.mapCan c g).dma = s.dma := rfl
@[simp] theorem State.mapCan_capsules (s : State) (c : Nat) (g : CanChannel → CanChannel) :
    (s.mapCan c g).capsules = s.capsules := rfl
@[simp] theorem State.mapCan_lin (s : State) (c : Nat) (g : CanChannel → CanChannel) : (s.mapCan c g).lin = s.lin := rfl
@[simp] theorem State.mapCan_ports (s : State) (c : Nat) (g : CanChannel → CanChannel) : (s.mapCan c g).ports = s.ports := rfl
@[simp] theorem State.mapCan_load (s : State) (c : Nat) (g : CanChannel → CanChannel) : (s.mapCan c g).load = s.load := rfl
@[simp] theorem State.mapCan_supply (s : State) (c : Nat) (g : CanChannel → CanChannel) :
    (s.mapCan c g).supply = s.supply := rfl
@[simp] theorem State.mapCan_sense (s : State) (c : Nat) (g : CanChannel → CanChannel) : (s.mapCan c g).sense = s.sense := rfl
@[simp] theorem State.mapCan_sleep (s : State) (c : Nat) (g : CanChannel → CanChannel) : (s.mapCan c g).sleep = s.sleep := rfl
@[simp] theorem State.mapCan_cpu (s : State) (c : Nat) (g : CanChannel → CanChannel) : (s.mapCan c g).cpu = s.cpu := rfl
@[simp] theorem State.mapCan_keys (s : State) (c : Nat) (g : CanChannel → CanChannel) : (s.mapCan c g).keys = s.keys := rfl
@[simp] theorem State.mapCan_cipher (s : State) (c : Nat) (g : CanChannel → CanChannel) :
    (s.mapCan c g).cipher = s.cipher := rfl
@[simp] theorem State.mapCan_fair (s : State) (c : Nat) (g : CanChannel → CanChannel) : (s.mapCan c g).fair = s.fair := rfl
@[simp] theorem State.mapCan_health (s : State) (c : Nat) (g : CanChannel → CanChannel) :
    (s.mapCan c g).health = s.health := rfl
@[simp] theorem State.mapCan_boot (s : State) (c : Nat) (g : CanChannel → CanChannel) : (s.mapCan c g).boot = s.boot := rfl
@[simp] theorem State.mapCan_owners (s : State) (c : Nat) (g : CanChannel → CanChannel) :
    (s.mapCan c g).owners = s.owners := rfl

@[simp] theorem State.mapObj_pending (s : State) (o : Nat) (g : CanObject → CanObject) :
    (s.mapObj o g).pending = s.pending := rfl
@[simp] theorem State.mapObj_io (s : State) (o : Nat) (g : CanObject → CanObject) : (s.mapObj o g).io = s.io := rfl
@[simp] theorem State.mapObj_time (s : State) (o : Nat) (g : CanObject → CanObject) : (s.mapObj o g).time = s.time := rfl
@[simp] theorem State.mapObj_flow (s : State) (o : Nat) (g : CanObject → CanObject) : (s.mapObj o g).flow = s.flow := rfl
@[simp] theorem State.mapObj_sw (s : State) (o : Nat) (g : CanObject → CanObject) : (s.mapObj o g).sw = s.sw := rfl
@[simp] theorem State.mapObj_eth (s : State) (o : Nat) (g : CanObject → CanObject) : (s.mapObj o g).eth = s.eth := rfl
@[simp] theorem State.mapObj_dma (s : State) (o : Nat) (g : CanObject → CanObject) : (s.mapObj o g).dma = s.dma := rfl
@[simp] theorem State.mapObj_capsules (s : State) (o : Nat) (g : CanObject → CanObject) :
    (s.mapObj o g).capsules = s.capsules := rfl
@[simp] theorem State.mapObj_lin (s : State) (o : Nat) (g : CanObject → CanObject) : (s.mapObj o g).lin = s.lin := rfl
@[simp] theorem State.mapObj_ports (s : State) (o : Nat) (g : CanObject → CanObject) : (s.mapObj o g).ports = s.ports := rfl
@[simp] theorem State.mapObj_load (s : State) (o : Nat) (g : CanObject → CanObject) : (s.mapObj o g).load = s.load := rfl
@[simp] theorem State.mapObj_supply (s : State) (o : Nat) (g : CanObject → CanObject) : (s.mapObj o g).supply = s.supply := rfl
@[simp] theorem State.mapObj_sense (s : State) (o : Nat) (g : CanObject → CanObject) : (s.mapObj o g).sense = s.sense := rfl
@[simp] theorem State.mapObj_sleep (s : State) (o : Nat) (g : CanObject → CanObject) : (s.mapObj o g).sleep = s.sleep := rfl
@[simp] theorem State.mapObj_cpu (s : State) (o : Nat) (g : CanObject → CanObject) : (s.mapObj o g).cpu = s.cpu := rfl
@[simp] theorem State.mapObj_keys (s : State) (o : Nat) (g : CanObject → CanObject) : (s.mapObj o g).keys = s.keys := rfl
@[simp] theorem State.mapObj_cipher (s : State) (o : Nat) (g : CanObject → CanObject) : (s.mapObj o g).cipher = s.cipher := rfl
@[simp] theorem State.mapObj_fair (s : State) (o : Nat) (g : CanObject → CanObject) : (s.mapObj o g).fair = s.fair := rfl
@[simp] theorem State.mapObj_health (s : State) (o : Nat) (g : CanObject → CanObject) : (s.mapObj o g).health = s.health := rfl
@[simp] theorem State.mapObj_boot (s : State) (o : Nat) (g : CanObject → CanObject) : (s.mapObj o g).boot = s.boot := rfl
@[simp] theorem State.mapObj_owners (s : State) (o : Nat) (g : CanObject → CanObject) : (s.mapObj o g).owners = s.owners := rfl

@[simp] theorem State.mapLin_pending (s : State) (c : Nat) (g : LinChannel → LinChannel) :
    (s.mapLin c g).pending = s.pending := rfl
@[simp] theorem State.mapLin_io (s : State) (c : Nat) (g : LinChannel → LinChannel) : (s.mapLin c g).io = s.io := rfl
@[simp] theorem State.mapLin_time (s : State) (c : Nat) (g : LinChannel → LinChannel) : (s.mapLin c g).time = s.time := rfl
@[simp] theorem State.mapLin_flow (s : State) (c : Nat) (g : LinChannel → LinChannel) : (s.mapLin c g).flow = s.flow := rfl
@[simp] theorem State.mapLin_sw (s : State) (c : Nat) (g : LinChannel → LinChannel) : (s.mapLin c g).sw = s.sw := rfl
@[simp] theorem State.mapLin_eth (s : State) (c : Nat) (g : LinChannel → LinChannel) : (s.mapLin c g).eth = s.eth := rfl
@[simp] theorem State.mapLin_dma (s : State) (c : Nat) (g : LinChannel → LinChannel) : (s.mapLin c g).dma = s.dma := rfl
@[simp] theorem State.mapLin_capsules (s : State) (c : Nat) (g : LinChannel → LinChannel) :
    (s.mapLin c g).capsules = s.capsules := rfl
@[simp] theorem State.mapLin_can (s : State) (c : Nat) (g : LinChannel → LinChannel) : (s.mapLin c g).can = s.can := rfl
@[simp] theorem State.mapLin_ports (s : State) (c : Nat) (g : LinChannel → LinChannel) : (s.mapLin c g).ports = s.ports := rfl
@[simp] theorem State.mapLin_load (s : State) (c : Nat) (g : LinChannel → LinChannel) : (s.mapLin c g).load = s.load := rfl
@[simp] theorem State.mapLin_supply (s : State) (c : Nat) (g : LinChannel → LinChannel) :
    (s.mapLin c g).supply = s.supply := rfl
@[simp] theorem State.mapLin_sense (s : State) (c : Nat) (g : LinChannel → LinChannel) : (s.mapLin c g).sense = s.sense := rfl
@[simp] theorem State.mapLin_sleep (s : State) (c : Nat) (g : LinChannel → LinChannel) : (s.mapLin c g).sleep = s.sleep := rfl
@[simp] theorem State.mapLin_cpu (s : State) (c : Nat) (g : LinChannel → LinChannel) : (s.mapLin c g).cpu = s.cpu := rfl
@[simp] theorem State.mapLin_keys (s : State) (c : Nat) (g : LinChannel → LinChannel) : (s.mapLin c g).keys = s.keys := rfl
@[simp] theorem State.mapLin_cipher (s : State) (c : Nat) (g : LinChannel → LinChannel) :
    (s.mapLin c g).cipher = s.cipher := rfl
@[simp] theorem State.mapLin_fair (s : State) (c : Nat) (g : LinChannel → LinChannel) : (s.mapLin c g).fair = s.fair := rfl
@[simp] theorem State.mapLin_health (s : State) (c : Nat) (g : LinChannel → LinChannel) :
    (s.mapLin c g).health = s.health := rfl
@[simp] theorem State.mapLin_boot (s : State) (c : Nat) (g : LinChannel → LinChannel) : (s.mapLin c g).boot = s.boot := rfl
@[simp] theorem State.mapLin_owners (s : State) (c : Nat) (g : LinChannel → LinChannel) :
    (s.mapLin c g).owners = s.owners := rfl

@[simp] theorem State.mapPort_pending (s : State) (i : Nat) (g : LocalPort → LocalPort) :
    (s.mapPort i g).pending = s.pending := rfl
@[simp] theorem State.mapPort_io (s : State) (i : Nat) (g : LocalPort → LocalPort) : (s.mapPort i g).io = s.io := rfl
@[simp] theorem State.mapPort_time (s : State) (i : Nat) (g : LocalPort → LocalPort) : (s.mapPort i g).time = s.time := rfl
@[simp] theorem State.mapPort_flow (s : State) (i : Nat) (g : LocalPort → LocalPort) : (s.mapPort i g).flow = s.flow := rfl
@[simp] theorem State.mapPort_sw (s : State) (i : Nat) (g : LocalPort → LocalPort) : (s.mapPort i g).sw = s.sw := rfl
@[simp] theorem State.mapPort_eth (s : State) (i : Nat) (g : LocalPort → LocalPort) : (s.mapPort i g).eth = s.eth := rfl
@[simp] theorem State.mapPort_dma (s : State) (i : Nat) (g : LocalPort → LocalPort) : (s.mapPort i g).dma = s.dma := rfl
@[simp] theorem State.mapPort_capsules (s : State) (i : Nat) (g : LocalPort → LocalPort) :
    (s.mapPort i g).capsules = s.capsules := rfl
@[simp] theorem State.mapPort_can (s : State) (i : Nat) (g : LocalPort → LocalPort) : (s.mapPort i g).can = s.can := rfl
@[simp] theorem State.mapPort_lin (s : State) (i : Nat) (g : LocalPort → LocalPort) : (s.mapPort i g).lin = s.lin := rfl
@[simp] theorem State.mapPort_load (s : State) (i : Nat) (g : LocalPort → LocalPort) : (s.mapPort i g).load = s.load := rfl
@[simp] theorem State.mapPort_supply (s : State) (i : Nat) (g : LocalPort → LocalPort) :
    (s.mapPort i g).supply = s.supply := rfl
@[simp] theorem State.mapPort_sense (s : State) (i : Nat) (g : LocalPort → LocalPort) : (s.mapPort i g).sense = s.sense := rfl
@[simp] theorem State.mapPort_sleep (s : State) (i : Nat) (g : LocalPort → LocalPort) : (s.mapPort i g).sleep = s.sleep := rfl
@[simp] theorem State.mapPort_cpu (s : State) (i : Nat) (g : LocalPort → LocalPort) : (s.mapPort i g).cpu = s.cpu := rfl
@[simp] theorem State.mapPort_keys (s : State) (i : Nat) (g : LocalPort → LocalPort) : (s.mapPort i g).keys = s.keys := rfl
@[simp] theorem State.mapPort_cipher (s : State) (i : Nat) (g : LocalPort → LocalPort) :
    (s.mapPort i g).cipher = s.cipher := rfl
@[simp] theorem State.mapPort_fair (s : State) (i : Nat) (g : LocalPort → LocalPort) : (s.mapPort i g).fair = s.fair := rfl
@[simp] theorem State.mapPort_health (s : State) (i : Nat) (g : LocalPort → LocalPort) :
    (s.mapPort i g).health = s.health := rfl
@[simp] theorem State.mapPort_boot (s : State) (i : Nat) (g : LocalPort → LocalPort) : (s.mapPort i g).boot = s.boot := rfl
@[simp] theorem State.mapPort_owners (s : State) (i : Nat) (g : LocalPort → LocalPort) :
    (s.mapPort i g).owners = s.owners := rfl

@[simp] theorem State.mapLoad_pending (s : State) (n : Nat) (g : LoadChannel → LoadChannel) :
    (s.mapLoad n g).pending = s.pending := rfl
@[simp] theorem State.mapLoad_io (s : State) (n : Nat) (g : LoadChannel → LoadChannel) : (s.mapLoad n g).io = s.io := rfl
@[simp] theorem State.mapLoad_time (s : State) (n : Nat) (g : LoadChannel → LoadChannel) : (s.mapLoad n g).time = s.time := rfl
@[simp] theorem State.mapLoad_flow (s : State) (n : Nat) (g : LoadChannel → LoadChannel) : (s.mapLoad n g).flow = s.flow := rfl
@[simp] theorem State.mapLoad_sw (s : State) (n : Nat) (g : LoadChannel → LoadChannel) : (s.mapLoad n g).sw = s.sw := rfl
@[simp] theorem State.mapLoad_eth (s : State) (n : Nat) (g : LoadChannel → LoadChannel) : (s.mapLoad n g).eth = s.eth := rfl
@[simp] theorem State.mapLoad_dma (s : State) (n : Nat) (g : LoadChannel → LoadChannel) : (s.mapLoad n g).dma = s.dma := rfl
@[simp] theorem State.mapLoad_capsules (s : State) (n : Nat) (g : LoadChannel → LoadChannel) :
    (s.mapLoad n g).capsules = s.capsules := rfl
@[simp] theorem State.mapLoad_can (s : State) (n : Nat) (g : LoadChannel → LoadChannel) : (s.mapLoad n g).can = s.can := rfl
@[simp] theorem State.mapLoad_lin (s : State) (n : Nat) (g : LoadChannel → LoadChannel) : (s.mapLoad n g).lin = s.lin := rfl
@[simp] theorem State.mapLoad_ports (s : State) (n : Nat) (g : LoadChannel → LoadChannel) :
    (s.mapLoad n g).ports = s.ports := rfl
@[simp] theorem State.mapLoad_supply (s : State) (n : Nat) (g : LoadChannel → LoadChannel) :
    (s.mapLoad n g).supply = s.supply := rfl
@[simp] theorem State.mapLoad_sense (s : State) (n : Nat) (g : LoadChannel → LoadChannel) :
    (s.mapLoad n g).sense = s.sense := rfl
@[simp] theorem State.mapLoad_sleep (s : State) (n : Nat) (g : LoadChannel → LoadChannel) :
    (s.mapLoad n g).sleep = s.sleep := rfl
@[simp] theorem State.mapLoad_cpu (s : State) (n : Nat) (g : LoadChannel → LoadChannel) : (s.mapLoad n g).cpu = s.cpu := rfl
@[simp] theorem State.mapLoad_keys (s : State) (n : Nat) (g : LoadChannel → LoadChannel) : (s.mapLoad n g).keys = s.keys := rfl
@[simp] theorem State.mapLoad_cipher (s : State) (n : Nat) (g : LoadChannel → LoadChannel) :
    (s.mapLoad n g).cipher = s.cipher := rfl
@[simp] theorem State.mapLoad_fair (s : State) (n : Nat) (g : LoadChannel → LoadChannel) : (s.mapLoad n g).fair = s.fair := rfl
@[simp] theorem State.mapLoad_health (s : State) (n : Nat) (g : LoadChannel → LoadChannel) :
    (s.mapLoad n g).health = s.health := rfl
@[simp] theorem State.mapLoad_boot (s : State) (n : Nat) (g : LoadChannel → LoadChannel) : (s.mapLoad n g).boot = s.boot := rfl
@[simp] theorem State.mapLoad_owners (s : State) (n : Nat) (g : LoadChannel → LoadChannel) :
    (s.mapLoad n g).owners = s.owners := rfl

@[simp] theorem State.mapSense_pending (s : State) (i : Nat) (g : SenseInput → SenseInput) :
    (s.mapSense i g).pending = s.pending := rfl
@[simp] theorem State.mapSense_io (s : State) (i : Nat) (g : SenseInput → SenseInput) : (s.mapSense i g).io = s.io := rfl
@[simp] theorem State.mapSense_time (s : State) (i : Nat) (g : SenseInput → SenseInput) : (s.mapSense i g).time = s.time := rfl
@[simp] theorem State.mapSense_flow (s : State) (i : Nat) (g : SenseInput → SenseInput) : (s.mapSense i g).flow = s.flow := rfl
@[simp] theorem State.mapSense_sw (s : State) (i : Nat) (g : SenseInput → SenseInput) : (s.mapSense i g).sw = s.sw := rfl
@[simp] theorem State.mapSense_eth (s : State) (i : Nat) (g : SenseInput → SenseInput) : (s.mapSense i g).eth = s.eth := rfl
@[simp] theorem State.mapSense_dma (s : State) (i : Nat) (g : SenseInput → SenseInput) : (s.mapSense i g).dma = s.dma := rfl
@[simp] theorem State.mapSense_capsules (s : State) (i : Nat) (g : SenseInput → SenseInput) :
    (s.mapSense i g).capsules = s.capsules := rfl
@[simp] theorem State.mapSense_can (s : State) (i : Nat) (g : SenseInput → SenseInput) : (s.mapSense i g).can = s.can := rfl
@[simp] theorem State.mapSense_lin (s : State) (i : Nat) (g : SenseInput → SenseInput) : (s.mapSense i g).lin = s.lin := rfl
@[simp] theorem State.mapSense_ports (s : State) (i : Nat) (g : SenseInput → SenseInput) :
    (s.mapSense i g).ports = s.ports := rfl
@[simp] theorem State.mapSense_load (s : State) (i : Nat) (g : SenseInput → SenseInput) : (s.mapSense i g).load = s.load := rfl
@[simp] theorem State.mapSense_supply (s : State) (i : Nat) (g : SenseInput → SenseInput) :
    (s.mapSense i g).supply = s.supply := rfl
@[simp] theorem State.mapSense_sleep (s : State) (i : Nat) (g : SenseInput → SenseInput) :
    (s.mapSense i g).sleep = s.sleep := rfl
@[simp] theorem State.mapSense_cpu (s : State) (i : Nat) (g : SenseInput → SenseInput) : (s.mapSense i g).cpu = s.cpu := rfl
@[simp] theorem State.mapSense_keys (s : State) (i : Nat) (g : SenseInput → SenseInput) : (s.mapSense i g).keys = s.keys := rfl
@[simp] theorem State.mapSense_cipher (s : State) (i : Nat) (g : SenseInput → SenseInput) :
    (s.mapSense i g).cipher = s.cipher := rfl
@[simp] theorem State.mapSense_fair (s : State) (i : Nat) (g : SenseInput → SenseInput) : (s.mapSense i g).fair = s.fair := rfl
@[simp] theorem State.mapSense_health (s : State) (i : Nat) (g : SenseInput → SenseInput) :
    (s.mapSense i g).health = s.health := rfl
@[simp] theorem State.mapSense_boot (s : State) (i : Nat) (g : SenseInput → SenseInput) : (s.mapSense i g).boot = s.boot := rfl
@[simp] theorem State.mapSense_owners (s : State) (i : Nat) (g : SenseInput → SenseInput) :
    (s.mapSense i g).owners = s.owners := rfl

@[simp] theorem State.mapSensor_pending (s : State) (o : Nat) (g : SensorSupply → SensorSupply) :
    (s.mapSensor o g).pending = s.pending := rfl
@[simp] theorem State.mapSensor_io (s : State) (o : Nat) (g : SensorSupply → SensorSupply) : (s.mapSensor o g).io = s.io := rfl
@[simp] theorem State.mapSensor_time (s : State) (o : Nat) (g : SensorSupply → SensorSupply) :
    (s.mapSensor o g).time = s.time := rfl
@[simp] theorem State.mapSensor_flow (s : State) (o : Nat) (g : SensorSupply → SensorSupply) :
    (s.mapSensor o g).flow = s.flow := rfl
@[simp] theorem State.mapSensor_sw (s : State) (o : Nat) (g : SensorSupply → SensorSupply) : (s.mapSensor o g).sw = s.sw := rfl
@[simp] theorem State.mapSensor_eth (s : State) (o : Nat) (g : SensorSupply → SensorSupply) :
    (s.mapSensor o g).eth = s.eth := rfl
@[simp] theorem State.mapSensor_dma (s : State) (o : Nat) (g : SensorSupply → SensorSupply) :
    (s.mapSensor o g).dma = s.dma := rfl
@[simp] theorem State.mapSensor_capsules (s : State) (o : Nat) (g : SensorSupply → SensorSupply) :
    (s.mapSensor o g).capsules = s.capsules := rfl
@[simp] theorem State.mapSensor_can (s : State) (o : Nat) (g : SensorSupply → SensorSupply) :
    (s.mapSensor o g).can = s.can := rfl
@[simp] theorem State.mapSensor_lin (s : State) (o : Nat) (g : SensorSupply → SensorSupply) :
    (s.mapSensor o g).lin = s.lin := rfl
@[simp] theorem State.mapSensor_ports (s : State) (o : Nat) (g : SensorSupply → SensorSupply) :
    (s.mapSensor o g).ports = s.ports := rfl
@[simp] theorem State.mapSensor_load (s : State) (o : Nat) (g : SensorSupply → SensorSupply) :
    (s.mapSensor o g).load = s.load := rfl
@[simp] theorem State.mapSensor_supply (s : State) (o : Nat) (g : SensorSupply → SensorSupply) :
    (s.mapSensor o g).supply = s.supply := rfl
@[simp] theorem State.mapSensor_sleep (s : State) (o : Nat) (g : SensorSupply → SensorSupply) :
    (s.mapSensor o g).sleep = s.sleep := rfl
@[simp] theorem State.mapSensor_cpu (s : State) (o : Nat) (g : SensorSupply → SensorSupply) :
    (s.mapSensor o g).cpu = s.cpu := rfl
@[simp] theorem State.mapSensor_keys (s : State) (o : Nat) (g : SensorSupply → SensorSupply) :
    (s.mapSensor o g).keys = s.keys := rfl
@[simp] theorem State.mapSensor_cipher (s : State) (o : Nat) (g : SensorSupply → SensorSupply) :
    (s.mapSensor o g).cipher = s.cipher := rfl
@[simp] theorem State.mapSensor_fair (s : State) (o : Nat) (g : SensorSupply → SensorSupply) :
    (s.mapSensor o g).fair = s.fair := rfl
@[simp] theorem State.mapSensor_health (s : State) (o : Nat) (g : SensorSupply → SensorSupply) :
    (s.mapSensor o g).health = s.health := rfl
@[simp] theorem State.mapSensor_boot (s : State) (o : Nat) (g : SensorSupply → SensorSupply) :
    (s.mapSensor o g).boot = s.boot := rfl
@[simp] theorem State.mapSensor_owners (s : State) (o : Nat) (g : SensorSupply → SensorSupply) :
    (s.mapSensor o g).owners = s.owners := rfl

@[simp] theorem State.mapConv_pending (s : State) (c : Nat) (g : Converter → Converter) :
    (s.mapConv c g).pending = s.pending := rfl
@[simp] theorem State.mapConv_io (s : State) (c : Nat) (g : Converter → Converter) : (s.mapConv c g).io = s.io := rfl
@[simp] theorem State.mapConv_time (s : State) (c : Nat) (g : Converter → Converter) : (s.mapConv c g).time = s.time := rfl
@[simp] theorem State.mapConv_flow (s : State) (c : Nat) (g : Converter → Converter) : (s.mapConv c g).flow = s.flow := rfl
@[simp] theorem State.mapConv_sw (s : State) (c : Nat) (g : Converter → Converter) : (s.mapConv c g).sw = s.sw := rfl
@[simp] theorem State.mapConv_eth (s : State) (c : Nat) (g : Converter → Converter) : (s.mapConv c g).eth = s.eth := rfl
@[simp] theorem State.mapConv_dma (s : State) (c : Nat) (g : Converter → Converter) : (s.mapConv c g).dma = s.dma := rfl
@[simp] theorem State.mapConv_capsules (s : State) (c : Nat) (g : Converter → Converter) :
    (s.mapConv c g).capsules = s.capsules := rfl
@[simp] theorem State.mapConv_can (s : State) (c : Nat) (g : Converter → Converter) : (s.mapConv c g).can = s.can := rfl
@[simp] theorem State.mapConv_lin (s : State) (c : Nat) (g : Converter → Converter) : (s.mapConv c g).lin = s.lin := rfl
@[simp] theorem State.mapConv_ports (s : State) (c : Nat) (g : Converter → Converter) : (s.mapConv c g).ports = s.ports := rfl
@[simp] theorem State.mapConv_load (s : State) (c : Nat) (g : Converter → Converter) : (s.mapConv c g).load = s.load := rfl
@[simp] theorem State.mapConv_supply (s : State) (c : Nat) (g : Converter → Converter) :
    (s.mapConv c g).supply = s.supply := rfl
@[simp] theorem State.mapConv_sleep (s : State) (c : Nat) (g : Converter → Converter) : (s.mapConv c g).sleep = s.sleep := rfl
@[simp] theorem State.mapConv_cpu (s : State) (c : Nat) (g : Converter → Converter) : (s.mapConv c g).cpu = s.cpu := rfl
@[simp] theorem State.mapConv_keys (s : State) (c : Nat) (g : Converter → Converter) : (s.mapConv c g).keys = s.keys := rfl
@[simp] theorem State.mapConv_cipher (s : State) (c : Nat) (g : Converter → Converter) :
    (s.mapConv c g).cipher = s.cipher := rfl
@[simp] theorem State.mapConv_fair (s : State) (c : Nat) (g : Converter → Converter) : (s.mapConv c g).fair = s.fair := rfl
@[simp] theorem State.mapConv_health (s : State) (c : Nat) (g : Converter → Converter) :
    (s.mapConv c g).health = s.health := rfl
@[simp] theorem State.mapConv_boot (s : State) (c : Nat) (g : Converter → Converter) : (s.mapConv c g).boot = s.boot := rfl
@[simp] theorem State.mapConv_owners (s : State) (c : Nat) (g : Converter → Converter) :
    (s.mapConv c g).owners = s.owners := rfl

@[simp] theorem State.mapWake_pending (s : State) (w : Nat) (g : WakeSource → WakeSource) :
    (s.mapWake w g).pending = s.pending := rfl
@[simp] theorem State.mapWake_io (s : State) (w : Nat) (g : WakeSource → WakeSource) : (s.mapWake w g).io = s.io := rfl
@[simp] theorem State.mapWake_time (s : State) (w : Nat) (g : WakeSource → WakeSource) : (s.mapWake w g).time = s.time := rfl
@[simp] theorem State.mapWake_flow (s : State) (w : Nat) (g : WakeSource → WakeSource) : (s.mapWake w g).flow = s.flow := rfl
@[simp] theorem State.mapWake_sw (s : State) (w : Nat) (g : WakeSource → WakeSource) : (s.mapWake w g).sw = s.sw := rfl
@[simp] theorem State.mapWake_eth (s : State) (w : Nat) (g : WakeSource → WakeSource) : (s.mapWake w g).eth = s.eth := rfl
@[simp] theorem State.mapWake_dma (s : State) (w : Nat) (g : WakeSource → WakeSource) : (s.mapWake w g).dma = s.dma := rfl
@[simp] theorem State.mapWake_capsules (s : State) (w : Nat) (g : WakeSource → WakeSource) :
    (s.mapWake w g).capsules = s.capsules := rfl
@[simp] theorem State.mapWake_can (s : State) (w : Nat) (g : WakeSource → WakeSource) : (s.mapWake w g).can = s.can := rfl
@[simp] theorem State.mapWake_lin (s : State) (w : Nat) (g : WakeSource → WakeSource) : (s.mapWake w g).lin = s.lin := rfl
@[simp] theorem State.mapWake_ports (s : State) (w : Nat) (g : WakeSource → WakeSource) : (s.mapWake w g).ports = s.ports := rfl
@[simp] theorem State.mapWake_load (s : State) (w : Nat) (g : WakeSource → WakeSource) : (s.mapWake w g).load = s.load := rfl
@[simp] theorem State.mapWake_supply (s : State) (w : Nat) (g : WakeSource → WakeSource) :
    (s.mapWake w g).supply = s.supply := rfl
@[simp] theorem State.mapWake_sense (s : State) (w : Nat) (g : WakeSource → WakeSource) : (s.mapWake w g).sense = s.sense := rfl
@[simp] theorem State.mapWake_cpu (s : State) (w : Nat) (g : WakeSource → WakeSource) : (s.mapWake w g).cpu = s.cpu := rfl
@[simp] theorem State.mapWake_keys (s : State) (w : Nat) (g : WakeSource → WakeSource) : (s.mapWake w g).keys = s.keys := rfl
@[simp] theorem State.mapWake_cipher (s : State) (w : Nat) (g : WakeSource → WakeSource) :
    (s.mapWake w g).cipher = s.cipher := rfl
@[simp] theorem State.mapWake_fair (s : State) (w : Nat) (g : WakeSource → WakeSource) : (s.mapWake w g).fair = s.fair := rfl
@[simp] theorem State.mapWake_health (s : State) (w : Nat) (g : WakeSource → WakeSource) :
    (s.mapWake w g).health = s.health := rfl
@[simp] theorem State.mapWake_boot (s : State) (w : Nat) (g : WakeSource → WakeSource) : (s.mapWake w g).boot = s.boot := rfl
@[simp] theorem State.mapWake_owners (s : State) (w : Nat) (g : WakeSource → WakeSource) :
    (s.mapWake w g).owners = s.owners := rfl

@[simp] theorem State.mapEth_pending (s : State) (p : Nat) (g : EthPort → EthPort) : (s.mapEth p g).pending = s.pending := rfl
@[simp] theorem State.mapEth_io (s : State) (p : Nat) (g : EthPort → EthPort) : (s.mapEth p g).io = s.io := rfl
@[simp] theorem State.mapEth_time (s : State) (p : Nat) (g : EthPort → EthPort) : (s.mapEth p g).time = s.time := rfl
@[simp] theorem State.mapEth_flow (s : State) (p : Nat) (g : EthPort → EthPort) : (s.mapEth p g).flow = s.flow := rfl
@[simp] theorem State.mapEth_sw (s : State) (p : Nat) (g : EthPort → EthPort) : (s.mapEth p g).sw = s.sw := rfl
@[simp] theorem State.mapEth_dma (s : State) (p : Nat) (g : EthPort → EthPort) : (s.mapEth p g).dma = s.dma := rfl
@[simp] theorem State.mapEth_capsules (s : State) (p : Nat) (g : EthPort → EthPort) :
    (s.mapEth p g).capsules = s.capsules := rfl
@[simp] theorem State.mapEth_can (s : State) (p : Nat) (g : EthPort → EthPort) : (s.mapEth p g).can = s.can := rfl
@[simp] theorem State.mapEth_lin (s : State) (p : Nat) (g : EthPort → EthPort) : (s.mapEth p g).lin = s.lin := rfl
@[simp] theorem State.mapEth_ports (s : State) (p : Nat) (g : EthPort → EthPort) : (s.mapEth p g).ports = s.ports := rfl
@[simp] theorem State.mapEth_load (s : State) (p : Nat) (g : EthPort → EthPort) : (s.mapEth p g).load = s.load := rfl
@[simp] theorem State.mapEth_supply (s : State) (p : Nat) (g : EthPort → EthPort) : (s.mapEth p g).supply = s.supply := rfl
@[simp] theorem State.mapEth_sense (s : State) (p : Nat) (g : EthPort → EthPort) : (s.mapEth p g).sense = s.sense := rfl
@[simp] theorem State.mapEth_sleep (s : State) (p : Nat) (g : EthPort → EthPort) : (s.mapEth p g).sleep = s.sleep := rfl
@[simp] theorem State.mapEth_cpu (s : State) (p : Nat) (g : EthPort → EthPort) : (s.mapEth p g).cpu = s.cpu := rfl
@[simp] theorem State.mapEth_keys (s : State) (p : Nat) (g : EthPort → EthPort) : (s.mapEth p g).keys = s.keys := rfl
@[simp] theorem State.mapEth_cipher (s : State) (p : Nat) (g : EthPort → EthPort) : (s.mapEth p g).cipher = s.cipher := rfl
@[simp] theorem State.mapEth_fair (s : State) (p : Nat) (g : EthPort → EthPort) : (s.mapEth p g).fair = s.fair := rfl
@[simp] theorem State.mapEth_health (s : State) (p : Nat) (g : EthPort → EthPort) : (s.mapEth p g).health = s.health := rfl
@[simp] theorem State.mapEth_boot (s : State) (p : Nat) (g : EthPort → EthPort) : (s.mapEth p g).boot = s.boot := rfl
@[simp] theorem State.mapEth_owners (s : State) (p : Nat) (g : EthPort → EthPort) : (s.mapEth p g).owners = s.owners := rfl

@[simp] theorem State.mapSw_pending (s : State) (p : Nat) (g : SwPort → SwPort) : (s.mapSw p g).pending = s.pending := rfl
@[simp] theorem State.mapSw_io (s : State) (p : Nat) (g : SwPort → SwPort) : (s.mapSw p g).io = s.io := rfl
@[simp] theorem State.mapSw_time (s : State) (p : Nat) (g : SwPort → SwPort) : (s.mapSw p g).time = s.time := rfl
@[simp] theorem State.mapSw_flow (s : State) (p : Nat) (g : SwPort → SwPort) : (s.mapSw p g).flow = s.flow := rfl
@[simp] theorem State.mapSw_eth (s : State) (p : Nat) (g : SwPort → SwPort) : (s.mapSw p g).eth = s.eth := rfl
@[simp] theorem State.mapSw_dma (s : State) (p : Nat) (g : SwPort → SwPort) : (s.mapSw p g).dma = s.dma := rfl
@[simp] theorem State.mapSw_capsules (s : State) (p : Nat) (g : SwPort → SwPort) : (s.mapSw p g).capsules = s.capsules := rfl
@[simp] theorem State.mapSw_can (s : State) (p : Nat) (g : SwPort → SwPort) : (s.mapSw p g).can = s.can := rfl
@[simp] theorem State.mapSw_lin (s : State) (p : Nat) (g : SwPort → SwPort) : (s.mapSw p g).lin = s.lin := rfl
@[simp] theorem State.mapSw_ports (s : State) (p : Nat) (g : SwPort → SwPort) : (s.mapSw p g).ports = s.ports := rfl
@[simp] theorem State.mapSw_load (s : State) (p : Nat) (g : SwPort → SwPort) : (s.mapSw p g).load = s.load := rfl
@[simp] theorem State.mapSw_supply (s : State) (p : Nat) (g : SwPort → SwPort) : (s.mapSw p g).supply = s.supply := rfl
@[simp] theorem State.mapSw_sense (s : State) (p : Nat) (g : SwPort → SwPort) : (s.mapSw p g).sense = s.sense := rfl
@[simp] theorem State.mapSw_sleep (s : State) (p : Nat) (g : SwPort → SwPort) : (s.mapSw p g).sleep = s.sleep := rfl
@[simp] theorem State.mapSw_cpu (s : State) (p : Nat) (g : SwPort → SwPort) : (s.mapSw p g).cpu = s.cpu := rfl
@[simp] theorem State.mapSw_keys (s : State) (p : Nat) (g : SwPort → SwPort) : (s.mapSw p g).keys = s.keys := rfl
@[simp] theorem State.mapSw_cipher (s : State) (p : Nat) (g : SwPort → SwPort) : (s.mapSw p g).cipher = s.cipher := rfl
@[simp] theorem State.mapSw_fair (s : State) (p : Nat) (g : SwPort → SwPort) : (s.mapSw p g).fair = s.fair := rfl
@[simp] theorem State.mapSw_health (s : State) (p : Nat) (g : SwPort → SwPort) : (s.mapSw p g).health = s.health := rfl
@[simp] theorem State.mapSw_boot (s : State) (p : Nat) (g : SwPort → SwPort) : (s.mapSw p g).boot = s.boot := rfl
@[simp] theorem State.mapSw_owners (s : State) (p : Nat) (g : SwPort → SwPort) : (s.mapSw p g).owners = s.owners := rfl

@[simp] theorem State.mapAccount_pending (s : State) (a : Nat) (g : Account → Account) :
    (s.mapAccount a g).pending = s.pending := rfl
@[simp] theorem State.mapAccount_io (s : State) (a : Nat) (g : Account → Account) : (s.mapAccount a g).io = s.io := rfl
@[simp] theorem State.mapAccount_time (s : State) (a : Nat) (g : Account → Account) : (s.mapAccount a g).time = s.time := rfl
@[simp] theorem State.mapAccount_flow (s : State) (a : Nat) (g : Account → Account) : (s.mapAccount a g).flow = s.flow := rfl
@[simp] theorem State.mapAccount_eth (s : State) (a : Nat) (g : Account → Account) : (s.mapAccount a g).eth = s.eth := rfl
@[simp] theorem State.mapAccount_dma (s : State) (a : Nat) (g : Account → Account) : (s.mapAccount a g).dma = s.dma := rfl
@[simp] theorem State.mapAccount_capsules (s : State) (a : Nat) (g : Account → Account) :
    (s.mapAccount a g).capsules = s.capsules := rfl
@[simp] theorem State.mapAccount_can (s : State) (a : Nat) (g : Account → Account) : (s.mapAccount a g).can = s.can := rfl
@[simp] theorem State.mapAccount_lin (s : State) (a : Nat) (g : Account → Account) : (s.mapAccount a g).lin = s.lin := rfl
@[simp] theorem State.mapAccount_ports (s : State) (a : Nat) (g : Account → Account) : (s.mapAccount a g).ports = s.ports := rfl
@[simp] theorem State.mapAccount_load (s : State) (a : Nat) (g : Account → Account) : (s.mapAccount a g).load = s.load := rfl
@[simp] theorem State.mapAccount_supply (s : State) (a : Nat) (g : Account → Account) :
    (s.mapAccount a g).supply = s.supply := rfl
@[simp] theorem State.mapAccount_sense (s : State) (a : Nat) (g : Account → Account) : (s.mapAccount a g).sense = s.sense := rfl
@[simp] theorem State.mapAccount_sleep (s : State) (a : Nat) (g : Account → Account) : (s.mapAccount a g).sleep = s.sleep := rfl
@[simp] theorem State.mapAccount_cpu (s : State) (a : Nat) (g : Account → Account) : (s.mapAccount a g).cpu = s.cpu := rfl
@[simp] theorem State.mapAccount_keys (s : State) (a : Nat) (g : Account → Account) : (s.mapAccount a g).keys = s.keys := rfl
@[simp] theorem State.mapAccount_cipher (s : State) (a : Nat) (g : Account → Account) :
    (s.mapAccount a g).cipher = s.cipher := rfl
@[simp] theorem State.mapAccount_fair (s : State) (a : Nat) (g : Account → Account) : (s.mapAccount a g).fair = s.fair := rfl
@[simp] theorem State.mapAccount_health (s : State) (a : Nat) (g : Account → Account) :
    (s.mapAccount a g).health = s.health := rfl
@[simp] theorem State.mapAccount_boot (s : State) (a : Nat) (g : Account → Account) : (s.mapAccount a g).boot = s.boot := rfl
@[simp] theorem State.mapAccount_owners (s : State) (a : Nat) (g : Account → Account) :
    (s.mapAccount a g).owners = s.owners := rfl

@[simp] theorem State.mapEndpoint_pending (s : State) (e : Nat) (g : Endpoint → Endpoint) :
    (s.mapEndpoint e g).pending = s.pending := rfl
@[simp] theorem State.mapEndpoint_io (s : State) (e : Nat) (g : Endpoint → Endpoint) : (s.mapEndpoint e g).io = s.io := rfl
@[simp] theorem State.mapEndpoint_time (s : State) (e : Nat) (g : Endpoint → Endpoint) :
    (s.mapEndpoint e g).time = s.time := rfl
@[simp] theorem State.mapEndpoint_flow (s : State) (e : Nat) (g : Endpoint → Endpoint) :
    (s.mapEndpoint e g).flow = s.flow := rfl
@[simp] theorem State.mapEndpoint_eth (s : State) (e : Nat) (g : Endpoint → Endpoint) : (s.mapEndpoint e g).eth = s.eth := rfl
@[simp] theorem State.mapEndpoint_dma (s : State) (e : Nat) (g : Endpoint → Endpoint) : (s.mapEndpoint e g).dma = s.dma := rfl
@[simp] theorem State.mapEndpoint_capsules (s : State) (e : Nat) (g : Endpoint → Endpoint) :
    (s.mapEndpoint e g).capsules = s.capsules := rfl
@[simp] theorem State.mapEndpoint_can (s : State) (e : Nat) (g : Endpoint → Endpoint) : (s.mapEndpoint e g).can = s.can := rfl
@[simp] theorem State.mapEndpoint_lin (s : State) (e : Nat) (g : Endpoint → Endpoint) : (s.mapEndpoint e g).lin = s.lin := rfl
@[simp] theorem State.mapEndpoint_ports (s : State) (e : Nat) (g : Endpoint → Endpoint) :
    (s.mapEndpoint e g).ports = s.ports := rfl
@[simp] theorem State.mapEndpoint_load (s : State) (e : Nat) (g : Endpoint → Endpoint) :
    (s.mapEndpoint e g).load = s.load := rfl
@[simp] theorem State.mapEndpoint_supply (s : State) (e : Nat) (g : Endpoint → Endpoint) :
    (s.mapEndpoint e g).supply = s.supply := rfl
@[simp] theorem State.mapEndpoint_sense (s : State) (e : Nat) (g : Endpoint → Endpoint) :
    (s.mapEndpoint e g).sense = s.sense := rfl
@[simp] theorem State.mapEndpoint_sleep (s : State) (e : Nat) (g : Endpoint → Endpoint) :
    (s.mapEndpoint e g).sleep = s.sleep := rfl
@[simp] theorem State.mapEndpoint_cpu (s : State) (e : Nat) (g : Endpoint → Endpoint) : (s.mapEndpoint e g).cpu = s.cpu := rfl
@[simp] theorem State.mapEndpoint_keys (s : State) (e : Nat) (g : Endpoint → Endpoint) :
    (s.mapEndpoint e g).keys = s.keys := rfl
@[simp] theorem State.mapEndpoint_cipher (s : State) (e : Nat) (g : Endpoint → Endpoint) :
    (s.mapEndpoint e g).cipher = s.cipher := rfl
@[simp] theorem State.mapEndpoint_fair (s : State) (e : Nat) (g : Endpoint → Endpoint) :
    (s.mapEndpoint e g).fair = s.fair := rfl
@[simp] theorem State.mapEndpoint_health (s : State) (e : Nat) (g : Endpoint → Endpoint) :
    (s.mapEndpoint e g).health = s.health := rfl
@[simp] theorem State.mapEndpoint_boot (s : State) (e : Nat) (g : Endpoint → Endpoint) :
    (s.mapEndpoint e g).boot = s.boot := rfl
@[simp] theorem State.mapEndpoint_owners (s : State) (e : Nat) (g : Endpoint → Endpoint) :
    (s.mapEndpoint e g).owners = s.owners := rfl

@[simp] theorem State.mapFilter_pending (s : State) (f : Nat) (g : Filter → Filter) :
    (s.mapFilter f g).pending = s.pending := rfl
@[simp] theorem State.mapFilter_io (s : State) (f : Nat) (g : Filter → Filter) : (s.mapFilter f g).io = s.io := rfl
@[simp] theorem State.mapFilter_time (s : State) (f : Nat) (g : Filter → Filter) : (s.mapFilter f g).time = s.time := rfl
@[simp] theorem State.mapFilter_flow (s : State) (f : Nat) (g : Filter → Filter) : (s.mapFilter f g).flow = s.flow := rfl
@[simp] theorem State.mapFilter_eth (s : State) (f : Nat) (g : Filter → Filter) : (s.mapFilter f g).eth = s.eth := rfl
@[simp] theorem State.mapFilter_dma (s : State) (f : Nat) (g : Filter → Filter) : (s.mapFilter f g).dma = s.dma := rfl
@[simp] theorem State.mapFilter_capsules (s : State) (f : Nat) (g : Filter → Filter) :
    (s.mapFilter f g).capsules = s.capsules := rfl
@[simp] theorem State.mapFilter_can (s : State) (f : Nat) (g : Filter → Filter) : (s.mapFilter f g).can = s.can := rfl
@[simp] theorem State.mapFilter_lin (s : State) (f : Nat) (g : Filter → Filter) : (s.mapFilter f g).lin = s.lin := rfl
@[simp] theorem State.mapFilter_ports (s : State) (f : Nat) (g : Filter → Filter) : (s.mapFilter f g).ports = s.ports := rfl
@[simp] theorem State.mapFilter_load (s : State) (f : Nat) (g : Filter → Filter) : (s.mapFilter f g).load = s.load := rfl
@[simp] theorem State.mapFilter_supply (s : State) (f : Nat) (g : Filter → Filter) : (s.mapFilter f g).supply = s.supply := rfl
@[simp] theorem State.mapFilter_sense (s : State) (f : Nat) (g : Filter → Filter) : (s.mapFilter f g).sense = s.sense := rfl
@[simp] theorem State.mapFilter_sleep (s : State) (f : Nat) (g : Filter → Filter) : (s.mapFilter f g).sleep = s.sleep := rfl
@[simp] theorem State.mapFilter_cpu (s : State) (f : Nat) (g : Filter → Filter) : (s.mapFilter f g).cpu = s.cpu := rfl
@[simp] theorem State.mapFilter_keys (s : State) (f : Nat) (g : Filter → Filter) : (s.mapFilter f g).keys = s.keys := rfl
@[simp] theorem State.mapFilter_cipher (s : State) (f : Nat) (g : Filter → Filter) : (s.mapFilter f g).cipher = s.cipher := rfl
@[simp] theorem State.mapFilter_fair (s : State) (f : Nat) (g : Filter → Filter) : (s.mapFilter f g).fair = s.fair := rfl
@[simp] theorem State.mapFilter_health (s : State) (f : Nat) (g : Filter → Filter) : (s.mapFilter f g).health = s.health := rfl
@[simp] theorem State.mapFilter_boot (s : State) (f : Nat) (g : Filter → Filter) : (s.mapFilter f g).boot = s.boot := rfl
@[simp] theorem State.mapFilter_owners (s : State) (f : Nat) (g : Filter → Filter) : (s.mapFilter f g).owners = s.owners := rfl

@[simp] theorem State.mapCvu_pending (s : State) (c : Nat) (g : Cvu → Cvu) : (s.mapCvu c g).pending = s.pending := rfl
@[simp] theorem State.mapCvu_io (s : State) (c : Nat) (g : Cvu → Cvu) : (s.mapCvu c g).io = s.io := rfl
@[simp] theorem State.mapCvu_time (s : State) (c : Nat) (g : Cvu → Cvu) : (s.mapCvu c g).time = s.time := rfl
@[simp] theorem State.mapCvu_flow (s : State) (c : Nat) (g : Cvu → Cvu) : (s.mapCvu c g).flow = s.flow := rfl
@[simp] theorem State.mapCvu_sw (s : State) (c : Nat) (g : Cvu → Cvu) : (s.mapCvu c g).sw = s.sw := rfl
@[simp] theorem State.mapCvu_eth (s : State) (c : Nat) (g : Cvu → Cvu) : (s.mapCvu c g).eth = s.eth := rfl
@[simp] theorem State.mapCvu_dma (s : State) (c : Nat) (g : Cvu → Cvu) : (s.mapCvu c g).dma = s.dma := rfl
@[simp] theorem State.mapCvu_capsules (s : State) (c : Nat) (g : Cvu → Cvu) : (s.mapCvu c g).capsules = s.capsules := rfl
@[simp] theorem State.mapCvu_can (s : State) (c : Nat) (g : Cvu → Cvu) : (s.mapCvu c g).can = s.can := rfl
@[simp] theorem State.mapCvu_lin (s : State) (c : Nat) (g : Cvu → Cvu) : (s.mapCvu c g).lin = s.lin := rfl
@[simp] theorem State.mapCvu_ports (s : State) (c : Nat) (g : Cvu → Cvu) : (s.mapCvu c g).ports = s.ports := rfl
@[simp] theorem State.mapCvu_load (s : State) (c : Nat) (g : Cvu → Cvu) : (s.mapCvu c g).load = s.load := rfl
@[simp] theorem State.mapCvu_supply (s : State) (c : Nat) (g : Cvu → Cvu) : (s.mapCvu c g).supply = s.supply := rfl
@[simp] theorem State.mapCvu_sense (s : State) (c : Nat) (g : Cvu → Cvu) : (s.mapCvu c g).sense = s.sense := rfl
@[simp] theorem State.mapCvu_sleep (s : State) (c : Nat) (g : Cvu → Cvu) : (s.mapCvu c g).sleep = s.sleep := rfl
@[simp] theorem State.mapCvu_cpu (s : State) (c : Nat) (g : Cvu → Cvu) : (s.mapCvu c g).cpu = s.cpu := rfl
@[simp] theorem State.mapCvu_keys (s : State) (c : Nat) (g : Cvu → Cvu) : (s.mapCvu c g).keys = s.keys := rfl
@[simp] theorem State.mapCvu_fair (s : State) (c : Nat) (g : Cvu → Cvu) : (s.mapCvu c g).fair = s.fair := rfl
@[simp] theorem State.mapCvu_health (s : State) (c : Nat) (g : Cvu → Cvu) : (s.mapCvu c g).health = s.health := rfl
@[simp] theorem State.mapCvu_boot (s : State) (c : Nat) (g : Cvu → Cvu) : (s.mapCvu c g).boot = s.boot := rfl
@[simp] theorem State.mapCvu_owners (s : State) (c : Nat) (g : Cvu → Cvu) : (s.mapCvu c g).owners = s.owners := rfl

@[simp] theorem State.mapCore_pending (s : State) (c : Nat) (g : SafetyCore → SafetyCore) :
    (s.mapCore c g).pending = s.pending := rfl
@[simp] theorem State.mapCore_io (s : State) (c : Nat) (g : SafetyCore → SafetyCore) : (s.mapCore c g).io = s.io := rfl
@[simp] theorem State.mapCore_time (s : State) (c : Nat) (g : SafetyCore → SafetyCore) : (s.mapCore c g).time = s.time := rfl
@[simp] theorem State.mapCore_flow (s : State) (c : Nat) (g : SafetyCore → SafetyCore) : (s.mapCore c g).flow = s.flow := rfl
@[simp] theorem State.mapCore_sw (s : State) (c : Nat) (g : SafetyCore → SafetyCore) : (s.mapCore c g).sw = s.sw := rfl
@[simp] theorem State.mapCore_eth (s : State) (c : Nat) (g : SafetyCore → SafetyCore) : (s.mapCore c g).eth = s.eth := rfl
@[simp] theorem State.mapCore_dma (s : State) (c : Nat) (g : SafetyCore → SafetyCore) : (s.mapCore c g).dma = s.dma := rfl
@[simp] theorem State.mapCore_capsules (s : State) (c : Nat) (g : SafetyCore → SafetyCore) :
    (s.mapCore c g).capsules = s.capsules := rfl
@[simp] theorem State.mapCore_can (s : State) (c : Nat) (g : SafetyCore → SafetyCore) : (s.mapCore c g).can = s.can := rfl
@[simp] theorem State.mapCore_lin (s : State) (c : Nat) (g : SafetyCore → SafetyCore) : (s.mapCore c g).lin = s.lin := rfl
@[simp] theorem State.mapCore_ports (s : State) (c : Nat) (g : SafetyCore → SafetyCore) : (s.mapCore c g).ports = s.ports := rfl
@[simp] theorem State.mapCore_load (s : State) (c : Nat) (g : SafetyCore → SafetyCore) : (s.mapCore c g).load = s.load := rfl
@[simp] theorem State.mapCore_supply (s : State) (c : Nat) (g : SafetyCore → SafetyCore) :
    (s.mapCore c g).supply = s.supply := rfl
@[simp] theorem State.mapCore_sense (s : State) (c : Nat) (g : SafetyCore → SafetyCore) : (s.mapCore c g).sense = s.sense := rfl
@[simp] theorem State.mapCore_sleep (s : State) (c : Nat) (g : SafetyCore → SafetyCore) : (s.mapCore c g).sleep = s.sleep := rfl
@[simp] theorem State.mapCore_keys (s : State) (c : Nat) (g : SafetyCore → SafetyCore) : (s.mapCore c g).keys = s.keys := rfl
@[simp] theorem State.mapCore_cipher (s : State) (c : Nat) (g : SafetyCore → SafetyCore) :
    (s.mapCore c g).cipher = s.cipher := rfl
@[simp] theorem State.mapCore_fair (s : State) (c : Nat) (g : SafetyCore → SafetyCore) : (s.mapCore c g).fair = s.fair := rfl
@[simp] theorem State.mapCore_health (s : State) (c : Nat) (g : SafetyCore → SafetyCore) :
    (s.mapCore c g).health = s.health := rfl
@[simp] theorem State.mapCore_boot (s : State) (c : Nat) (g : SafetyCore → SafetyCore) : (s.mapCore c g).boot = s.boot := rfl
@[simp] theorem State.mapCore_owners (s : State) (c : Nat) (g : SafetyCore → SafetyCore) :
    (s.mapCore c g).owners = s.owners := rfl

@[simp] theorem State.mapFairWindow_pending (s : State) (w : Nat) (g : FairWindow → FairWindow) :
    (s.mapFairWindow w g).pending = s.pending := rfl
@[simp] theorem State.mapFairWindow_io (s : State) (w : Nat) (g : FairWindow → FairWindow) :
    (s.mapFairWindow w g).io = s.io := rfl
@[simp] theorem State.mapFairWindow_time (s : State) (w : Nat) (g : FairWindow → FairWindow) :
    (s.mapFairWindow w g).time = s.time := rfl
@[simp] theorem State.mapFairWindow_flow (s : State) (w : Nat) (g : FairWindow → FairWindow) :
    (s.mapFairWindow w g).flow = s.flow := rfl
@[simp] theorem State.mapFairWindow_sw (s : State) (w : Nat) (g : FairWindow → FairWindow) :
    (s.mapFairWindow w g).sw = s.sw := rfl
@[simp] theorem State.mapFairWindow_eth (s : State) (w : Nat) (g : FairWindow → FairWindow) :
    (s.mapFairWindow w g).eth = s.eth := rfl
@[simp] theorem State.mapFairWindow_dma (s : State) (w : Nat) (g : FairWindow → FairWindow) :
    (s.mapFairWindow w g).dma = s.dma := rfl
@[simp] theorem State.mapFairWindow_capsules (s : State) (w : Nat) (g : FairWindow → FairWindow) :
    (s.mapFairWindow w g).capsules = s.capsules := rfl
@[simp] theorem State.mapFairWindow_can (s : State) (w : Nat) (g : FairWindow → FairWindow) :
    (s.mapFairWindow w g).can = s.can := rfl
@[simp] theorem State.mapFairWindow_lin (s : State) (w : Nat) (g : FairWindow → FairWindow) :
    (s.mapFairWindow w g).lin = s.lin := rfl
@[simp] theorem State.mapFairWindow_ports (s : State) (w : Nat) (g : FairWindow → FairWindow) :
    (s.mapFairWindow w g).ports = s.ports := rfl
@[simp] theorem State.mapFairWindow_load (s : State) (w : Nat) (g : FairWindow → FairWindow) :
    (s.mapFairWindow w g).load = s.load := rfl
@[simp] theorem State.mapFairWindow_supply (s : State) (w : Nat) (g : FairWindow → FairWindow) :
    (s.mapFairWindow w g).supply = s.supply := rfl
@[simp] theorem State.mapFairWindow_sense (s : State) (w : Nat) (g : FairWindow → FairWindow) :
    (s.mapFairWindow w g).sense = s.sense := rfl
@[simp] theorem State.mapFairWindow_sleep (s : State) (w : Nat) (g : FairWindow → FairWindow) :
    (s.mapFairWindow w g).sleep = s.sleep := rfl
@[simp] theorem State.mapFairWindow_cpu (s : State) (w : Nat) (g : FairWindow → FairWindow) :
    (s.mapFairWindow w g).cpu = s.cpu := rfl
@[simp] theorem State.mapFairWindow_keys (s : State) (w : Nat) (g : FairWindow → FairWindow) :
    (s.mapFairWindow w g).keys = s.keys := rfl
@[simp] theorem State.mapFairWindow_cipher (s : State) (w : Nat) (g : FairWindow → FairWindow) :
    (s.mapFairWindow w g).cipher = s.cipher := rfl
@[simp] theorem State.mapFairWindow_health (s : State) (w : Nat) (g : FairWindow → FairWindow) :
    (s.mapFairWindow w g).health = s.health := rfl
@[simp] theorem State.mapFairWindow_boot (s : State) (w : Nat) (g : FairWindow → FairWindow) :
    (s.mapFairWindow w g).boot = s.boot := rfl
@[simp] theorem State.mapFairWindow_owners (s : State) (w : Nat) (g : FairWindow → FairWindow) :
    (s.mapFairWindow w g).owners = s.owners := rfl

@[simp] theorem State.mapPart_pending (s : State) (p : Nat) (f : Part → Part) : (s.mapPart p f).pending = s.pending := rfl
@[simp] theorem State.mapPart_time (s : State) (p : Nat) (f : Part → Part) : (s.mapPart p f).time = s.time := rfl
@[simp] theorem State.mapPart_flow (s : State) (p : Nat) (f : Part → Part) : (s.mapPart p f).flow = s.flow := rfl
@[simp] theorem State.mapPart_sw (s : State) (p : Nat) (f : Part → Part) : (s.mapPart p f).sw = s.sw := rfl
@[simp] theorem State.mapPart_eth (s : State) (p : Nat) (f : Part → Part) : (s.mapPart p f).eth = s.eth := rfl
@[simp] theorem State.mapPart_dma (s : State) (p : Nat) (f : Part → Part) : (s.mapPart p f).dma = s.dma := rfl
@[simp] theorem State.mapPart_capsules (s : State) (p : Nat) (f : Part → Part) : (s.mapPart p f).capsules = s.capsules := rfl
@[simp] theorem State.mapPart_can (s : State) (p : Nat) (f : Part → Part) : (s.mapPart p f).can = s.can := rfl
@[simp] theorem State.mapPart_lin (s : State) (p : Nat) (f : Part → Part) : (s.mapPart p f).lin = s.lin := rfl
@[simp] theorem State.mapPart_ports (s : State) (p : Nat) (f : Part → Part) : (s.mapPart p f).ports = s.ports := rfl
@[simp] theorem State.mapPart_load (s : State) (p : Nat) (f : Part → Part) : (s.mapPart p f).load = s.load := rfl
@[simp] theorem State.mapPart_supply (s : State) (p : Nat) (f : Part → Part) : (s.mapPart p f).supply = s.supply := rfl
@[simp] theorem State.mapPart_sense (s : State) (p : Nat) (f : Part → Part) : (s.mapPart p f).sense = s.sense := rfl
@[simp] theorem State.mapPart_sleep (s : State) (p : Nat) (f : Part → Part) : (s.mapPart p f).sleep = s.sleep := rfl
@[simp] theorem State.mapPart_cpu (s : State) (p : Nat) (f : Part → Part) : (s.mapPart p f).cpu = s.cpu := rfl
@[simp] theorem State.mapPart_keys (s : State) (p : Nat) (f : Part → Part) : (s.mapPart p f).keys = s.keys := rfl
@[simp] theorem State.mapPart_cipher (s : State) (p : Nat) (f : Part → Part) : (s.mapPart p f).cipher = s.cipher := rfl
@[simp] theorem State.mapPart_fair (s : State) (p : Nat) (f : Part → Part) : (s.mapPart p f).fair = s.fair := rfl
@[simp] theorem State.mapPart_health (s : State) (p : Nat) (f : Part → Part) : (s.mapPart p f).health = s.health := rfl
@[simp] theorem State.mapPart_boot (s : State) (p : Nat) (f : Part → Part) : (s.mapPart p f).boot = s.boot := rfl
@[simp] theorem State.mapPart_owners (s : State) (p : Nat) (f : Part → Part) : (s.mapPart p f).owners = s.owners := rfl

@[simp] theorem State.mapMasthead_pending (s : State) (f : Masthead → Masthead) : (s.mapMasthead f).pending = s.pending := rfl
@[simp] theorem State.mapMasthead_io (s : State) (f : Masthead → Masthead) : (s.mapMasthead f).io = s.io := rfl
@[simp] theorem State.mapMasthead_time (s : State) (f : Masthead → Masthead) : (s.mapMasthead f).time = s.time := rfl
@[simp] theorem State.mapMasthead_flow (s : State) (f : Masthead → Masthead) : (s.mapMasthead f).flow = s.flow := rfl
@[simp] theorem State.mapMasthead_sw (s : State) (f : Masthead → Masthead) : (s.mapMasthead f).sw = s.sw := rfl
@[simp] theorem State.mapMasthead_eth (s : State) (f : Masthead → Masthead) : (s.mapMasthead f).eth = s.eth := rfl
@[simp] theorem State.mapMasthead_dma (s : State) (f : Masthead → Masthead) : (s.mapMasthead f).dma = s.dma := rfl
@[simp] theorem State.mapMasthead_capsules (s : State) (f : Masthead → Masthead) :
    (s.mapMasthead f).capsules = s.capsules := rfl
@[simp] theorem State.mapMasthead_can (s : State) (f : Masthead → Masthead) : (s.mapMasthead f).can = s.can := rfl
@[simp] theorem State.mapMasthead_lin (s : State) (f : Masthead → Masthead) : (s.mapMasthead f).lin = s.lin := rfl
@[simp] theorem State.mapMasthead_ports (s : State) (f : Masthead → Masthead) : (s.mapMasthead f).ports = s.ports := rfl
@[simp] theorem State.mapMasthead_load (s : State) (f : Masthead → Masthead) : (s.mapMasthead f).load = s.load := rfl
@[simp] theorem State.mapMasthead_supply (s : State) (f : Masthead → Masthead) : (s.mapMasthead f).supply = s.supply := rfl
@[simp] theorem State.mapMasthead_sense (s : State) (f : Masthead → Masthead) : (s.mapMasthead f).sense = s.sense := rfl
@[simp] theorem State.mapMasthead_sleep (s : State) (f : Masthead → Masthead) : (s.mapMasthead f).sleep = s.sleep := rfl
@[simp] theorem State.mapMasthead_keys (s : State) (f : Masthead → Masthead) : (s.mapMasthead f).keys = s.keys := rfl
@[simp] theorem State.mapMasthead_cipher (s : State) (f : Masthead → Masthead) : (s.mapMasthead f).cipher = s.cipher := rfl
@[simp] theorem State.mapMasthead_fair (s : State) (f : Masthead → Masthead) : (s.mapMasthead f).fair = s.fair := rfl
@[simp] theorem State.mapMasthead_health (s : State) (f : Masthead → Masthead) : (s.mapMasthead f).health = s.health := rfl
@[simp] theorem State.mapMasthead_boot (s : State) (f : Masthead → Masthead) : (s.mapMasthead f).boot = s.boot := rfl
@[simp] theorem State.mapMasthead_owners (s : State) (f : Masthead → Masthead) : (s.mapMasthead f).owners = s.owners := rfl

@[simp] theorem State.mapSupply_pending (s : State) (f : SupplyState → SupplyState) : (s.mapSupply f).pending = s.pending := rfl
@[simp] theorem State.mapSupply_io (s : State) (f : SupplyState → SupplyState) : (s.mapSupply f).io = s.io := rfl
@[simp] theorem State.mapSupply_time (s : State) (f : SupplyState → SupplyState) : (s.mapSupply f).time = s.time := rfl
@[simp] theorem State.mapSupply_flow (s : State) (f : SupplyState → SupplyState) : (s.mapSupply f).flow = s.flow := rfl
@[simp] theorem State.mapSupply_sw (s : State) (f : SupplyState → SupplyState) : (s.mapSupply f).sw = s.sw := rfl
@[simp] theorem State.mapSupply_eth (s : State) (f : SupplyState → SupplyState) : (s.mapSupply f).eth = s.eth := rfl
@[simp] theorem State.mapSupply_dma (s : State) (f : SupplyState → SupplyState) : (s.mapSupply f).dma = s.dma := rfl
@[simp] theorem State.mapSupply_capsules (s : State) (f : SupplyState → SupplyState) :
    (s.mapSupply f).capsules = s.capsules := rfl
@[simp] theorem State.mapSupply_can (s : State) (f : SupplyState → SupplyState) : (s.mapSupply f).can = s.can := rfl
@[simp] theorem State.mapSupply_lin (s : State) (f : SupplyState → SupplyState) : (s.mapSupply f).lin = s.lin := rfl
@[simp] theorem State.mapSupply_ports (s : State) (f : SupplyState → SupplyState) : (s.mapSupply f).ports = s.ports := rfl
@[simp] theorem State.mapSupply_load (s : State) (f : SupplyState → SupplyState) : (s.mapSupply f).load = s.load := rfl
@[simp] theorem State.mapSupply_sense (s : State) (f : SupplyState → SupplyState) : (s.mapSupply f).sense = s.sense := rfl
@[simp] theorem State.mapSupply_sleep (s : State) (f : SupplyState → SupplyState) : (s.mapSupply f).sleep = s.sleep := rfl
@[simp] theorem State.mapSupply_cpu (s : State) (f : SupplyState → SupplyState) : (s.mapSupply f).cpu = s.cpu := rfl
@[simp] theorem State.mapSupply_keys (s : State) (f : SupplyState → SupplyState) : (s.mapSupply f).keys = s.keys := rfl
@[simp] theorem State.mapSupply_cipher (s : State) (f : SupplyState → SupplyState) : (s.mapSupply f).cipher = s.cipher := rfl
@[simp] theorem State.mapSupply_fair (s : State) (f : SupplyState → SupplyState) : (s.mapSupply f).fair = s.fair := rfl
@[simp] theorem State.mapSupply_health (s : State) (f : SupplyState → SupplyState) : (s.mapSupply f).health = s.health := rfl
@[simp] theorem State.mapSupply_boot (s : State) (f : SupplyState → SupplyState) : (s.mapSupply f).boot = s.boot := rfl
@[simp] theorem State.mapSupply_owners (s : State) (f : SupplyState → SupplyState) : (s.mapSupply f).owners = s.owners := rfl

@[simp] theorem State.mapTamper_pending (s : State) (i : Nat) (f : TamperInput → TamperInput) :
    (s.mapTamper i f).pending = s.pending := rfl
@[simp] theorem State.mapTamper_io (s : State) (i : Nat) (f : TamperInput → TamperInput) : (s.mapTamper i f).io = s.io := rfl
@[simp] theorem State.mapTamper_time (s : State) (i : Nat) (f : TamperInput → TamperInput) :
    (s.mapTamper i f).time = s.time := rfl
@[simp] theorem State.mapTamper_flow (s : State) (i : Nat) (f : TamperInput → TamperInput) :
    (s.mapTamper i f).flow = s.flow := rfl
@[simp] theorem State.mapTamper_sw (s : State) (i : Nat) (f : TamperInput → TamperInput) : (s.mapTamper i f).sw = s.sw := rfl
@[simp] theorem State.mapTamper_eth (s : State) (i : Nat) (f : TamperInput → TamperInput) : (s.mapTamper i f).eth = s.eth := rfl
@[simp] theorem State.mapTamper_dma (s : State) (i : Nat) (f : TamperInput → TamperInput) : (s.mapTamper i f).dma = s.dma := rfl
@[simp] theorem State.mapTamper_capsules (s : State) (i : Nat) (f : TamperInput → TamperInput) :
    (s.mapTamper i f).capsules = s.capsules := rfl
@[simp] theorem State.mapTamper_can (s : State) (i : Nat) (f : TamperInput → TamperInput) : (s.mapTamper i f).can = s.can := rfl
@[simp] theorem State.mapTamper_lin (s : State) (i : Nat) (f : TamperInput → TamperInput) : (s.mapTamper i f).lin = s.lin := rfl
@[simp] theorem State.mapTamper_ports (s : State) (i : Nat) (f : TamperInput → TamperInput) :
    (s.mapTamper i f).ports = s.ports := rfl
@[simp] theorem State.mapTamper_load (s : State) (i : Nat) (f : TamperInput → TamperInput) :
    (s.mapTamper i f).load = s.load := rfl
@[simp] theorem State.mapTamper_supply (s : State) (i : Nat) (f : TamperInput → TamperInput) :
    (s.mapTamper i f).supply = s.supply := rfl
@[simp] theorem State.mapTamper_sense (s : State) (i : Nat) (f : TamperInput → TamperInput) :
    (s.mapTamper i f).sense = s.sense := rfl
@[simp] theorem State.mapTamper_sleep (s : State) (i : Nat) (f : TamperInput → TamperInput) :
    (s.mapTamper i f).sleep = s.sleep := rfl
@[simp] theorem State.mapTamper_cpu (s : State) (i : Nat) (f : TamperInput → TamperInput) : (s.mapTamper i f).cpu = s.cpu := rfl
@[simp] theorem State.mapTamper_cipher (s : State) (i : Nat) (f : TamperInput → TamperInput) :
    (s.mapTamper i f).cipher = s.cipher := rfl
@[simp] theorem State.mapTamper_fair (s : State) (i : Nat) (f : TamperInput → TamperInput) :
    (s.mapTamper i f).fair = s.fair := rfl
@[simp] theorem State.mapTamper_health (s : State) (i : Nat) (f : TamperInput → TamperInput) :
    (s.mapTamper i f).health = s.health := rfl
@[simp] theorem State.mapTamper_boot (s : State) (i : Nat) (f : TamperInput → TamperInput) :
    (s.mapTamper i f).boot = s.boot := rfl
@[simp] theorem State.mapTamper_owners (s : State) (i : Nat) (f : TamperInput → TamperInput) :
    (s.mapTamper i f).owners = s.owners := rfl

@[simp] theorem State.mapRing_pending (s : State) (p : Nat) (n : RingName) (f : Ring → Ring) :
    (s.mapRing p n f).pending = s.pending := rfl
@[simp] theorem State.mapRing_time (s : State) (p : Nat) (n : RingName) (f : Ring → Ring) :
    (s.mapRing p n f).time = s.time := rfl
@[simp] theorem State.mapRing_flow (s : State) (p : Nat) (n : RingName) (f : Ring → Ring) :
    (s.mapRing p n f).flow = s.flow := rfl
@[simp] theorem State.mapRing_sw (s : State) (p : Nat) (n : RingName) (f : Ring → Ring) : (s.mapRing p n f).sw = s.sw := rfl
@[simp] theorem State.mapRing_eth (s : State) (p : Nat) (n : RingName) (f : Ring → Ring) : (s.mapRing p n f).eth = s.eth := rfl
@[simp] theorem State.mapRing_dma (s : State) (p : Nat) (n : RingName) (f : Ring → Ring) : (s.mapRing p n f).dma = s.dma := rfl
@[simp] theorem State.mapRing_capsules (s : State) (p : Nat) (n : RingName) (f : Ring → Ring) :
    (s.mapRing p n f).capsules = s.capsules := rfl
@[simp] theorem State.mapRing_can (s : State) (p : Nat) (n : RingName) (f : Ring → Ring) : (s.mapRing p n f).can = s.can := rfl
@[simp] theorem State.mapRing_lin (s : State) (p : Nat) (n : RingName) (f : Ring → Ring) : (s.mapRing p n f).lin = s.lin := rfl
@[simp] theorem State.mapRing_ports (s : State) (p : Nat) (n : RingName) (f : Ring → Ring) :
    (s.mapRing p n f).ports = s.ports := rfl
@[simp] theorem State.mapRing_load (s : State) (p : Nat) (n : RingName) (f : Ring → Ring) :
    (s.mapRing p n f).load = s.load := rfl
@[simp] theorem State.mapRing_supply (s : State) (p : Nat) (n : RingName) (f : Ring → Ring) :
    (s.mapRing p n f).supply = s.supply := rfl
@[simp] theorem State.mapRing_sense (s : State) (p : Nat) (n : RingName) (f : Ring → Ring) :
    (s.mapRing p n f).sense = s.sense := rfl
@[simp] theorem State.mapRing_sleep (s : State) (p : Nat) (n : RingName) (f : Ring → Ring) :
    (s.mapRing p n f).sleep = s.sleep := rfl
@[simp] theorem State.mapRing_cpu (s : State) (p : Nat) (n : RingName) (f : Ring → Ring) : (s.mapRing p n f).cpu = s.cpu := rfl
@[simp] theorem State.mapRing_keys (s : State) (p : Nat) (n : RingName) (f : Ring → Ring) :
    (s.mapRing p n f).keys = s.keys := rfl
@[simp] theorem State.mapRing_cipher (s : State) (p : Nat) (n : RingName) (f : Ring → Ring) :
    (s.mapRing p n f).cipher = s.cipher := rfl
@[simp] theorem State.mapRing_fair (s : State) (p : Nat) (n : RingName) (f : Ring → Ring) :
    (s.mapRing p n f).fair = s.fair := rfl
@[simp] theorem State.mapRing_health (s : State) (p : Nat) (n : RingName) (f : Ring → Ring) :
    (s.mapRing p n f).health = s.health := rfl
@[simp] theorem State.mapRing_boot (s : State) (p : Nat) (n : RingName) (f : Ring → Ring) :
    (s.mapRing p n f).boot = s.boot := rfl
@[simp] theorem State.mapRing_owners (s : State) (p : Nat) (n : RingName) (f : Ring → Ring) :
    (s.mapRing p n f).owners = s.owners := rfl

@[simp] theorem State.eventSpace_pending (s : State) (p : Nat) : (s.eventSpace p).pending = s.pending := rfl
@[simp] theorem State.eventSpace_time (s : State) (p : Nat) : (s.eventSpace p).time = s.time := rfl
@[simp] theorem State.eventSpace_flow (s : State) (p : Nat) : (s.eventSpace p).flow = s.flow := rfl
@[simp] theorem State.eventSpace_sw (s : State) (p : Nat) : (s.eventSpace p).sw = s.sw := rfl
@[simp] theorem State.eventSpace_eth (s : State) (p : Nat) : (s.eventSpace p).eth = s.eth := rfl
@[simp] theorem State.eventSpace_dma (s : State) (p : Nat) : (s.eventSpace p).dma = s.dma := rfl
@[simp] theorem State.eventSpace_capsules (s : State) (p : Nat) : (s.eventSpace p).capsules = s.capsules := rfl
@[simp] theorem State.eventSpace_can (s : State) (p : Nat) : (s.eventSpace p).can = s.can := rfl
@[simp] theorem State.eventSpace_lin (s : State) (p : Nat) : (s.eventSpace p).lin = s.lin := rfl
@[simp] theorem State.eventSpace_ports (s : State) (p : Nat) : (s.eventSpace p).ports = s.ports := rfl
@[simp] theorem State.eventSpace_load (s : State) (p : Nat) : (s.eventSpace p).load = s.load := rfl
@[simp] theorem State.eventSpace_supply (s : State) (p : Nat) : (s.eventSpace p).supply = s.supply := rfl
@[simp] theorem State.eventSpace_sense (s : State) (p : Nat) : (s.eventSpace p).sense = s.sense := rfl
@[simp] theorem State.eventSpace_sleep (s : State) (p : Nat) : (s.eventSpace p).sleep = s.sleep := rfl
@[simp] theorem State.eventSpace_cpu (s : State) (p : Nat) : (s.eventSpace p).cpu = s.cpu := rfl
@[simp] theorem State.eventSpace_keys (s : State) (p : Nat) : (s.eventSpace p).keys = s.keys := rfl
@[simp] theorem State.eventSpace_cipher (s : State) (p : Nat) : (s.eventSpace p).cipher = s.cipher := rfl
@[simp] theorem State.eventSpace_fair (s : State) (p : Nat) : (s.eventSpace p).fair = s.fair := rfl
@[simp] theorem State.eventSpace_health (s : State) (p : Nat) : (s.eventSpace p).health = s.health := rfl
@[simp] theorem State.eventSpace_boot (s : State) (p : Nat) : (s.eventSpace p).boot = s.boot := rfl
@[simp] theorem State.eventSpace_owners (s : State) (p : Nat) : (s.eventSpace p).owners = s.owners := rfl

@[simp] theorem State.draw_pending (s : State) : s.draw.2.pending = s.pending := rfl
@[simp] theorem State.draw_time (s : State) : s.draw.2.time = s.time := rfl
@[simp] theorem State.draw_flow (s : State) : s.draw.2.flow = s.flow := rfl
@[simp] theorem State.draw_sw (s : State) : s.draw.2.sw = s.sw := rfl
@[simp] theorem State.draw_eth (s : State) : s.draw.2.eth = s.eth := rfl
@[simp] theorem State.draw_dma (s : State) : s.draw.2.dma = s.dma := rfl
@[simp] theorem State.draw_capsules (s : State) : s.draw.2.capsules = s.capsules := rfl
@[simp] theorem State.draw_can (s : State) : s.draw.2.can = s.can := rfl
@[simp] theorem State.draw_lin (s : State) : s.draw.2.lin = s.lin := rfl
@[simp] theorem State.draw_ports (s : State) : s.draw.2.ports = s.ports := rfl
@[simp] theorem State.draw_load (s : State) : s.draw.2.load = s.load := rfl
@[simp] theorem State.draw_supply (s : State) : s.draw.2.supply = s.supply := rfl
@[simp] theorem State.draw_sense (s : State) : s.draw.2.sense = s.sense := rfl
@[simp] theorem State.draw_sleep (s : State) : s.draw.2.sleep = s.sleep := rfl
@[simp] theorem State.draw_cpu (s : State) : s.draw.2.cpu = s.cpu := rfl
@[simp] theorem State.draw_keys (s : State) : s.draw.2.keys = s.keys := rfl
@[simp] theorem State.draw_cipher (s : State) : s.draw.2.cipher = s.cipher := rfl
@[simp] theorem State.draw_fair (s : State) : s.draw.2.fair = s.fair := rfl
@[simp] theorem State.draw_health (s : State) : s.draw.2.health = s.health := rfl
@[simp] theorem State.draw_boot (s : State) : s.draw.2.boot = s.boot := rfl
@[simp] theorem State.draw_owners (s : State) : s.draw.2.owners = s.owners := rfl

@[simp] theorem State.choose_pending (s : State) : s.choose.2.pending = s.pending := rfl
@[simp] theorem State.choose_time (s : State) : s.choose.2.time = s.time := rfl
@[simp] theorem State.choose_flow (s : State) : s.choose.2.flow = s.flow := rfl
@[simp] theorem State.choose_sw (s : State) : s.choose.2.sw = s.sw := rfl
@[simp] theorem State.choose_eth (s : State) : s.choose.2.eth = s.eth := rfl
@[simp] theorem State.choose_dma (s : State) : s.choose.2.dma = s.dma := rfl
@[simp] theorem State.choose_capsules (s : State) : s.choose.2.capsules = s.capsules := rfl
@[simp] theorem State.choose_can (s : State) : s.choose.2.can = s.can := rfl
@[simp] theorem State.choose_lin (s : State) : s.choose.2.lin = s.lin := rfl
@[simp] theorem State.choose_ports (s : State) : s.choose.2.ports = s.ports := rfl
@[simp] theorem State.choose_load (s : State) : s.choose.2.load = s.load := rfl
@[simp] theorem State.choose_supply (s : State) : s.choose.2.supply = s.supply := rfl
@[simp] theorem State.choose_sense (s : State) : s.choose.2.sense = s.sense := rfl
@[simp] theorem State.choose_sleep (s : State) : s.choose.2.sleep = s.sleep := rfl
@[simp] theorem State.choose_cpu (s : State) : s.choose.2.cpu = s.cpu := rfl
@[simp] theorem State.choose_keys (s : State) : s.choose.2.keys = s.keys := rfl
@[simp] theorem State.choose_cipher (s : State) : s.choose.2.cipher = s.cipher := rfl
@[simp] theorem State.choose_fair (s : State) : s.choose.2.fair = s.fair := rfl
@[simp] theorem State.choose_health (s : State) : s.choose.2.health = s.health := rfl
@[simp] theorem State.choose_boot (s : State) : s.choose.2.boot = s.boot := rfl
@[simp] theorem State.choose_owners (s : State) : s.choose.2.owners = s.owners := rfl

@[simp] theorem State.read_pending (s : State) (p iova n : Nat) : (s.read p iova n).1.pending = s.pending := rfl
@[simp] theorem State.read_time (s : State) (p iova n : Nat) : (s.read p iova n).1.time = s.time := rfl
@[simp] theorem State.read_flow (s : State) (p iova n : Nat) : (s.read p iova n).1.flow = s.flow := rfl
@[simp] theorem State.read_sw (s : State) (p iova n : Nat) : (s.read p iova n).1.sw = s.sw := rfl
@[simp] theorem State.read_eth (s : State) (p iova n : Nat) : (s.read p iova n).1.eth = s.eth := rfl
@[simp] theorem State.read_dma (s : State) (p iova n : Nat) : (s.read p iova n).1.dma = s.dma := rfl
@[simp] theorem State.read_capsules (s : State) (p iova n : Nat) : (s.read p iova n).1.capsules = s.capsules := rfl
@[simp] theorem State.read_can (s : State) (p iova n : Nat) : (s.read p iova n).1.can = s.can := rfl
@[simp] theorem State.read_lin (s : State) (p iova n : Nat) : (s.read p iova n).1.lin = s.lin := rfl
@[simp] theorem State.read_ports (s : State) (p iova n : Nat) : (s.read p iova n).1.ports = s.ports := rfl
@[simp] theorem State.read_load (s : State) (p iova n : Nat) : (s.read p iova n).1.load = s.load := rfl
@[simp] theorem State.read_supply (s : State) (p iova n : Nat) : (s.read p iova n).1.supply = s.supply := rfl
@[simp] theorem State.read_sense (s : State) (p iova n : Nat) : (s.read p iova n).1.sense = s.sense := rfl
@[simp] theorem State.read_sleep (s : State) (p iova n : Nat) : (s.read p iova n).1.sleep = s.sleep := rfl
@[simp] theorem State.read_cpu (s : State) (p iova n : Nat) : (s.read p iova n).1.cpu = s.cpu := rfl
@[simp] theorem State.read_keys (s : State) (p iova n : Nat) : (s.read p iova n).1.keys = s.keys := rfl
@[simp] theorem State.read_cipher (s : State) (p iova n : Nat) : (s.read p iova n).1.cipher = s.cipher := rfl
@[simp] theorem State.read_fair (s : State) (p iova n : Nat) : (s.read p iova n).1.fair = s.fair := rfl
@[simp] theorem State.read_health (s : State) (p iova n : Nat) : (s.read p iova n).1.health = s.health := rfl
@[simp] theorem State.read_boot (s : State) (p iova n : Nat) : (s.read p iova n).1.boot = s.boot := rfl
@[simp] theorem State.read_owners (s : State) (p iova n : Nat) : (s.read p iova n).1.owners = s.owners := rfl

@[simp] theorem State.write_pending (s : State) (p iova n w : Nat) : (s.write p iova n w).1.pending = s.pending := rfl
@[simp] theorem State.write_time (s : State) (p iova n w : Nat) : (s.write p iova n w).1.time = s.time := rfl
@[simp] theorem State.write_flow (s : State) (p iova n w : Nat) : (s.write p iova n w).1.flow = s.flow := rfl
@[simp] theorem State.write_sw (s : State) (p iova n w : Nat) : (s.write p iova n w).1.sw = s.sw := rfl
@[simp] theorem State.write_eth (s : State) (p iova n w : Nat) : (s.write p iova n w).1.eth = s.eth := rfl
@[simp] theorem State.write_dma (s : State) (p iova n w : Nat) : (s.write p iova n w).1.dma = s.dma := rfl
@[simp] theorem State.write_capsules (s : State) (p iova n w : Nat) : (s.write p iova n w).1.capsules = s.capsules := rfl
@[simp] theorem State.write_can (s : State) (p iova n w : Nat) : (s.write p iova n w).1.can = s.can := rfl
@[simp] theorem State.write_lin (s : State) (p iova n w : Nat) : (s.write p iova n w).1.lin = s.lin := rfl
@[simp] theorem State.write_ports (s : State) (p iova n w : Nat) : (s.write p iova n w).1.ports = s.ports := rfl
@[simp] theorem State.write_load (s : State) (p iova n w : Nat) : (s.write p iova n w).1.load = s.load := rfl
@[simp] theorem State.write_supply (s : State) (p iova n w : Nat) : (s.write p iova n w).1.supply = s.supply := rfl
@[simp] theorem State.write_sense (s : State) (p iova n w : Nat) : (s.write p iova n w).1.sense = s.sense := rfl
@[simp] theorem State.write_sleep (s : State) (p iova n w : Nat) : (s.write p iova n w).1.sleep = s.sleep := rfl
@[simp] theorem State.write_cpu (s : State) (p iova n w : Nat) : (s.write p iova n w).1.cpu = s.cpu := rfl
@[simp] theorem State.write_keys (s : State) (p iova n w : Nat) : (s.write p iova n w).1.keys = s.keys := rfl
@[simp] theorem State.write_cipher (s : State) (p iova n w : Nat) : (s.write p iova n w).1.cipher = s.cipher := rfl
@[simp] theorem State.write_fair (s : State) (p iova n w : Nat) : (s.write p iova n w).1.fair = s.fair := rfl
@[simp] theorem State.write_health (s : State) (p iova n w : Nat) : (s.write p iova n w).1.health = s.health := rfl
@[simp] theorem State.write_boot (s : State) (p iova n w : Nat) : (s.write p iova n w).1.boot = s.boot := rfl
@[simp] theorem State.write_owners (s : State) (p iova n w : Nat) : (s.write p iova n w).1.owners = s.owners := rfl

@[simp] theorem State.complete_pending (s : State) (r : Request) (opcode : Nat) (st : Status) (results : Nat) :
    (s.complete r opcode st results).pending = s.pending := by
  unfold State.complete; split <;> rfl
@[simp] theorem State.complete_time (s : State) (r : Request) (opcode : Nat) (st : Status) (results : Nat) :
    (s.complete r opcode st results).time = s.time := by
  unfold State.complete; split <;> rfl
@[simp] theorem State.complete_flow (s : State) (r : Request) (opcode : Nat) (st : Status) (results : Nat) :
    (s.complete r opcode st results).flow = s.flow := by
  unfold State.complete; split <;> rfl
@[simp] theorem State.complete_sw (s : State) (r : Request) (opcode : Nat) (st : Status) (results : Nat) :
    (s.complete r opcode st results).sw = s.sw := by
  unfold State.complete; split <;> rfl
@[simp] theorem State.complete_eth (s : State) (r : Request) (opcode : Nat) (st : Status) (results : Nat) :
    (s.complete r opcode st results).eth = s.eth := by
  unfold State.complete; split <;> rfl
@[simp] theorem State.complete_dma (s : State) (r : Request) (opcode : Nat) (st : Status) (results : Nat) :
    (s.complete r opcode st results).dma = s.dma := by
  unfold State.complete; split <;> rfl
@[simp] theorem State.complete_capsules (s : State) (r : Request) (opcode : Nat) (st : Status) (results : Nat) :
    (s.complete r opcode st results).capsules = s.capsules := by
  unfold State.complete; split <;> rfl
@[simp] theorem State.complete_can (s : State) (r : Request) (opcode : Nat) (st : Status) (results : Nat) :
    (s.complete r opcode st results).can = s.can := by
  unfold State.complete; split <;> rfl
@[simp] theorem State.complete_lin (s : State) (r : Request) (opcode : Nat) (st : Status) (results : Nat) :
    (s.complete r opcode st results).lin = s.lin := by
  unfold State.complete; split <;> rfl
@[simp] theorem State.complete_ports (s : State) (r : Request) (opcode : Nat) (st : Status) (results : Nat) :
    (s.complete r opcode st results).ports = s.ports := by
  unfold State.complete; split <;> rfl
@[simp] theorem State.complete_load (s : State) (r : Request) (opcode : Nat) (st : Status) (results : Nat) :
    (s.complete r opcode st results).load = s.load := by
  unfold State.complete; split <;> rfl
@[simp] theorem State.complete_supply (s : State) (r : Request) (opcode : Nat) (st : Status) (results : Nat) :
    (s.complete r opcode st results).supply = s.supply := by
  unfold State.complete; split <;> rfl
@[simp] theorem State.complete_sense (s : State) (r : Request) (opcode : Nat) (st : Status) (results : Nat) :
    (s.complete r opcode st results).sense = s.sense := by
  unfold State.complete; split <;> rfl
@[simp] theorem State.complete_sleep (s : State) (r : Request) (opcode : Nat) (st : Status) (results : Nat) :
    (s.complete r opcode st results).sleep = s.sleep := by
  unfold State.complete; split <;> rfl
@[simp] theorem State.complete_cpu (s : State) (r : Request) (opcode : Nat) (st : Status) (results : Nat) :
    (s.complete r opcode st results).cpu = s.cpu := by
  unfold State.complete; split <;> rfl
@[simp] theorem State.complete_keys (s : State) (r : Request) (opcode : Nat) (st : Status) (results : Nat) :
    (s.complete r opcode st results).keys = s.keys := by
  unfold State.complete; split <;> rfl
@[simp] theorem State.complete_cipher (s : State) (r : Request) (opcode : Nat) (st : Status) (results : Nat) :
    (s.complete r opcode st results).cipher = s.cipher := by
  unfold State.complete; split <;> rfl
@[simp] theorem State.complete_fair (s : State) (r : Request) (opcode : Nat) (st : Status) (results : Nat) :
    (s.complete r opcode st results).fair = s.fair := by
  unfold State.complete; split <;> rfl
@[simp] theorem State.complete_health (s : State) (r : Request) (opcode : Nat) (st : Status) (results : Nat) :
    (s.complete r opcode st results).health = s.health := by
  unfold State.complete; split <;> rfl
@[simp] theorem State.complete_boot (s : State) (r : Request) (opcode : Nat) (st : Status) (results : Nat) :
    (s.complete r opcode st results).boot = s.boot := by
  unfold State.complete; split <;> rfl
@[simp] theorem State.complete_owners (s : State) (r : Request) (opcode : Nat) (st : Status) (results : Nat) :
    (s.complete r opcode st results).owners = s.owners := by
  unfold State.complete; split <;> rfl

end Sys2Proof.Machine
end

