-- ==== Sys2Proof/Laws/Windows.lean ====
section
/-! SUPPORT. Changes of a window depend on what the window holds, and nothing else. -/

namespace Sys2Proof.Machine

theorem Io.mapWindow_congr {io : Io} {p : Nat} {f g : Window → Window} (h : f (io.window p) = g (io.window p)) :
    io.mapWindow p f = io.mapWindow p g := by
  simp only [Io.mapWindow, h]

theorem State.mapWindow_congr {s : State} {p : Nat} {f g : Window → Window} (h : f (s.io.window p) = g (s.io.window p)) :
    s.mapWindow p f = s.mapWindow p g := by
  simp only [State.mapWindow, Io.mapWindow_congr h]

theorem State.mapRing_congr {s : State} {p : Nat} {n : RingName} {f g : Ring → Ring}
    (h : f ((s.io.window p).ring n) = g ((s.io.window p).ring n)) : s.mapRing p n f = s.mapRing p n g := by
  simp only [State.mapRing, Io.mapWindow, h]

/-- A write to CTRL of a ring in service changes VECTOR and ENABLE only (R62). -/
theorem Ring.writeCtrl_enabled {x : Ring} {n : RingName} {v : Nat} (h : x.enable = true) :
    x.writeCtrl n v = { x with vector := (match n with | .cmd _ => 0 | _ => bitsOf v 12 8), enable := bitOf v 31 } := by
  cases n <;> simp [Ring.writeCtrl, h]

end Sys2Proof.Machine
end

