-- ==== Sys2Proof/WellFormed.lean ====
section
/-! DEFINITION. Well-formed commands: operands within the ranges that the spec gives the objects they name. -/

namespace Sys2Proof

/-- A packet that a ring can hold: a guest has command ring 0 only (R58). -/
def Request.wellFormed (r : Request) : Bool := decide (r.partition.val = 0) || decide (r.ring.val = 0)

/-- Whether a command names objects that exist (R36, R37, R55, R58, R95, R107, R151, R295). -/
def Instr.wellFormed : Instr → Bool
  | .deviceIdentify r => r.wellFormed
  | .deviceFeaturesCommit r => r.wellFormed
  | .deviceNop r => r.wellFormed
  | .timeRead r => r.wellFormed
  | .timeSourceSet r => r.wellFormed
  | .ppsConfig r => r.wellFormed
  | .supplyConfig r => r.wellFormed
  | .supplyQuery r => r.wellFormed
  | .loadDipSet r => r.wellFormed
  | .cpuQuery r => r.wellFormed
  | .cpuAppDvfsSet r => r.wellFormed
  | .safetyCoreAssign r => r.wellFormed
  | .safetyCoreControl r => r.wellFormed
  | .safetySpareSet r => r.wellFormed
  | .deviceReset r => r.wellFormed
  | .fwBankWrite r => r.wellFormed
  | .fwBankWritten _ => true
  | .bootConfirm r => r.wellFormed
  | .partitionCreate r => r.wellFormed
  | .partitionQuiesce r => r.wellFormed
  | .partitionQuiet partition => decide (partition < 64)
  | .quiesceDrainLimit partition => decide (partition < 64)
  | .partitionResume r => r.wellFormed
  | .partitionReset r => r.wellFormed
  | .partitionRemove r => r.wellFormed
  | .objectAssign r => r.wellFormed
  | .cacheClassSet r => r.wellFormed
  | .memoryOwnerSet r => r.wellFormed
  | .iommuRootSet r => r.wellFormed
  | .iommuInvalidate r => r.wellFormed
  | .dmaQueueConfig r => r.wellFormed
  | .dmaQueuePost r => r.wellFormed
  | .dmaQueueResume r => r.wellFormed
  | .dmaQueueQuery r => r.wellFormed
  | .dmaSegmentMove queue => decide (queue < 1024)
  | .dirtyLogStart r => r.wellFormed
  | .dirtyLogSwap r => r.wellFormed
  | .dirtyLogStop r => r.wellFormed
  | .partitionCapsuleExport r => r.wellFormed
  | .partitionCapsuleImport r => r.wellFormed
  | .capsuleDone partition => decide (partition < 64)
  | .flowAdmit r => r.wellFormed
  | .flowPredict r => r.wellFormed
  | .flowRelease r => r.wellFormed
  | .flowReleaseDone flow => decide (flow < 4096)
  | .flowQuery r => r.wellFormed
  | .flowStats r => r.wellFormed
  | .mediumContractSet r => r.wellFormed
  | .mediumContractWindow medium _ _ _ => decide (medium < 22)
  | .maintenanceRetry => true
  | .switchPortConfig r => r.wellFormed
  | .switchVlanSet r => r.wellFormed
  | .switchMacSet r => r.wellFormed
  | .switchEndpointSet r => r.wellFormed
  | .switchEndpointAttach r => r.wellFormed
  | .switchQuotaSet r => r.wellFormed
  | .switchAccountQuery r => r.wellFormed
  | .switchGateSet r => r.wellFormed
  | .gateListActive port => decide (port < 15)
  | .gateChange port => decide (port < 15)
  | .switchShaperSet r => r.wellFormed
  | .switchPreemptSet r => r.wellFormed
  | .preemptVerifyDone port _ => decide (port < 12)
  | .switchStreamSet r => r.wellFormed
  | .switchFrerSet r => r.wellFormed
  | .frerLatentError function => decide (function < 1024)
  | .switchMacsecSaSet r => r.wellFormed
  | .switchSampleSet r => r.wellFormed
  | .switchGptpSet r => r.wellFormed
  | .frameReceive port _ => decide (port < 12)
  | .macEntryAge vid _ => decide (vid < 4096)
  | .switchCellMatch => true
  | .frameTransmit port => decide (port < 16)
  | .switchAudit _ => true
  | .switchMarkSweep _ _ => true
  | .switchAuditStatusRead partition => decide (partition < 64)
  | .gptpMessage port _ _ => decide (port < 12)
  | .ethPortConfig r => r.wellFormed
  | .ethLinkQuery r => r.wellFormed
  | .ethPlcaSet r => r.wellFormed
  | .ethTc10Sleep r => r.wellFormed
  | .ethTc10Wake r => r.wellFormed
  | .ethCableTest r => r.wellFormed
  | .ethCableResult port _ _ => decide (port < 12)
  | .ethPortStats r => r.wellFormed
  | .ethPhyMmdRead r => r.wellFormed
  | .linkTrainingDone port => decide (port < 12)
  | .linkFailure port => decide (port < 12)
  | .tc10SleepAck port => decide (port < 12)
  | .tc10SleepAckTimeout port => decide (port < 12)
  | .tc10SleepRequest port => decide (port < 12)
  | .tc10WakePulse port => decide (port < 12)
  | .plcaBeaconLoss port => decide (port < 12)
  | .plcaBeaconReturn port => decide (port < 12)
  | .canChannelConfig r => r.wellFormed
  | .canObjectConfig r => r.wellFormed
  | .canObjectAttach r => r.wellFormed
  | .canChannelQuery r => r.wellFormed
  | .canChannelRecover r => r.wellFormed
  | .canObjectQuery r => r.wellFormed
  | .canGangSet r => r.wellFormed
  | .canIntegrationDone channel => decide (channel < 12)
  | .canBusOffRecovery channel => decide (channel < 12)
  | .canFrameReceive channel _ => decide (channel < 12)
  | .canFrameTransmitEnd channel _ _ => decide (channel < 12)
  | .canTtRelease object => decide (object < 1536)
  | .canGangInstant channel => decide (channel < 12)
  | .canTxdDominantTimeout channel => decide (channel < 12)
  | .objStatusRead partition object => decide (partition < 64) && decide (object < 1536)
  | .objCtrlSendReq partition object => decide (partition < 64) && decide (object < 1536)
  | .objCtrlAbort partition object _ => decide (partition < 64) && decide (object < 1536)
  | .objCtrlRelease partition object => decide (partition < 64) && decide (object < 1536)
  | .linChannelConfig r => r.wellFormed
  | .linScheduleSet r => r.wellFormed
  | .linFrameWrite r => r.wellFormed
  | .linFrameRead r => r.wellFormed
  | .linBusControl r => r.wellFormed
  | .linSlotStart channel => decide (channel < 8)
  | .linHeaderReceive channel id => decide (channel < 8) && decide (id < 64)
  | .linResponseReceive channel data _ _ => decide (channel < 8) && decide (data.length ≤ 8)
  | .linNoResponse channel => decide (channel < 8)
  | .linWakeSeen channel => decide (channel < 8)
  | .linScheduleRestart channel => decide (channel < 8)
  | .localPortConfig r => r.wellFormed
  | .localTransfer r => r.wellFormed
  | .localTransferDone instance_ _ _ => decide (instance_ < 2)
  | .localGpioSet r => r.wellFormed
  | .localGpioGet r => r.wellFormed
  | .gpioEdge gpio _ => decide (gpio < 6)
  | .uartByteReceive port _ _ => decide (port < 10)
  | .uartIdleTimeout port => decide (port < 10)
  | .loadChannelConfig r => r.wellFormed
  | .loadWireSet r => r.wellFormed
  | .loadSet r => r.wellFormed
  | .loadSetDirectWrite partition channel _ => decide (partition < 64) && decide (channel < 48)
  | .loadSetClear r => r.wellFormed
  | .loadQuery r => r.wellFormed
  | .loadGangSet r => r.wellFormed
  | .loadMeasureSet r => r.wellFormed
  | .loadDiagRun r => r.wellFormed
  | .loadDiagDone channel _ _ => decide (channel < 48)
  | .loadSafeTableSet r => r.wellFormed
  | .safeTableWritten => true
  | .loadHoldSet r => r.wellFormed
  | .loadReclaim r => r.wellFormed
  | .loadHoldEnd => true
  | .loadOvercurrentTrip channel _ => decide (channel < 48)
  | .loadThermalTrip channel => decide (channel < 48)
  | .loadDeltaTTrip channel => decide (channel < 48)
  | .wireModelUpdate => true
  | .loadRestart channel => decide (channel < 48)
  | .pwmPeriodStart channel => decide (channel < 48)
  | .currentSample channel _ _ => decide (channel < 48)
  | .openLoadDetect channel _ => decide (channel < 48)
  | .rippleReplan => true
  | .supplyDipStart feed _ => decide (feed < 2)
  | .supplyDipEnd feed _ => decide (feed < 2)
  | .shedRestoreDelay channel => decide (channel < 48)
  | .supplyFeedLost feed _ => decide (feed < 2)
  | .vlogicLow _ => true
  | .powerDieLogicLoss => true
  | .supplyOvervoltage feed _ => decide (feed < 2)
  | .highVoltageShutdown feed _ => decide (feed < 2)
  | .highVoltageRelease => true
  | .groundLoss _ _ => true
  | .groundRestored _ => true
  | .supplyRegulator _ _ _ => true
  | .senseInputConfig r => r.wellFormed
  | .senseStateRead r => r.wellFormed
  | .senseSampleSet r => r.wellFormed
  | .senseGangSet r => r.wellFormed
  | .senseCalRun r => r.wellFormed
  | .senseCalDone => true
  | .sensorSupplySet r => r.wellFormed
  | .senseQuery r => r.wellFormed
  | .senseComparatorRead input _ => decide (input < 32)
  | .senseSample input _ _ => decide (input < 32)
  | .converterRotation => true
  | .converterCalibrationDone converter _ => decide (converter < 5)
  | .sensorSupplyLimit output => decide (output < 4)
  | .sensorSupplyOvervoltage output => decide (output < 4)
  | .sensorSupplyUndervoltage output => decide (output < 4)
  | .sleepEnter r => r.wellFormed
  | .sleepEntryPhase => true
  | .sleepCancel r => r.wellFormed
  | .wakeSourceSet r => r.wellFormed
  | .wakeSelectiveSet r => r.wellFormed
  | .wakeQuery r => r.wellFormed
  | .wakeValidate r => r.wellFormed
  | .rtcAlarmSet r => r.wellFormed
  | .rtcAlarm => true
  | .wakeLatch _ _ => true
  | .idleExit _ _ => true
  | .wakeWindowExpiry _ => true
  | .wakeMuteExpiry _ => true
  | .timeSourceMeasurement _ _ => true
  | .timeSourceLoss => true
  | .holdoverLimit => true
  | .ppsInEdge => true
  | .ppsOutPulse => true
  | .d7TimeStamp => true
  | .d7CopyInvalid => true
  | .d6CopyInvalid => true
  | .timeReferenceRefresh => true
  | .clockMonitorExcursion unit _ => decide (unit / 256 ≤ 0x27)
  | .backstayFrameFail => true
  | .mastheadHeartbeat _ => true
  | .mastheadHeartbeatTimeout _ => true
  | .mastheadRestartAttempt => true
  | .mastheadRestartTimeout => true
  | .controllerReturned => true
  | .trialHoveToReset => true
  | .twinPassMismatch unit _ => decide (unit / 256 ≤ 0x27)
  | .cpuCclassWrite core _ => decide (core < 4)
  | .unitEvent unit _ _ _ _ => decide (unit / 256 ≤ 0x27)
  | .furlRevocation => true
  | .healthClassSet r => r.wellFormed
  | .healthUnitQuery r => r.wellFormed
  | .unitFurl r => r.wellFormed
  | .unitUnfurl r => r.wellFormed
  | .unfurlDone unit _ => decide (unit / 256 ≤ 0x27)
  | .reefPlanRun r => r.wellFormed
  | .reefQuery r => r.wellFormed
  | .reefPlan => true
  | .reefCeilingApply => true
  | .ageingMonitorSample domain _ _ _ => decide (domain ≤ 9)
  | .selftestRun r => r.wellFormed
  | .selftestScheduleSet r => r.wellFormed
  | .selftestQuery r => r.wellFormed
  | .selftestSlice unit _ => decide (unit / 256 ≤ 0x27)
  | .lifecycleRead r => r.wellFormed
  | .lifecycleChallenge r => r.wellFormed
  | .challengeExpiry => true
  | .lifecycleAdvance r => r.wellFormed
  | .debugOpen r => r.wellFormed
  | .otpWrite r => r.wellFormed
  | .lifecycleDone _ => true
  | .tamperConfig r => r.wellFormed
  | .tamperLogRead r => r.wellFormed
  | .tamperRelease r => r.wellFormed
  | .tamperDetected input _ => decide (input < 5)
  | .tamperEraseDone => true
  | .keySlotOwnerSet r => r.wellFormed
  | .keyGenerate r => r.wellFormed
  | .keyDerive r => r.wellFormed
  | .keyUnwrap r => r.wellFormed
  | .keyImport r => r.wellFormed
  | .keyWrap r => r.wellFormed
  | .keyDestroy r => r.wellFormed
  | .keyQuery r => r.wellFormed
  | .keyCommitted slot _ => decide (slot < 512)
  | .keyAreaEraseDone slot _ => decide (slot < 512)
  | .trngHealthFail => true
  | .drbgReseed => true
  | .counterHighMarkWrite slot => decide (slot < 512)
  | .lockerUnseal => true
  | .cipherRun r => r.wellFormed
  | .cipherOpEnd _ => true
  | .cipherCounterRead r => r.wellFormed
  | .cipherQuery r => r.wellFormed
  | .cipherHoldSet r => r.wellFormed
  | .cvuConfig r => r.wellFormed
  | .cvuRun r => r.wellFormed
  | .cvuStreamAttach r => r.wellFormed
  | .cvuQuery r => r.wellFormed
  | .fairleadConfig r => r.wellFormed
  | .fairleadWindowSet r => r.wellFormed
  | .fairleadMove r => r.wellFormed
  | .fairleadMoveEnd _ _ _ => true
  | .fairleadFenceClear r => r.wellFormed
  | .fairleadCfg r => r.wellFormed
  | .fairleadQuery r => r.wellFormed
  | .fairleadLinkState _ _ _ _ => true
  | .fairleadInboundRequest _ _ _ _ _ _ => true
  | .fairleadPostedError _ _ _ => true
  | .fairleadBackoff _ => true
  | .fairleadCompletionTimeout _ => true
  | .prefetchBufferExpiry window => decide (window < 32)
  | .cmdRingTailWrite partition ring _ => decide (partition < 64) && decide (ring < 4)
  | .cmdRingEnable partition ring _ => decide (partition < 64) && decide (ring < 4)
  | .cmdRingDisable partition ring _ => decide (partition < 64) && decide (ring < 4)
  | .cplRingEnable partition _ => decide (partition < 64)
  | .evtRingEnable partition _ => decide (partition < 64)
  | .ringConfigWrite partition offset _ => decide (partition < 64) && decide (offset < 0xc0)
  | .cplRingTailWrite partition _ => decide (partition < 64)
  | .evtRingTailWrite partition _ => decide (partition < 64)
  | .ringAccessFaultClear partition offset => decide (partition < 64) && decide (offset < 0xc0)
  | .evtRingDroppedRead partition => decide (partition < 64)
  | .commandExecuteF => true
  | .intStatusClear partition _ => decide (partition < 64)
  | .intMaskWrite partition _ => decide (partition < 64)
  | .coalesceTimer partition => decide (partition < 64)
  | .registerWrite partition address _ => decide (partition < 64) && decide (address % 4 = 0) && decide (address < 0x100000)
  | .powerUp _ _ _ => true
  | .resetNPulse _ => true
  | .startupBootRom => true
  | .startupSelftest _ => true
  | .commandListExecute => true
  | .recoveryImageReceive _ _ => true
  | .recoveryBeacon => true
  | .isolationCondition _ => true
  | .vlogicResetRelease => true
  | .overVoltageLogged feed _ => decide (feed < 2)
  | .d6TimeStamp => true
  | .sensorSupplyRestart output => decide (output < 4)
  | .sensorSupplyOvervoltageRelease output => decide (output < 4)
  | .selectiveWakeDecoderFrame channel _ frame => decide (channel < 12) && decide (frame.payload.length ≤ 2048)
  | .delayedItemConforms kind _ => decide (kind < 4)

end Sys2Proof
end

