-- ==== Sys2Proof/Tests/Slice0.lean ====
section
/-! SUPPORT. Tests: commands that are not well-formed, worked examples of the spec, vectors of the standards, and for each
obligation with hypotheses states and operands that meet them. The expected values are the spec's. -/

namespace Sys2Proof.Tests

set_option maxRecDepth 4000
set_option exponentiation.threshold 4096
set_option linter.unusedVariables false
set_option Elab.async false

open Sys2Proof.Machine Sys2Proof.Safety

/-- A packet of a command with some parameter fields: offset, bytes, value. -/
def packetFor (c : Command) (p : Fin 64) (fields : List (Nat × Nat × Nat)) : Request :=
  { partition := p, ring := 0, flags := 0, paramLen := BitVec.ofNat 8 c.paramLen, tag := 1, deadline := 0,
    params := BitVec.ofNat 384 (pack fields) }

/-- Every feature accepted. -/
def allFeatures : Table Nat := [(0, 2 ^ 64 - 1), (1, 2 ^ 64 - 1), (2, 2 ^ 64 - 1), (3, 2 ^ 64 - 1)]

/-- The device in Run with every feature in force, the Locker unsealed and guest 1 active. -/
def running : State :=
  { State.reset with
    io := { State.reset.io with
      windows := [(0, { accept := allFeatures, committed := true }), (1, { accept := allFeatures, committed := true })],
      parts := [(0, { state := .active }), (1, { state := .active })] }
    boot := { State.reset.boot with phase := .run }
    keys := { State.reset.keys with sealed := false, unsealedOnce := true } }

/-- As `running`, with no feature accepted. -/
def featureless : State := { running with io := { running.io with windows := [(0, { committed := true })] } }

/-- As `running`, at an instant in ns. -/
def runningAt (ns : Nat) : State := { running with io := { running.io with time := ns * 2 ^ 32 } }

/-- The first byte of LPDDR5X. -/
def dram : Nat := 0x200000000

/-- The cells that hold the `n` bytes of a number from an address on. -/
def cells : Nat → Nat → Nat → Table Byte
  | _, 0, _ => []
  | a, n + 1, w => if w % 256 = 0 then cells (a + 1) n (w / 256) else (a, BitVec.ofNat 8 w) :: cells (a + 1) n (w / 256)

/-- A read whose value is `w`. -/
theorem read_gives {x : State × Except XFault Nat} {w : Nat}
    (h : (match x.2 with | .ok v => decide (v = w) | .error _ => false) = true) : x = (x.1, .ok w) := by
  obtain ⟨s, r⟩ := x
  cases r with
  | ok v => simp_all
  | error f => simp_all

/-- An Ethernet frame with a type, 46 bytes long after it. -/
def someFrame (ethType : BitVec 16) (fcsOk : Bool) : EthFrame :=
  { dst := 0x010000000002#48, src := 0x010000000004#48, tag := none, sec := none, rtag := none, ethType := ethType,
    payload := List.replicate 46 0, fcsOk := fcsOk }

/-- A frame of one cell that waits at port 1. -/
def waitingFrame : QFrame :=
  { serial := 0, group := 0, shared := false, frame := someFrame 0x0800#16 true, length := 64, cells := 1, banks := 1, ingress := 0,
    ingressAt := 0, stamp := 0, egress := 1, endpoint := none, srcEp := none, cls := 0, vid := 1, pcp := 0, admitted := false,
    flows := [], account := 64, secured := false, recovered := false, cutThrough := false, moved := 0, started := false, direction := 0 }

/-- A CAN frame with `n` bytes of payload. -/
def aCanFrame (n : Nat) : CanFrame :=
  { format := 2, ide := false, id := 0, brs := true, esi := false, rtr := false, reqLen := 0, sec := false, sdt := 0, vcid := 0,
    af := 0, payload := List.replicate n 0 }

/-- A guest has command ring 0 only (R58); the manager has four. -/
theorem test_request_well_formed :
    (({ packetFor cmdDeviceNop 1 [] with ring := 1 } : Request).wellFormed, (packetFor cmdDeviceNop 1 []).wellFormed,
      ({ packetFor cmdDeviceNop 0 [] with ring := 3 } : Request).wellFormed,
      (Instr.deviceNop { packetFor cmdDeviceNop 63 [] with ring := 3 }).wellFormed) = (false, true, true, false) := by decide

/-- Commands that name an object, an address or a length beyond its range are not well-formed. -/
theorem test_ill_formed_1 :
    (([.partitionQuiet 64, .quiesceDrainLimit 64, .dmaSegmentMove 1024, .capsuleDone 64, .flowReleaseDone 4096,
    .mediumContractWindow 22 0 0 0, .gateListActive 15, .gateChange 15, .preemptVerifyDone 12 false, .frerLatentError 1024,
    .frameReceive 12 (someFrame 0x0800#16 true), .macEntryAge 4096 0, .frameTransmit 16, .switchAuditStatusRead 64, .gptpMessage 12 false (someFrame 0x0800#16 true),
    .ethCableResult 12 0 0, .linkTrainingDone 12, .linkFailure 12, .tc10SleepAck 12, .tc10SleepAckTimeout 12,
    .tc10SleepRequest 12, .tc10WakePulse 12, .plcaBeaconLoss 12, .plcaBeaconReturn 12, .canIntegrationDone 12] : List Instr).all fun c => c.wellFormed == false) = true := by
  decide +kernel

/-- Commands that name an object, an address or a length beyond its range are not well-formed. -/
theorem test_ill_formed_2 :
    (([.canBusOffRecovery 12, .canFrameReceive 12 (.error 0), .canFrameTransmitEnd 12 0 .sent, .canTtRelease 1536,
    .canGangInstant 12, .canTxdDominantTimeout 12, .objStatusRead 64 0, .objStatusRead 0 1536, .objCtrlSendReq 64 0,
    .objCtrlSendReq 0 1536, .objCtrlAbort 64 0 false, .objCtrlAbort 0 1536 false, .objCtrlRelease 64 0,
    .objCtrlRelease 0 1536, .linSlotStart 8, .linHeaderReceive 8 0, .linHeaderReceive 0 64, .linResponseReceive 8 [] 0 0,
    .linResponseReceive 0 (List.replicate 9 0) 0 0, .linNoResponse 8, .linWakeSeen 8, .linScheduleRestart 8,
    .localTransferDone 2 0 [], .gpioEdge 6 false, .uartByteReceive 10 0 false] : List Instr).all fun c => c.wellFormed == false) = true := by
  decide +kernel

/-- Commands that name an object, an address or a length beyond its range are not well-formed. -/
theorem test_ill_formed_3 :
    (([.uartIdleTimeout 10, .loadSetDirectWrite 64 0 0, .loadSetDirectWrite 0 48 0, .loadDiagDone 48 0 0,
    .loadOvercurrentTrip 48 0, .loadThermalTrip 48, .loadDeltaTTrip 48, .loadRestart 48, .pwmPeriodStart 48,
    .currentSample 48 0 false, .openLoadDetect 48 0, .supplyDipStart 2 0, .supplyDipEnd 2 0, .shedRestoreDelay 48,
    .supplyFeedLost 2 0, .supplyOvervoltage 2 0, .highVoltageShutdown 2 0, .senseComparatorRead 32 false,
    .senseSample 32 0 0, .converterCalibrationDone 5 false, .sensorSupplyLimit 4, .sensorSupplyOvervoltage 4,
    .sensorSupplyUndervoltage 4, .clockMonitorExcursion 0x2800 0, .twinPassMismatch 0x2800 false] : List Instr).all fun c => c.wellFormed == false) = true := by
  decide +kernel

/-- Commands that name an object, an address or a length beyond its range are not well-formed. -/
theorem test_ill_formed_4 :
    (([.cpuCclassWrite 4 0, .unitEvent 0x2800 0 0 false false, .unfurlDone 0x2800 false, .ageingMonitorSample 10 0 0 0,
    .selftestSlice 0x2800 false, .tamperDetected 5 0, .keyCommitted 512 false, .keyAreaEraseDone 512 false,
    .counterHighMarkWrite 512, .prefetchBufferExpiry 32, .cmdRingTailWrite 64 0 0, .cmdRingTailWrite 0 4 0,
    .cmdRingEnable 64 0 0, .cmdRingEnable 0 4 0, .cmdRingDisable 64 0 0, .cmdRingDisable 0 4 0, .cplRingEnable 64 0,
    .evtRingEnable 64 0, .ringConfigWrite 64 0 0, .ringConfigWrite 0 0xc0 0, .cplRingTailWrite 64 0, .evtRingTailWrite 64 0,
    .ringAccessFaultClear 64 0, .ringAccessFaultClear 0 0xc0, .evtRingDroppedRead 64] : List Instr).all fun c => c.wellFormed == false) = true := by
  decide +kernel

/-- Commands that name an object, an address or a length beyond its range are not well-formed. -/
theorem test_ill_formed_5 :
    (([.intStatusClear 64 0, .intMaskWrite 64 0, .coalesceTimer 64, .registerWrite 64 0 0, .registerWrite 0 2 0,
    .registerWrite 0 0x100000 0, .overVoltageLogged 2 0, .sensorSupplyRestart 4, .sensorSupplyOvervoltageRelease 4,
    .selectiveWakeDecoderFrame 12 false (aCanFrame 0), .selectiveWakeDecoderFrame 0 false (aCanFrame 2049),
    .delayedItemConforms 4 0] : List Instr).all fun c => c.wellFormed == false) = true := by
  decide +kernel

/-- The same commands at the last value of the range. -/
theorem test_well_formed_1 :
    (([.partitionQuiet 63, .quiesceDrainLimit 63, .dmaSegmentMove 1023, .capsuleDone 63, .flowReleaseDone 4095,
    .mediumContractWindow 21 0 0 0, .gateListActive 14, .gateChange 14, .preemptVerifyDone 11 false, .frerLatentError 1023,
    .frameReceive 11 (someFrame 0x0800#16 true), .macEntryAge 4095 0, .frameTransmit 15, .switchAuditStatusRead 63, .gptpMessage 11 false (someFrame 0x0800#16 true),
    .ethCableResult 11 0 0, .linkTrainingDone 11, .linkFailure 11, .tc10SleepAck 11, .tc10SleepAckTimeout 11,
    .tc10SleepRequest 11, .tc10WakePulse 11, .plcaBeaconLoss 11, .plcaBeaconReturn 11, .canIntegrationDone 11] : List Instr).all fun c => c.wellFormed == true) = true := by
  decide +kernel

/-- The same commands at the last value of the range. -/
theorem test_well_formed_2 :
    (([.canBusOffRecovery 11, .canFrameReceive 11 (.error 0), .canFrameTransmitEnd 11 0 .sent, .canTtRelease 1535,
    .canGangInstant 11, .canTxdDominantTimeout 11, .objStatusRead 63 0, .objStatusRead 0 1535, .objCtrlSendReq 63 0,
    .objCtrlSendReq 0 1535, .objCtrlAbort 63 0 false, .objCtrlAbort 0 1535 false, .objCtrlRelease 63 0,
    .objCtrlRelease 0 1535, .linSlotStart 7, .linHeaderReceive 7 0, .linHeaderReceive 0 63, .linResponseReceive 7 [] 0 0,
    .linResponseReceive 0 (List.replicate 8 0) 0 0, .linNoResponse 7, .linWakeSeen 7, .linScheduleRestart 7,
    .localTransferDone 1 0 [], .gpioEdge 5 false, .uartByteReceive 9 0 false] : List Instr).all fun c => c.wellFormed == true) = true := by
  decide +kernel

/-- The same commands at the last value of the range. -/
theorem test_well_formed_3 :
    (([.uartIdleTimeout 9, .loadSetDirectWrite 63 0 0, .loadSetDirectWrite 0 47 0, .loadDiagDone 47 0 0,
    .loadOvercurrentTrip 47 0, .loadThermalTrip 47, .loadDeltaTTrip 47, .loadRestart 47, .pwmPeriodStart 47,
    .currentSample 47 0 false, .openLoadDetect 47 0, .supplyDipStart 1 0, .supplyDipEnd 1 0, .shedRestoreDelay 47,
    .supplyFeedLost 1 0, .supplyOvervoltage 1 0, .highVoltageShutdown 1 0, .senseComparatorRead 31 false,
    .senseSample 31 0 0, .converterCalibrationDone 4 false, .sensorSupplyLimit 3, .sensorSupplyOvervoltage 3,
    .sensorSupplyUndervoltage 3, .clockMonitorExcursion 0x27ff 0, .twinPassMismatch 0x27ff false] : List Instr).all fun c => c.wellFormed == true) = true := by
  decide +kernel

/-- The same commands at the last value of the range. -/
theorem test_well_formed_4 :
    (([.cpuCclassWrite 3 0, .unitEvent 0x27ff 0 0 false false, .unfurlDone 0x27ff false, .ageingMonitorSample 9 0 0 0,
    .selftestSlice 0x27ff false, .tamperDetected 4 0, .keyCommitted 511 false, .keyAreaEraseDone 511 false,
    .counterHighMarkWrite 511, .prefetchBufferExpiry 31, .cmdRingTailWrite 63 0 0, .cmdRingTailWrite 0 3 0,
    .cmdRingEnable 63 0 0, .cmdRingEnable 0 3 0, .cmdRingDisable 63 0 0, .cmdRingDisable 0 3 0, .cplRingEnable 63 0,
    .evtRingEnable 63 0, .ringConfigWrite 63 0 0, .ringConfigWrite 0 188 0, .cplRingTailWrite 63 0, .evtRingTailWrite 63 0,
    .ringAccessFaultClear 63 0, .ringAccessFaultClear 0 188, .evtRingDroppedRead 63] : List Instr).all fun c => c.wellFormed == true) = true := by
  decide +kernel

/-- The same commands at the last value of the range. -/
theorem test_well_formed_5 :
    (([.intStatusClear 63 0, .intMaskWrite 63 0, .coalesceTimer 63, .registerWrite 63 0 0, .registerWrite 0 4 0,
    .registerWrite 0 1048572 0, .overVoltageLogged 1 0, .sensorSupplyRestart 3, .sensorSupplyOvervoltageRelease 3,
    .selectiveWakeDecoderFrame 11 false (aCanFrame 0), .selectiveWakeDecoderFrame 0 false (aCanFrame 2048),
    .delayedItemConforms 3 0] : List Instr).all fun c => c.wellFormed == true) = true := by
  decide +kernel

/-- R206–R209, worked example: the gang of C2, C3 and C7 starts with k = 1 and releases 2.5 ms apart. -/
def canGangExample : GangBlock :=
  { period := 10000000, anchor := 7200000000000, members := [⟨2, 0, 0⟩, ⟨3, 64, 0⟩, ⟨7, 128, 0⟩] }

/-- The first index of the worked gang, and its three first instants (R207, R208). -/
theorem test_gang_instants :
    let g := (Gang.start canGangExample 7 7200004317500 .can).block
    g.members.map (·.nextK) = [1, 1, 1] ∧
    g.members.map (fun m => g.instant .can m.units m.nextK) = [7200010000000, 7200012500000, 7200015000000] := by
  decide +kernel

/-- R229, worked example: flow 212 reserves 20 cells. -/
theorem test_reserved_cells :
    cellsFor { type := 0x01, maxSize := 1000, minInterval := 100000, burst := 3 } 100000 = 20 := by decide +kernel

/-- 500 kbit/s as R288's example sets it. -/
def halfMegabit : CanChannel := { nominal := { brp := 1, tseg1 := 127, tseg2 := 32, sjw := 1 } }

/-- R288 and R165, examples: a bit time of 2 000 ns, and 270 µs of a classical frame of 8 bytes. -/
theorem test_can_frame_time :
    halfMegabit.nominal.half = 2 * 2000 ∧ halfMegabit.tau false 8 = 2 * 270000 := by decide +kernel

/-- R315, worked example: with RETRY_BUDGET 2 the frame is charged 934 000 ns. -/
theorem test_can_retry_charge :
    ({ running with can := { running.can with channels := [(0, halfMegabit)] } } : State).cost
      { type := 0x02, maxSize := 8, retryBudget := 2, path := [⟨rObject, 0, 0⟩, ⟨rBus, 0, 0⟩] } ⟨rBus, 0, 0⟩ = 934000 := by
  decide +kernel

/-- R323, worked example: T_MAX of 8, 2 and 4 bytes in bit times. -/
theorem test_lin_slot_time : (linTMax 8, linTMax 2, linTMax 4) = (174, 90, 118) := by decide +kernel

/-- The table of L3 in the worked example of R323. -/
def linExample : State :=
  { running with
    lin := [(3, {
      enable := true, commander := true, bitRate := 19200,
      table := [⟨0x10, 1, 8, true, false, 10⟩, ⟨0x11, 2, 2, true, false, 5⟩, ⟨0x12, 1, 4, true, false, 7⟩,
                ⟨0x13, 2, 8, true, false, 10⟩] })] }

/-- The flow of the worked example on entry 2. -/
def linFlow : Flow :=
  { decl := { type := 0x04, maxSize := 4, minInterval := 32000000, bound := 71000000, path := [⟨rLin, 2, 3⟩] } }

/-- R325, worked example: floor and bound are 71 000 000 ns, and the flow is admitted. -/
theorem test_lin_bound :
    let v := linExample.verdict 5 linFlow
    v.floor = 71000000 ∧ v.bound = 71000000 ∧ v.status = none := by decide +kernel

/-- R360, example: mutes of 900 s, then 1 800 s, then 3 600 s. -/
theorem test_mute_doubles :
    let m : WakeSource := { backoffS := 900 }
    (m.mute 0).muteS = 900 ∧ ((m.mute 0).mute 0).muteS = 1800 ∧ (((m.mute 0).mute 0).mute 0).muteS = 3600 := by
  decide +kernel

/-- R376: the multiple of 12.5 ns nearest to the period, a tie upwards. -/
theorem test_pwm_period : (periodSteps 40006, periodSteps 40007) = (3200, 3201) := by decide +kernel

/-- R384, worked example: θ_trip is 31.5 K and θ_restart 15.75 K. -/
theorem test_wire_limits :
    let w : WireParams := { section_ := 0, insulation := 1, tripPct := 90, tau := 150, ambient := 70 }
    2 * w.trip = 63 * kelvin ∧ 4 * w.restart = 63 * kelvin := by decide +kernel

/-- R548, worked example: 6 000 bytes to window offset 0x0F80 are 24 TLPs, the first of 128 bytes and the last of 240. -/
theorem test_tlps :
    let l := tlps 256 6000 (0x4000000000 + 0x0F80) 6000
    l.length = 24 ∧ l.map (·.2) = 128 :: List.replicate 22 256 ++ [240] ∧ l.any (·.1 == 0x4000001800) = true := by
  decide +kernel

/-- R590, worked example: a trial start takes one try; with none left the old bank is preferred again. -/
theorem test_trial_start :
    BootRecord.atStart ⟨true, true, 3⟩ = ⟨true, true, 2⟩ ∧ BootRecord.atStart ⟨true, true, 0⟩ = ⟨false, false, 0⟩ := by
  decide +kernel

/-- The declaration of P12's flow in the worked example of R515. -/
def strandFlow : Flow :=
  { decl := { type := 0x09, priority := 8, maxSize := 1040, minInterval := 100000, bound := 25000,
              path := [⟨rStrand, 0, 0xFFFF⟩, ⟨rSlice, 0, 3⟩] } }

/-- R515, worked example: the bound is 18 383 ns on ST0. -/
theorem test_strand_bound :
    let v := running.verdict 7 strandFlow
    v.bound = 18383 ∧ v.strand = 0 ∧ v.status = none := by decide +kernel

/-- R566, worked example: at a ceiling of 90 % of D8 the bound is 20 363 ns. -/
theorem test_strand_bound_derated :
    (({ running with health := { running.health with domains := [(8, { level := 5, ceiling := 90 })] } } : State).verdict 7
      strandFlow).bound = 20363 := by decide +kernel

/-- The engine of the worked example of R39: events of DE6 7 s and 2 s before the present one. -/
def engineHistory : State :=
  { runningAt 20000000000 with health := { running.health with units := [(0x0B06, { history := [18000000000, 13000000000] })] } }

/-- R39 and R40, worked example: a third event within 10 s is lasting, and DE6 is furled; without the first it is not. -/
theorem test_third_event_furls :
    (match execUnitEvent 0x0B06 0x01 0 false false engineHistory with
      | .next t => t.furled 0x0B06
      | _ => false) = true ∧
    (match execUnitEvent 0x0B06 0x01 0 false false (runningAt 20000000000) with
      | .next t => t.furled 0x0B06
      | _ => true) = false := by decide +kernel

/-- K40 of the worked example of R491: version 6 is in area B, and a write of version 7 is under way. -/
def keyExample : State :=
  { running with keys := { running.keys with
      slots := [(40, {
        state := .committing, attr := 0x7E0F, owners := 2 ^ 12, key := 5, version := 6, area := some true,
        imageB := some { version := 6, attr := 0x7E0F, owners := 2 ^ 12, key := 5, nonce := 0, commit := 0xFFFFFFF9, intact := true },
        writing := some ⟨0x0911, 12, some 9, 0x7E0F, 2 ^ 12, 7, some 0, .ready⟩ })] } }

/-- R491, worked example: version 7 commits in area A with COMMIT 0xFFFF_FFF8, and area B is then erased. -/
theorem test_key_committed :
    (match execKeyCommitted 40 true keyExample with
      | .next t =>
        let k := t.slotOf 40
        decide (k.version = 7 ∧ k.key = 9 ∧ k.area = some false ∧ k.erasingB = true) &&
        (match k.imageA with | some i => decide (i.version = 7 ∧ i.commit = 0xFFFFFFF8) | none => false)
      | _ => false) = true := by decide +kernel

/-- The rings of the worked example of R86, here the manager's: DEVICE_NOP (tags 0x1111 and 0x2222) in entries 7 and 8, the
completion ring at slot 15 with phase 0. -/
def ringExample : State :=
  { running with
    io := { running.io with
      mem := cells (dram + 64 * 7) 64 (0x0103 + 0x1111 * 2 ^ 32) ++ cells (dram + 64 * 8) 64 (0x0103 + 0x2222 * 2 ^ 32)
      windows := [(0, {
        accept := allFeatures, committed := true,
        cmd := [(0, { base := dram, enable := true, head := 7, tail := 7 })],
        cpl := { base := dram + 0x10000, enable := true, head := 15, tail := 8, phase := false } })] } }

/-- R65, R70 and R80, worked example: a tail of 9 runs both entries; the second completion is in slot 0 with phase 1. -/
theorem test_ring_wraps :
    (match execCmdRingTailWrite 0 0 9 ringExample with
      | .next t =>
        let w := t.io.window 0
        decide ((w.ring (.cmd 0)).head = 9 ∧ w.cpl.head = 1 ∧ w.cpl.phase = true) &&
        (match (t.read 0 (dram + 0x10000 + 32 * 15) 32).2, (t.read 0 (dram + 0x10000) 32).2 with
          | .ok a, .ok b => decide (byteField a 0 4 = 0x1111 ∧ byteField b 0 4 = 0x2222 ∧ bitOf a 56 = false ∧
              bitOf b 56 = true)
          | _, _ => false)
      | _ => false) = true := by decide +kernel

/-- FIPS 180-4: SHA-256 of "abc". -/
theorem test_sha256 :
    Crypto.toInt (Crypto.sha256 [0x61, 0x62, 0x63]) = 0xba7816bf8f01cfea414140de5dae2223b00361a396177a9cb410ff61f20015ad := by decide +kernel

/-- FIPS 197, appendix C.1: AES-128. -/
theorem test_aes128 :
    Crypto.toInt (Crypto.aesEncrypt (Crypto.toOctets 16 0x000102030405060708090a0b0c0d0e0f) (Crypto.toOctets 16 0x00112233445566778899aabbccddeeff)) =
      0x69c4e0d86a7b0430d8cdb78070b4c55a := by decide +kernel

/-- RFC 4493, example 2: AES-CMAC of one block. -/
theorem test_cmac :
    Crypto.toInt (Crypto.cmac (Crypto.toOctets 16 0x2b7e151628aed2a6abf7158809cf4f3c) (Crypto.toOctets 16 0x6bc1bee22e409f96e93d7e117393172a)) =
      0x070a16b46b4d4144f79bdd9dd04a287c := by decide +kernel

/-- The hypotheses of `StepRunsTheFrontCommand` can be met. -/
theorem test_step_runs_the_front_command_can_apply :
    (∃ (c : Instr) (rest : List Instr) (s : State), s.pending = c :: rest) :=
  ⟨.furlRevocation, [], { running with pending := [.furlRevocation] }, by first | decide +kernel | rfl⟩

/-- The hypotheses of `EmptyQueueLetsTheClockRun` can be met. -/
theorem test_empty_queue_lets_the_clock_run_can_apply :
    (∃ (s : State), s.pending = []) ∧
    (∃ (s : State), s.pending = [] ∧ s.computeOn = false) :=
  ⟨⟨running, by first | decide +kernel | rfl⟩,
   ⟨{ running with boot := { running.boot with phase := .held } }, by first | decide +kernel | rfl,
       by first | decide +kernel | rfl⟩⟩

/-- The hypotheses of `MemoryKeepsItsForm` can be met. -/
theorem test_memory_keeps_its_form_can_apply :
    (∃ (s t : State), Memory.wf s.io.mem = true ∧ step s = .next t) :=
  ⟨running, _, by first | rfl | decide +kernel, rfl⟩

/-- The hypotheses of `CommandsLeaveTheQueue` can be met. -/
theorem test_commands_leave_the_queue_can_apply :
    (∃ (i : Instr) (s t : State), exec i s = .next t) :=
  ⟨.furlRevocation, running, _, rfl⟩

/-- The hypotheses of `ReefLevelsNeverFall` can be met. -/
theorem test_reef_levels_never_fall_can_apply :
    (∃ (s t : State), step s = .next t) :=
  ⟨running, _, rfl⟩

/-- The hypotheses of `LifeCycleMovesForward` can be met. -/
theorem test_life_cycle_moves_forward_can_apply :
    (∃ (i : Instr) (s t : State), exec i s = .next t ∧ ((∀ b, i ≠ .lifecycleDone b))) ∧
    (∃ (b : Bool) (s t : State), exec (.lifecycleDone b) s = .next t) :=
  ⟨⟨.furlRevocation, running, _, rfl, (fun _ h => by cases h)⟩,
   ⟨false, running, _, rfl⟩⟩

/-- The hypotheses of `PartsStayInNumber` can be met. -/
theorem test_parts_stay_in_number_can_apply :
    (∃ (s t : State), Shaped s ∧ step s = .next t) :=
  ⟨running, _, ⟨rfl, rfl, rfl, rfl⟩, rfl⟩

/-- The hypotheses of `MemoryReadsBackWhatWasWritten` can be met. -/
theorem test_memory_reads_back_what_was_written_can_apply :
    (∃ (io : Io) (pa n w a : Nat), ((a < pa ∨ pa + n ≤ a))) ∧
    (∃ (io : Io) (pa n w i : Nat), i < n) :=
  ⟨⟨{}, 8, 2, 7, 10, by first | decide +kernel | rfl⟩,
   ⟨{}, 8, 2, 7, 1, by first | decide +kernel | rfl⟩⟩

/-- The hypotheses of `CompletionsAreSuppressed` can be met. -/
theorem test_completions_are_suppressed_can_apply :
    (∃ (r : Request) (opcode results : Nat) (s : State), r.suppressDone = true) ∧
    (∃ (r : Request) (opcode results : Nat) (st : Status) (s : State), ((r.suppressDone = false ∨ st ≠ .done))) ∧
    (∃ (c : Command) (r : Request) (s : State), c.wellFormed r = true ∧ (s.io.window r.issuer).committed = true ∧
        ((∀ f, c.feature = some f → s.has r.issuer f = true)) ∧
        ((r.deadlineValid = true → s.has r.issuer .cmdDeadline = true)) ∧ r.suppressDone = true ∧
        s.has r.issuer .completionSuppress = false) :=
  ⟨⟨{ packetFor cmdDeviceNop 0 [] with flags := 2 }, 0x0103, 0, running, by first | decide +kernel | rfl⟩,
   ⟨{ packetFor cmdDeviceNop 0 [] with flags := 2 }, 0x0103, 0, .badParam, running, by first | decide +kernel | rfl⟩,
   ⟨cmdDeviceNop, { packetFor cmdDeviceNop 0 [] with flags := 2 }, featureless, by first | decide +kernel | rfl,
       by first | decide +kernel | rfl, (by intro f h; cases h), by first | decide +kernel | rfl,
       by first | decide +kernel | rfl, by first | decide +kernel | rfl⟩⟩

/-- The hypotheses of `StatusesComeInOrder` can be met. -/
theorem test_statuses_come_in_order_can_apply :
    (∃ (x : Packet) (s : State), commandOf x.opcode = none) ∧
    (∃ (c : Command) (r : Request) (s : State), c.wellFormed r = false) ∧
    (∃ (c : Command) (r : Request) (s : State), c.wellFormed r = true ∧ c.always = false ∧
        (s.io.window r.issuer).committed = false) ∧
    (∃ (c : Command) (f : Feature) (r : Request) (s : State), c.wellFormed r = true ∧ (s.io.window r.issuer).committed = true ∧
        c.feature = some f ∧ s.has r.issuer f = false) ∧
    (∃ (c : Command) (r : Request) (s : State), c.wellFormed r = true ∧ (s.io.window r.issuer).committed = true ∧
        ((∀ f, c.feature = some f → s.has r.issuer f = true)) ∧ (((r.deadlineValid = true ∧
        s.has r.issuer .cmdDeadline = false) ∨ (r.suppressDone = true ∧
        s.has r.issuer .completionSuppress = false) ∨ c.featureBad r s = true))) ∧
    (∃ (c : Command) (r : Request) (s : State), Gated c r s ∧ c.tamperRefused r s = true) ∧
    (∃ (c : Command) (r : Request) (s : State), Gated c r s ∧ c.tamperRefused r s = false ∧ c.lifecycle r s = true) ∧
    (∃ (c : Command) (r : Request) (s : State), Gated c r s ∧ c.tamperRefused r s = false ∧ c.lifecycle r s = false ∧
        (((c.manager = true ∧ r.issuer ≠ 0) ∨ c.owns r s = false))) ∧
    (∃ (c : Command) (r : Request) (s : State), Gated c r s ∧ Allowed c r s ∧ r.deadlineValid = true ∧
        r.deadline.toNat < s.now) ∧
    (∃ (c : Command) (r : Request) (s : State), Gated c r s ∧ Allowed c r s ∧
        ((r.deadlineValid = true → s.now ≤ r.deadline.toNat)) ∧ (((c.fast = false ∧ s.absent = true) ∨ (c.hoveTo = true ∧
        s.cpu.masthead.hoveTo = true)))) ∧
    (∃ (c : Command) (r : Request) (s : State), Gated c r s ∧ Allowed c r s ∧
        ((r.deadlineValid = true → s.now ≤ r.deadline.toNat)) ∧ ((c.fast = true ∨ s.absent = false)) ∧
        ((c.hoveTo = false ∨ s.cpu.masthead.hoveTo = false)) ∧ c.furled r s = true) ∧
    (∃ (c : Command) (r : Request) (s : State), c.gate r s = none ∧ c.range r = false) ∧
    (∃ (c : Command) (r : Request) (st : Status) (s : State), c.gate r s = none ∧ c.range r = true ∧
        firstOf (c.checks r s) = some st) :=
  ⟨⟨{ opcode := 0xFFFF, req := packetFor cmdDeviceNop 0 [] }, running, by first | decide +kernel | rfl⟩,
   ⟨cmdDeviceNop, { packetFor cmdDeviceNop 0 [] with flags := 4 }, running, by first | decide +kernel | rfl⟩,
   ⟨cmdKeyQuery, (packetFor cmdKeyQuery 0 []), State.reset, by first | decide +kernel | rfl,
       by first | decide +kernel | rfl, by first | decide +kernel | rfl⟩,
   ⟨cmdCipherQuery, .cipherStrands, (packetFor cmdCipherQuery 0 []), featureless, by first | decide +kernel | rfl,
       by first | decide +kernel | rfl, by first | decide +kernel | rfl, by first | decide +kernel | rfl⟩,
   ⟨cmdDeviceNop, { packetFor cmdDeviceNop 0 [] with flags := 2 }, featureless, by first | decide +kernel | rfl,
       by first | decide +kernel | rfl, (by intro f h; cases h), by first | decide +kernel | rfl⟩,
   ⟨cmdCipherQuery, (packetFor cmdCipherQuery 0 []), (running.mapTamper 0 fun x => { x with latched := true }),
       ⟨by decide +kernel, by decide +kernel, (by intro f h; cases h; decide +kernel), by decide +kernel, by decide +kernel,
       by decide +kernel⟩, by first | decide +kernel | rfl⟩,
   ⟨cmdLifecycleAdvance, (packetFor cmdLifecycleAdvance 0 []), running, ⟨by decide +kernel, by decide +kernel,
       (by intro f h; cases h; decide +kernel), by decide +kernel, by decide +kernel, by decide +kernel⟩,
       by first | decide +kernel | rfl, by first | decide +kernel | rfl⟩,
   ⟨cmdPartitionCreate, (packetFor cmdPartitionCreate 1 []), running, ⟨by decide +kernel, by decide +kernel,
       (by intro f h; cases h), by decide +kernel, by decide +kernel, by decide +kernel⟩, by first | decide +kernel | rfl,
       by first | decide +kernel | rfl, by first | decide +kernel | rfl⟩,
   ⟨cmdDeviceNop, { packetFor cmdDeviceNop 0 [] with flags := 1, deadline := 4 }, runningAt 5, ⟨by decide +kernel,
       by decide +kernel, (by intro f h; cases h), by decide +kernel, by decide +kernel, by decide +kernel⟩,
       ⟨by decide +kernel, by decide +kernel, by decide +kernel, by decide +kernel⟩, by first | decide +kernel | rfl,
       by first | decide +kernel | rfl⟩,
   ⟨cmdPartitionCreate, (packetFor cmdPartitionCreate 0 []), running.mapMasthead fun m => { m with present := false },
       ⟨by decide +kernel, by decide +kernel, (by intro f h; cases h), by decide +kernel, by decide +kernel,
       by decide +kernel⟩, ⟨by decide +kernel, by decide +kernel, by decide +kernel, by decide +kernel⟩,
       by first | decide +kernel | rfl, by first | decide +kernel | rfl⟩,
   ⟨cmdFairleadConfig, (packetFor cmdFairleadConfig 0 []), running.mapUnit (unitId 0x23 0) fun h => { h with furled := true },
       ⟨by decide +kernel, by decide +kernel, (by intro f h; cases h), by decide +kernel, by decide +kernel,
       by decide +kernel⟩, ⟨by decide +kernel, by decide +kernel, by decide +kernel, by decide +kernel⟩,
       by first | decide +kernel | rfl, by first | decide +kernel | rfl, by first | decide +kernel | rfl,
       by first | decide +kernel | rfl⟩,
   ⟨cmdPartitionCreate, (packetFor cmdPartitionCreate 0 []), running, by first | decide +kernel | rfl,
       by first | decide +kernel | rfl⟩,
   ⟨cmdPartitionCreate, (packetFor cmdPartitionCreate 0 [(0, 1, 1), (1, 1, 0)]), .partitionState, running,
       by first | decide +kernel | rfl, by first | decide +kernel | rfl, by first | decide +kernel | rfl⟩⟩

/-- The hypotheses of `RefusedCommandOnlyCompletes` can be met. -/
theorem test_refused_command_only_completes_can_apply :
    (∃ (c : Command) (r : Request) (st : Status) (s : State), s.windowOn r.issuer = true ∧ c.refusal r s = some st ∧
        c.spends = false) ∧
    (∃ (c : Command) (r : Request) (st : Status) (s : State), s.windowOn r.issuer = true ∧ c.refusal r s = some st ∧
        c.spends = true ∧ r.issuer = 0) ∧
    (∃ (c : Command) (r : Request) (s : State), s.windowOn r.issuer = false) :=
  ⟨⟨cmdPartitionCreate, (packetFor cmdPartitionCreate 0 []), .badParam, running, by first | decide +kernel | rfl,
      by first | decide +kernel | rfl, by first | decide +kernel | rfl⟩,
   ⟨cmdLifecycleAdvance, (packetFor cmdLifecycleAdvance 0 []), .notPermittedLifecycle, running,
       by first | decide +kernel | rfl, by first | decide +kernel | rfl, by first | decide +kernel | rfl,
       by first | decide +kernel | rfl⟩,
   ⟨cmdDeviceNop, (packetFor cmdDeviceNop 5 []), running, by first | decide +kernel | rfl⟩⟩

/-- The hypotheses of `UnitEventsAreCounted` can be met. -/
theorem test_unit_events_are_counted_can_apply :
    (∃ (n cause inFlight : Nat) (s : State), unitExists n = true ∧ s.furled n = false ∧ s.counting n = true ∧
        (countIn ((s.now :: (s.unitHealth n).history).take 255) s.now (s.classParams (n / 256)).windowMs).length < (s.classParams (n / 256)).threshold) ∧
    (∃ (n cause inFlight : Nat) (s : State), unitExists n = true ∧ s.furled n = false ∧ s.counting n = true ∧ n / 256 ≠ 0 ∧
        (s.classParams (n / 256)).threshold ≤ (countIn ((s.now :: (s.unitHealth n).history).take 255) s.now (s.classParams (n / 256)).windowMs).length) :=
  ⟨⟨0x1300, 1, 0, running, by first | decide +kernel | rfl, by first | decide +kernel | rfl,
      by first | decide +kernel | rfl, by first | decide +kernel | rfl⟩,
   ⟨0x1300, 1, 0, running.mapUnit 0x1300 fun h => { h with history := [0, 0] }, by first | decide +kernel | rfl,
       by first | decide +kernel | rfl, by first | decide +kernel | rfl, by first | decide +kernel | rfl,
       by first | decide +kernel | rfl⟩⟩

/-- The hypotheses of `SlackLossIsTheLarger` can be met. -/
theorem test_slack_loss_is_the_larger_can_apply :
    (∃ (d m i : Nat) (v : Int) (s : State), 1 ≤ d ∧ d ≤ 9 ∧ m < 3) :=
  ⟨9, 2, 0, 5, running, by first | decide +kernel | rfl, by first | decide +kernel | rfl, by first | decide +kernel | rfl⟩

/-- The hypotheses of `EntriesCarryThePhase` can be met. -/
theorem test_entries_carry_the_phase_can_apply :
    (∃ (x : Ring), x.head < x.size) ∧
    (∃ (io io1 : Io) (p record : Nat) (ts : List Task), io.devWrite p ((io.window p).evt.base + 32 * (io.window p).evt.head) 32 (record + flag (io.window p).evt.phase * 2 ^ 111) = (io1, none, ts)) ∧
    (∃ (io io1 io2 : Io) (p record : Nat) (ts ts2 : List Task), io.devWrite p ((io.window p).cpl.base + 32 * (io.window p).cpl.head) 32 (record + flag (io.window p).cpl.phase * 2 ^ 56) = (io1, none, ts) ∧ ((io1.mapWindow p fun w => { w with cpl := w.cpl.advance }).countCompletion p = (io2, ts2))) :=
  ⟨⟨{}, by first | decide +kernel | rfl⟩,
   ⟨{ windows := [(0, { evt := { base := dram }, cpl := { base := dram } })] }, _, 0, 7, _, rfl⟩,
   ⟨{ windows := [(0, { evt := { base := dram }, cpl := { base := dram } })] }, _, _, 0, 7, _, _, rfl, rfl⟩⟩

/-- The hypotheses of `CommandRingsComplete` can be met. -/
theorem test_command_rings_complete_can_apply :
    (∃ (p n : Nat) (v : Word) (s : State), s.windowOn p = true ∧ s.hasRing p (.cmd n) = true ∧
        v.toNat < ((s.io.window p).ring (.cmd n)).size) ∧
    (∃ (p n : Nat) (v : Word) (s : State), s.windowOn p = true ∧ s.hasRing p (.cmd n) = true ∧
        ((s.io.window p).ring (.cmd n)).size ≤ v.toNat) ∧
    (∃ (p n : Nat) (v : Word) (s : State), s.windowOn p = true ∧ s.hasRing p (.cmd n) = true ∧
        ((s.io.window p).ring (.cmd n)).enable = true) ∧
    (∃ (p n : Nat) (v : Word) (s : State), s.windowOn p = true ∧ s.hasRing p (.cmd n) = true ∧
        ((s.io.window p).ring (.cmd n)).enable = false ∧ ((s.io.window p).ring (.cmd n)).sizeLog2 = bitsOf v.toNat 3 0) ∧
    (∃ (p : Nat) (v : Word) (s : State), s.windowOn p = true ∧ p ≠ 0 ∧ ((s.io.window p).ring (.cmd 0)).enable = false ∧
        ((∀ w ∈ s.io.windows, w.2.intake = [])) ∧ v.toNat < ((s.io.window p).ring (.cmd 0)).size) :=
  ⟨⟨0, 3, 15, running, by first | decide +kernel | rfl, by first | decide +kernel | rfl, by first | decide +kernel | rfl⟩,
   ⟨0, 3, 16, running, by first | decide +kernel | rfl, by first | decide +kernel | rfl, by first | decide +kernel | rfl⟩,
   ⟨0, 0, 0, (running.mapRing 0 (.cmd 0) fun x => { x with enable := true }), by first | decide +kernel | rfl,
       by first | decide +kernel | rfl, by first | decide +kernel | rfl⟩,
   ⟨0, 3, 0x80000004#32, running, by first | decide +kernel | rfl, by first | decide +kernel | rfl,
       by first | decide +kernel | rfl, by first | decide +kernel | rfl⟩,
   ⟨1, 15, running, by first | decide +kernel | rfl, by first | decide +kernel | rfl, by first | decide +kernel | rfl,
       by first | decide +kernel | rfl, by first | decide +kernel | rfl⟩⟩

/-- The hypotheses of `PostingRingsComplete` can be met. -/
theorem test_posting_rings_complete_can_apply :
    (∃ (p : Nat) (v : Word) (s : State), s.windowOn p = true ∧ v.toNat < (s.io.window p).cpl.size) ∧
    (∃ (p : Nat) (v : Word) (s : State), s.windowOn p = true ∧ (s.io.window p).cpl.enable = true) ∧
    (∃ (p : Nat) (s : State), s.windowOn p = true ∧ (s.io.window p).coalesceUs ≠ 0 ∧ 0 < (s.io.window p).sinceRaise ∧
        (s.io.window p).firstSince + 1000 * (s.io.window p).coalesceUs ≤ s.now) ∧
    (∃ (p : Nat) (v : Word) (s : State), s.windowOn p = true ∧ v.toNat < (s.io.window p).evt.size) ∧
    (∃ (p : Nat) (v : Word) (s : State), s.windowOn p = true ∧ (s.io.window p).evt.enable = true) ∧
    (∃ (p : Nat) (s : State), s.windowOn p = true) :=
  ⟨⟨0, 15, running, by first | decide +kernel | rfl, by first | decide +kernel | rfl⟩,
   ⟨0, 0, (running.mapRing 0 .cpl fun x => { x with enable := true }), by first | decide +kernel | rfl,
       by first | decide +kernel | rfl⟩,
   ⟨0, { runningAt 1000 with io := { (runningAt 1000).io with windows := [(0, { coalesceUs := 1, sinceRaise := 1 })] } },
       by first | decide +kernel | rfl, by first | decide +kernel | rfl, by first | decide +kernel | rfl,
       by first | decide +kernel | rfl⟩,
   ⟨0, 15, running, by first | decide +kernel | rfl, by first | decide +kernel | rfl⟩,
   ⟨0, 0, (running.mapRing 0 .evt fun x => { x with enable := true }), by first | decide +kernel | rfl,
       by first | decide +kernel | rfl⟩,
   ⟨0, running, by first | decide +kernel | rfl⟩⟩

/-- The hypotheses of `RingConfigurationCompletes` can be met. -/
theorem test_ring_configuration_completes_can_apply :
    (∃ (p : Nat) (v : Word) (s : State), s.windowOn p = true ∧ (s.io.window p).cpl.enable = false) ∧
    (∃ (p : Nat) (v : Word) (s : State), s.windowOn p = true ∧ (s.io.window p).evt.enable = false) ∧
    (∃ (p : Nat) (v : Word) (s : State), s.windowOn p = true ∧ (s.io.window p).cpl.enable = true) ∧
    (∃ (p : Nat) (s : State), s.windowOn p = true ∧ ((s.io.window p).ring (.cmd 0)).fault = true) ∧
    (∃ (p : Nat) (s : State), s.windowOn p = true ∧ (s.io.window p).cpl.fault = true) ∧
    (∃ (p : Nat) (s : State), s.windowOn p = true ∧ (s.io.window p).evt.fault = true) :=
  ⟨⟨0, 0x1000, running, by first | decide +kernel | rfl, by first | decide +kernel | rfl⟩,
   ⟨0, 0x1000, running, by first | decide +kernel | rfl, by first | decide +kernel | rfl⟩,
   ⟨0, 0x1000, (running.mapRing 0 .cpl fun x => { x with enable := true }), by first | decide +kernel | rfl,
       by first | decide +kernel | rfl⟩,
   ⟨0, (running.mapRing 0 (.cmd 0) fun x => { x with fault := true }), by first | decide +kernel | rfl,
       by first | decide +kernel | rfl⟩,
   ⟨0, (running.mapRing 0 .cpl fun x => { x with fault := true }), by first | decide +kernel | rfl,
       by first | decide +kernel | rfl⟩,
   ⟨0, (running.mapRing 0 .evt fun x => { x with fault := true }), by first | decide +kernel | rfl,
       by first | decide +kernel | rfl⟩⟩

/-- The hypotheses of `WindowRegistersComplete` can be met. -/
theorem test_window_registers_complete_can_apply :
    (∃ (p : Nat) (v : Word) (s : State), s.windowOn p = true) ∧
    (∃ (p : Nat) (v : Word) (s : State), s.windowOn p = true ∧
        (s.io.window p).intStatus &&& (s.io.window p).intMask &&& ~~~v = 0#32) ∧
    (∃ (p : Nat) (v : Word) (s : State), s.windowOn p = true ∧ s.has p .completionCoalesce = true) ∧
    (∃ (p : Nat) (v : Word) (s : State), s.has p .completionCoalesce = false) ∧
    (∃ (p k : Nat) (v : Word) (s : State), s.windowOn p = true ∧ k < 32) ∧
    (∃ (p : Nat) (v : Word) (s : State), s.windowOn p = true ∧ (s.io.window p).committed = false) ∧
    (∃ (p : Nat) (v : Word) (s : State), (s.io.window p).committed = true) ∧
    (∃ (v : Word) (s : State), s.windowOn 0 = true ∧ s.sw.sweeping = true ∧ 100 ≤ bitsOf v.toNat 15 0) ∧
    (∃ (p a : Nat) (v : Word) (s : State), 0xC0 ≤ a ∧ a < 0x100) ∧
    (∃ (p a : Nat) (v : Word) (s : State), a % 4 ≠ 0) :=
  ⟨⟨0, 1, running, by first | decide +kernel | rfl⟩,
   ⟨0, 0, (running.mapWindow 0 fun w => { w with intStatus := 1, intMask := 2 }), by first | decide +kernel | rfl,
       by first | decide +kernel | rfl⟩,
   ⟨0, 1, running, by first | decide +kernel | rfl, by first | decide +kernel | rfl⟩,
   ⟨0, 1, featureless, by first | decide +kernel | rfl⟩,
   ⟨0, 31, 1, running, by first | decide +kernel | rfl, by first | decide +kernel | rfl⟩,
   ⟨0, 1, (running.mapWindow 0 fun w => { w with committed := false }), by first | decide +kernel | rfl,
       by first | decide +kernel | rfl⟩,
   ⟨0, 1, running, by first | decide +kernel | rfl⟩,
   ⟨100, { running with sw := { running.sw with sweeping := true } }, by first | decide +kernel | rfl,
       by first | decide +kernel | rfl, by first | decide +kernel | rfl⟩,
   ⟨0, 0xFC, 0, running, by first | decide +kernel | rfl, by first | decide +kernel | rfl⟩,
   ⟨0, 0x102, 0, running, by first | decide +kernel | rfl⟩⟩

/-- The hypotheses of `HeldBackWorkGoesOn` can be met. -/
theorem test_held_back_work_goes_on_can_apply :
    (∃ (k : Nat) (s : State), s.computeOn = true ∧ s.drainAll.nextRing = some k) ∧
    (∃ (k p n : Nat) (x : Packet) (rest : List Packet) (s : State), ringInTurn k = (p, n) ∧
        Table.get [] (s.io.window p).intake n = x :: rest) ∧
    (∃ (i : Nat) (o : CipherOp) (f : Nat) (s : State), s.computeOn = true ∧ s.cipher.ops[i]? = some o ∧ o.conforms = false ∧
        o.flow = some f ∧ s.laneHead i o = true ∧ s.conforms [f] o.size = true) ∧
    (∃ (i : Nat) (o : CipherOp) (f : Nat) (s : State), s.computeOn = true ∧ s.cipher.ops[i]? = some o ∧ o.flow = some f ∧
        s.conforms [f] o.size = false) :=
  ⟨⟨0, (running.mapWindow 0 fun w => { w with intake := [(0, [{ opcode := 0x0201, req := packetFor cmdPartitionCreate 0 [] }])] }), by first | decide +kernel | rfl, by first | decide +kernel | rfl⟩,
   ⟨0, 0, 0, { opcode := 0x0201, req := packetFor cmdPartitionCreate 0 [] }, [],
       (running.mapWindow 0 fun w => { w with intake := [(0, [{ opcode := 0x0201, req := packetFor cmdPartitionCreate 0 [] }])] }), by first | rfl | decide +kernel, by first | decide +kernel | rfl⟩,
   ⟨0, { issuer := 0, ring := 0, flow := some 3, desc := 0, counter := none, key := 0, bits256 := false, strand := 0, begunAt := 0, conforms := false, repeated := false }, 3, { running with cipher := { running.cipher with ops := [{ issuer := 0, ring := 0, flow := some 3, desc := 0, counter := none, key := 0, bits256 := false, strand := 0, begunAt := 0, conforms := false, repeated := false }] } }, by first | decide +kernel | rfl, by first | decide +kernel | rfl, by first | decide +kernel | rfl, by first | decide +kernel | rfl, by first | decide +kernel | rfl, by first | decide +kernel | rfl⟩,
   ⟨0, { issuer := 0, ring := 0, flow := some 3, desc := 0, counter := none, key := 0, bits256 := false, strand := 0, begunAt := 0, conforms := false, repeated := false }, 3, ({ running with cipher := { running.cipher with ops := [{ issuer := 0, ring := 0, flow := some 3, desc := 0, counter := none, key := 0, bits256 := false, strand := 0, begunAt := 0, conforms := false, repeated := false }] } } : State).mapFlow 3 fun f => { f with decl := { f.decl with maxSize := 16, minInterval := 1000 } }, by first | decide +kernel | rfl, by first | decide +kernel | rfl, by first | decide +kernel | rfl, by first | decide +kernel | rfl⟩⟩

/-- The hypotheses of `DeviceCommandsComplete` can be met. -/
theorem test_device_commands_complete_can_apply :
    (∃ (r : Request) (s : State), Clear cmdDeviceNop r s) ∧
    (∃ (r : Request) (s : State), Clear cmdDeviceFeaturesCommit r s) ∧
    (∃ (r : Request) (s : State), Clear cmdDeviceIdentify r s) :=
  ⟨⟨(packetFor cmdDeviceNop 0 []), running, ⟨by decide +kernel, by decide +kernel⟩⟩,
   ⟨(packetFor cmdDeviceFeaturesCommit 0 []), State.reset.mapWindow 0 fun w => { w with accept := [(0, 1)] },
       ⟨by decide +kernel, by decide +kernel⟩⟩,
   ⟨(packetFor cmdDeviceIdentify 0 []), State.reset, ⟨by decide +kernel, by decide +kernel⟩⟩⟩

/-- The hypotheses of `PartitionLifeCompletes` can be met. -/
theorem test_partition_life_completes_can_apply :
    (∃ (r : Request) (s : State), Clear cmdPartitionCreate r s) ∧
    (∃ (r : Request) (s : State), Clear cmdPartitionQuiesce r s ∧ r.byte 1 = 1 ∧ r.byte 2 = 0 ∧ s.flowsOwned (r.byte 0) = [] ∧
        s.ownedBy (r.byte 0) kindLin = []) ∧
    (∃ (p : Nat) (s : State), s.computeOn = true ∧ s.absent = false ∧ 1 ≤ p ∧ p ≤ 63 ∧ (s.io.part p).state = .quiescing ∧
        s.inFlight p = false ∧ s.boot.waiting = none) ∧
    (∃ (p : Nat) (s : State), s.computeOn = true ∧ (s.io.part p).state = .quiescing ∧ (s.io.part p).drain = true ∧
        (s.io.part p).drainExpired = false ∧ (s.io.part p).drainUntil ≤ s.now) ∧
    (∃ (r : Request) (s : State), Clear cmdPartitionReset r s) ∧
    (∃ (r : Request) (s : State), Clear cmdPartitionRemove r s) ∧
    (∃ (r : Request) (s : State), Clear cmdPartitionResume r s ∧ s.ownedBy (r.byte 0) kindQueue = [] ∧
        s.flowsOwned (r.byte 0) = [] ∧ s.ownedBy (r.byte 0) kindLin = []) :=
  ⟨⟨(packetFor cmdPartitionCreate 0 [(0, 1, 63), (1, 1, 0)]), running, ⟨by decide +kernel, by decide +kernel⟩⟩,
   ⟨(packetFor cmdPartitionQuiesce 0 [(0, 1, 1), (1, 1, 1)]), running, ⟨by decide +kernel, by decide +kernel⟩,
       by first | decide +kernel | rfl, by first | decide +kernel | rfl, by first | decide +kernel | rfl,
       by first | decide +kernel | rfl⟩,
   ⟨63, (running.mapPart 63 fun x => { x with state := .quiescing }), by first | decide +kernel | rfl,
       by first | decide +kernel | rfl, by first | decide +kernel | rfl, by first | decide +kernel | rfl,
       by first | decide +kernel | rfl, by first | decide +kernel | rfl, by first | decide +kernel | rfl⟩,
   ⟨1, running.mapPart 1 fun x => { x with state := .quiescing, drain := true }, by first | decide +kernel | rfl,
       by first | decide +kernel | rfl, by first | decide +kernel | rfl, by first | decide +kernel | rfl,
       by first | decide +kernel | rfl⟩,
   ⟨(packetFor cmdPartitionReset 0 [(0, 1, 1)]), (running.mapPart 1 fun x => { x with state := .quiet }),
       ⟨by decide +kernel, by decide +kernel⟩⟩,
   ⟨(packetFor cmdPartitionRemove 0 [(0, 1, 1)]), (running.mapPart 1 fun x => { x with state := .quiet }),
       ⟨by decide +kernel, by decide +kernel⟩⟩,
   ⟨(packetFor cmdPartitionResume 0 [(0, 1, 1)]), (running.mapPart 1 fun x => { x with state := .quiet }),
       ⟨by decide +kernel, by decide +kernel⟩, by first | decide +kernel | rfl, by first | decide +kernel | rfl,
       by first | decide +kernel | rfl⟩⟩

/-- The hypotheses of `OwnershipCommandsComplete` can be met. -/
theorem test_ownership_commands_complete_can_apply :
    (∃ (r : Request) (s : State), Clear cmdObjectAssign r s ∧ r.field 4 2 = 1 ∧ r.byte 0 ≠ kindCan) ∧
    (∃ (r : Request) (s : State), Clear cmdCacheClassSet r s) ∧
    (∃ (r : Request) (s : State), Clear cmdMemoryOwnerSet r s ∧ r.field 2 2 = 1 ∧
        s.io.unitOwner (r.field 0 2) ≠ { owner := r.bits 4 5 0, shared := r.bit 4 7 }) ∧
    (∃ (r : Request) (s : State), Clear cmdIommuRootSet r s ∧ r.byte 0 = 0) ∧
    (∃ (r : Request) (s : State), Clear cmdIommuInvalidate r s ∧ r.byte 2 = 0) :=
  ⟨⟨(packetFor cmdObjectAssign 0 [(0, 1, kindSense), (1, 1, 1), (2, 2, 31), (4, 2, 1)]), running, ⟨by decide +kernel,
      by decide +kernel⟩, by first | decide +kernel | rfl, by first | decide +kernel | rfl⟩,
   ⟨(packetFor cmdCacheClassSet 0 [(0, 1, 7), (2, 2, 1), (4, 1, 255),
       (5, 1, 255)]), { running with io := { running.io with classes := [] } }, ⟨by decide +kernel, by decide +kernel⟩⟩,
   ⟨(packetFor cmdMemoryOwnerSet 0 [(0, 2, 4095), (2, 2, 1), (4, 1, 129)]), running, ⟨by decide +kernel, by decide +kernel⟩,
       by first | decide +kernel | rfl, by first | decide +kernel | rfl⟩,
   ⟨(packetFor cmdIommuRootSet 0 [(0, 1, 0), (2, 1, 1), (8, 8, 0x1000)]), running, ⟨by decide +kernel, by decide +kernel⟩,
       by first | decide +kernel | rfl⟩,
   ⟨(packetFor cmdIommuInvalidate 0 []), running, ⟨by decide +kernel, by decide +kernel⟩, by first | decide +kernel | rfl⟩⟩

/-- The hypotheses of `MigrationCommandsComplete` can be met. -/
theorem test_migration_commands_complete_can_apply :
    (∃ (r : Request) (s : State), Clear cmdDirtyLogStart r s) ∧
    (∃ (r : Request) (s : State), Clear cmdDirtyLogSwap r s) ∧
    (∃ (r : Request) (s : State), Clear cmdDirtyLogStop r s) ∧
    (∃ (r : Request) (s : State), Clear cmdPartitionCapsuleExport r s ∧ pairing r = none ∧
        s.neededLength (r.byte 0) none ≤ r.field 4 4) ∧
    (∃ (r : Request) (s : State), Clear cmdPartitionCapsuleExport r s ∧ r.field 4 4 < s.neededLength (r.byte 0) (pairing r)) ∧
    (∃ (r : Request) (s : State), Clear cmdPartitionCapsuleImport r s) ∧
    (∃ (p : Nat) (o : CapsuleOp) (u : State) (s : State), s.computeOn = true ∧ s.absent = false ∧ s.boot.waiting = none ∧
        (s.capsules.find? (fun x => x.partition == p) = some o) ∧ o.outward = true ∧
        ({ s with capsules := s.capsules.erase o } : State).write 0 o.buffer o.length o.data = (u, none)) :=
  ⟨⟨(packetFor cmdDirtyLogStart 0 [(0, 1, 1), (16, 4, 4096)]), running, ⟨by decide +kernel, by decide +kernel⟩⟩,
   ⟨(packetFor cmdDirtyLogSwap 0 [(0, 1, 1)]), { running with io := { running.io with dirty := [(1, { running := true, size2M := 1 })] } }, ⟨by decide +kernel, by decide +kernel⟩⟩,
   ⟨(packetFor cmdDirtyLogStop 0 [(0, 1, 1)]), { running with io := { running.io with dirty := [(1, { running := true, size2M := 1 })] } }, ⟨by decide +kernel, by decide +kernel⟩⟩,
   ⟨(packetFor cmdPartitionCapsuleExport 0 [(0, 1, 1), (2, 2, 0xFFFF), (4, 4, 65536), (8, 8, dram)]),
       (running.mapPart 1 fun x => { x with state := .quiet }), ⟨by decide +kernel, by decide +kernel⟩,
       by first | decide +kernel | rfl, by first | decide +kernel | rfl⟩,
   ⟨(packetFor cmdPartitionCapsuleExport 0 [(0, 1, 1), (2, 2, 0xFFFF), (4, 4, 64), (8, 8, dram)]),
       (running.mapPart 1 fun x => { x with state := .quiet }), ⟨by decide +kernel, by decide +kernel⟩,
       by first | decide +kernel | rfl⟩,
   ⟨(packetFor cmdPartitionCapsuleImport 0 [(0, 1, 1), (2, 2, 0xFFFF), (4, 4, 2400), (8, 8, dram)]),
       (running.mapPart 1 fun x => { x with state := .quiet }), ⟨by decide +kernel, by decide +kernel⟩⟩,
   ⟨1, { outward := true, partition := 1, slot := none, length := 0, buffer := dram, data := 0 },
       _, { running with capsules := [{ outward := true, partition := 1, slot := none, length := 0, buffer := dram, data := 0 }] }, by first | rfl | decide +kernel, by first | rfl | decide +kernel, by first | rfl | decide +kernel, by first | rfl | decide +kernel, by first | rfl | decide +kernel, rfl⟩⟩

/-- The hypotheses of `DmaQueuesComplete` can be met. -/
theorem test_dma_queues_complete_can_apply :
    (∃ (r : Request) (s : State), Clear cmdDmaQueueConfig r s ∧ r.byte 4 = 1) ∧
    (∃ (r : Request) (s : State), Clear cmdDmaQueuePost r s) ∧
    (∃ (r : Request) (s : State), Clear cmdDmaQueueResume r s ∧ r.byte 2 = 0 ∧
        s.quiescing (s.queueOwner (r.field 0 2)) = false) ∧
    (∃ (r : Request) (s : State), Clear cmdDmaQueueQuery r s ∧ (s.queueOf (r.field 0 2)).state ≠ .parkedFault) ∧
    (∃ (q : Nat) (x : Descriptor) (w : Nat) (s s1 s2 : State), s.computeOn = true ∧ q < 1024 ∧ (s.queueOf q).state = .running ∧
        (s.queueOf q).head ≠ (s.queueOf q).tail ∧ (s.queueOf q).cplStatus = none ∧ (s.queueOf q).desc = some x ∧
        (s.queueOf q).conforms = true ∧ (s.queueOf q).attach = .none ∧ s.liveEngines ≠ [] ∧
        (s.queueOf q).offset + 256 < x.length ∧ s.read (s.queueOwner q) (x.source + (s.queueOf q).offset) 256 = (s1, .ok w) ∧
        s1.write (s.queueOwner q) (x.dest + (s.queueOf q).offset) 256 w = (s2, none)) :=
  ⟨⟨(packetFor cmdDmaQueueConfig 0 [(0, 2, 1023), (2, 1, 12), (4, 1, 1)]), running, ⟨by decide +kernel, by decide +kernel⟩,
      by first | decide +kernel | rfl⟩,
   ⟨(packetFor cmdDmaQueuePost 0 [(0, 2, 1023), (2, 2, 15)]), (running.mapQueue 1023 fun d => { d with state := .idle }),
       ⟨by decide +kernel, by decide +kernel⟩⟩,
   ⟨(packetFor cmdDmaQueueResume 0 [(0, 2, 1023)]), (running.mapQueue 1023 fun d => { d with state := .parkedFault }),
       ⟨by decide +kernel, by decide +kernel⟩, by first | decide +kernel | rfl, by first | decide +kernel | rfl⟩,
   ⟨(packetFor cmdDmaQueueQuery 0 [(0, 2, 1023)]), running, ⟨by decide +kernel, by decide +kernel⟩,
       by first | decide +kernel | rfl⟩,
   ⟨1023, { source := dram, dest := dram + 0x1000, length := 257, flags := 0, reserved := 0 }, _,
       (running.mapQueue 1023 fun d => { d with state := .running, tail := 1, desc := some { source := dram, dest := dram + 0x1000, length := 257, flags := 0, reserved := 0 }, conforms := true }), _, _, by first | rfl | decide +kernel, by first | rfl | decide +kernel, by first | rfl | decide +kernel, by first | rfl | decide +kernel, by first | rfl | decide +kernel, by first | rfl | decide +kernel, by first | rfl | decide +kernel, by first | rfl | decide +kernel, by first | rfl | decide +kernel, by first | rfl | decide +kernel, rfl, rfl⟩⟩

/-- The hypotheses of `FlowReleaseCompletes` can be met. -/
theorem test_flow_release_completes_can_apply :
    (∃ (r : Request) (s : State), Clear cmdFlowRelease r s ∧ (s.flowOf (r.field 0 2)).owner = r.issuer ∧
        s.itemsOn (r.field 0 2) = 0) ∧
    (∃ (r : Request) (s : State), Clear cmdFlowRelease r s ∧ (s.flowOf (r.field 0 2)).owner = r.issuer ∧
        s.itemsOn (r.field 0 2) ≠ 0) ∧
    (∃ (r : Request) (s : State), Clear cmdFlowRelease r s ∧ (s.flowOf (r.field 0 2)).owner ≠ r.issuer) ∧
    (∃ (f : Nat) (r : Request) (s : State), (s.flowOf f).releasing = some r ∧ s.itemsOn f = 0) :=
  ⟨⟨(packetFor cmdFlowRelease 0 [(0, 2, 5)]), running.mapFlow 5 fun f => { f with state := .admitted }, ⟨by decide +kernel,
      by decide +kernel⟩, by first | decide +kernel | rfl, by first | decide +kernel | rfl⟩,
   ⟨(packetFor cmdFlowRelease 0 [(0, 2, 5)]),
       ({ running with cipher := { running.cipher with ops := [{ issuer := 0, ring := 0, flow := some 5, desc := 0, counter := none, key := 0, bits256 := false, strand := 0, begunAt := 0, conforms := true, repeated := false }] } } : State).mapFlow 5 fun f => { f with state := .admitted }, ⟨by decide +kernel, by decide +kernel⟩, by first | decide +kernel | rfl, by first | decide +kernel | rfl⟩,
   ⟨(packetFor cmdFlowRelease 0 [(0, 2, 5)]), running.mapFlow 5 fun f => { f with state := .admitted, owner := 1 },
       ⟨by decide +kernel, by decide +kernel⟩, by first | decide +kernel | rfl⟩,
   ⟨5, packetFor cmdFlowRelease 0 [], running.mapFlow 5 fun f => { f with releasing := some (packetFor cmdFlowRelease 0 []) }, by first | decide +kernel | rfl, by first | decide +kernel | rfl⟩⟩

/-- The hypotheses of `FlowAdmissionCompletes` can be met. -/
theorem test_flow_admission_completes_can_apply :
    (∃ (r : Request) (s : State), Clear cmdFlowAdmit r s ∧ (s.verdict (s.flowId r) (candidate r)).status = none) ∧
    (∃ (r : Request) (s : State) (st : Status), Clear cmdFlowAdmit r s ∧
        (s.verdict (s.flowId r) (candidate r)).status = some st) ∧
    (∃ (r : Request) (s : State), Clear cmdFlowPredict r s) :=
  ⟨⟨(packetFor cmdFlowAdmit 0 [(0, 2, 5), (2, 1, 5), (4, 4, 1), (8, 4, 100000000), (14, 1, 1), (16, 4, 4000000000),
      (20, 1, 10), (22, 2, 3)]), running, ⟨by decide +kernel, by decide +kernel⟩, by first | decide +kernel | rfl⟩,
   ⟨(packetFor cmdFlowAdmit 0 [(0, 2, 5), (2, 1, 5), (4, 4, 1), (8, 4, 100000000), (14, 1, 1), (16, 4, 1), (20, 1, 10),
       (22, 2, 3)]), running, .promiseUnreachable, ⟨by decide +kernel, by decide +kernel⟩, by first | decide +kernel | rfl⟩,
   ⟨(packetFor cmdFlowPredict 0 [(0, 2, 5), (2, 1, 5), (4, 4, 1), (8, 4, 100000000), (14, 1, 1), (16, 4, 4000000000),
       (20, 1, 10), (22, 2, 3)]), running, ⟨by decide +kernel, by decide +kernel⟩⟩⟩

/-- The hypotheses of `FlowFiguresAndMediaComplete` can be met. -/
theorem test_flow_figures_and_media_complete_can_apply :
    (∃ (r : Request) (s : State), Clear cmdFlowQuery r s) ∧
    (∃ (r : Request) (s s1 : State), Clear cmdFlowStats r s ∧ r.bit 2 0 = false ∧
        s.write r.issuer (r.field 8 8) 128 ((s.flowOf (r.field 0 2)).record s.now (s.has (s.flowOf (r.field 0 2)).owner .latencyHistogram)) = (s1, none)) ∧
    (∃ (r : Request) (s s1 : State) (f : XFault), Clear cmdFlowStats r s ∧
        s.write r.issuer (r.field 8 8) 128 ((s.flowOf (r.field 0 2)).record s.now (s.has (s.flowOf (r.field 0 2)).owner .latencyHistogram)) = (s1, some f)) ∧
    (∃ (r : Request) (c : Contract) (s : State), Clear cmdMediumContractSet r s ∧ c = contractOf r (s.contract (r.byte 0)) ∧
        ({ s with flow := { s.flow with contracts := Table.put {} s.flow.contracts (r.byte 0) c } } : State).chosen [] = []) ∧
    (∃ (m used largest lowest measure value : Nat) (s : State), s.computeOn = true ∧ m ≤ 21 ∧ (s.contract m).enable = true ∧
        (s.contract m).excess (mediumKind m) used largest lowest = [(measure, value)]) ∧
    (∃ (s : State), s.absent = false ∧ s.computeOn = true) ∧
    (∃ (m : Maintenance) (s : State), s.now < m.triedAt + 100000000) ∧
    (∃ (m : Maintenance) (s : State), m.triedAt + 100000000 ≤ s.now) :=
  ⟨⟨(packetFor cmdFlowQuery 0 [(0, 2, 4095)]), running, ⟨by decide +kernel, by decide +kernel⟩⟩,
   ⟨(packetFor cmdFlowStats 0 [(0, 2, 5), (8, 8, dram)]), running.mapFlow 5 fun f => { f with state := .admitted }, _,
       ⟨by decide +kernel, by decide +kernel⟩, by first | rfl | decide +kernel, rfl⟩,
   ⟨(packetFor cmdFlowStats 0 [(0, 2, 5), (8, 8, 0x1000)]), running.mapFlow 5 fun f => { f with state := .admitted }, _, _,
       ⟨by decide +kernel, by decide +kernel⟩, rfl⟩,
   ⟨(packetFor cmdMediumContractSet 0 [(0, 1, 0), (1, 1, 1), (4, 4, 1000), (12, 4, 1000000), (16, 4, 1)]), _, running,
       ⟨by decide +kernel, by decide +kernel⟩, by first | rfl | decide +kernel, by first | rfl | decide +kernel⟩,
   ⟨0, 0, 5, 9, 0x03, 5, { running with flow := { running.flow with contracts := [(0, { enable := true, maxFrame := 4, lowestKey := 9 })] } }, by first | decide +kernel | rfl, by first | decide +kernel | rfl, by first | decide +kernel | rfl, by first | decide +kernel | rfl⟩,
   ⟨running, by first | decide +kernel | rfl, by first | decide +kernel | rfl⟩,
   ⟨{ kind := 1, subject := 0, detail := 0, requester := 0, triedAt := 0 }, running, by first | decide +kernel | rfl⟩,
   ⟨{ kind := 1, subject := 0, detail := 0, requester := 0, triedAt := 0 }, runningAt 100000000,
       by first | decide +kernel | rfl⟩⟩

/-- The hypotheses of `TimeCommandsComplete` can be met. -/
theorem test_time_commands_complete_can_apply :
    (∃ (r : Request) (s : State), Clear cmdTimeRead r s) ∧
    (∃ (r : Request) (s : State), Clear cmdTimeSourceSet r s ∧ s.time.servo = .free ∧ r.byte 0 ≠ s.time.source) ∧
    (∃ (r : Request) (s : State), Clear cmdTimeSourceSet r s ∧ s.time.servo ≠ .free ∧ r.byte 0 = 0) ∧
    (∃ (r : Request) (s : State), Clear cmdPpsConfig r s) :=
  ⟨⟨(packetFor cmdTimeRead 0 []), running, ⟨by decide +kernel, by decide +kernel⟩⟩,
   ⟨(packetFor cmdTimeSourceSet 0 [(0, 1, 3), (2, 2, 10000), (4, 4, 1), (8, 4, 86400)]), running, ⟨by decide +kernel,
       by decide +kernel⟩, by first | decide +kernel | rfl, by first | decide +kernel | rfl⟩,
   ⟨(packetFor cmdTimeSourceSet 0 [(0, 1, 0), (2, 2, 1), (4, 4, 250000), (8, 4, 1)]),
       (State.mapTime (running) fun x => { x with servo := .locked, source := 1 }), ⟨by decide +kernel, by decide +kernel⟩,
       by first | decide +kernel | rfl, by first | decide +kernel | rfl⟩,
   ⟨(packetFor cmdPpsConfig 0 [(0, 1, 1), (1, 1, 2), (2, 2, 500)]), running, ⟨by decide +kernel, by decide +kernel⟩⟩⟩

/-- The hypotheses of `ServoEventsComplete` can be met. -/
theorem test_servo_events_complete_can_apply :
    (∃ (offset rate : Int) (s : State), s.time.source ≠ 0 ∧ s.time.backupOsc = false ∧ s.computeOn = true ∧
        s.time.servo = .locked ∧ 4 * (s.time.lockNs : Int) * 65536 < ((offset - s.time.lockMean).natAbs : Int)) ∧
    (∃ (offset rate : Int) (s : State), s.time.source = 1 ∧ s.time.backupOsc = false ∧ s.computeOn = true ∧
        s.time.servo = .locked ∧ ((offset - s.time.lockMean).natAbs : Int) ≤ 4 * (s.time.lockNs : Int) * 65536) ∧
    (∃ (s : State), s.time.servo = .locked ∧ s.time.lastSync + s.lossAfter ≤ s.now) ∧
    (∃ (s : State), s.time.servo = .holdover ∧ s.time.backupOsc = false ∧
        s.time.holdoverAt + s.time.holdoverLimitS * 1000000000 ≤ s.now) ∧
    (∃ (s : State), s.computeOn = true ∧ s.time.source = 3 ∧ s.time.servo = .locked ∧
        100000 < edgeError s.time.ppsLastEdge s.now) ∧
    (∃ (s : State), s.computeOn = true ∧ s.time.source = 3 ∧ edgeError s.time.ppsLastEdge s.now ≤ 100000) ∧
    (∃ (s : State), s.computeOn = true ∧ s.time.ppsHigh = false ∧ s.time.ppsEnable = true ∧ s.time.pulseOk = true ∧
        s.time.ppsNext ≤ s.now) ∧
    (∃ (s : State), s.time.ppsHigh = true ∧ s.time.ppsRiseAt + s.time.ppsWidthMs * 1000000 ≤ s.now) :=
  ⟨⟨262145, 0, (State.mapTime (running) fun x => { x with servo := .locked, source := 1 }), by first | decide +kernel | rfl,
      by first | decide +kernel | rfl, by first | decide +kernel | rfl, by first | decide +kernel | rfl,
      by first | decide +kernel | rfl⟩,
   ⟨262144, 0, (State.mapTime (running) fun x => { x with servo := .locked, source := 1 }), by first | decide +kernel | rfl,
       by first | decide +kernel | rfl, by first | decide +kernel | rfl, by first | decide +kernel | rfl,
       by first | decide +kernel | rfl⟩,
   ⟨(State.mapTime (runningAt 375000000) fun x => { x with servo := .locked, source := 1 }),
       by first | decide +kernel | rfl, by first | decide +kernel | rfl⟩,
   ⟨(State.mapTime (runningAt 1000000000) fun x => { x with servo := .holdover }), by first | decide +kernel | rfl,
       by first | decide +kernel | rfl, by first | decide +kernel | rfl⟩,
   ⟨(State.mapTime (runningAt 100001) fun x => { x with servo := .locked, source := 3 }), by first | decide +kernel | rfl,
       by first | decide +kernel | rfl, by first | decide +kernel | rfl, by first | decide +kernel | rfl⟩,
   ⟨(State.mapTime (runningAt 100000) fun x => { x with servo := .locked, source := 3 }), by first | decide +kernel | rfl,
       by first | decide +kernel | rfl, by first | decide +kernel | rfl⟩,
   ⟨(State.mapTime (running) fun x => { x with ppsEnable := true }), by first | decide +kernel | rfl,
       by first | decide +kernel | rfl, by first | decide +kernel | rfl, by first | decide +kernel | rfl,
       by first | decide +kernel | rfl⟩,
   ⟨(State.mapTime (runningAt 1000000) fun x => { x with ppsHigh := true }), by first | decide +kernel | rfl,
       by first | decide +kernel | rfl⟩⟩

/-- The hypotheses of `TimeCopiesComplete` can be met. -/
theorem test_time_copies_complete_can_apply :
    (∃ (s : State), s.computeOn = true ∧ s.furled (unitId 0x05 0) = false ∧ s.time.d7Valid = true) ∧
    (∃ (s : State), s.computeOn = true ∧ s.furled (unitId 0x05 0) = false ∧ s.time.d7Valid = false) ∧
    (∃ (s : State), s.time.d7Valid = true ∧ s.time.d7Stamp + 1000000 ≤ s.now) ∧
    (∃ (s : State), s.computeOn = true ∧ s.time.d6Valid = true) ∧
    (∃ (s : State), s.time.d6Valid = true ∧ s.time.d6Stamp + 10000 ≤ s.now) ∧
    (∃ (s : State), s.computeOn = true ∧ s.absent = false ∧ s.time.tRef + 1000000000 ≤ s.now) ∧
    (∃ (unit cause : Nat) (s : State), unit / 256 ≠ 0x24 ∧ unit ≠ 0x2500) :=
  ⟨⟨running, by first | decide +kernel | rfl, by first | decide +kernel | rfl, by first | decide +kernel | rfl⟩,
   ⟨(State.mapTime (running) fun x => { x with d7Valid := false }), by first | decide +kernel | rfl,
       by first | decide +kernel | rfl, by first | decide +kernel | rfl⟩,
   ⟨runningAt 1000000, by first | decide +kernel | rfl, by first | decide +kernel | rfl⟩,
   ⟨running, by first | decide +kernel | rfl, by first | decide +kernel | rfl⟩,
   ⟨runningAt 10000, by first | decide +kernel | rfl, by first | decide +kernel | rfl⟩,
   ⟨runningAt 1000000000, by first | decide +kernel | rfl, by first | decide +kernel | rfl, by first | decide +kernel | rfl⟩,
   ⟨0x2600, 1, running, by first | decide +kernel | rfl, by first | decide +kernel | rfl⟩⟩

/-- The hypotheses of `SwitchTablesComplete` can be met. -/
theorem test_switch_tables_complete_can_apply :
    (∃ (r : Request) (s : State), Clear cmdSwitchVlanSet r s) ∧
    (∃ (r : Request) (s : State), Clear cmdSwitchMacSet r s ∧ r.byte 8 = 0) ∧
    (∃ (r : Request) (s : State), Clear cmdSwitchMacSet r s ∧ r.byte 8 = 1 ∧ r.byte 9 < 16) ∧
    (∃ (r : Request) (s : State), Clear cmdSwitchEndpointSet r s ∧ r.byte 1 = 0) ∧
    (∃ (r : Request) (s : State), Clear cmdSwitchEndpointSet r s ∧ r.byte 1 ≠ 0 ∧ r.bit 3 0 = false ∧ vidList r = []) ∧
    (∃ (r : Request) (s : State), Clear cmdSwitchEndpointAttach r s ∧ r.byte 2 = 0 ∧ r.field 4 2 = 0xFFFF ∧
        Table.get 0 (s.endpointOf (r.byte 0)).txQueue (r.byte 1) = 0) ∧
    (∃ (r : Request) (s : State), Clear cmdSwitchEndpointAttach r s ∧ r.byte 2 = 1 ∧ r.field 4 2 < 0xFFFF ∧
        Table.get 0 (s.endpointOf (r.byte 0)).rxQueue (r.byte 1) = 0) ∧
    (∃ (r : Request) (s : State), Clear cmdSwitchStreamSet r s ∧ s.filterCarries (r.field 0 2) = true) ∧
    (∃ (r : Request) (s : State), Clear cmdSwitchStreamSet r s ∧ s.filterCarries (r.field 0 2) = false) ∧
    (∃ (r : Request) (s : State), Clear cmdSwitchFrerSet r s ∧ r.byte 2 = 2) ∧
    (∃ (r : Request) (s : State), Clear cmdSwitchMacsecSaSet r s) ∧
    (∃ (r : Request) (s : State), Clear cmdSwitchGptpSet r s) :=
  ⟨⟨(packetFor cmdSwitchVlanSet 0 [(0, 2, 4094), (2, 2, 3)]), running, ⟨by decide +kernel, by decide +kernel⟩⟩,
   ⟨(packetFor cmdSwitchMacSet 0 [(0, 6, 0x010000000002), (6, 2, 4094), (8, 1, 0), (9, 1, 0)]), running, ⟨by decide +kernel,
       by decide +kernel⟩, by first | decide +kernel | rfl⟩,
   ⟨(packetFor cmdSwitchMacSet 0 [(0, 6, 0x010000000002), (6, 2, 4094), (8, 1, 1), (9, 1, 14)]), running,
       ⟨by decide +kernel, by decide +kernel⟩, by first | decide +kernel | rfl, by first | decide +kernel | rfl⟩,
   ⟨(packetFor cmdSwitchEndpointSet 0 [(0, 1, 127)]), running, ⟨by decide +kernel, by decide +kernel⟩,
       by first | decide +kernel | rfl⟩,
   ⟨(packetFor cmdSwitchEndpointSet 0 [(0, 1, 127), (1, 1, 12), (2, 1, 63), (4, 6, 2)]), running, ⟨by decide +kernel,
       by decide +kernel⟩, by first | decide +kernel | rfl, by first | decide +kernel | rfl, by first | decide +kernel | rfl⟩,
   ⟨(packetFor cmdSwitchEndpointAttach 0 [(0, 1, 127), (1, 1, 7),
       (4, 2, 0xFFFF)]), running.mapEndpoint 127 fun e => { e with port := 12 }, ⟨by decide +kernel, by decide +kernel⟩,
       by first | decide +kernel | rfl, by first | decide +kernel | rfl, by first | decide +kernel | rfl⟩,
   ⟨(packetFor cmdSwitchEndpointAttach 0 [(0, 1, 127), (1, 1, 7), (2, 1, 1),
       (4, 2, 1023)]), running.mapEndpoint 127 fun e => { e with port := 12 }, ⟨by decide +kernel, by decide +kernel⟩,
       by first | decide +kernel | rfl, by first | decide +kernel | rfl, by first | decide +kernel | rfl⟩,
   ⟨(packetFor cmdSwitchStreamSet 0 [(0, 2, 1023)]), { running with flow := { running.flow with flows := [(5, { state := .admitted, decl := { path := [{ type := 1, qual := 0, inst := 1023 }] } })] } }, ⟨by decide +kernel, by decide +kernel⟩, by first | decide +kernel | rfl⟩,
   ⟨(packetFor cmdSwitchStreamSet 0 [(0, 2, 1023), (2, 1, 3), (12, 1, 127), (14, 2, 1)]), running, ⟨by decide +kernel,
       by decide +kernel⟩, by first | decide +kernel | rfl⟩,
   ⟨(packetFor cmdSwitchFrerSet 0 [(0, 2, 511), (2, 1, 2), (3, 1, 32), (4, 2, 1023), (6, 2, 1000)]), running,
       ⟨by decide +kernel, by decide +kernel⟩, by first | decide +kernel | rfl⟩,
   ⟨(packetFor cmdSwitchMacsecSaSet 0 [(0, 1, 1), (1, 1, 1), (2, 1, 15), (3, 1, 3),
       (4, 2, 511)]), running.mapSlot 511 fun k => { k with state := .ready, owners := 1, attr := 0x0A },
       ⟨by decide +kernel, by decide +kernel⟩⟩,
   ⟨(packetFor cmdSwitchGptpSet 0 [(0, 1, 1), (1, 1, 127), (2, 1, 11), (3, 1, 1)]), running, ⟨by decide +kernel,
       by decide +kernel⟩⟩⟩

/-- The hypotheses of `SwitchPortsComplete` can be met. -/
theorem test_switch_ports_complete_can_apply :
    (∃ (r : Request) (s : State), Clear cmdSwitchPortConfig r s ∧ r.byte 0 ≠ 0) ∧
    (∃ (r : Request) (s : State), Clear cmdSwitchQuotaSet r s) ∧
    (∃ (r : Request) (s : State), Clear cmdSwitchAccountQuery r s ∧ r.bit 1 0 = true) ∧
    (∃ (r : Request) (s : State), Clear cmdSwitchAccountQuery r s ∧ r.bit 1 0 = false) ∧
    (∃ (r : Request) (s s1 : State) (f : XFault), Clear cmdSwitchGateSet r s ∧
        s.read 0 (r.field 16 8) (8 * r.field 2 2) = (s1, .error f)) ∧
    (∃ (r : Request) (s s1 s2 : State) (w t : Nat), Clear cmdSwitchGateSet r s ∧ r.field 2 2 ≠ 0 ∧
        s.read 0 (r.field 16 8) (8 * r.field 2 2) = (s1, .ok w) ∧ gatesOk (r.field 2 2) w (r.field 4 4) = true ∧
        s1.gateInstant (r.byte 0) (r.field 8 8) (r.field 4 4) = some t ∧
        (s2 = (s1.mapSw (r.byte 0) fun x => { x with nextList := some (some { entries := gateEntries (r.field 2 2) w, cycle := r.field 4 4, base := t }), nextAt := t })) ∧ s2.promisesHold = true) ∧
    (∃ (p : Nat) (l : GateList) (s : State), (s.swOf p).nextList = some (some l) ∧ s.computeOn = true ∧ p < 15 ∧
        (s.swOf p).nextAt ≤ s.now ∧ s.furled (unitId 0x0C p) = false) ∧
    (∃ (p : Nat) (s : State), (s.swOf p).nextAt > s.now) ∧
    (∃ (p : Nat) (l : GateList) (s : State), (s.swOf p).gates = some l ∧ s.computeOn = true) ∧
    (∃ (r : Request) (s : State), Clear cmdSwitchShaperSet r s) ∧
    (∃ (r : Request) (s s1 : State), Clear cmdSwitchPreemptSet r s ∧
        (s1 = (s.mapSw (r.byte 0) fun x => { x with preempt := r.bit 2 7, express := r.byte 1, addFrag := r.bits 2 1 0, verifyMs := r.byte 3, preActive := x.preActive && r.bit 2 7, macHeld := x.macHeld && r.bit 2 7 }))) ∧
    (∃ (p : Nat) (s : State), s.computeOn = true ∧ p < 10 ∧ s.has 0 .framePreemption = true ∧ (s.swOf p).preempt = true ∧
        (s.ethOf p).link = .up) ∧
    (∃ (r : Request) (s : State), Clear cmdSwitchSampleSet r s ∧ s.sw.sampleQueue = 0) :=
  ⟨⟨(packetFor cmdSwitchPortConfig 0 [(0, 1, 14), (2, 2, 4094)]), running, ⟨by decide +kernel, by decide +kernel⟩,
      by first | decide +kernel | rfl⟩,
   ⟨(packetFor cmdSwitchQuotaSet 0 [(0, 1, 75), (2, 2, 100)]), running, ⟨by decide +kernel, by decide +kernel⟩⟩,
   ⟨(packetFor cmdSwitchAccountQuery 0 [(0, 1, 75), (1, 1, 1)]), running, ⟨by decide +kernel, by decide +kernel⟩,
       by first | decide +kernel | rfl⟩,
   ⟨(packetFor cmdSwitchAccountQuery 0 [(0, 1, 75)]), running, ⟨by decide +kernel, by decide +kernel⟩,
       by first | decide +kernel | rfl⟩,
   ⟨(packetFor cmdSwitchGateSet 0 [(0, 1, 14), (2, 2, 1), (4, 4, 64), (8, 8, 1000000), (16, 8, 0x1000)]), running, _, _,
       ⟨by decide +kernel, by decide +kernel⟩, rfl⟩,
   ⟨(packetFor cmdSwitchGateSet 0 [(0, 1, 14), (2, 2, 1), (4, 4, 64), (8, 8, 1000000),
       (16, 8, dram)]), { running with io := running.io.writePhys dram 4 64 }, _, _, 64, 1000000, ⟨by decide +kernel,
       by decide +kernel⟩, by first | rfl | decide +kernel, rfl, rfl, rfl, rfl, rfl⟩,
   ⟨14, { entries := [{ interval := 64, mask := 1 }], cycle := 64 },
       (State.mapSw (running) 14 fun x => { x with nextList := some (some { entries := [{ interval := 64, mask := 1 }], cycle := 64 }) }), by first | decide +kernel | rfl, by first | decide +kernel | rfl, by first | decide +kernel | rfl, by first | decide +kernel | rfl, by first | decide +kernel | rfl⟩,
   ⟨14, (State.mapSw (running) 14 fun x => { x with nextAt := 1 }), by first | decide +kernel | rfl⟩,
   ⟨14, { entries := [{ interval := 64, mask := 1 }], cycle := 64 },
       (State.mapSw (running) 14 fun x => { x with gates := some { entries := [{ interval := 64, mask := 1 }], cycle := 64 } }), by first | decide +kernel | rfl, by first | decide +kernel | rfl⟩,
   ⟨(packetFor cmdSwitchShaperSet 0 [(0, 1, 14), (1, 1, 7), (4, 4, 1000)]), running, ⟨by decide +kernel, by decide +kernel⟩⟩,
   ⟨(packetFor cmdSwitchPreemptSet 0 [(0, 1, 9), (2, 1, 0x80), (3, 1, 128)]), running, _, ⟨by decide +kernel,
       by decide +kernel⟩, rfl⟩,
   ⟨9, (State.mapSw ((State.mapEth (running) 9 fun e => { e with link := .up })) 9 fun x => { x with preempt := true }),
       by first | decide +kernel | rfl, by first | decide +kernel | rfl, by first | decide +kernel | rfl,
       by first | decide +kernel | rfl, by first | decide +kernel | rfl⟩,
   ⟨(packetFor cmdSwitchSampleSet 0 [(0, 1, 14), (1, 1, 1), (6, 2, 1023)]), running, ⟨by decide +kernel, by decide +kernel⟩,
       by first | decide +kernel | rfl⟩⟩

/-- The hypotheses of `FramesCrossTheSwitch` can be met. -/
theorem test_frames_cross_the_switch_can_apply :
    (∃ (p : Nat) (f : EthFrame) (s : State), s.computeOn = true ∧ p < 12 ∧ (s.ethOf p).link = .up ∧ s.portLive p = true) ∧
    (∃ (p : Nat) (f : EthFrame) (s s1 : State), f.fcsOk = false ∧
        (s1 = (s.mapEth p fun e => { e with fcsErrors := satAdd 32 e.fcsErrors 1 })) ∧
        s1.cutsThrough { port := p, srcEp := none, queueFlows := [], frame := plainFrame f, secured := false, at_ := s.now, stamp := s.now } = false) ∧
    (∃ (x : Entering) (s : State), bitOf (s.vlanOf (s.vidOf x.port x.frame)).member x.port = false) ∧
    (∃ (p : Nat) (f : EthFrame) (s : State), (s.ethOf p).link ≠ .up) ∧
    (∃ (q : QFrame) (s : State), s.canCharge q.account q.cells (if q.admitted then q.flows.head? else none) = false ∧
        ((s.sw.frozen = false ∨ q.admitted = true))) ∧
    (∃ (p : Nat) (q : QFrame) (rest : List QFrame) (s : State), s.computeOn = true ∧ p < 12 ∧
        s.stopped (unitId 0x0C p) = false ∧ (s.ethOf p).link ≠ .up ∧
        ((s.sw.queue.filter fun q => q.egress == p && !q.started) = q :: rest)) ∧
    (∃ (vid addr : Nat) (s : State), s.computeOn = true ∧ s.sw.frozen = false) ∧
    (∃ (s : State), s.computeOn = true ∧ s.stopped (unitId 0x0E 0) = false) ∧
    (∃ (s : State), s.computeOn = true ∧ s.sw.auditEnable = true ∧ s.sw.sweeping = false ∧
        s.sw.auditAt + s.sw.auditPeriod * 1000 ≤ s.now) ∧
    (∃ (s : State), s.computeOn = true ∧ s.sw.auditEnable = true ∧ s.sw.sweeping = false ∧
        s.sw.auditAt + s.sw.auditPeriod * 1000 ≤ s.now) ∧
    (∃ (cells : List Nat) (counts : Nat) (s : State), s.computeOn = true ∧ s.sw.sweeping = true ∧ s.sw.lastFind = none) ∧
    (∃ (s : State), s.windowOn 0 = true) ∧
    (∃ (p : Nat) (f : EthFrame) (s : State), s.computeOn = true ∧ s.absent = false ∧ s.sw.frozen = false ∧ p < 12 ∧
        (s.ethOf p).link = .up ∧ s.portLive p = true ∧ f.fcsOk = true ∧ f.ethType = 0x88F7#16) ∧
    (∃ (k : Nat) (s : State), s.computeOn = true ∧ k < 512 ∧ (s.frerOf (512 + k)).kind = 2 ∧
        (s.frerOf (512 + k)).latentMs ≠ 0 ∧ (s.frerOf (512 + k)).checkedAt + (s.frerOf (512 + k)).latentMs * 1000000 ≤ s.now) :=
  ⟨⟨1, someFrame 0x0800#16 true,
      (State.mapSw ((State.mapEth (running) 1 fun e => { e with link := .up })) 1 fun x => { x with enable := true }),
      by first | decide +kernel | rfl, by first | decide +kernel | rfl, by first | decide +kernel | rfl,
      by first | decide +kernel | rfl⟩,
   ⟨1, someFrame 0x0800#16 false, running, _, by first | rfl | decide +kernel, rfl, by first | rfl | decide +kernel⟩,
   ⟨{ port := 1, srcEp := none, queueFlows := [], frame := someFrame 0x0800#16 true, secured := false, at_ := 0, stamp := 0 }, running.mapSw 1 fun x => { x with pvid := 5 }, by first | decide +kernel | rfl⟩,
   ⟨1, someFrame 0x0800#16 true, running, by first | decide +kernel | rfl⟩,
   ⟨{ waitingFrame with account := 0, cells := 8193 }, running, by first | decide +kernel | rfl,
       by first | decide +kernel | rfl⟩,
   ⟨1, waitingFrame, [], { running with sw := { running.sw with queue := [waitingFrame] } },
       by first | decide +kernel | rfl, by first | decide +kernel | rfl, by first | decide +kernel | rfl,
       by first | decide +kernel | rfl, by first | decide +kernel | rfl⟩,
   ⟨1, 2, running, by first | decide +kernel | rfl, by first | decide +kernel | rfl⟩,
   ⟨running, by first | decide +kernel | rfl, by first | decide +kernel | rfl⟩,
   ⟨{ running with sw := { running.sw with auditEnable := true, auditAt := 0, auditPeriod := 0 } },
       by first | decide +kernel | rfl, by first | decide +kernel | rfl, by first | decide +kernel | rfl,
       by first | decide +kernel | rfl⟩,
   ⟨{ running with sw := { running.sw with auditEnable := true, auditAt := 0, auditPeriod := 0 } },
       by first | decide +kernel | rfl, by first | decide +kernel | rfl, by first | decide +kernel | rfl,
       by first | decide +kernel | rfl⟩,
   ⟨[], 0, { running with sw := { running.sw with sweeping := true } }, by first | decide +kernel | rfl,
       by first | decide +kernel | rfl, by first | decide +kernel | rfl⟩,
   ⟨running, by first | decide +kernel | rfl⟩,
   ⟨1, someFrame 0x88F7#16 true,
       (State.mapSw ((State.mapEth (running) 1 fun e => { e with link := .up })) 1 fun x => { x with enable := true }),
       by first | decide +kernel | rfl, by first | decide +kernel | rfl, by first | decide +kernel | rfl,
       by first | decide +kernel | rfl, by first | decide +kernel | rfl, by first | decide +kernel | rfl,
       by first | decide +kernel | rfl, by first | decide +kernel | rfl⟩,
   ⟨511, { runningAt 1000000000 with sw := { running.sw with frer := [(1023, { kind := 2, latentMs := 1000 })] } },
       by first | decide +kernel | rfl, by first | decide +kernel | rfl, by first | decide +kernel | rfl,
       by first | decide +kernel | rfl, by first | decide +kernel | rfl⟩⟩

/-- The hypotheses of `EthernetCommandsComplete` can be met. -/
theorem test_ethernet_commands_complete_can_apply :
    (∃ (r : Request) (s : State), Clear cmdEthPortConfig r s ∧ (s.ethOf (r.byte 0)).link = .disabled ∧ r.bit 1 0 = true) ∧
    (∃ (r : Request) (s : State), Clear cmdEthPortConfig r s ∧ (s.ethOf (r.byte 0)).link = .up ∧ r.bit 1 0 = false) ∧
    (∃ (r : Request) (s : State), Clear cmdEthLinkQuery r s) ∧
    (∃ (r : Request) (s : State), Clear cmdEthPlcaSet r s) ∧
    (∃ (r : Request) (s : State), Clear cmdEthTc10Sleep r s) ∧
    (∃ (r : Request) (s : State), Clear cmdEthTc10Wake r s) ∧
    (∃ (r : Request) (s : State), Clear cmdEthCableTest r s) ∧
    (∃ (r : Request) (s s2 : State), Clear cmdEthPortStats r s ∧ r.bit 1 0 = true ∧
        (s.lineErrors (r.byte 0)).write r.issuer (r.field 8 8) 64 ((s.lineErrors (r.byte 0)).ethOf (r.byte 0)).record = (s2, none)) ∧
    (∃ (r : Request) (s s2 : State) (f : XFault), Clear cmdEthPortStats r s ∧
        (s.lineErrors (r.byte 0)).write r.issuer (r.field 8 8) 64 ((s.lineErrors (r.byte 0)).ethOf (r.byte 0)).record = (s2, some f)) ∧
    (∃ (r : Request) (s : State), Clear cmdEthPhyMmdRead r s) :=
  ⟨⟨(packetFor cmdEthPortConfig 0 [(0, 1, 11), (1, 1, 1)]), running, ⟨by decide +kernel, by decide +kernel⟩,
      by first | decide +kernel | rfl, by first | decide +kernel | rfl⟩,
   ⟨(packetFor cmdEthPortConfig 0 [(0, 1, 11)]), (State.mapEth (running) 11 fun e => { e with link := .up, enable := true }),
       ⟨by decide +kernel, by decide +kernel⟩, by first | decide +kernel | rfl, by first | decide +kernel | rfl⟩,
   ⟨(packetFor cmdEthLinkQuery 0 [(0, 1, 11)]), running, ⟨by decide +kernel, by decide +kernel⟩⟩,
   ⟨(packetFor cmdEthPlcaSet 0 [(0, 1, 11), (1, 1, 1), (2, 1, 31), (4, 2, 255)]), running, ⟨by decide +kernel,
       by decide +kernel⟩⟩,
   ⟨(packetFor cmdEthTc10Sleep 0 [(0, 1, 9)]), (State.mapEth (running) 9 fun e => { e with link := .up, tc10 := true }),
       ⟨by decide +kernel, by decide +kernel⟩⟩,
   ⟨(packetFor cmdEthTc10Wake 0 [(0, 1, 9)]), (State.mapEth (running) 9 fun e => { e with link := .sleep, tc10 := true }),
       ⟨by decide +kernel, by decide +kernel⟩⟩,
   ⟨(packetFor cmdEthCableTest 0 [(0, 1, 11)]), running, ⟨by decide +kernel, by decide +kernel⟩⟩,
   ⟨(packetFor cmdEthPortStats 0 [(0, 1, 11), (1, 1, 1), (8, 8, dram)]), running, _, ⟨by decide +kernel, by decide +kernel⟩,
       by first | rfl | decide +kernel, rfl⟩,
   ⟨(packetFor cmdEthPortStats 0 [(0, 1, 11), (8, 8, 0x1000)]), running, _, _, ⟨by decide +kernel, by decide +kernel⟩, rfl⟩,
   ⟨(packetFor cmdEthPhyMmdRead 0 [(0, 1, 11), (1, 1, 7)]), running, ⟨by decide +kernel, by decide +kernel⟩⟩⟩

/-- The hypotheses of `LinkEventsComplete` can be met. -/
theorem test_link_events_complete_can_apply :
    (∃ (p : Nat) (s : State), s.computeOn = true ∧ (s.ethOf p).link = .training ∧ (s.wakeOf (0x20 + p)).windowOpen = false) ∧
    (∃ (p : Nat) (s : State), (s.ethOf p).link = .up ∧ p < 10) ∧
    (∃ (p : Nat) (s : State), 10 ≤ p) ∧
    (∃ (p : Nat) (s : State), (s.ethOf p).link = .up ∧ (s.ethOf p).sleepPending = true) ∧
    (∃ (p : Nat) (s : State), (s.ethOf p).link = .up ∧ (s.ethOf p).sleepPending = true ∧
        (s.ethOf p).sleepAt + 16000000 ≤ s.now) ∧
    (∃ (p : Nat) (s : State), (s.ethOf p).link = .up ∧ s.tc10On p = true ∧ s.absent = false ∧ (s.ethOf p).acceptSleep = true) ∧
    (∃ (p : Nat) (s : State), (s.ethOf p).link = .up ∧ s.tc10On p = true ∧ s.absent = true) ∧
    (∃ (p : Nat) (s : State), s.computeOn = true ∧ (s.ethOf p).link = .sleep) ∧
    (∃ (p result distance : Nat) (s : State), (s.ethOf p).link = .diag ∧ (s.ethOf p).enable = true) ∧
    (∃ (p result distance : Nat) (s : State), (s.ethOf p).link = .diag ∧ (s.ethOf p).enable = false) ∧
    (∃ (p : Nat) (s : State), (s.ethOf p).plca = true ∧ (s.ethOf p).nodeId ≠ 0 ∧ (s.ethOf p).plcaLost = false) ∧
    (∃ (p : Nat) (s : State), (s.ethOf p).plcaLost = true) :=
  ⟨⟨11, (State.mapEth (running) 11 fun e => { e with link := .training }), by first | decide +kernel | rfl,
      by first | decide +kernel | rfl, by first | decide +kernel | rfl⟩,
   ⟨9, (State.mapEth (running) 9 fun e => { e with link := .up }), by first | decide +kernel | rfl,
       by first | decide +kernel | rfl⟩,
   ⟨10, running, by first | decide +kernel | rfl⟩,
   ⟨9, (State.mapEth (running) 9 fun e => { e with link := .up, sleepPending := true }), by first | decide +kernel | rfl,
       by first | decide +kernel | rfl⟩,
   ⟨9, (State.mapEth (runningAt 16000000) 9 fun e => { e with link := .up, sleepPending := true }),
       by first | decide +kernel | rfl, by first | decide +kernel | rfl, by first | decide +kernel | rfl⟩,
   ⟨9, (State.mapEth (running) 9 fun e => { e with link := .up, tc10 := true, acceptSleep := true }),
       by first | decide +kernel | rfl, by first | decide +kernel | rfl, by first | decide +kernel | rfl,
       by first | decide +kernel | rfl⟩,
   ⟨9, (State.mapEth (running.mapMasthead fun m => { m with present := false }) 9 fun e => { e with link := .up, tc10 := true }), by first | decide +kernel | rfl, by first | decide +kernel | rfl, by first | decide +kernel | rfl⟩,
   ⟨9, (State.mapEth (running) 9 fun e => { e with link := .sleep }), by first | decide +kernel | rfl,
       by first | decide +kernel | rfl⟩,
   ⟨11, 1, 7, (State.mapEth (running) 11 fun e => { e with link := .diag, enable := true }),
       by first | decide +kernel | rfl, by first | decide +kernel | rfl⟩,
   ⟨11, 1, 7, (State.mapEth (running) 11 fun e => { e with link := .diag }), by first | decide +kernel | rfl,
       by first | decide +kernel | rfl⟩,
   ⟨11, (State.mapEth (running) 11 fun e => { e with plca := true, nodeId := 1 }), by first | decide +kernel | rfl,
       by first | decide +kernel | rfl, by first | decide +kernel | rfl⟩,
   ⟨11, (State.mapEth (running) 11 fun e => { e with plcaLost := true }), by first | decide +kernel | rfl⟩⟩

/-- The hypotheses of `CanCommandsComplete` can be met. -/
theorem test_can_commands_complete_can_apply :
    (∃ (r : Request) (s : State), Clear cmdCanChannelConfig r s ∧ (s.canOf (r.byte 0)).state = .disabled ∧ r.bit 1 0 = true) ∧
    (∃ (r : Request) (s : State), Clear cmdCanObjectConfig r s) ∧
    (∃ (r : Request) (s : State), Clear cmdCanObjectAttach r s ∧ r.field 2 2 = 0xFFFF) ∧
    (∃ (r : Request) (s : State), Clear cmdCanObjectAttach r s ∧ r.field 2 2 ≠ 0xFFFF ∧ (s.objOf (r.field 0 2)).queue = none) ∧
    (∃ (r : Request) (s : State), Clear cmdCanChannelQuery r s ∧ r.bit 1 0 = false) ∧
    (∃ (r : Request) (s : State), Clear cmdCanChannelRecover r s) ∧
    (∃ (r : Request) (s : State), Clear cmdCanObjectQuery r s ∧ r.bit 2 0 = true) ∧
    (∃ (r : Request) (s : State), Clear cmdCanGangSet r s ∧ r.byte 32 = 1 ∧
        (Table.get {} s.time.canGangs (r.byte 0)).running = false) :=
  ⟨⟨(packetFor cmdCanChannelConfig 0 [(0, 1, 11), (1, 1, 1), (4, 1, 1), (5, 1, 16), (6, 2, 63), (8, 1, 16)]), running,
      ⟨by decide +kernel, by decide +kernel⟩, by first | decide +kernel | rfl, by first | decide +kernel | rfl⟩,
   ⟨(packetFor cmdCanObjectConfig 0 [(0, 2, 1535), (2, 1, 1), (4, 1, 1), (6, 1, 0xFF), (7, 1, 0xFF),
       (8, 4, 0x3FFFFFFF)]), running, ⟨by decide +kernel, by decide +kernel⟩⟩,
   ⟨(packetFor cmdCanObjectAttach 0 [(0, 2, 1535), (2, 2, 0xFFFF)]), running, ⟨by decide +kernel, by decide +kernel⟩,
       by first | decide +kernel | rfl⟩,
   ⟨(packetFor cmdCanObjectAttach 0 [(0, 2, 1535), (2, 2, 1023)]), running, ⟨by decide +kernel, by decide +kernel⟩,
       by first | decide +kernel | rfl, by first | decide +kernel | rfl⟩,
   ⟨(packetFor cmdCanChannelQuery 0 [(0, 1, 11)]), running, ⟨by decide +kernel, by decide +kernel⟩,
       by first | decide +kernel | rfl⟩,
   ⟨(packetFor cmdCanChannelRecover 0 [(0, 1, 11)]),
       (State.mapCan (running) 11 fun x => { x with enable := true, state := .busOff }), ⟨by decide +kernel,
       by decide +kernel⟩⟩,
   ⟨(packetFor cmdCanObjectQuery 0 [(0, 2, 1535), (2, 1, 1)]), running, ⟨by decide +kernel, by decide +kernel⟩,
       by first | decide +kernel | rfl⟩,
   ⟨(packetFor cmdCanGangSet 0 [(0, 1, 31), (1, 1, 1), (4, 4, 1000000), (8, 8, 5), (16, 1, 11), (24, 1, 255),
       (32, 1, 1)]), running, ⟨by decide +kernel, by decide +kernel⟩, by first | decide +kernel | rfl,
       by first | decide +kernel | rfl⟩⟩

/-- The hypotheses of `CanTrafficCompletes` can be met. -/
theorem test_can_traffic_completes_can_apply :
    (∃ (c : Nat) (s : State), s.computeOn = true ∧ (s.canOf c).state = .integrating ∧ (s.canOf c).mode ≠ 1) ∧
    (∃ (c : Nat) (s : State), s.computeOn = true ∧ (s.canOf c).state = .recovering) ∧
    (∃ (c : Nat) (f : CanFrame) (s : State), s.computeOn = true ∧ (s.wakeOf c).windowOpen = false ∧
        (s.canOf c).state = .errorActive ∧ f.format.val ≤ (s.canOf c).format ∧ ((f.format.val = 1 → (s.canOf c).tms = false)) ∧
        (s.canOf c).tec ≤ 127 ∧ (s.canOf c).rec_ ≤ 127 ∧ ((∀ o ∈ s.channelObjects c, (s.objOf o).accepts f = false))) ∧
    (∃ (c : Nat) (k : Fin 7) (s : State), s.computeOn = true ∧ (s.canOf c).state = .errorActive ∧ (s.canOf c).mode = 0 ∧
        (s.canOf c).tec ≤ 127 ∧ (s.canOf c).rec_ < 127) ∧
    (∃ (c start o : Nat) (x : CanTx) (s : State), s.computeOn = true ∧ start ≤ s.now ∧ (s.canOf c).state = .errorActive ∧
        (s.canOf c).mode = 0 ∧ (s.canOf c).tec ≤ 255 ∧ s.offered c start = some o ∧ (s.objOf o).tx = some x) ∧
    (∃ (c start o : Nat) (x : CanTx) (s : State), s.computeOn = true ∧ start ≤ s.now ∧ (s.canOf c).state = .errorActive ∧
        (s.canOf c).mode = 0 ∧ s.offered c start = some o ∧ (s.objOf o).tx = some x ∧ (s.objOf o).abort = false ∧
        (s.objOf o).oneShot = false) ∧
    (∃ (o t : Nat) (s : State), s.computeOn = true ∧ (s.objOf o).armedAt = some t ∧ t ≤ s.now ∧
        s.quiescing (s.owner kindCan o) = true) ∧
    (∃ (o t : Nat) (s : State), s.computeOn = true ∧ (s.objOf o).armedAt = some t ∧ t ≤ s.now ∧
        s.quiescing (s.owner kindCan o) = false) ∧
    (∃ (c t : Nat) (s : State), nextInstant s.time.canGangs .can c s.now = some t ∧ s.computeOn = true ∧ t ≤ s.now ∧
        s.channelObjects c = []) ∧
    (∃ (c : Nat) (s : State), s.computeOn = true ∧ c < 12 ∧ (s.canOf c).transceiver = .normal) :=
  ⟨⟨11, (State.mapCan (running) 11 fun x => { x with state := .integrating }), by first | decide +kernel | rfl,
      by first | decide +kernel | rfl, by first | decide +kernel | rfl⟩,
   ⟨11, (State.mapCan (running) 11 fun x => { x with state := .recovering }), by first | decide +kernel | rfl,
       by first | decide +kernel | rfl⟩,
   ⟨11, { format := 0, ide := false, id := 0x7FF#29, brs := false, esi := false, rtr := false, reqLen := 0, sec := false, sdt := 0#8, vcid := 0#8, af := 0#32, payload := [1] }, (State.mapCan (running) 11 fun x => { x with enable := true, state := .errorActive }), by first | decide +kernel | rfl, by first | decide +kernel | rfl, by first | decide +kernel | rfl, by first | decide +kernel | rfl, by first | decide +kernel | rfl, by first | decide +kernel | rfl, by first | decide +kernel | rfl, by first | decide +kernel | rfl⟩,
   ⟨11, 6, (State.mapCan (running) 11 fun x => { x with state := .errorActive, tec := 127, rec_ := 126 }),
       by first | decide +kernel | rfl, by first | decide +kernel | rfl, by first | decide +kernel | rfl,
       by first | decide +kernel | rfl, by first | decide +kernel | rfl⟩,
   ⟨11, 0, 1535, { frame := { format := 0, ide := false, id := 0x7FF#29, brs := false, esi := false, rtr := false, reqLen := 0, sec := false, sdt := 0#8, vcid := 0#8, af := 0#32, payload := [1] }, releasedAt := 0, joinedAt := some 0, stampError := 0 }, (State.mapObj ((State.mapCan (running) 11 fun x => { x with enable := true, state := .errorActive })) 1535 fun x => { x with direction := 2, pending := true, tx := some ({ frame := { format := 0, ide := false, id := 0x7FF#29, brs := false, esi := false, rtr := false, reqLen := 0, sec := false, sdt := 0#8, vcid := 0#8, af := 0#32, payload := [1] }, releasedAt := 0, joinedAt := some 0, stampError := 0 }) }), by first | decide +kernel | rfl, by first | decide +kernel | rfl, by first | decide +kernel | rfl, by first | decide +kernel | rfl, by first | decide +kernel | rfl, by first | decide +kernel | rfl, by first | decide +kernel | rfl⟩,
   ⟨11, 0, 1535, { frame := { format := 0, ide := false, id := 0x7FF#29, brs := false, esi := false, rtr := false, reqLen := 0, sec := false, sdt := 0#8, vcid := 0#8, af := 0#32, payload := [1] }, releasedAt := 0, joinedAt := some 0, stampError := 0 }, (State.mapObj ((State.mapCan (running) 11 fun x => { x with enable := true, state := .errorActive })) 1535 fun x => { x with direction := 2, pending := true, tx := some ({ frame := { format := 0, ide := false, id := 0x7FF#29, brs := false, esi := false, rtr := false, reqLen := 0, sec := false, sdt := 0#8, vcid := 0#8, af := 0#32, payload := [1] }, releasedAt := 0, joinedAt := some 0, stampError := 0 }) }), by first | decide +kernel | rfl, by first | decide +kernel | rfl, by first | decide +kernel | rfl, by first | decide +kernel | rfl, by first | decide +kernel | rfl, by first | decide +kernel | rfl, by first | decide +kernel | rfl, by first | decide +kernel | rfl⟩,
   ⟨1535, 0, { (State.mapObj (running) 1535 fun x => { x with armedAt := some 0 }) with io := { running.io with parts := [(0, { state := .quiescing })] } }, by first | decide +kernel | rfl, by first | decide +kernel | rfl, by first | decide +kernel | rfl, by first | decide +kernel | rfl⟩,
   ⟨1535, 0, (State.mapObj (running) 1535 fun x => { x with armedAt := some 0 }), by first | decide +kernel | rfl,
       by first | decide +kernel | rfl, by first | decide +kernel | rfl, by first | decide +kernel | rfl⟩,
   ⟨11, 0, { running with time := { running.time with canGangs := [(31, { running := true, block := { period := 1000, anchor := 0, members := [{ member := 11, units := 0, nextK := 0 }] } })] } }, by first | decide +kernel | rfl, by first | decide +kernel | rfl, by first | decide +kernel | rfl, by first | decide +kernel | rfl⟩,
   ⟨11, (State.mapCan (running) 11 fun x => { x with transceiver := .normal }), by first | decide +kernel | rfl,
       by first | decide +kernel | rfl, by first | decide +kernel | rfl⟩⟩

/-- The hypotheses of `CanWindowCompletes` can be met. -/
theorem test_can_window_completes_can_apply :
    (∃ (p o : Nat) (s : State), s.slotSeen p o = true ∧ (s.objOf o).direction = 1) ∧
    (∃ (p o : Nat) (s : State), s.slotSeen p o = true ∧ s.quiescing p = false ∧ s.furled (unitId 0x10 (o / 128)) = false ∧
        (s.objOf o).direction = 2 ∧ (s.objOf o).pending = true) ∧
    (∃ (p o : Nat) (s : State), s.slotSeen p o = true ∧ s.quiescing p = false ∧ s.furled (unitId 0x10 (o / 128)) = false ∧
        (s.objOf o).direction = 2 ∧ (s.objOf o).pending = false ∧ (s.objOf o).queue = none ∧ (s.objOf o).tt = 2) ∧
    (∃ (p o : Nat) (s : State), s.slotSeen p o = true ∧ s.quiescing p = false ∧ s.furled (unitId 0x10 (o / 128)) = false ∧
        (s.objOf o).direction = 2 ∧ (s.objOf o).pending = true) ∧
    (∃ (p o : Nat) (b : CanRxBuf) (s : State), s.slotSeen p o = true ∧ s.quiescing p = false ∧
        s.furled (unitId 0x10 (o / 128)) = false ∧ (s.objOf o).direction = 1 ∧ (s.objOf o).queue = none ∧
        (s.objOf o).shadow = some b) ∧
    (∃ (p o : Nat) (s : State), s.slotSeen p o = true ∧ s.quiescing p = false ∧ s.furled (unitId 0x10 (o / 128)) = false ∧
        (s.objOf o).direction = 1 ∧ (s.objOf o).queue = none ∧ (s.objOf o).shadow = none) ∧
    (∃ (p o : Nat) (s : State), s.slotSeen p o = false) ∧
    (∃ (p o : Nat) (s : State), s.slotSeen p o = true ∧ s.quiescing p = true) :=
  ⟨⟨1, 1535, { (State.mapObj (running) 1535 fun x => { x with slot := some 191, direction := 1 }) with io := { running.io with windows := [(1, { accept := allFeatures, committed := true })] }, owners := [(kindCan * 65536 + 1535, 1)] }, by first | decide +kernel | rfl, by first | decide +kernel | rfl⟩,
   ⟨1, 1535, { (State.mapObj (running) 1535 fun x => { x with slot := some 191, direction := 2, pending := true }) with io := { running.io with windows := [(1, { accept := allFeatures, committed := true })] }, owners := [(kindCan * 65536 + 1535, 1)] }, by first | decide +kernel | rfl, by first | decide +kernel | rfl, by first | decide +kernel | rfl, by first | decide +kernel | rfl, by first | decide +kernel | rfl⟩,
   ⟨1, 1535, { (State.mapObj (running) 1535 fun x => { x with slot := some 191, direction := 2, tt := 2 }) with io := { running.io with windows := [(1, { accept := allFeatures, committed := true })] }, owners := [(kindCan * 65536 + 1535, 1)] }, by first | decide +kernel | rfl, by first | decide +kernel | rfl, by first | decide +kernel | rfl, by first | decide +kernel | rfl, by first | decide +kernel | rfl, by first | decide +kernel | rfl, by first | decide +kernel | rfl⟩,
   ⟨1, 1535, { (State.mapObj (running) 1535 fun x => { x with slot := some 191, direction := 2, pending := true }) with io := { running.io with windows := [(1, { accept := allFeatures, committed := true })] }, owners := [(kindCan * 65536 + 1535, 1)] }, by first | decide +kernel | rfl, by first | decide +kernel | rfl, by first | decide +kernel | rfl, by first | decide +kernel | rfl, by first | decide +kernel | rfl⟩,
   ⟨1, 1535, { frame := { format := 0, ide := false, id := 0x7FF#29, brs := false, esi := false, rtr := false, reqLen := 0, sec := false, sdt := 0#8, vcid := 0#8, af := 0#32, payload := [1] }, time := 7, buf := 0, checkFail := false }, { (State.mapObj (running) 1535 fun x => { x with slot := some 191, direction := 1, shadow := some ({ frame := { format := 0, ide := false, id := 0x7FF#29, brs := false, esi := false, rtr := false, reqLen := 0, sec := false, sdt := 0#8, vcid := 0#8, af := 0#32, payload := [1] }, time := 7, buf := 0, checkFail := false }) }) with io := { running.io with windows := [(1, { accept := allFeatures, committed := true })] }, owners := [(kindCan * 65536 + 1535, 1)] }, by first | decide +kernel | rfl, by first | decide +kernel | rfl, by first | decide +kernel | rfl, by first | decide +kernel | rfl, by first | decide +kernel | rfl, by first | decide +kernel | rfl⟩,
   ⟨1, 1535, { (State.mapObj (running) 1535 fun x => { x with slot := some 191, direction := 1 }) with io := { running.io with windows := [(1, { accept := allFeatures, committed := true })] }, owners := [(kindCan * 65536 + 1535, 1)] }, by first | decide +kernel | rfl, by first | decide +kernel | rfl, by first | decide +kernel | rfl, by first | decide +kernel | rfl, by first | decide +kernel | rfl, by first | decide +kernel | rfl⟩,
   ⟨1, 1536, running, by first | decide +kernel | rfl⟩,
   ⟨1, 1535, { (State.mapObj (running) 1535 fun x => { x with slot := some 191 }) with io := { running.io with windows := [(1, { accept := allFeatures, committed := true })], parts := [(1, { state := .quiescing })] }, owners := [(kindCan * 65536 + 1535, 1)] }, by first | decide +kernel | rfl, by first | decide +kernel | rfl⟩⟩

/-- The hypotheses of `LinChannelsComplete` can be met. -/
theorem test_lin_channels_complete_can_apply :
    (∃ (r : Request) (s : State), Clear cmdLinChannelConfig r s) ∧
    (∃ (r : Request) (s s1 : State) (f : XFault), Clear cmdLinScheduleSet r s ∧
        s.read r.issuer (r.field 8 8) (4 * r.byte 1) = (s1, .error f)) ∧
    (∃ (r : Request) (s s1 : State) (w : Nat) (l : List LinEntry), Clear cmdLinScheduleSet r s ∧
        s.read r.issuer (r.field 8 8) (4 * r.byte 1) = (s1, .ok w) ∧
        readTable w (r.byte 1) (s1.linOf (r.byte 0)).commander (s1.linOf (r.byte 0)).bitRate = some l ∧
        s1.tableConflict (r.byte 0) l = false ∧ (s1.linOf (r.byte 0)).running = true) ∧
    (∃ (r : Request) (s s1 : State) (w : Nat) (l : List LinEntry), Clear cmdLinScheduleSet r s ∧
        s.read r.issuer (r.field 8 8) (4 * r.byte 1) = (s1, .ok w) ∧
        readTable w (r.byte 1) (s1.linOf (r.byte 0)).commander (s1.linOf (r.byte 0)).bitRate = some l ∧
        s1.tableConflict (r.byte 0) l = true) ∧
    (∃ (r : Request) (s : State), Clear cmdLinFrameWrite r s) ∧
    (∃ (r : Request) (s : State), Clear cmdLinFrameRead r s) ∧
    (∃ (r : Request) (s : State), Clear cmdLinBusControl r s ∧ r.byte 1 = 0 ∧ (s.linOf (r.byte 0)).running = false) ∧
    (∃ (r : Request) (s : State), Clear cmdLinBusControl r s ∧ r.byte 1 = 1 ∧ (s.linOf (r.byte 0)).commander = false) ∧
    (∃ (c : Nat) (s : State), s.computeOn = true ∧ (s.linOf c).enable = true ∧ (s.linOf c).commander = true ∧
        (s.linOf c).running = true ∧ (s.linOf c).slotAt ≤ s.now ∧ (s.linOf c).inFrame = false ∧ (s.linOf c).stopAfter = true) ∧
    (∃ (c : Nat) (s : State), s.computeOn = true ∧ (s.linOf c).enable = true ∧ (s.linOf c).commander = true ∧
        (s.linOf c).running = true ∧ (s.linOf c).slotAt ≤ s.now ∧ (s.linOf c).inFrame = false ∧ (s.linOf c).stopAfter = false ∧
        (s.linOf c).entry + 1 < (s.linOf c).table.length ∧ (s.linOf c).sleepAfter = false ∧ (s.linOf c).nextTable = none ∧
        (s.linOf c).dirOf (s.linOf c).entry = 2) ∧
    (∃ (c id q : Nat) (s : State), s.computeOn = true ∧ (s.wakeOf (0x10 + c)).windowOpen = false ∧ (s.linOf c).enable = true ∧
        (s.linOf c).commander = false ∧ s.furled (unitId 0x11 c) = false ∧ (s.linOf c).inFrame = false ∧
        ((s.linOf c).table.findIdx? (fun e => e.id == id) = some q) ∧ (s.linOf c).dirOf q = 2) ∧
    (∃ (c : Nat) (e : LinEntry) (data : List Byte) (sum : Byte) (s : State), s.computeOn = true ∧ (s.linOf c).enable = true ∧
        s.furled (unitId 0x11 c) = false ∧ (s.linOf c).inFrame = true ∧ (s.linOf c).table[(s.linOf c).current]? = some e ∧
        (s.linOf c).frameAt ≤ s.now ∧ s.now ≤ (s.linOf c).frameAt + linTMaxNs e.length (s.linOf c).bitRate ∧
        data.length = e.length ∧ linChecksum e.enhanced e.id data = sum.toNat ∧ s.linFlows c (s.linOf c).current = []) ∧
    (∃ (c : Nat) (e : LinEntry) (data : List Byte) (sum : Byte) (s : State), s.computeOn = true ∧ (s.linOf c).enable = true ∧
        s.furled (unitId 0x11 c) = false ∧ (s.linOf c).inFrame = true ∧ (s.linOf c).table[(s.linOf c).current]? = some e ∧
        (s.linOf c).frameAt ≤ s.now ∧ s.now ≤ (s.linOf c).frameAt + linTMaxNs e.length (s.linOf c).bitRate ∧
        data.length = e.length ∧ linChecksum e.enhanced e.id data ≠ sum.toNat) ∧
    (∃ (c : Nat) (e : LinEntry) (s : State), s.computeOn = true ∧ (s.linOf c).inFrame = true ∧
        (s.linOf c).table[(s.linOf c).current]? = some e ∧
        (s.linOf c).frameAt + linTMaxNs e.length (s.linOf c).bitRate ≤ s.now) ∧
    (∃ (c : Nat) (s : State), s.computeOn = true ∧ (s.linOf c).enable = true ∧ (s.linOf c).inFrame = false ∧
        s.furled (unitId 0x11 c) = false) ∧
    (∃ (c at_ : Nat) (s : State), (s.linOf c).restartAt = some at_ ∧ at_ ≤ s.now ∧ s.computeOn = true ∧
        s.quiescing (s.owner kindLin c) = false ∧ (s.linOf c).nextTable = none) :=
  ⟨⟨(packetFor cmdLinChannelConfig 0 [(0, 1, 7), (1, 1, 3), (2, 1, 31), (4, 2, 20000)]), running, ⟨by decide +kernel,
      by decide +kernel⟩⟩,
   ⟨(packetFor cmdLinScheduleSet 0 [(0, 1, 7), (1, 1, 1), (8, 8, 0x1000)]), running, _, _, ⟨by decide +kernel,
       by decide +kernel⟩, rfl⟩,
   ⟨(packetFor cmdLinScheduleSet 0 [(0, 1, 7), (1, 1, 1),
       (8, 8, dram)]), { (State.mapLin (running) 7 fun x => { x with enable := true, commander := true, running := true, bitRate := 20000 }) with io := running.io.writePhys dram 4 0xFF18023F }, _, _, [{ id := 63, dir := 2, length := 8, enhanced := true, int := false, delayMs := 255 }], ⟨by decide +kernel, by decide +kernel⟩, rfl, rfl, by first | rfl | decide +kernel, by first | rfl | decide +kernel⟩,
   ⟨(packetFor cmdLinScheduleSet 0 [(0, 1, 7), (1, 1, 1),
       (8, 8, dram)]), { { (State.mapLin (running) 7 fun x => { x with enable := true, commander := true, bitRate := 20000 }) with flow := { running.flow with flows := [(5, { state := .admitted, decl := { path := [{ type := rLin, inst := 7, qual := 1 }] } })] } } with io := running.io.writePhys dram 4 0xFF18023F }, _, _, [{ id := 63, dir := 2, length := 8, enhanced := true, int := false, delayMs := 255 }], ⟨by decide +kernel, by decide +kernel⟩, rfl, rfl, by first | rfl | decide +kernel⟩,
   ⟨(packetFor cmdLinFrameWrite 0 [(0, 1, 7), (8, 8, 1)]),
       (State.mapLin (running) 7 fun x => { x with enable := true, bitRate := 20000, table := [{ id := 63, dir := 1, length := 8, enhanced := true, int := false, delayMs := 255 }] }), ⟨by decide +kernel, by decide +kernel⟩⟩,
   ⟨(packetFor cmdLinFrameRead 0 [(0, 1, 7)]),
       (State.mapLin (running) 7 fun x => { x with enable := true, bitRate := 20000, table := [{ id := 63, dir := 2, length := 8, enhanced := true, int := false, delayMs := 255 }] }), ⟨by decide +kernel, by decide +kernel⟩⟩,
   ⟨(packetFor cmdLinBusControl 0 [(0, 1, 7)]),
       (State.mapLin (running) 7 fun x => { x with enable := true, commander := true }), ⟨by decide +kernel,
       by decide +kernel⟩, by first | decide +kernel | rfl, by first | decide +kernel | rfl⟩,
   ⟨(packetFor cmdLinBusControl 0 [(0, 1, 7), (1, 1, 1)]), (State.mapLin (running) 7 fun x => { x with enable := true }),
       ⟨by decide +kernel, by decide +kernel⟩, by first | decide +kernel | rfl, by first | decide +kernel | rfl⟩,
   ⟨7, (State.mapLin (running) 7 fun x => { x with enable := true, commander := true, running := true, bitRate := 20000, table := [{ id := 63, dir := 2, length := 8, enhanced := true, int := false, delayMs := 255 }], stopAfter := true }), by first | decide +kernel | rfl, by first | decide +kernel | rfl, by first | decide +kernel | rfl, by first | decide +kernel | rfl, by first | decide +kernel | rfl, by first | decide +kernel | rfl, by first | decide +kernel | rfl⟩,
   ⟨7, (State.mapLin (running) 7 fun x => { x with enable := true, commander := true, running := true, bitRate := 20000, table := [{ id := 63, dir := 2, length := 8, enhanced := true, int := false, delayMs := 255 }, { id := 63, dir := 2, length := 8, enhanced := true, int := false, delayMs := 255 }] }), by first | decide +kernel | rfl, by first | decide +kernel | rfl, by first | decide +kernel | rfl, by first | decide +kernel | rfl, by first | decide +kernel | rfl, by first | decide +kernel | rfl, by first | decide +kernel | rfl, by first | decide +kernel | rfl, by first | decide +kernel | rfl, by first | decide +kernel | rfl, by first | decide +kernel | rfl⟩,
   ⟨7, 63, 0,
       (State.mapLin (running) 7 fun x => { x with enable := true, bitRate := 20000, table := [{ id := 63, dir := 2, length := 8, enhanced := true, int := false, delayMs := 255 }] }), by first | decide +kernel | rfl, by first | decide +kernel | rfl, by first | decide +kernel | rfl, by first | decide +kernel | rfl, by first | decide +kernel | rfl, by first | decide +kernel | rfl, by first | decide +kernel | rfl, by first | decide +kernel | rfl⟩,
   ⟨7, { id := 63, dir := 2, length := 8, enhanced := true, int := false, delayMs := 255 }, List.replicate 8 0,
       (BitVec.ofNat 8 (linChecksum true 63 (List.replicate 8 0))),
       (State.mapLin (running) 7 fun x => { x with enable := true, bitRate := 20000, table := [{ id := 63, dir := 2, length := 8, enhanced := true, int := false, delayMs := 255 }], inFrame := true }), by first | decide +kernel | rfl, by first | decide +kernel | rfl, by first | decide +kernel | rfl, by first | decide +kernel | rfl, by first | decide +kernel | rfl, by first | decide +kernel | rfl, by first | decide +kernel | rfl, by first | decide +kernel | rfl, by first | decide +kernel | rfl, by first | decide +kernel | rfl⟩,
   ⟨7, { id := 63, dir := 2, length := 8, enhanced := true, int := false, delayMs := 255 }, List.replicate 8 0,
       (BitVec.ofNat 8 (linChecksum true 63 (List.replicate 8 0)) + 1),
       (State.mapLin (running) 7 fun x => { x with enable := true, bitRate := 20000, table := [{ id := 63, dir := 2, length := 8, enhanced := true, int := false, delayMs := 255 }], inFrame := true }), by first | decide +kernel | rfl, by first | decide +kernel | rfl, by first | decide +kernel | rfl, by first | decide +kernel | rfl, by first | decide +kernel | rfl, by first | decide +kernel | rfl, by first | decide +kernel | rfl, by first | decide +kernel | rfl, by first | decide +kernel | rfl⟩,
   ⟨7, { id := 63, dir := 2, length := 8, enhanced := true, int := false, delayMs := 255 },
       (State.mapLin (runningAt 10000000) 7 fun x => { x with bitRate := 20000, table := [{ id := 63, dir := 2, length := 8, enhanced := true, int := false, delayMs := 255 }], inFrame := true }), by first | decide +kernel | rfl, by first | decide +kernel | rfl, by first | decide +kernel | rfl, by first | decide +kernel | rfl⟩,
   ⟨7, (State.mapLin (running) 7 fun x => { x with enable := true }), by first | decide +kernel | rfl,
       by first | decide +kernel | rfl, by first | decide +kernel | rfl, by first | decide +kernel | rfl⟩,
   ⟨7, 0, (State.mapLin (running) 7 fun x => { x with restartAt := some 0 }), by first | decide +kernel | rfl,
       by first | decide +kernel | rfl, by first | decide +kernel | rfl, by first | decide +kernel | rfl,
       by first | decide +kernel | rfl⟩⟩

/-- The hypotheses of `LocalPortsComplete` can be met. -/
theorem test_local_ports_complete_can_apply :
    (∃ (r : Request) (s : State), Clear cmdLocalPortConfig r s ∧ isUart (r.byte 0) = false ∧
        (s.portOf (r.byte 0)).txQueue = 0 ∧ (s.portOf (r.byte 0)).rxQueue = 0 ∧ r.bit 1 0 = true) ∧
    (∃ (r : Request) (s s1 : State) (w : Nat), Clear cmdLocalTransfer r s ∧
        s.read r.issuer (r.field 8 8) (r.field 2 2) = (s1, .ok w)) ∧
    (∃ (r : Request) (s s1 : State) (f : XFault), Clear cmdLocalTransfer r s ∧
        s.read r.issuer (r.field 8 8) (r.field 2 2) = (s1, .error f)) ∧
    (∃ (i : Nat) (x : Transfer) (data : List Byte) (s s1 : State), (s.portOf i).transfer = some x ∧ s.computeOn = true ∧
        data.length = x.readLen ∧ s.write (s.owner kindPort i) x.readBuf x.readLen (ofBytes data) = (s1, none)) ∧
    (∃ (x : Transfer) (data : List Byte) (s : State), (s.portOf 1).transfer = some x ∧ s.computeOn = true) ∧
    (∃ (r : Request) (s : State), Clear cmdLocalGpioSet r s) ∧
    (∃ (r : Request) (s : State), Clear cmdLocalGpioGet r s) ∧
    (∃ (g : Nat) (level : Bool) (s : State), s.computeOn = true ∧ g < 6 ∧ (s.portOf (4 + g)).pinLevel = !level ∧
        bitOf (s.portOf (4 + g)).edge (if level then 0 else 1) = false) ∧
    (∃ (p : Nat) (b : Byte) (s : State), s.computeOn = true ∧ isUart p = true ∧ (s.portOf p).enable = true ∧
        s.furled (unitId 0x12 p) = false) ∧
    (∃ (p : Nat) (s : State), s.computeOn = true ∧ isUart p = true ∧ (s.portOf p).enable = true ∧ (s.portOf p).rxQueue ≠ 0 ∧
        (s.queueOf ((s.portOf p).rxQueue - 1)).collected ≠ [] ∧
        (s.portOf p).lastByte * (s.portOf p).rate + 30000000000 ≤ s.now * (s.portOf p).rate) :=
  ⟨⟨(packetFor cmdLocalPortConfig 0 [(0, 1, 9), (1, 1, 1), (7, 1, 255), (8, 2, 0xFFFF), (10, 2, 0xFFFF), (12, 1, 31),
      (13, 1, 3)]), running, ⟨by decide +kernel, by decide +kernel⟩, by first | decide +kernel | rfl,
      by first | decide +kernel | rfl, by first | decide +kernel | rfl, by first | decide +kernel | rfl⟩,
   ⟨(packetFor cmdLocalTransfer 0 [(0, 1, 1), (1, 1, 127), (2, 2, 1), (8, 8, dram)]),
       (State.mapPort (running) 1 fun x => { x with enable := true }), _, _, ⟨by decide +kernel, by decide +kernel⟩, rfl⟩,
   ⟨(packetFor cmdLocalTransfer 0 [(0, 1, 1), (1, 1, 127), (2, 2, 1), (8, 8, 0x1000)]),
       (State.mapPort (running) 1 fun x => { x with enable := true }), _, _, ⟨by decide +kernel, by decide +kernel⟩, rfl⟩,
   ⟨1, { address := 127, writeLen := 1, readLen := 1, writeBuf := dram, readBuf := dram }, [5],
       (State.mapPort (running) 1 fun x => { x with transfer := some ({ address := 127, writeLen := 1, readLen := 1, writeBuf := dram, readBuf := dram }) }), _, by first | rfl | decide +kernel, by first | rfl | decide +kernel, by first | rfl | decide +kernel, rfl⟩,
   ⟨{ address := 127, writeLen := 1, readLen := 1, writeBuf := dram, readBuf := dram }, [5],
       (State.mapPort (running) 1 fun x => { x with transfer := some ({ address := 127, writeLen := 1, readLen := 1, writeBuf := dram, readBuf := dram }) }), by first | decide +kernel | rfl, by first | decide +kernel | rfl⟩,
   ⟨(packetFor cmdLocalGpioSet 0 [(1, 1, 0x15)]), running, ⟨by decide +kernel, by decide +kernel⟩⟩,
   ⟨(packetFor cmdLocalGpioGet 0 []), running, ⟨by decide +kernel, by decide +kernel⟩⟩,
   ⟨5, true, running, by first | decide +kernel | rfl, by first | decide +kernel | rfl, by first | decide +kernel | rfl,
       by first | decide +kernel | rfl⟩,
   ⟨3, 0xFF, (State.mapPort (running) 3 fun x => { x with enable := true }), by first | decide +kernel | rfl,
       by first | decide +kernel | rfl, by first | decide +kernel | rfl, by first | decide +kernel | rfl⟩,
   ⟨3, (State.mapQueue (State.mapPort (runningAt 30000000) 3 fun x => { x with enable := true, rxQueue := 1024, rate := 1200 }) 1023 fun q => { q with collected := [1] }), by first | decide +kernel | rfl, by first | decide +kernel | rfl, by first | decide +kernel | rfl, by first | decide +kernel | rfl, by first | decide +kernel | rfl, by first | decide +kernel | rfl⟩⟩

/-- A safe-state table image whose signature `safeTableKey` verifies; both are computed outside from the definition of ECDSA. -/
def safeTableImage : Nat :=
  0x4ed2ff8c1464c036a2bac17b86a14dc19777a79488a4cb2973dd1c444d4085ba4ed2ff8c1464c036a2bac17b86a14dc19777a79488a4cb2973dd1c444d4085ba0000000000000000000000000000000000000000000000000000000000000000000000000000000000000000000000000000000000000000000000000000000000000000000000000000000000000000000000000000000000000000000000000000000000000000000000000000000000000000000000000000000000000000000000000000000000000000000000000000000000000000000000000000000000000000000000000fff00010fff000100000000000000000000000100000001

/-- The public key of `safeTableImage`. -/
def safeTableKey : Nat :=
  0xe1567a705fb61f706cbdba71452406c9b06489467246412704a6633a05e8ad7a93688ef46038a1fd3a998c1885cb8fc3d0557c10e47b7d3434c97a7406a39799

/-- The hypotheses of `SleepCommandsComplete` can be met. -/
theorem test_sleep_commands_complete_can_apply :
    (∃ (r : Request) (s : State), Clear cmdSleepEnter r s) ∧
    (∃ (r : Request) (e : SleepEntry) (s : State), Clear cmdSleepCancel r s ∧ s.sleep.entry = some e) ∧
    (∃ (r : Request) (s : State), Clear cmdWakeSourceSet r s) ∧
    (∃ (r : Request) (s : State), Clear cmdWakeSelectiveSet r s) ∧
    (∃ (r : Request) (s : State), Clear cmdWakeQuery r s) ∧
    (∃ (r : Request) (s : State), Clear cmdWakeValidate r s) ∧
    (∃ (w : Nat) (s : State), w < 0x40 ∧ s.sleep.power ≠ .run) ∧
    (∃ (r : Request) (s : State), Clear cmdRtcAlarmSet r s ∧ r.field 0 8 = 0) :=
  ⟨⟨(packetFor cmdSleepEnter 0 [(0, 1, 1)]), { running with io := { running.io with parts := [(0, { state := .active }),
      (63, { state := .quiet })] } }, ⟨by decide +kernel, by decide +kernel⟩⟩,
   ⟨(packetFor cmdSleepCancel 0 []), { target := 3, phase := 1, phaseAt := 0, offCount := 0, committed := false }, { running with sleep := { running.sleep with entry := some ({ target := 3, phase := 1, phaseAt := 0, offCount := 0, committed := false }) } }, ⟨by decide +kernel, by decide +kernel⟩, by first | decide +kernel | rfl⟩,
   ⟨(packetFor cmdWakeSourceSet 0 [(0, 1, 0x29), (1, 1, 0x01), (2, 1, 0), (4, 1, 15), (6, 2, 5000), (8, 4, 86400)]),
       (State.mapEth running 9 fun e => { e with tc10 := true }), ⟨by decide +kernel, by decide +kernel⟩⟩,
   ⟨(packetFor cmdWakeSelectiveSet 0 [(0, 1, 11), (1, 1, 1), (4, 4, 0x1FFFFFFF), (8, 4, 0x1FFFFFFF), (12, 1, 8)]), running,
       ⟨by decide +kernel, by decide +kernel⟩⟩,
   ⟨(packetFor cmdWakeQuery 0 [(0, 1, 1), (1, 1, 0x40)]), running, ⟨by decide +kernel, by decide +kernel⟩⟩,
   ⟨(packetFor cmdWakeValidate 0 [(0, 1, 0x33)]), (State.mapWake (running) 0x33 fun x => { x with windowOpen := true }),
       ⟨by decide +kernel, by decide +kernel⟩⟩,
   ⟨0x3F, { running with sleep := { running.sleep with power := .heath } }, by decide +kernel, by decide +kernel⟩,
   ⟨(packetFor cmdRtcAlarmSet 0 []), running, ⟨by decide +kernel, by decide +kernel⟩, by first | decide +kernel | rfl⟩⟩

/-- The hypotheses of `WakesComplete` can be met. -/
theorem test_wakes_complete_can_apply :
    (∃ (e : SleepEntry) (s : State), s.sleep.entry = some e ∧ e.target = 1 ∧ s.sleep.pendingWake = none) ∧
    (∃ (e : SleepEntry) (s : State), s.sleep.entry = some e ∧ e.target = 3 ∧ e.phase = 3) ∧
    (∃ (e : SleepEntry) (s : State), s.sleep.entry = some e ∧ e.target = 2 ∧ e.phase = 2 ∧ s.outputsQuiet e = false) ∧
    (∃ (w : Nat) (s : State), s.sleep.entry = none ∧ s.sleep.pendingWake = some w ∧ s.sleep.power = .meadow ∧
        s.now < s.sleep.unpoweredAt + 1000000) ∧
    (∃ (w : Nat) (s : State), s.sleep.entry = none ∧ s.sleep.pendingWake = some w ∧ s.sleep.power = .meadow ∧
        s.sleep.unpoweredAt + 1000000 ≤ s.now) ∧
    (∃ (w d : Nat) (e : SleepEntry) (s : State), s.supply.unpowered = false ∧ s.mayWake w = true ∧ 0x0B < w ∧
        s.sleep.entry = some e ∧ e.target ≠ 1 ∧ e.committed = false) ∧
    (∃ (e : SleepEntry) (s : State), s.sleep.entry = some e ∧ e.committed = false) ∧
    (∃ (w d : Nat) (s : State), s.mayWake w = false) ∧
    (∃ (c : Nat) (f : CanFrame) (s : State), s.supply.unpowered = false ∧ c ≤ 11 ∧ (s.wakeOf c).selective = true ∧
        s.sleep.entry = none ∧ s.sleep.power = .meadow ∧ s.watched c 2 = true ∧ (s.wakeOf c).errorCount < 31) ∧
    (∃ (s : State), s.sleep.alarm ≠ 0 ∧ s.now < s.sleep.alarm) ∧
    (∃ (s : State), s.sleep.alarm ≠ 0 ∧ s.sleep.alarm ≤ s.now ∧ s.supply.unpowered = false ∧ s.sleep.entry = none ∧
        s.sleep.power = .run ∧ s.waking = false) ∧
    (∃ (source : Nat) (s : State), s.sleep.power = .idle) ∧
    (∃ (w t : Nat) (s : State), wakeSource w = true ∧ (s.wakeOf w).windowAt = some t ∧ (s.wakeOf w).windowOpen = true ∧
        t ≤ s.now ∧ (s.wakeOf w).falseCount + 1 < (s.wakeOf w).falseLimit) ∧
    (∃ (w : Nat) (s : State), wakeSource w = true ∧ (s.wakeOf w).muted = true ∧ (s.wakeOf w).muteUntil ≤ s.now) :=
  ⟨⟨{ target := 1, phase := 0, phaseAt := 0, offCount := 0, committed := false }, { running with sleep := { running.sleep with entry := some ({ target := 1, phase := 0, phaseAt := 0, offCount := 0, committed := false }) } }, by first | decide +kernel | rfl, by first | decide +kernel | rfl, by first | decide +kernel | rfl⟩,
   ⟨{ target := 3, phase := 3, phaseAt := 0, offCount := 0, committed := false }, { running with sleep := { running.sleep with entry := some ({ target := 3, phase := 3, phaseAt := 0, offCount := 0, committed := false }) } }, by first | decide +kernel | rfl, by first | decide +kernel | rfl, by first | decide +kernel | rfl⟩,
   ⟨{ target := 2, phase := 2, phaseAt := 0, offCount := 0, committed := false }, { { running with sleep := { running.sleep with entry := some ({ target := 2, phase := 2, phaseAt := 0, offCount := 0, committed := false }) } } with load := { running.load with channels := (List.range 48).map fun _ => { currentUa := 50000 } } }, by first | decide +kernel | rfl, by first | decide +kernel | rfl, by first | decide +kernel | rfl, by first | decide +kernel | rfl⟩,
   ⟨0x33, { running with sleep := { running.sleep with power := .meadow, pendingWake := some 0x33, unpoweredAt := 1 } },
       by first | decide +kernel | rfl, by first | decide +kernel | rfl, by first | decide +kernel | rfl,
       by first | decide +kernel | rfl⟩,
   ⟨0x33, { (runningAt 1000000) with sleep := { (runningAt 1000000).sleep with power := .meadow, pendingWake := some 0x33 } }, by first | decide +kernel | rfl, by first | decide +kernel | rfl, by first | decide +kernel | rfl, by first | decide +kernel | rfl⟩,
   ⟨0x33, 0, { target := 2, phase := 1, phaseAt := 0, offCount := 0, committed := false }, { running with sleep := { running.sleep with entry := some ({ target := 2, phase := 1, phaseAt := 0, offCount := 0, committed := false }) } }, by first | decide +kernel | rfl, by first | decide +kernel | rfl, by first | decide +kernel | rfl, by first | decide +kernel | rfl, by first | decide +kernel | rfl, by first | decide +kernel | rfl⟩,
   ⟨{ target := 2, phase := 1, phaseAt := 0, offCount := 0, committed := false }, { running with sleep := { running.sleep with entry := some ({ target := 2, phase := 1, phaseAt := 0, offCount := 0, committed := false }) } }, by decide +kernel, by decide +kernel⟩,
   ⟨0x34, 0, running, by first | decide +kernel | rfl⟩,
   ⟨11, { format := 0, ide := false, id := 0x7FF#29, brs := false, esi := false, rtr := false, reqLen := 0, sec := false, sdt := 0#8, vcid := 0#8, af := 0#32, payload := [1] }, (State.mapWake ({ running with sleep := { running.sleep with power := .meadow } }) 11 fun x => { x with selective := true, meadow := true, errorCount := 30 }), by first | decide +kernel | rfl, by first | decide +kernel | rfl, by first | decide +kernel | rfl, by first | decide +kernel | rfl, by first | decide +kernel | rfl, by first | decide +kernel | rfl, by first | decide +kernel | rfl⟩,
   ⟨{ running with sleep := { running.sleep with alarm := 1 } }, by first | decide +kernel | rfl,
       by first | decide +kernel | rfl⟩,
   ⟨{ (runningAt 1) with sleep := { (runningAt 1).sleep with alarm := 1 } }, by first | decide +kernel | rfl,
       by first | decide +kernel | rfl, by first | decide +kernel | rfl, by first | decide +kernel | rfl,
       by first | decide +kernel | rfl, by first | decide +kernel | rfl⟩,
   ⟨0x40, { running with sleep := { running.sleep with power := .idle } }, by first | decide +kernel | rfl⟩,
   ⟨0x33, 0, (State.mapWake (running) 0x33 fun x => { x with windowAt := some 0, windowOpen := true, falseCount := 2 }),
       by first | decide +kernel | rfl, by first | decide +kernel | rfl, by first | decide +kernel | rfl,
       by first | decide +kernel | rfl, by first | decide +kernel | rfl⟩,
   ⟨0x33, (State.mapWake (running) 0x33 fun x => { x with muted := true }), by first | decide +kernel | rfl,
       by first | decide +kernel | rfl, by first | decide +kernel | rfl⟩⟩

/-- The hypotheses of `LoadSettingsComplete` can be met. -/
theorem test_load_settings_complete_can_apply :
    (∃ (r : Request) (s : State), Shaped s ∧ Clear cmdLoadChannelConfig r s) ∧
    (∃ (r : Request) (s : State), Clear cmdLoadWireSet r s) ∧
    (∃ (r : Request) (ids : List Nat) (s : State), Clear cmdLoadSet r s ∧ ids = s.loadFlows (r.field 0 2) 1 ∧
        s.conforms ids 1 = true) ∧
    (∃ (r : Request) (s : State), Clear cmdLoadSet r s ∧ s.resumed r = true ∧
        s.conforms (s.loadFlows (r.field 0 2) 1) 1 = false) ∧
    (∃ (r : Request) (ids : List Nat) (s : State), Clear cmdLoadSet (withClear r) s ∧
        ids = s.loadFlows ((withClear r).field 0 2) 1 ∧ s.conforms ids 1 = true) ∧
    (∃ (n : Nat) (s : State), Shaped s ∧ n < 40) ∧
    (∃ (p n : Nat) (v : Word) (s : State), s.windowOn p = true ∧ s.owner kindLoad n ≠ p) ∧
    (∃ (p n : Nat) (v : Word) (s : State), s.windowOn p = true ∧ s.has p .directWindows = true ∧
        s.has p .loadChannelControl = true ∧ n < 48 ∧ s.owner kindLoad n = p ∧ s.quiescing p = false ∧ oddLeg n = false ∧
        loadValueOk n v.toNat = true ∧ s.cpu.masthead.hoveTo = false ∧ s.load.holdOpen = false ∧ s.loadFurled n = false ∧
        s.conforms (s.loadFlows n 0) 1 = true) ∧
    (∃ (r : Request) (s : State), Clear cmdLoadQuery r s ∧ r.bit 2 0 = false) ∧
    (∃ (r : Request) (s : State), Clear cmdLoadQuery r s ∧ r.bit 2 0 = true) ∧
    (∃ (r : Request) (s : State), Clear cmdLoadGangSet r s ∧ r.byte 32 = 0) ∧
    (∃ (r : Request) (s : State), Clear cmdLoadMeasureSet r s ∧ r.field 2 2 = 0xFFFF ∧
        (s.loadOf (r.field 0 2)).measure = none) ∧
    (∃ (r : Request) (s : State), Shaped s ∧ Clear cmdLoadMeasureSet r s ∧ r.field 2 2 ≠ 0xFFFF ∧
        (s.loadOf (r.field 0 2)).measure = none) :=
  ⟨⟨(packetFor cmdLoadChannelConfig 0 [(0, 2, 47), (3, 1, 31), (4, 2, 4000), (6, 1, 15), (7, 1, 1), (8, 2, 100), (10, 1, 1),
      (11, 1, 1), (12, 4, 40000)]), running, ⟨by decide +kernel, by decide +kernel, by decide +kernel, by decide +kernel⟩,
      ⟨by decide +kernel, by decide +kernel⟩⟩,
   ⟨(packetFor cmdLoadWireSet 0 [(0, 1, 47), (1, 1, 8), (2, 1, 3), (3, 1, 50), (4, 2, 10), (6, 1, 0xD8),
       (7, 1, 90)]), running, ⟨by decide +kernel, by decide +kernel⟩⟩,
   ⟨(packetFor cmdLoadSet 0 [(0, 2, 39), (4, 4, 0x80000FFF)]), [], running, ⟨by decide +kernel, by decide +kernel⟩,
       by first | decide +kernel | rfl, by first | decide +kernel | rfl⟩,
   ⟨(packetFor cmdLoadSet 0 [(0, 2, 39),
       (4, 4, 0x80000FFF)]), { running with flow := { running.flow with flows := [(5, { state := .admitted, decl := { maxSize := 1, path := [{ type := rLoad, inst := 39, qual := 1 }], minInterval := 1000 } })] }, io := { running.io with windows := [(0, { accept := allFeatures, committed := true, blocked := [(0, true)] })] } }, ⟨by decide +kernel, by decide +kernel⟩, by first | decide +kernel | rfl, by first | decide +kernel | rfl⟩,
   ⟨(packetFor cmdLoadSet 0 [(0, 2, 39), (4, 4, 0)]), [], running, ⟨by decide +kernel, by decide +kernel⟩,
       by first | decide +kernel | rfl, by first | decide +kernel | rfl⟩,
   ⟨39, running, ⟨by decide, by decide, by decide, by decide⟩, by decide⟩,
   ⟨1, 47, 0#32, running, by first | decide +kernel | rfl, by first | decide +kernel | rfl⟩,
   ⟨0, 39, 0x80000FFF#32, running, by first | decide +kernel | rfl, by first | decide +kernel | rfl,
       by first | decide +kernel | rfl, by first | decide +kernel | rfl, by first | decide +kernel | rfl,
       by first | decide +kernel | rfl, by first | decide +kernel | rfl, by first | decide +kernel | rfl,
       by first | decide +kernel | rfl, by first | decide +kernel | rfl, by first | decide +kernel | rfl,
       by first | decide +kernel | rfl⟩,
   ⟨(packetFor cmdLoadQuery 0 [(0, 2, 47)]), running, ⟨by decide +kernel, by decide +kernel⟩, by first | decide +kernel | rfl⟩,
   ⟨(packetFor cmdLoadQuery 0 [(0, 2, 47), (2, 1, 1)]), running, ⟨by decide +kernel, by decide +kernel⟩,
       by first | decide +kernel | rfl⟩,
   ⟨(packetFor cmdLoadGangSet 0 [(0, 1, 31), (1, 1, 1), (4, 4, 50000000), (16, 1, 46), (24, 1, 255)]), running,
       ⟨by decide +kernel, by decide +kernel⟩, by first | decide +kernel | rfl⟩,
   ⟨(packetFor cmdLoadMeasureSet 0 [(0, 2, 47), (2, 2, 0xFFFF)]), running, ⟨by decide +kernel, by decide +kernel⟩,
       by first | decide +kernel | rfl, by first | decide +kernel | rfl⟩,
   ⟨(packetFor cmdLoadMeasureSet 0 [(0, 2, 46), (2, 2, 1023), (4, 1, 1), (6, 2, 1), (16, 8, 5)]), running,
       ⟨by decide +kernel, by decide +kernel, by decide +kernel, by decide +kernel⟩, ⟨by decide +kernel, by decide +kernel⟩,
       by first | decide +kernel | rfl, by first | decide +kernel | rfl⟩⟩

/-- The hypotheses of `LoadChecksComplete` can be met. -/
theorem test_load_checks_complete_can_apply :
    (∃ (r : Request) (s : State), Clear cmdLoadDiagRun r s) ∧
    (∃ (n result measured : Nat) (d : Diag) (s : State), Shaped s ∧ (s.loadOf n).diag = some d ∧ s.computeOn = true ∧
        s.absent = false ∧ s.diagPermitted n d.kind = true ∧ d.deferred = false ∧ s.boot.waiting = none) ∧
    (∃ (r : Request) (w : Nat) (s s1 : State), Clear cmdLoadSafeTableSet r s ∧
        s.read r.issuer (r.field 0 8) 256 = (s1, .ok w) ∧ s1.tableValid w = true) ∧
    (∃ (r : Request) (w : Nat) (s s1 : State), Clear cmdLoadSafeTableSet r s ∧
        s.read r.issuer (r.field 0 8) 256 = (s1, .ok w) ∧ s1.tableValid w = false) ∧
    (∃ (l : Table SafeEntry) (v : Nat) (s : State), s.load.nextTable = some (l, v) ∧ s.absent = false ∧ s.computeOn = true ∧
        s.boot.waiting = none) ∧
    (∃ (r : Request) (s : State), Clear cmdLoadHoldSet r s) ∧
    (∃ (r : Request) (s : State), Shaped s ∧ Clear cmdLoadReclaim r s) ∧
    (∃ (s : State), s.load.holdOpen = true ∧ s.now < s.load.holdAt + s.load.holdMs * 1000000) ∧
    (∃ (s : State), Shaped s ∧ s.load.holdOpen = true ∧ s.load.holdAt + s.load.holdMs * 1000000 ≤ s.now ∧
        s.cpu.masthead.hoveOwed = none ∧ s.absent = false) ∧
    (∃ (n : Nat) (s : State), Shaped s ∧ n < 40 ∧ (s.loadOf n).appOn = true) ∧
    (∃ (n kind : Nat) (s : State), 48 ≤ n) ∧
    (∃ (s : State), s.now < s.load.planAt + 10000000) ∧
    (∃ (s : State), s.absent = false ∧ s.load.holdOpen = false ∧ s.computeOn = true ∧ s.has 0 .ripplePlanner = true ∧
        s.load.planAt + 10000000 ≤ s.now ∧ ((s.planned.any fun n => (s.loadOf n).moved) = true)) :=
  ⟨⟨(packetFor cmdLoadDiagRun 0 [(0, 2, 47), (2, 1, 2), (4, 2, 1000)]), running, ⟨by decide +kernel, by decide +kernel⟩⟩,
   ⟨39, 0, 0, { kind := 2, pulseUs := 50, deferred := false, startAt := 0 },
       (State.mapLoad (running) 39 fun x => { x with diag := some ({ kind := 2, pulseUs := 50, deferred := false, startAt := 0 }) }), ⟨by decide +kernel, by decide +kernel, by decide +kernel, by decide +kernel⟩, by first | decide +kernel | rfl, by first | decide +kernel | rfl, by first | decide +kernel | rfl, by first | decide +kernel | rfl, by first | decide +kernel | rfl, by first | decide +kernel | rfl⟩,
   ⟨(packetFor cmdLoadSafeTableSet 0 [(0, 8, dram)]), safeTableImage, { running with keys := { running.keys with otp := { running.keys.otp with lifecycle := 3, cfgKeys := [(3, { key := safeTableKey, written := true })] } }, io := { running.io with mem := cells dram 256 safeTableImage } }, _, ⟨by decide +kernel, by decide +kernel⟩, rfl, by first | rfl | decide +kernel⟩,
   ⟨(packetFor cmdLoadSafeTableSet 0 [(0, 8, dram)]),
       _, { running with keys := { running.keys with otp := { running.keys.otp with lifecycle := 2 } } }, _,
       ⟨by decide +kernel, by decide +kernel⟩, rfl, by first | rfl | decide +kernel⟩,
   ⟨[], 1, { running with load := { running.load with nextTable := some ([], 1) } }, by first | decide +kernel | rfl,
       by first | decide +kernel | rfl, by first | decide +kernel | rfl, by first | decide +kernel | rfl⟩,
   ⟨(packetFor cmdLoadHoldSet 0 [(0, 2, 2000)]), running, ⟨by decide +kernel, by decide +kernel⟩⟩,
   ⟨(packetFor cmdLoadReclaim 0 [(0, 6, 0xFFFFFFFFFFFF)]), running, ⟨by decide +kernel, by decide +kernel,
       by decide +kernel, by decide +kernel⟩, ⟨by decide +kernel, by decide +kernel⟩⟩,
   ⟨{ running with load := { running.load with holdOpen := true } }, by first | decide +kernel | rfl,
       by first | decide +kernel | rfl⟩,
   ⟨{ runningAt 200000000 with load := { running.load with holdOpen := true } }, ⟨by decide +kernel, by decide +kernel,
       by decide +kernel, by decide +kernel⟩, by first | decide +kernel | rfl, by first | decide +kernel | rfl,
       by first | decide +kernel | rfl, by first | decide +kernel | rfl⟩,
   ⟨39, (State.mapLoad (running) 39 fun x => { x with appOn := true }), ⟨by decide +kernel, by decide +kernel,
       by decide +kernel, by decide +kernel⟩, by first | decide +kernel | rfl, by first | decide +kernel | rfl⟩,
   ⟨48, 0, running, by first | decide +kernel | rfl⟩,
   ⟨running, by first | decide +kernel | rfl⟩,
   ⟨(State.mapLoad (runningAt 10000000) 39 fun x => { x with appOn := true, phaseAuto := true }),
       by first | decide +kernel | rfl, by first | decide +kernel | rfl, by first | decide +kernel | rfl,
       by first | decide +kernel | rfl, by first | decide +kernel | rfl, by first | decide +kernel | rfl⟩⟩

/-- The hypotheses of `LoadProtectionCompletes` can be met. -/
theorem test_load_protection_completes_can_apply :
    (∃ (n ma : Nat) (s : State), s.drivenOn n = true ∧ s.ocEffective n < 10 * ma) ∧
    (∃ (n ma : Nat) (s : State), 10 * ma ≤ s.ocEffective n) ∧
    (∃ (n : Nat) (s : State), s.drivenOn n = true) ∧
    (∃ (n : Nat) (s : State), s.drivenOn n = true) ∧
    (∃ (n cause : Nat) (s : State), Shaped s ∧ n < 40 ∧ cause < 4) ∧
    (∃ (s : State), s.supply.unpowered = false ∧ s.asleep = false) ∧
    (∃ (s : State), s.asleep = true) ∧
    (∃ (n : Nat) (s : State), n < 48 ∧ s.mayRestart n = true ∧ s.supplyCut n = false) ∧
    (∃ (n : Nat) (s : State), Shaped s ∧ n < 40) ∧
    (∃ (n : Nat) (s : State), s.mayRestart n = false) ∧
    (∃ (n : Nat) (s : State), Shaped s ∧ n < 40 ∧ nextInstant s.time.pwmGangs .pwm n s.now = none ∧
        (s.loadOf n).appOn = false ∧ s.furled (unitId 0x16 n) = false ∧ s.supply.unpowered = false ∧
        (s.loadOf n).dutyItem = none) ∧
    (∃ (n : Nat) (m : Measure) (ua : Int) (sat : Bool) (s : State), (s.loadOf n).measure = some m ∧ s.computeOn = true ∧
        n < 48 ∧ m.nextAt ≤ s.now ∧ s.time.d7Valid = true ∧ s.quiescing (s.owner kindLoad n) = false ∧
        s.furled (unitId 0x15 (s.adcOf n)) = false ∧ m.waiting.length < 4) ∧
    (∃ (n : Nat) (m : Measure) (ua : Int) (sat : Bool) (s : State), (s.loadOf n).measure = some m ∧ s.now < m.nextAt) :=
  ⟨⟨39, 12001, (State.mapLoad (running) 39 fun x => { x with appOn := true, ocThreshold := 120000 }),
      by first | decide +kernel | rfl, by first | decide +kernel | rfl⟩,
   ⟨47, 0, running, by first | decide +kernel | rfl⟩,
   ⟨47, (State.mapLoad (running) 46 fun x => { x with appBridge := 1 }), by first | decide +kernel | rfl⟩,
   ⟨39, (State.mapLoad (running) 39 fun x => { x with appOn := true }), by first | decide +kernel | rfl⟩,
   ⟨39, 3, running, ⟨by decide, by decide, by decide, by decide⟩, by decide, by decide⟩,
   ⟨running, by first | decide +kernel | rfl, by first | decide +kernel | rfl⟩,
   ⟨{ running with sleep := { running.sleep with power := .heath } }, by first | decide +kernel | rfl⟩,
   ⟨39, (State.mapLoad (runningAt 10000000) 39 fun x => { x with tripped := true, on := true, theta := 0 }),
       by first | decide +kernel | rfl, by first | decide +kernel | rfl, by first | decide +kernel | rfl⟩,
   ⟨39, running, ⟨by decide, by decide, by decide, by decide⟩, by decide⟩,
   ⟨48, running, by first | decide +kernel | rfl⟩,
   ⟨39, running, ⟨by decide +kernel, by decide +kernel, by decide +kernel, by decide +kernel⟩,
       by first | decide +kernel | rfl, by first | decide +kernel | rfl, by first | decide +kernel | rfl,
       by first | decide +kernel | rfl, by first | decide +kernel | rfl, by first | decide +kernel | rfl⟩,
   ⟨47, { queue := 1023, sync := false, sampleAt := 0, mult := 0, period := 10000, anchor := 0, nextAt := 0, waiting := [] }, 5, false, (State.mapLoad (running) 47 fun x => { x with measure := some ({ queue := 1023, sync := false, sampleAt := 0, mult := 0, period := 10000, anchor := 0, nextAt := 0, waiting := [] }) }), by first | decide +kernel | rfl, by first | decide +kernel | rfl, by first | decide +kernel | rfl, by first | decide +kernel | rfl, by first | decide +kernel | rfl, by first | decide +kernel | rfl, by first | decide +kernel | rfl, by first | decide +kernel | rfl⟩,
   ⟨47, { queue := 1023, sync := false, sampleAt := 0, mult := 0, period := 10000, anchor := 0, nextAt := 1, waiting := [] }, 5, false, (State.mapLoad (running) 47 fun x => { x with measure := some ({ queue := 1023, sync := false, sampleAt := 0, mult := 0, period := 10000, anchor := 0, nextAt := 1, waiting := [] }) }), by first | decide +kernel | rfl, by first | decide +kernel | rfl⟩⟩

/-- A blob of key 9 with attributes 0x0001 under a wrap key 7, made by `wrapBlob` with counter 5. -/
def wrapped : Nat := 5853384649860179038819254268983923418661204713880989794059478428504768134380282934521509613592240077095912580066609081593687043691275540426299884378849791

/-- The hypotheses of `SuppliesComplete` can be met. -/
theorem test_supplies_complete_can_apply :
    (∃ (r : Request) (s : State), Clear cmdSupplyConfig r s) ∧
    (∃ (r : Request) (s : State), Clear cmdSupplyQuery r s) ∧
    (∃ (r : Request) (s : State), Shaped s ∧ Clear cmdLoadDipSet r s) ∧
    (∃ (f mv : Nat) (s s1 : State), s.supervising = true ∧ f ≤ 1 ∧ (s.feed f).inDip = false ∧
        s.furled (unitId 0x1A f) = false ∧ 100 * mv < (s.feed f).warn * 10 * 102 ∧
        (s1 = (s.mapFeed f fun x => { x with inDip := true, dipAt := s.crossedAt }).mapSupply (fun y => { y with dips := satAdd 16 y.dips 1 }))) ∧
    (∃ (f mv : Nat) (s : State), (s.feed f).warn * 10 * 102 ≤ 100 * mv) ∧
    (∃ (f low : Nat) (s : State), s.supervising = true ∧ f ≤ 1 ∧ (s.feed f).inDip = true) ∧
    (∃ (n at_ : Nat) (s : State), n < 48 ∧ (s.loadOf n).shed = .restore at_ ∧ at_ ≤ s.now ∧ s.supervising = true) ∧
    (∃ (n at_ : Nat) (s : State), (s.loadOf n).shed = .restore at_ ∧ s.now < at_) ∧
    (∃ (f mv : Nat) (s : State), 4600 ≤ mv) ∧
    (∃ (f mv : Nat) (s s1 s2 : State), s.supervising = true ∧ f ≤ 1 ∧ (s.feed f).inDip = true ∧ (s.feed f).lost = false ∧
        (s.feed (1 - f)).lost = false ∧ s.supply.vlogicLow = false ∧ s.furled (unitId 0x1A f) = false ∧ mv < 4600 ∧
        (s1 = ((s.mapFeed f fun x => { x with lost := true }).sampleFeed mv).joinChain f mv) ∧
        (s2 = s1.refeed f (fun c => { c with shed := .untilItem }))) ∧
    (∃ (mv : Nat) (s : State), s.supply.unpowered = false ∧ s.boot.phase ≠ .off ∧ s.supply.vlogicLow = false ∧ mv < 4600 ∧
        s.supply.chain = none) ∧
    (∃ (s : State), s.supply.vlogicLow = true ∧ s.supply.unpowered = false ∧ s.boot.phase = .held) ∧
    (∃ (s : State), s.supply.unpowered = false) ∧
    (∃ (f mv : Nat) (s : State), s.supervising = true ∧ f ≤ 1 ∧ (s.feed f).logged = false ∧ s.supply.highLevels.1 < mv) ∧
    (∃ (f top : Nat) (s : State), s.supervising = true ∧ f ≤ 1 ∧ (s.feed f).logged = true) ∧
    (∃ (f mv : Nat) (s : State), s.supervising = true ∧ f ≤ 1 ∧ (s.feed f).above = false ∧ s.supply.highLevels.2 < mv) ∧
    (∃ (s : State), s.supervising = true ∧ s.supply.shutdown = true) ∧
    (∃ (blades : Nat) (mv : Int) (s : State), mv ≤ 800) ∧
    (∃ (blades : Nat) (mv : Int) (s s2 : State), s.supervising = true ∧ s.supply.groundLost = false ∧
        s.furled (unitId 0x1A 2) = false ∧ blades % 4 ≠ 0 ∧ 800 < mv ∧
        (s2 = (s.mapSupply fun y => { y with groundLost := true, groundAt := s.now - 2000, groundMask := blades % 4, groundMax := mv.toNat }).redriveAll)) ∧
    (∃ (largest : Nat) (s : State), s.supervising = true ∧ s.supply.groundLost = true) ∧
    (∃ (mv : Nat) (above : Bool) (s : State), s.supervising = true ∧ s.furled (unitId 0x1A 3) = false) :=
  ⟨⟨(packetFor cmdSupplyConfig 0 [(0, 2, 550), (2, 2, 800), (4, 2, 1000)]), running, ⟨by decide +kernel, by decide +kernel⟩⟩,
   ⟨(packetFor cmdSupplyQuery 0 [(0, 1, 1)]), running, ⟨by decide +kernel, by decide +kernel⟩⟩,
   ⟨(packetFor cmdLoadDipSet 0 [(0, 2, 46), (2, 1, 3), (3, 1, 255), (4, 2, 0xFFF)]), running, ⟨by decide +kernel,
       by decide +kernel, by decide +kernel, by decide +kernel⟩, ⟨by decide +kernel, by decide +kernel⟩⟩,
   ⟨1, 7139, running, _, by first | rfl | decide +kernel, by first | rfl | decide +kernel, by first | rfl | decide +kernel,
       by first | rfl | decide +kernel, by first | rfl | decide +kernel, rfl⟩,
   ⟨1, 7140, running, by first | decide +kernel | rfl⟩,
   ⟨1, 0, { running with supply := { running.supply with feedB := { inDip := true } } }, by first | decide +kernel | rfl,
       by first | decide +kernel | rfl, by first | decide +kernel | rfl⟩,
   ⟨46, 0, (State.mapLoad (running) 46 fun x => { x with shed := .restore 0 }), by first | decide +kernel | rfl,
       by first | decide +kernel | rfl, by first | decide +kernel | rfl, by first | decide +kernel | rfl⟩,
   ⟨46, 1, (State.mapLoad (running) 46 fun x => { x with shed := .restore 1 }), by first | decide +kernel | rfl,
       by first | decide +kernel | rfl⟩,
   ⟨0, 4600, running, by first | decide +kernel | rfl⟩,
   ⟨1, 4599, { running with supply := { running.supply with feedB := { inDip := true } } }, _, _,
       by first | rfl | decide +kernel, by first | rfl | decide +kernel, by first | rfl | decide +kernel,
       by first | rfl | decide +kernel, by first | rfl | decide +kernel, by first | rfl | decide +kernel,
       by first | rfl | decide +kernel, by first | rfl | decide +kernel, rfl, by first | rfl | decide +kernel⟩,
   ⟨0, running, by first | decide +kernel | rfl, by first | decide +kernel | rfl, by first | decide +kernel | rfl,
       by first | decide +kernel | rfl, by first | decide +kernel | rfl⟩,
   ⟨{ { running with boot := { running.boot with phase := .held } } with supply := { running.supply with vlogicLow := true } }, by first | decide +kernel | rfl, by first | decide +kernel | rfl, by first | decide +kernel | rfl⟩,
   ⟨running, by first | decide +kernel | rfl⟩,
   ⟨1, 18001, running, by first | decide +kernel | rfl, by first | decide +kernel | rfl, by first | decide +kernel | rfl,
       by first | decide +kernel | rfl⟩,
   ⟨1, 0, { running with supply := { running.supply with feedB := { logged := true } } }, by first | decide +kernel | rfl,
       by first | decide +kernel | rfl, by first | decide +kernel | rfl⟩,
   ⟨1, 36001, running, by first | decide +kernel | rfl, by first | decide +kernel | rfl, by first | decide +kernel | rfl,
       by first | decide +kernel | rfl⟩,
   ⟨{ running with supply := { running.supply with shutdown := true } }, by first | decide +kernel | rfl,
       by first | decide +kernel | rfl⟩,
   ⟨3, 800, running, by first | decide +kernel | rfl⟩,
   ⟨3, 801, running, _, by first | rfl | decide +kernel, by first | rfl | decide +kernel, by first | rfl | decide +kernel,
       by first | rfl | decide +kernel, by first | rfl | decide +kernel, rfl⟩,
   ⟨0, { running with supply := { running.supply with groundLost := true } }, by first | decide +kernel | rfl,
       by first | decide +kernel | rfl⟩,
   ⟨0, true, running, by first | decide +kernel | rfl, by first | decide +kernel | rfl⟩⟩

/-- The hypotheses of `SenseCommandsComplete` can be met. -/
theorem test_sense_commands_complete_can_apply :
    (∃ (r : Request) (s : State), Shaped s ∧ Clear cmdSenseInputConfig r s ∧ r.byte 1 ≠ 0) ∧
    (∃ (r : Request) (s : State), Shaped s ∧ Clear cmdSenseStateRead r s) ∧
    (∃ (r : Request) (s : State), Clear cmdSenseSampleSet r s ∧ r.field 2 2 = 0xFFFF) ∧
    (∃ (r : Request) (s : State), Shaped s ∧ Clear cmdSenseSampleSet r s ∧ r.field 2 2 ≠ 0xFFFF ∧
        (s.senseOf (r.byte 0)).queue = none) ∧
    (∃ (r : Request) (s : State), Clear cmdSenseGangSet r s ∧ r.byte 32 = 0) ∧
    (∃ (r : Request) (s : State), Clear cmdSenseCalRun r s) ∧
    (∃ (r : Request) (s : State), Shaped s ∧ Clear cmdSensorSupplySet r s ∧ r.bit 1 0 = false) ∧
    (∃ (r : Request) (s : State), Clear cmdSenseQuery r s ∧ r.bit 1 0 = false) ∧
    (∃ (r : Request) (s : State), Clear cmdSenseQuery r s ∧ r.bit 1 0 = true) :=
  ⟨⟨(packetFor cmdSenseInputConfig 0 [(0, 1, 31), (1, 1, 1), (3, 1, 31), (4, 1, 1), (6, 2, 50), (8, 1, 1),
      (11, 1, 0xFF)]), running, ⟨by decide +kernel, by decide +kernel, by decide +kernel, by decide +kernel⟩,
      ⟨by decide +kernel, by decide +kernel⟩, by first | decide +kernel | rfl⟩,
   ⟨(packetFor cmdSenseStateRead 0 []), running, ⟨by decide +kernel, by decide +kernel, by decide +kernel, by decide +kernel⟩,
       ⟨by decide +kernel, by decide +kernel⟩⟩,
   ⟨(packetFor cmdSenseSampleSet 0 [(0, 1, 31), (2, 2, 0xFFFF)]), (State.mapSense (running) 31 fun x => { x with mode := 3 }),
       ⟨by decide +kernel, by decide +kernel⟩, by first | decide +kernel | rfl⟩,
   ⟨(packetFor cmdSenseSampleSet 0 [(0, 1, 31), (2, 2, 1023), (4, 4, 2000)]),
       (State.mapSense (running) 31 fun x => { x with mode := 3 }), ⟨by decide +kernel, by decide +kernel,
       by decide +kernel, by decide +kernel⟩, ⟨by decide +kernel, by decide +kernel⟩, by first | decide +kernel | rfl,
       by first | decide +kernel | rfl⟩,
   ⟨(packetFor cmdSenseGangSet 0 [(0, 1, 31), (1, 1, 1), (4, 4, 2000), (16, 1, 31), (24, 1, 255)]), running,
       ⟨by decide +kernel, by decide +kernel⟩, by first | decide +kernel | rfl⟩,
   ⟨(packetFor cmdSenseCalRun 0 []), running, ⟨by decide +kernel, by decide +kernel⟩⟩,
   ⟨(packetFor cmdSensorSupplySet 0 [(0, 1, 3)]), running, ⟨by decide +kernel, by decide +kernel, by decide +kernel,
       by decide +kernel⟩, ⟨by decide +kernel, by decide +kernel⟩, by first | decide +kernel | rfl⟩,
   ⟨(packetFor cmdSenseQuery 0 [(0, 1, 31)]), running, ⟨by decide +kernel, by decide +kernel⟩, by first | decide +kernel | rfl⟩,
   ⟨(packetFor cmdSenseQuery 0 [(0, 1, 31), (1, 1, 1)]), running, ⟨by decide +kernel, by decide +kernel⟩,
       by first | decide +kernel | rfl⟩⟩

/-- The hypotheses of `SenseEventsComplete` can be met. -/
theorem test_sense_events_complete_can_apply :
    (∃ (i : Nat) (high : Bool) (s : State), s.computeOn = true ∧ i < 32 ∧ (s.senseOf i).mode = 1 ∧
        s.furled (unitId 0x17 i) = false ∧ (s.senseOf i).pulsed = false ∧ (s.senseOf i).high = high) ∧
    (∃ (i : Nat) (s : State), s.computeOn = true ∧ i < 32 ∧ (s.senseOf i).mode = 1 ∧ s.furled (unitId 0x17 i) = false ∧
        (s.senseOf i).pulsed = false ∧ (s.senseOf i).high = false ∧ (s.senseOf i).runSince = none ∧
        (s.senseOf i).debounce ≠ 0) ∧
    (∃ (i since : Nat) (s : State), s.computeOn = true ∧ i < 32 ∧ (s.senseOf i).mode = 1 ∧ s.furled (unitId 0x17 i) = false ∧
        (s.senseOf i).pulsed = false ∧ (s.senseOf i).high = false ∧ (s.senseOf i).runSince = some since ∧
        since + (s.senseOf i).debounce * 100000 ≤ s.now) ∧
    (∃ (i t : Nat) (value : Int) (flags : Nat) (s : State), s.sampleDue i = some t ∧ s.now < t) ∧
    (∃ (i t : Nat) (value : Int) (flags : Nat) (s : State), s.sampleDue i = some t ∧ t ≤ s.now ∧ s.computeOn = true ∧ i < 32 ∧
        s.furled (unitId 0x17 i) = false ∧ s.quiescing (s.owner kindSense i) = true) ∧
    (∃ (i t : Nat) (value : Int) (flags : Nat) (s : State), Shaped s ∧ s.sampleDue i = some t ∧ t ≤ s.now ∧
        s.computeOn = true ∧ i < 32 ∧ s.furled (unitId 0x17 i) = false ∧ s.quiescing (s.owner kindSense i) = false ∧
        (∃ c, c < 5 ∧ (s.convOf c).state = .inService) ∧ (s.senseOf i).waiting.length < 4) ∧
    (∃ (c : CalRun) (s : State), s.sense.calRun = some c ∧ c.left = [] ∧ s.absent = false ∧ s.computeOn = true ∧
        s.boot.waiting = none) ∧
    (∃ (a b : Nat) (s : State), Shaped s ∧ s.computeOn = true ∧ s.calibrates = true ∧ s.rotationDue = true ∧
        s.oldestConverter = some a ∧ ((span 0 5).find? (fun c => (s.convOf c).state == .standby) = some b) ∧ a ≠ b ∧ a < 5) ∧
    (∃ (c : Nat) (s : State), Shaped s ∧ s.computeOn = true ∧ c < 5 ∧ (s.convOf c).state = .calibrating ∧
        s.sense.calRun = none) ∧
    (∃ (o : Nat) (s : State), Shaped s ∧ o < 4 ∧ s.sensorLive o = true ∧ (s.recentRestarts o).length < 3) ∧
    (∃ (o : Nat) (s : State), Shaped s ∧ o < 4 ∧ s.sensorLive o = true ∧ 3 ≤ (s.recentRestarts o).length) ∧
    (∃ (o at_ : Nat) (s : State), (s.sensorOf o).restartAt = some at_ ∧ at_ ≤ s.now ∧ o < 4 ∧ s.supply.unpowered = false ∧
        s.furled (unitId 0x19 o) = false) ∧
    (∃ (o : Nat) (s : State), Shaped s ∧ o < 4 ∧ s.sensorLive o = true) ∧
    (∃ (o : Nat) (s : State), (s.sensorOf o).heldOff = true ∧ o < 4 ∧ s.supply.unpowered = false ∧
        s.furled (unitId 0x19 o) = false) ∧
    (∃ (o : Nat) (s : State), s.sensorLive o = true) :=
  ⟨⟨31, false, (State.mapSense (running) 31 fun x => { x with mode := 1 }), by first | decide +kernel | rfl,
      by first | decide +kernel | rfl, by first | decide +kernel | rfl, by first | decide +kernel | rfl,
      by first | decide +kernel | rfl, by first | decide +kernel | rfl⟩,
   ⟨31, (State.mapSense (running) 31 fun x => { x with mode := 1, debounce := 1 }), by first | decide +kernel | rfl,
       by first | decide +kernel | rfl, by first | decide +kernel | rfl, by first | decide +kernel | rfl,
       by first | decide +kernel | rfl, by first | decide +kernel | rfl, by first | decide +kernel | rfl,
       by first | decide +kernel | rfl⟩,
   ⟨31, 0, (State.mapSense ((runningAt 100000)) 31 fun x => { x with mode := 1, debounce := 1, runSince := some 0 }),
       by first | decide +kernel | rfl, by first | decide +kernel | rfl, by first | decide +kernel | rfl,
       by first | decide +kernel | rfl, by first | decide +kernel | rfl, by first | decide +kernel | rfl,
       by first | decide +kernel | rfl, by first | decide +kernel | rfl⟩,
   ⟨31, 1, 5, 0, (State.mapSense (running) 31 fun x => { x with mode := 3, queue := some 9, nextAt := 1 }),
       by first | decide +kernel | rfl, by first | decide +kernel | rfl⟩,
   ⟨31, 0, 5, 0, { (State.mapSense (running) 31 fun x => { x with mode := 3, queue := some 9 }) with io := { running.io with parts := [(0, { state := .quiescing })] } }, by first | decide +kernel | rfl, by first | decide +kernel | rfl, by first | decide +kernel | rfl, by first | decide +kernel | rfl, by first | decide +kernel | rfl, by first | decide +kernel | rfl⟩,
   ⟨31, 0, 5, 0, (State.mapSense (running) 31 fun x => { x with mode := 3, queue := some 9 }), ⟨by decide +kernel,
       by decide +kernel, by decide +kernel, by decide +kernel⟩, by first | decide +kernel | rfl,
       by first | decide +kernel | rfl, by first | decide +kernel | rfl, by first | decide +kernel | rfl,
       by first | decide +kernel | rfl, by first | decide +kernel | rfl, ⟨3, by decide, by decide +kernel⟩,
       by first | decide +kernel | rfl⟩,
   ⟨{ left := [], failed := 0, deferred := false }, { running with sense := { running.sense with calRun := some { left := [], failed := 0, deferred := false } } }, by first | decide +kernel | rfl, by first | decide +kernel | rfl, by first | decide +kernel | rfl, by first | decide +kernel | rfl, by first | decide +kernel | rfl⟩,
   ⟨0, 4, { runningAt 250000000 with sense := running.sense }, ⟨by decide +kernel, by decide +kernel, by decide +kernel,
       by decide +kernel⟩, by first | decide +kernel | rfl, by first | decide +kernel | rfl,
       by first | decide +kernel | rfl, by first | decide +kernel | rfl, by first | decide +kernel | rfl,
       by first | decide +kernel | rfl, by first | decide +kernel | rfl⟩,
   ⟨3, { running with sense := { running.sense with converters := [{}, {}, {}, { state := .calibrating }, { state := .standby }] } }, ⟨by decide +kernel, by decide +kernel, by decide +kernel, by decide +kernel⟩, by first | decide +kernel | rfl, by first | decide +kernel | rfl, by first | decide +kernel | rfl, by first | decide +kernel | rfl⟩,
   ⟨3, (State.mapSensor (running) 3 fun x => { x with on := true, restarts := [0, 0] }), ⟨by decide +kernel,
       by decide +kernel, by decide +kernel, by decide +kernel⟩, by first | decide +kernel | rfl,
       by first | decide +kernel | rfl, by first | decide +kernel | rfl⟩,
   ⟨3, (State.mapSensor (running) 3 fun x => { x with on := true, restarts := [0, 0, 0] }), ⟨by decide +kernel,
       by decide +kernel, by decide +kernel, by decide +kernel⟩, by first | decide +kernel | rfl,
       by first | decide +kernel | rfl, by first | decide +kernel | rfl⟩,
   ⟨3, 0, (State.mapSensor (running) 3 fun x => { x with restartAt := some 0 }), by first | decide +kernel | rfl,
       by first | decide +kernel | rfl, by first | decide +kernel | rfl, by first | decide +kernel | rfl,
       by first | decide +kernel | rfl⟩,
   ⟨3, (State.mapSensor (running) 3 fun x => { x with on := true }), ⟨by decide +kernel, by decide +kernel,
       by decide +kernel, by decide +kernel⟩, by first | decide +kernel | rfl, by first | decide +kernel | rfl⟩,
   ⟨3, (State.mapSensor (running) 3 fun x => { x with heldOff := true }), by first | decide +kernel | rfl,
       by first | decide +kernel | rfl, by first | decide +kernel | rfl, by first | decide +kernel | rfl⟩,
   ⟨3, (State.mapSensor (running) 3 fun x => { x with on := true }), by first | decide +kernel | rfl⟩⟩

/-- The hypotheses of `CoresAndStayComplete` can be met. -/
theorem test_cores_and_stay_complete_can_apply :
    (∃ (r : Request) (s : State), Clear cmdCpuQuery r s) ∧
    (∃ (r : Request) (s : State), Clear cmdCpuAppDvfsSet r s) ∧
    (∃ (r : Request) (s : State), Clear cmdSafetyCoreAssign r s ∧ r.byte 1 = 0xFF) ∧
    (∃ (r : Request) (s s1 : State) (f : XFault), Clear cmdSafetyCoreAssign r s ∧ r.byte 1 ≠ 0xFF ∧
        s.read r.issuer (r.field 8 8) (r.field 4 4) = (s1, .error f)) ∧
    (∃ (r : Request) (w : Nat) (s s1 : State), Clear cmdSafetyCoreAssign r s ∧ r.byte 1 ≠ 0xFF ∧
        s1.cpu.spare ≠ some (r.byte 0) ∧ s.cpu.spare ≠ some (r.byte 0) ∧
        s.read r.issuer (r.field 8 8) (r.field 4 4) = (s1, .ok w)) ∧
    (∃ (r : Request) (s : State), Clear cmdSafetyCoreControl r s ∧ r.byte 1 = 0) ∧
    (∃ (r : Request) (s : State), Clear cmdSafetyCoreControl r s ∧ r.byte 1 = 1) ∧
    (∃ (r : Request) (s : State), Clear cmdSafetySpareSet r s ∧ r.byte 0 = 0xFF) ∧
    (∃ (c : Nat) (v : BitVec 64) (x : CClass) (s : State), s.computeOn = true ∧ c < 4 ∧ s.furled (unitId 0x01 c) = false ∧
        x = { check := v.getLsbD 63, hClass := bitsOf v.toNat 10 8, vClass := bitsOf v.toNat 2 0 }) ∧
    (∃ (n : Nat) (s : State), s.computeOn = true ∧ n < 8 ∧ s.furled (unitId 0x02 n) = false ∧ (s.coreOf n).running = true) ∧
    (∃ (n : Nat) (again : Bool) (s : State), n < 8 ∧ (s.coreOf n).running = false) ∧
    (∃ (s : State), s.computeOn = true ∧ s.furled (unitId 0x05 0) = false ∧ s.cpu.backstayFails < 3) ∧
    (∃ (s : State), s.computeOn = true ∧ s.furled (unitId 0x05 0) = false ∧ s.cpu.backstayFails = 3) ∧
    (∃ (n : Nat) (s : State), s.computeOn = true ∧ s.furled (unitId 0x05 0) = false ∧ s.furled (unitId 0x03 0) = false ∧
        s.cpu.masthead.hoveTo = false ∧ s.cpu.masthead.present = true ∧ n < 2 ^ 16 ∧ s.cpu.masthead.expected = some n) ∧
    (∃ (n t0 : Nat) (s : State), s.computeOn = true ∧ s.furled (unitId 0x05 0) = false ∧ s.furled (unitId 0x03 0) = false ∧
        s.cpu.masthead.hoveTo = false ∧ s.cpu.masthead.present = false ∧ s.cpu.masthead.attempting = some t0 ∧
        s.now < t0 + 50000000) ∧
    (∃ (n : Nat) (s : State), s.computeOn = true ∧ s.cpu.masthead.present = true ∧ s.cpu.masthead.expected = some n ∧
        s.cpu.masthead.lastBeat + 4000000 ≤ s.now) ∧
    (∃ (n : Nat) (s : State), s.cpu.masthead.expected = some n ∧ s.now < s.cpu.masthead.lastBeat + 4000000) ∧
    (∃ (at_ : Nat) (s : State), s.cpu.masthead.nextAttempt = some at_ ∧ at_ ≤ s.now ∧ s.computeOn = true) ∧
    (∃ (at_ : Nat) (s : State), s.cpu.masthead.attempting = some at_ ∧ at_ + 50000000 ≤ s.now ∧ s.computeOn = true) ∧
    (∃ (at_ : Nat) (s : State), s.boot.hoveAt = some at_ ∧ s.cpu.masthead.hoveTo = true ∧ s.boot.fwRecord.trial = true ∧
        at_ + 1000000000 ≤ s.now) ∧
    (∃ (at_ : Nat) (s : State), s.boot.hoveAt = some at_ ∧ s.now < at_ + 1000000000) :=
  ⟨⟨(packetFor cmdCpuQuery 0 []), running, ⟨by decide +kernel, by decide +kernel⟩⟩,
   ⟨(packetFor cmdCpuAppDvfsSet 0 [(0, 1, 4)]), running, ⟨by decide +kernel, by decide +kernel⟩⟩,
   ⟨(packetFor cmdSafetyCoreAssign 0 [(0, 1, 7), (1, 1, 0xFF)]), running, ⟨by decide +kernel, by decide +kernel⟩,
       by first | decide +kernel | rfl⟩,
   ⟨(packetFor cmdSafetyCoreAssign 0 [(0, 1, 7), (1, 1, 1), (4, 4, 4), (8, 8, 0x1000)]), running, _, _, ⟨by decide +kernel,
       by decide +kernel⟩, by first | rfl | decide +kernel, rfl⟩,
   ⟨(packetFor cmdSafetyCoreAssign 0 [(0, 1, 6), (1, 1, 1), (4, 4, 4), (8, 8, dram), (16, 8, 0x1000), (24, 4, 0x7FFFC)]),
       _, running, _, ⟨by decide +kernel, by decide +kernel⟩, by first | rfl | decide +kernel,
       by first | rfl | decide +kernel, by first | rfl | decide +kernel, rfl⟩,
   ⟨(packetFor cmdSafetyCoreControl 0 [(0, 1, 7)]), { running with io := { running.io with safetyPart := [(7, some 1)] } },
       ⟨by decide +kernel, by decide +kernel⟩, by first | decide +kernel | rfl⟩,
   ⟨(packetFor cmdSafetyCoreControl 1 [(0, 1, 7),
       (1, 1, 1)]), { running with io := { running.io with safetyPart := [(7, some 1)] } }, ⟨by decide +kernel,
       by decide +kernel⟩, by first | decide +kernel | rfl⟩,
   ⟨(packetFor cmdSafetySpareSet 0 [(0, 1, 0xFF)]), running, ⟨by decide +kernel, by decide +kernel⟩,
       by first | decide +kernel | rfl⟩,
   ⟨3, 0x8000000000000707#64, _, running, by first | rfl | decide +kernel, by first | rfl | decide +kernel,
       by first | rfl | decide +kernel, by first | rfl | decide +kernel⟩,
   ⟨7, (State.mapCore (running) 7 fun x => { x with running := true }), by first | decide +kernel | rfl,
       by first | decide +kernel | rfl, by first | decide +kernel | rfl, by first | decide +kernel | rfl⟩,
   ⟨7, true, running, by first | decide +kernel | rfl, by first | decide +kernel | rfl⟩,
   ⟨running, by first | decide +kernel | rfl, by first | decide +kernel | rfl, by first | decide +kernel | rfl⟩,
   ⟨{ running with cpu := { running.cpu with backstayFails := 3 } }, by first | decide +kernel | rfl,
       by first | decide +kernel | rfl, by first | decide +kernel | rfl⟩,
   ⟨0xFFFF, (State.mapMasthead (running) fun x => { x with expected := some 0xFFFF }), by first | decide +kernel | rfl,
       by first | decide +kernel | rfl, by first | decide +kernel | rfl, by first | decide +kernel | rfl,
       by first | decide +kernel | rfl, by first | decide +kernel | rfl, by first | decide +kernel | rfl⟩,
   ⟨0xFFFF, 0, (State.mapMasthead (running) fun x => { x with present := false, attempting := some 0 }),
       by first | decide +kernel | rfl, by first | decide +kernel | rfl, by first | decide +kernel | rfl,
       by first | decide +kernel | rfl, by first | decide +kernel | rfl, by first | decide +kernel | rfl,
       by first | decide +kernel | rfl⟩,
   ⟨5, (State.mapMasthead (runningAt 4000000) fun x => { x with expected := some 5 }), by first | decide +kernel | rfl,
       by first | decide +kernel | rfl, by first | decide +kernel | rfl, by first | decide +kernel | rfl⟩,
   ⟨5, (State.mapMasthead (running) fun x => { x with expected := some 5 }), by first | decide +kernel | rfl,
       by first | decide +kernel | rfl⟩,
   ⟨0, (State.mapMasthead (running) fun x => { x with nextAttempt := some 0 }), by first | decide +kernel | rfl,
       by first | decide +kernel | rfl, by first | decide +kernel | rfl⟩,
   ⟨0, (State.mapMasthead (runningAt 50000000) fun x => { x with attempting := some 0 }), by first | decide +kernel | rfl,
       by first | decide +kernel | rfl, by first | decide +kernel | rfl⟩,
   ⟨0, { (State.mapMasthead (runningAt 1000000000) fun x => { x with hoveTo := true }) with boot := { running.boot with hoveAt := some 0, fwRecord := { running.boot.fwRecord with trial := true } } }, by first | decide +kernel | rfl, by first | decide +kernel | rfl, by first | decide +kernel | rfl, by first | decide +kernel | rfl⟩,
   ⟨0, { running with boot := { running.boot with hoveAt := some 0 } }, by first | decide +kernel | rfl,
       by first | decide +kernel | rfl⟩⟩

/-- The hypotheses of `KeySlotsComplete` can be met. -/
theorem test_key_slots_complete_can_apply :
    (∃ (r : Request) (s : State), Clear cmdKeySlotOwnerSet r s ∧ (s.slotOf (keySlot r)).state = .empty) ∧
    (∃ (r : Request) (s : State), Clear cmdKeyGenerate r s ∧ s.keys.trngWaiting = false ∧ persistent (keyAttr r) = true) ∧
    (∃ (r : Request) (s : State), Clear cmdKeyGenerate r s ∧ s.keys.trngWaiting = true) ∧
    (∃ (r : Request) (s : State), Clear cmdKeyDerive r s ∧ persistent (keyAttr r) = false) ∧
    (∃ (r : Request) (w : Nat) (s s1 : State), Clear cmdKeyUnwrap r s ∧ s.read r.issuer (r.field 16 8) 64 = (s1, .ok w) ∧
        unwrapBlob (s.slotOf (r.field 8 2)).octets w = none) ∧
    (∃ (r : Request) (w key : Nat) (s s1 : State), Clear cmdKeyUnwrap r s ∧ s.read r.issuer (r.field 16 8) 64 = (s1, .ok w) ∧
        unwrapBlob (s.slotOf (r.field 8 2)).octets w = some key ∧ permits (byteField w 2 2) (bitsOf (keyAttr r) 6 0) = true ∧
        bits256 (byteField w 2 2) = bits256 (keyAttr r) ∧ persistent (keyAttr r) = false) ∧
    (∃ (r : Request) (w : Nat) (s s1 : State), Clear cmdKeyImport r s ∧ persistent (keyAttr r) = false ∧
        s.read r.issuer (r.field 8 8) (if bits256 (keyAttr r) then 32 else 16) = (s1, .ok w)) ∧
    (∃ (r : Request) (blob : Nat) (s s2 : State), Clear cmdKeyWrap r s ∧
        blob = wrapBlob (s.slotOf (r.field 2 2)).octets (keySlot r) (s.slotOf (keySlot r)).attr s.keys.otp.deviceTag (s.slotOf (r.field 2 2)).counter ((s.slotOf (keySlot r)).key % 2 ^ (if bits256 (s.slotOf (keySlot r)).attr then 256 else 128)) ∧ (s.drawCounter (r.field 2 2)).2.write r.issuer (r.field 8 8) 64 blob = (s2, none)) ∧
    (∃ (r : Request) (s : State), Clear cmdKeyDestroy r s ∧ persistent (s.slotOf (keySlot r)).attr = false) ∧
    (∃ (r : Request) (s : State), Clear cmdKeyQuery r s) ∧
    (∃ (k key : Nat) (w : KeyWrite) (s : State), s.computeOn = true ∧ s.absent = false ∧ (s.slotOf k).writing = some w ∧
        w.key = some key ∧ (s.slotOf k).erasing (s.slotOf k).targetB = false) ∧
    (∃ (k : Nat) (w : KeyWrite) (s : State), s.computeOn = true ∧ s.absent = false ∧ (s.slotOf k).writing = some w ∧
        ((w.key = none ∨ (s.slotOf k).erasing (s.slotOf k).targetB = false))) ∧
    (∃ (k : Nat) (s : State), s.computeOn = true ∧ s.nvFurled = false) ∧
    (∃ (k : Nat) (s : State), s.computeOn = true ∧ s.nvFurled = false ∧ (s.slotOf k).hasKey = true ∧
        persistent (s.slotOf k).attr = true ∧ 2048 < (s.slotOf k).counter % 4096 ∧ (s.slotOf k).counter < (s.slotOf k).high ∧
        (s.slotOf k).high ≤ blockEnd (s.slotOf k).counter) ∧
    (∃ (k : Nat) (s : State), (s.slotOf k).counter % 4096 ≤ 2048) :=
  ⟨⟨(packetFor cmdKeySlotOwnerSet 0 [(0, 2, 511), (8, 8, 3)]), running, ⟨by decide +kernel, by decide +kernel⟩,
      by first | decide +kernel | rfl⟩,
   ⟨(packetFor cmdKeyGenerate 0 [(0, 2, 511),
       (4, 2, 0x0E7F)]), { running with keys := { running.keys with otp := { root0 := { start := true, done := true, contents := 5 } }, slots := [(511, { owners := 1 })] } }, ⟨by decide +kernel, by decide +kernel⟩, by first | decide +kernel | rfl, by first | decide +kernel | rfl⟩,
   ⟨(packetFor cmdKeyGenerate 0 [(0, 2, 511),
       (4, 2, 0x0A7F)]), { running with keys := { running.keys with trngWaiting := true, slots := [(511, { owners := 1 })] } }, ⟨by decide +kernel, by decide +kernel⟩, by first | decide +kernel | rfl⟩,
   ⟨(packetFor cmdKeyDerive 0 [(0, 2, 511), (4, 2, 0x023F), (8, 2, 510),
       (12, 4, 0x10000)]), State.mapSlot (State.mapSlot running 511 fun k => { k with owners := 1 }) 510 fun k => { k with owners := 1, state := .ready, attr := 0x0210 }, ⟨by decide +kernel, by decide +kernel⟩, by first | decide +kernel | rfl⟩,
   ⟨(packetFor cmdKeyUnwrap 0 [(0, 2, 511), (4, 2, 0x0001), (8, 2, 510),
       (16, 8, dram)]), 0, State.mapSlot (State.mapSlot running 511 fun k => { k with owners := 1 }) 510 fun k => { k with owners := 1, state := .ready, attr := 0x0040 }, _, ⟨by decide +kernel, by decide +kernel⟩, read_gives (by decide +kernel), by decide +kernel⟩,
   ⟨(packetFor cmdKeyUnwrap 0 [(0, 2, 511), (4, 2, 0x0001), (8, 2, 510),
       (16, 8, dram)]), wrapped, 9, { State.mapSlot (State.mapSlot running 511 fun k => { k with owners := 1 }) 510 fun k => { k with owners := 1, state := .ready, attr := 0x0060, key := 7 } with io := { running.io with mem := cells dram 64 wrapped } }, _, ⟨by decide +kernel, by decide +kernel⟩, read_gives (by decide +kernel), by decide +kernel, by first | rfl | decide +kernel, by first | rfl | decide +kernel, by first | rfl | decide +kernel⟩,
   ⟨(packetFor cmdKeyImport 0 [(0, 2, 511), (4, 2, 0x0201),
       (8, 8, dram)]), 0, { running with keys := { running.keys with slots := [(511, { owners := 1 })] } }, _,
       ⟨by decide +kernel, by decide +kernel⟩, by decide +kernel, read_gives (by decide +kernel)⟩,
   ⟨(packetFor cmdKeyWrap 0 [(0, 2, 511), (2, 2, 510), (8, 8, dram)]),
       _, State.mapSlot (State.mapSlot running 511 fun k => { k with owners := 1, state := .ready, attr := 0x0001, key := 9 }) 510 fun k => { k with owners := 1, state := .ready, attr := 0x0860, key := 7 }, _, ⟨by decide +kernel, by decide +kernel⟩, rfl, Prod.ext rfl (by decide +kernel)⟩,
   ⟨(packetFor cmdKeyDestroy 0 [(0, 2, 511)]), running.mapSlot 511 fun k => { k with owners := 1, state := .ready },
       ⟨by decide +kernel, by decide +kernel⟩, by first | decide +kernel | rfl⟩,
   ⟨(packetFor cmdKeyQuery 0 [(0, 2, 511)]), running, ⟨by decide +kernel, by decide +kernel⟩⟩,
   ⟨511, 9, { opcode := 0x11, issuer := 0, key := some 9, attr := 0x0401, owners := 1, version := 1, counter := none, was := .empty }, (State.mapSlot (running) 511 fun x => { x with state := .committing, writing := some { opcode := 0x11, issuer := 0, key := some 9, attr := 0x0401, owners := 1, version := 1, counter := none, was := .empty } }), by first | decide +kernel | rfl, by first | decide +kernel | rfl, by first | decide +kernel | rfl, by first | decide +kernel | rfl, by first | decide +kernel | rfl⟩,
   ⟨511, { opcode := 0x16, issuer := 0, key := none, attr := 0, owners := 1, version := 1, counter := none, was := .ready },
       (State.mapSlot (running) 511 fun x => { x with state := .committing, writing := some { opcode := 0x16, issuer := 0, key := none, attr := 0, owners := 1, version := 1, counter := none, was := .ready } }), by first | decide +kernel | rfl, by first | decide +kernel | rfl, by first | decide +kernel | rfl, by decide +kernel⟩,
   ⟨511, running, by first | decide +kernel | rfl, by first | decide +kernel | rfl⟩,
   ⟨511, (State.mapSlot (running) 511 fun x => { x with state := .ready, attr := 0x0C02, counter := 2049, high := 4096 }),
       by first | decide +kernel | rfl, by first | decide +kernel | rfl, by first | decide +kernel | rfl,
       by first | decide +kernel | rfl, by first | decide +kernel | rfl, by first | decide +kernel | rfl,
       by first | decide +kernel | rfl⟩,
   ⟨511, (State.mapSlot (running) 511 fun x => { x with counter := 2048 }), by first | decide +kernel | rfl⟩⟩

/-- The hypotheses of `LockerEventsComplete` can be met. -/
theorem test_locker_events_complete_can_apply :
    (∃ (s : State), s.computeOn = true ∧ s.furled (unitId 0x21 0) = false) ∧
    (∃ (s : State), s.computeOn = true ∧ s.furled (unitId 0x21 0) = false ∧ s.keys.trngWaiting = true) ∧
    (∃ (s : State), s.boot.phase = .tested ∧ s.tamperHeld = true) ∧
    (∃ (s : State), s.boot.phase = .tested ∧ s.tamperHeld = false ∧ s.lifecycle ≠ 5 ∧ s.keys.debugSealed = false) ∧
    (∃ (s : State), s.boot.phase ≠ .tested) ∧
    (∃ (s : State), s.computeOn = true ∧ s.keys.erasePending = 0) ∧
    (∃ (s : State), s.computeOn = true ∧ s.keys.erasePending ≠ 0) ∧
    (∃ (s : State), s.keys.challenge.isSome = true ∧ s.keys.challengeAt + 60000000000 ≤ s.now) ∧
    (∃ (s : State), s.now < s.keys.challengeAt + 60000000000) :=
  ⟨⟨running, by first | decide +kernel | rfl, by first | decide +kernel | rfl⟩,
   ⟨{ running with keys := { running.keys with trngWaiting := true } }, by first | decide +kernel | rfl,
       by first | decide +kernel | rfl, by first | decide +kernel | rfl⟩,
   ⟨{ running with boot := { running.boot with phase := .tested }, keys := { running.keys with tamper := [(4, { latched := true })] } }, by first | decide +kernel | rfl, by first | decide +kernel | rfl⟩,
   ⟨{ running with boot := { running.boot with phase := .tested } }, by first | decide +kernel | rfl,
       by first | decide +kernel | rfl, by first | decide +kernel | rfl, by first | decide +kernel | rfl⟩,
   ⟨running, by first | decide +kernel | rfl⟩,
   ⟨running, by first | decide +kernel | rfl, by first | decide +kernel | rfl⟩,
   ⟨{ running with keys := { running.keys with erasePending := 3 } }, by first | decide +kernel | rfl,
       by first | decide +kernel | rfl⟩,
   ⟨{ runningAt 60000000000 with keys := { running.keys with challenge := some 5 } }, by first | decide +kernel | rfl,
       by first | decide +kernel | rfl⟩,
   ⟨running, by first | decide +kernel | rfl⟩⟩

/-- The hypotheses of `LifeCycleComplete` can be met. -/
theorem test_life_cycle_complete_can_apply :
    (∃ (r : Request) (s : State), Clear cmdLifecycleRead r s) ∧
    (∃ (r : Request) (s : State), Clear cmdLifecycleChallenge r s ∧ s.keys.trngWaiting = false) ∧
    (∃ (r : Request) (s : State), Clear cmdLifecycleAdvance r s ∧ s.lifecycle = 3 ∧ r.field 8 8 = 0) ∧
    (∃ (r : Request) (s : State), Clear cmdLifecycleAdvance r s ∧ s.lifecycle ≠ 3) ∧
    (∃ (r : Request) (s : State), Clear cmdDebugOpen r s ∧ s.lifecycle ≠ 3) ∧
    (∃ (r : Request) (s : State), Clear cmdOtpWrite r s ∧ s.lifecycle ≠ 3 ∧ r.byte 0 = 1 ∧
        s.otpRefuses 1 (r.byte 1) 0 = false) ∧
    (∃ (r : Request) (s : State), Clear cmdTamperRelease r s ∧ s.lifecycle ≠ 3) ∧
    (∃ (o : LifeOp) (rest : List LifeOp) (s : State), s.keys.ops = o :: rest ∧ s.computeOn = true ∧ o.opcode = 0x0905 ∧
        s.absent = false ∧ s.otpRefuses o.target o.index o.value = true ∧ s.lifecycle ≠ 5 ∧ s.boot.waiting = none) ∧
    (∃ (o : LifeOp) (rest : List LifeOp) (s : State), s.keys.ops = o :: rest ∧ s.computeOn = true ∧ o.opcode = 0x0905 ∧
        s.absent = false ∧ s.otpRefuses o.target o.index o.value = false ∧ s.boot.waiting = none) ∧
    (∃ (r : Request) (s : State), Clear cmdTamperConfig r s) ∧
    (∃ (r : Request) (s : State), Clear cmdTamperLogRead r s ∧
        ((s.keys.log.filter fun e => decide (r.field 0 4 ≤ e.seq) && decide (e.seq < r.field 0 4 + r.byte 4)) = [])) ∧
    (∃ (i d : Nat) (s : State), s.tamperWatched i = false) ∧
    (∃ (i d : Nat) (s : State), s.tamperWatched i = true ∧ s.furled (unitId 0x22 i) = false ∧ i < 3 ∧ d ≠ 0) ∧
    (∃ (i d : Nat) (s : State), s.tamperWatched i = true ∧ 3 ≤ i ∧ d &&& (s.tamperOf i).mask = 0) :=
  ⟨⟨(packetFor cmdLifecycleRead 0 []), running, ⟨by decide +kernel, by decide +kernel⟩⟩,
   ⟨(packetFor cmdLifecycleChallenge 0 []), running, ⟨by decide +kernel, by decide +kernel⟩, by first | decide +kernel | rfl⟩,
   ⟨(packetFor cmdLifecycleAdvance 0 [(0, 1, 4)]), { running with keys := { running.keys with otp := { running.keys.otp with lifecycle := 3 } } }, ⟨by decide +kernel, by decide +kernel⟩, by first | decide +kernel | rfl, by first | decide +kernel | rfl⟩,
   ⟨(packetFor cmdLifecycleAdvance 0 [(0, 1, 3)]), { running with keys := { running.keys with otp := { running.keys.otp with lifecycle := 2 } } }, ⟨by decide +kernel, by decide +kernel⟩, by first | decide +kernel | rfl⟩,
   ⟨(packetFor cmdDebugOpen 0 [(0, 1, 1)]), running, ⟨by decide +kernel, by decide +kernel⟩, by first | decide +kernel | rfl⟩,
   ⟨(packetFor cmdOtpWrite 0 [(0, 1, 1),
       (1, 1, 3)]), { running with keys := { running.keys with otp := { running.keys.otp with fwKeys := [(0, { written := true }), (3, { written := true })], lifecycle := 2 } } }, ⟨by decide +kernel, by decide +kernel⟩, by first | decide +kernel | rfl, by first | decide +kernel | rfl, by first | decide +kernel | rfl⟩,
   ⟨(packetFor cmdTamperRelease 0 []), running, ⟨by decide +kernel, by decide +kernel⟩, by first | decide +kernel | rfl⟩,
   ⟨{ opcode := 0x0905, target := 1, index := 3, value := 0 }, [], { running with keys := { running.keys with ops := [{ opcode := 0x0905, target := 1, index := 3, value := 0 }], otp := { running.keys.otp with fwKeys := [] } } }, by first | decide +kernel | rfl, by first | decide +kernel | rfl, by first | decide +kernel | rfl, by first | decide +kernel | rfl, by first | decide +kernel | rfl, by first | decide +kernel | rfl, by first | decide +kernel | rfl⟩,
   ⟨{ opcode := 0x0905, target := 1, index := 3, value := 0 }, [], { running with keys := { running.keys with ops := [{ opcode := 0x0905, target := 1, index := 3, value := 0 }], otp := { running.keys.otp with fwKeys := [(0, { written := true }), (3, { written := true })], lifecycle := 2 } } }, by first | decide +kernel | rfl, by first | decide +kernel | rfl, by first | decide +kernel | rfl, by first | decide +kernel | rfl, by first | decide +kernel | rfl, by first | decide +kernel | rfl⟩,
   ⟨(packetFor cmdTamperConfig 0 [(0, 1, 2), (1, 1, 2), (2, 1, 3), (3, 1, 1), (4, 1, 255), (5, 1, 15)]), running,
       ⟨by decide +kernel, by decide +kernel⟩⟩,
   ⟨(packetFor cmdTamperLogRead 0 [(0, 4, 1), (4, 1, 64), (8, 8, dram)]), running, ⟨by decide +kernel, by decide +kernel⟩,
       by first | decide +kernel | rfl⟩,
   ⟨5, 0, running, by first | decide +kernel | rfl⟩,
   ⟨2, 1, { running with keys := { running.keys with tamper := [(2, { cls := 1 })] } }, by first | decide +kernel | rfl,
       by first | decide +kernel | rfl, by first | decide +kernel | rfl, by first | decide +kernel | rfl⟩,
   ⟨4, 16, { running with keys := { running.keys with tamper := [(4, { cls := 1, mask := 15 })] } },
       by first | decide +kernel | rfl, by first | decide +kernel | rfl, by first | decide +kernel | rfl⟩⟩

/-- As `running`, with the first 2 MiB of guest 1 mapped by its manager stage. -/
def guestMemory : State :=
  { running with io := { running.io with
      msRoot := [(1, { enable := true, addr := dram })], memOwner := [(1, { owner := 1 })],
      mem := cells dram 8 0x200001001 ++ cells (dram + 0x1000) 8 0x200002001 ++ cells (dram + 0x2000) 8 0x20020000F } }

/-- A firmware image of 4 zero bytes whose signature `imageKey` verifies; both are computed outside from the definitions of ECDSA and
SHA-256. -/
def signedImage : Nat :=
  0x20f07a02b2e38f491f20ba208c1b46118ba35f9ef89404d0babf5ff278eba70320f07a02b2e38f491f20ba208c1b46118ba35f9ef89404d0babf5ff278eba7030000000000000000000000001911b814c02405e88c49bc52dc8a77ea48d73dc42d195740db2fa90498613fdf0000000000000004000000010000000346375a54

/-- The public key of `signedImage`. -/
def imageKey : Nat :=
  0xb940fdb1ea986eda6f3906585eb9bbe3f62be1b319742966ffa7b39ee6a0f1c9a5044003b4c0a0ab5a9eb81f87aabed4d2acee797c72a63cb8792d258dc0dd3a

/-- A value of an operation's read. -/
theorem read_octets {x : State × Except XFault (List Nat)} {l : List Nat}
    (h : (match x.2 with | .ok v => decide (v = l) | .error _ => false) = true) : x = (x.1, .ok l) := by
  obtain ⟨s, r⟩ := x
  cases r with
  | ok v => simp_all
  | error f => simp_all

/-- The hypotheses of `CipherAndCvuCommandsComplete` can be met. -/
theorem test_cipher_and_cvu_commands_complete_can_apply :
    (∃ (r : Request) (o : CipherOp) (s : State), Clear cmdCipherRun r s ∧ r.field 4 2 = 0xFFFF ∧
        o = { issuer := r.issuer, ring := r.ring.val, flow := none, desc := r.params.toNat, counter := if drawsCounter (r.byte 2) (r.byte 3) then some (s.slotOf (r.field 0 2)).counter else none, key := (s.slotOf (r.field 0 2)).key, bits256 := bits256 (s.slotOf (r.field 0 2)).attr, strand := nth 0 s.strands (s.draw.1 % max 1 s.strands.length), begunAt := s.now, conforms := true, repeated := false }) ∧
    (∃ (i : Nat) (o : CipherOp) (s : State), s.cipher.ops[i]? = some o ∧ s.computeOn = true ∧ o.conforms = true ∧
        s.laneHead i o = true ∧ o.flow = none) ∧
    (∃ (o : CipherOp) (block aad data : List Nat) (s s1 s2 s3 : State), s.readOp o.issuer o.opb 64 = (s1, .ok block) ∧
      s1.readOp o.issuer o.aad (if o.mode < 2 then o.aadLen else 0) = (s2, .ok aad) ∧
          s2.readOp o.issuer o.src o.length = (s3, .ok data)) ∧
    (∃ (o : CipherOp) (block aad data out tag : List Nat) (s s1 : State), o.mode ≠ 1 ∧ o.overlaps = false ∧
      cipherResult o.mode 1 o.tagLen (keyOctets o.key o.bits256) (block.take (if o.mode = 0 then 12 else 16)) aad data = (out, tag) ∧
      tag = (block.drop 16).take tag.length ∧ s.writeOutput o out = (s1, none)) ∧
    (∃ (o : CipherOp) (block aad data out tag : List Nat) (s s1 : State), o.mode ≠ 1 ∧
      cipherResult o.mode 1 o.tagLen (keyOctets o.key o.bits256) (block.take (if o.mode = 0 then 12 else 16)) aad data = (out, tag) ∧
      tag ≠ (block.drop 16).take tag.length ∧
      State.writeOutput { s with cipher := { s.cipher with
        tagFails := Table.modify 0 s.cipher.tagFails o.issuer fun n => satAdd 32 n 1 } } o (out.map fun _ => 0) = (s1, none)) ∧
    (∃ (o : CipherOp) (st : Status) (s s1 : State), o.issuer ≠ 0 ∧ o.int = false ∧
        s.write o.issuer (o.opb + 44) 4 (2 ^ 31 + st.code) = (s1, none)) ∧
    (∃ (r : Request) (s : State), Clear cmdCipherCounterRead r s) ∧
    (∃ (r : Request) (s : State), Clear cmdCipherQuery r s ∧ r.issuer = 0) ∧
    (∃ (r : Request) (s : State), Clear cmdCipherHoldSet r s) ∧
    (∃ (r : Request) (s : State), Clear cmdCvuConfig r s) ∧
    (∃ (r : Request) (w : Nat) (x : Checked) (s s1 s2 : State), Clear cmdCvuRun r s ∧ r.field 24 2 = 0xFFFF ∧
        s.read r.issuer (r.field 8 8) (r.field 4 4) = (s1, .ok w) ∧
        s1.cvuItem (r.byte 0) (r.field 8 8) (s.cvuOf (r.byte 0)).layout.checkOffset (toBytes (r.field 4 4) w) (if r.bit 1 0 then some (r.field 16 8) else none) (r.bit 1 0 || r.bit 1 1) (r.bit 1 1) = (s2, x)) ∧
    (∃ (n address off : Nat) (data : List Byte) (e : Option Nat) (c a : Bool) (s : State),
        (s.cvuItem n address off data e c a).2.verdict = 0) ∧
    (∃ (r : Request) (s : State), Clear cmdCvuStreamAttach r s) ∧
    (∃ (r : Request) (s : State), Clear cmdCvuQuery r s) :=
  ⟨⟨(packetFor cmdCipherRun 0 [(0, 2, 511), (2, 1, 2), (3, 1, 0), (4, 2, 0xFFFF), (6, 1, 0), (8, 4, 16), (16, 8, dram),
      (24, 8, dram), (40, 8, dram + 0x1000)]), _,
      (State.mapSlot (running) 511 fun x => { x with state := .ready, owners := 1, attr := 0x0801, key := 7 }),
      ⟨by decide +kernel, by decide +kernel⟩, by first | rfl | decide +kernel, rfl⟩,
   ⟨0, { issuer := 0, ring := 0, flow := none, desc := (pack [(0, 2, 511), (2, 1, 4), (3, 1, 0), (4, 2, 0xFFFF), (6, 1, 16),
       (8, 4, 16), (12, 4, 0), (16, 8, dram), (24, 8, dram), (32, 8, dram), (40, 8,
       (dram + 0x1000))]), counter := none, key := 7, bits256 := false, strand := 0, begunAt := 0, conforms := true, repeated := false }, { running with cipher := { running.cipher with ops := [{ issuer := 0, ring := 0, flow := none, desc := (pack [(0, 2, 511), (2, 1, 4), (3, 1, 0), (4, 2, 0xFFFF), (6, 1, 16), (8, 4, 16), (12, 4, 0), (16, 8, dram), (24, 8, dram), (32, 8, dram), (40, 8, (dram + 0x1000))]), counter := none, key := 7, bits256 := false, strand := 0, begunAt := 0, conforms := true, repeated := false }] } }, by first | decide +kernel | rfl, by first | decide +kernel | rfl, by first | decide +kernel | rfl, by first | decide +kernel | rfl, by first | decide +kernel | rfl⟩,
   ⟨{ issuer := 0, ring := 0, flow := none, desc := (pack [(0, 2, 511), (2, 1, 2), (3, 1, 1), (4, 2, 0xFFFF), (6, 1, 0),
       (8, 4, 16), (12, 4, 0), (16, 8, dram), (24, 8, dram), (32, 8, dram), (40, 8,
       (dram + 0x1000))]), counter := none, key := 7, bits256 := false, strand := 0, begunAt := 0, conforms := true, repeated := false }, List.replicate 64 0, [], List.replicate 16 0, running, _, _, _, read_octets (by decide +kernel), rfl, read_octets (by decide +kernel)⟩,
   ⟨{ issuer := 0, ring := 0, flow := none, desc := (pack [(0, 2, 511), (2, 1, 2), (3, 1, 1), (4, 2, 0xFFFF), (6, 1, 0),
       (8, 4, 16), (12, 4, 0), (16, 8, dram), (24, 8, dram), (32, 8, dram), (40, 8,
       (dram + 0x1000))]), counter := none, key := 7, bits256 := false, strand := 0, begunAt := 0, conforms := true, repeated := false }, [], [], List.replicate 16 0, _, _, running, _, by decide +kernel, by decide +kernel, Prod.ext rfl rfl, by decide +kernel, Prod.ext rfl (by decide +kernel)⟩,
   ⟨{ issuer := 0, ring := 0, flow := none, desc := (pack [(0, 2, 511), (2, 1, 4), (3, 1, 1), (4, 2, 0xFFFF), (6, 1, 16),
       (8, 4, 0), (12, 4, 0), (16, 8, dram), (24, 8, dram), (32, 8, dram), (40, 8,
       (dram + 0x1000))]), counter := none, key := 7, bits256 := false, strand := 0, begunAt := 0, conforms := true, repeated := false }, List.replicate 64 0, [], [], _, _, running, _, by decide +kernel, Prod.ext rfl rfl, by decide +kernel, Prod.ext rfl (by decide +kernel)⟩,
   ⟨{ issuer := 1, ring := 0, flow := none, desc := (pack [(0, 2, 511), (2, 1, 4), (3, 1, 1), (4, 2, 0xFFFF), (6, 1, 16),
       (8, 4, 0), (12, 4, 0), (16, 8, dram), (24, 8, dram), (32, 8, dram),
       (40, 8, 0x1000)]), counter := none, key := 7, bits256 := false, strand := 0, begunAt := 0, conforms := true, repeated := false }, .done, guestMemory, _, by decide, by decide +kernel, Prod.ext rfl (by decide +kernel)⟩,
   ⟨(packetFor cmdCipherCounterRead 0 [(0, 2, 511)]),
       (State.mapSlot (running) 511 fun x => { x with state := .ready, owners := 1, attr := 0x0801, key := 7 }),
       ⟨by decide +kernel, by decide +kernel⟩⟩,
   ⟨(packetFor cmdCipherQuery 0 []), running, ⟨by decide +kernel, by decide +kernel⟩, by first | decide +kernel | rfl⟩,
   ⟨(packetFor cmdCipherHoldSet 0 [(0, 3, 0xF00000)]), running, ⟨by decide +kernel, by decide +kernel⟩⟩,
   ⟨(packetFor cmdCvuConfig 0 [(0, 1, 15), (2, 1, 64), (3, 1, 0x44), (5, 1, 32), (6, 1, 255), (25, 1, 8),
       (28, 4, 7)]), running, ⟨by decide +kernel, by decide +kernel⟩⟩,
   ⟨(packetFor cmdCvuRun 0 [(0, 1, 15), (4, 4, 16), (8, 8, dram), (24, 2, 0xFFFF)]), 0, _,
       (running.mapCvu 15 fun c => { c with width := 8, flags := 0x40, maxDelta := 1, foldBytes := 1 }), _, _,
       ⟨by decide +kernel, by decide +kernel⟩,
       by first | rfl | decide +kernel, read_gives (by decide +kernel), Prod.ext rfl rfl⟩,
   ⟨15, dram, 0, [1, 2], none, false, false,
       (running.mapCvu 15 fun c => { c with width := 8, flags := 0x40, maxDelta := 1, foldBytes := 1 }), by decide +kernel⟩,
   ⟨(packetFor cmdCvuStreamAttach 0 [(0, 1, 0xFF), (2, 2, 1023)]), running, ⟨by decide +kernel, by decide +kernel⟩⟩,
   ⟨(packetFor cmdCvuQuery 0 [(0, 1, 15), (1, 1, 1)]), running, ⟨by decide +kernel, by decide +kernel⟩⟩⟩

/-- The hypotheses of `FairleadCompletes` can be met. -/
theorem test_fairlead_completes_can_apply :
    (∃ (r : Request) (s : State), Clear cmdFairleadConfig r s ∧ (s.fair.link ≠ .disabled ∨ s.fairStopped = true) ∧
        r.bit 0 0 = true) ∧
    (∃ (r : Request) (s : State), Clear cmdFairleadConfig r s ∧ s.fair.link = .disabled ∧ s.fairStopped = false ∧
        r.bit 0 0 = true) ∧
    (∃ (r : Request) (s : State), Clear cmdFairleadConfig r s ∧ r.bit 0 0 = false) ∧
    (∃ (r : Request) (s : State), Clear cmdFairleadWindowSet r s) ∧
    (∃ (r : Request) (o : FairOp) (s : State), Clear cmdFairleadMove r s ∧
        o = { issuer := r.issuer, ring := r.ring.val, window := r.byte 0, write := decide (r.byte 1 = 0), offset := r.field 8 8, length := r.field 4 4, local_ := r.field 16 8, statusIova := r.field 24 8, vector := if r.bit 2 7 then some (r.bits 2 4 0) else none }) ∧
    (∃ (i : Nat) (data : List Byte) (o : FairOp) (s : State), s.runningOp i = some o ∧ o.write = true) ∧
    (∃ (i : Nat) (data : List Byte) (o : FairOp) (s : State), s.runningOp i = some o ∧ o.write = false ∧
        data.length = o.length) ∧
    (∃ (o : FairOp) (st : Status) (bytes : Nat) (s s1 : State), o.vector = none ∧
        s.write o.issuer o.statusIova 8 (pack [(0, 4, 0x80000000 + st.code), (4, 4, bytes)]) = (s1, none)) ∧
    (∃ (i t : Nat) (o : FairOp) (s : State), s.runningOp i = some o ∧ o.write = false ∧ o.begunAt = some t ∧
        t + 1000 * s.fair.config.timeoutUs ≤ s.now) ∧
    (∃ (i : Nat) (o : FairOp) (s : State), s.runningOp i = some o ∧ o.write = false ∧
        o.waitingFrom + 1000 * s.fair.config.backoffUs ≤ s.now) ∧
    (∃ (w : Nat) (b : Prefetch) (s : State), (s.fairWindow w).buffer = some b ∧ b.filledAt + 10000 ≤ s.now) ∧
    (∃ (r : Request) (s : State), Clear cmdFairleadFenceClear r s) ∧
    (∃ (r : Request) (s : State), Clear cmdFairleadCfg r s) ∧
    (∃ (r : Request) (s : State), Clear cmdFairleadQuery r s ∧ r.field 8 8 = 0) ∧
    (∃ (speed width : Nat) (l : List (Nat × Nat)) (s : State), s.computeOn = true ∧ s.fair.config.enable = true ∧
        s.fairStopped = false ∧ s.fair.link = .training ∧ 1 ≤ speed ∧ speed ≤ s.fair.config.maxSpeed ∧ 1 ≤ width ∧ width ≤ 2) ∧
    (∃ (bar address requester : Nat) (data : List Byte) (s : State), s.computeOn = true ∧ s.fair.link = .up ∧ data.length ≠ 0 ∧
        address % 4096 + data.length ≤ 4096 ∧ s.inboundWindow bar address data.length = none) ∧
    (∃ (bar address requester k : Nat) (data : List Byte) (s s1 : State), s.computeOn = true ∧ s.fair.link = .up ∧
        data.length ≠ 0 ∧ address % 4096 + data.length ≤ 4096 ∧ s.inboundWindow bar address data.length = some k ∧
        (s.fairWindow k).write = true ∧
        s.write (s.owner kindWindow k) ((s.fairWindow k).localBase + (address - (s.fairWindow k).farBase)) data.length (ofBytes data) = (s1, none)) ∧
    (∃ (cause address length : Nat) (s : State), s.computeOn = true ∧ s.absent = false ∧ s.rootComplex = true ∧
        s.fair.link = .up ∧ ((cause = 1 ∨ cause = 2 ∨ cause = 4)) ∧ s.sender address = none) :=
  ⟨⟨(packetFor cmdFairleadConfig 0 [(0, 1, 1), (1, 1, 4), (2, 1, 2), (3, 1, 2), (4, 4, 50000),
      (8, 2, 1000)]), { { running with boot := { running.boot with straps := 2 } } with fair := { running.fair with link := .training } }, ⟨by decide +kernel, by decide +kernel⟩, by decide +kernel, by decide +kernel⟩,
   ⟨(packetFor cmdFairleadConfig 0 [(0, 1, 1), (1, 1, 4), (2, 1, 2), (3, 1, 2), (4, 4, 50000),
       (8, 2, 1000)]), { running with boot := { running.boot with straps := 2 } }, ⟨by decide +kernel, by decide +kernel⟩,
       by first | decide +kernel | rfl, by first | decide +kernel | rfl, by first | decide +kernel | rfl⟩,
   ⟨(packetFor cmdFairleadConfig 0 [(0, 1, 0), (1, 1, 4), (2, 1, 2), (3, 1, 2), (4, 4, 50000),
       (8, 2, 1000)]), { running with boot := { running.boot with straps := 2 } }, ⟨by decide +kernel, by decide +kernel⟩,
       by first | decide +kernel | rfl⟩,
   ⟨(packetFor cmdFairleadWindowSet 0 [(0, 1, 15), (1, 1, 0x03), (3, 1, 36), (8, 8, 0x1000000000)]), running,
       ⟨by decide +kernel, by decide +kernel⟩⟩,
   ⟨(packetFor cmdFairleadMove 0 [(0, 1, 15), (4, 4, 4096), (16, 8, dram), (24, 8, dram)]),
       _, { running with fair := { running.fair with link := .up, windows := [(15, { enable := true })] } },
       ⟨by decide +kernel, by decide +kernel⟩, by first | rfl | decide +kernel⟩,
   ⟨0, [], { issuer := 0, ring := 0, window := 15, write := true, offset := 0, length := 1, local_ := dram, statusIova := dram, vector := none, begunAt := some 0 }, { running with fair := { running.fair with link := .up, ops := [{ issuer := 0, ring := 0, window := 15, write := true, offset := 0, length := 1, local_ := dram, statusIova := dram, vector := none, begunAt := some 0 }] } }, by first | decide +kernel | rfl, by first | decide +kernel | rfl⟩,
   ⟨0, [7], { issuer := 0, ring := 0, window := 15, write := false, offset := 0, length := 1, local_ := dram, statusIova := dram, vector := none, begunAt := some 0 }, { running with fair := { running.fair with link := .up, ops := [{ issuer := 0, ring := 0, window := 15, write := false, offset := 0, length := 1, local_ := dram, statusIova := dram, vector := none, begunAt := some 0 }] } }, by first | decide +kernel | rfl, by first | decide +kernel | rfl, by first | decide +kernel | rfl⟩,
   ⟨{ issuer := 0, ring := 0, window := 15, write := true, offset := 0, length := 1, local_ := dram, statusIova := dram, vector := none, begunAt := some 0 }, .done, 1, running, _, rfl, Prod.ext rfl (by decide +kernel)⟩,
   ⟨0, 0, { issuer := 0, ring := 0, window := 15, write := false, offset := 0, length := 1, local_ := dram, statusIova := dram, vector := none, begunAt := some 0 }, { runningAt 10000000 with fair := { running.fair with link := .up, ops := [{ issuer := 0, ring := 0, window := 15, write := false, offset := 0, length := 1, local_ := dram, statusIova := dram, vector := none, begunAt := some 0 }] } }, by first | decide +kernel | rfl, by first | decide +kernel | rfl, by first | decide +kernel | rfl, by first | decide +kernel | rfl⟩,
   ⟨0, { issuer := 0, ring := 0, window := 15, write := false, offset := 0, length := 1, local_ := dram, statusIova := dram, vector := none, begunAt := some 0 }, { runningAt 50000 with fair := { running.fair with link := .up, ops := [{ issuer := 0, ring := 0, window := 15, write := false, offset := 0, length := 1, local_ := dram, statusIova := dram, vector := none, begunAt := some 0 }] } }, by first | decide +kernel | rfl, by first | decide +kernel | rfl, by first | decide +kernel | rfl⟩,
   ⟨15, { start := 0, bytes := [1], filledAt := 0 }, { runningAt 10000 with fair := { running.fair with windows := [(15, { buffer := some { start := 0, bytes := [1], filledAt := 0 } })] } }, by first | decide +kernel | rfl, by first | decide +kernel | rfl⟩,
   ⟨(packetFor cmdFairleadFenceClear 0 [(0, 1, 15)]), running, ⟨by decide +kernel, by decide +kernel⟩⟩,
   ⟨(packetFor cmdFairleadCfg 0 [(0, 1, 1),
       (4, 2, 4092)]), { { running with boot := { running.boot with straps := 2 } } with fair := { running.fair with link := .up } }, ⟨by decide +kernel, by decide +kernel⟩⟩,
   ⟨(packetFor cmdFairleadQuery 0 [(0, 1, 1)]), running, ⟨by decide +kernel, by decide +kernel⟩,
       by first | decide +kernel | rfl⟩,
   ⟨4, 2, [], { running with fair := { running.fair with link := .training, config := { enable := true } } },
       by first | decide +kernel | rfl, by first | decide +kernel | rfl, by first | decide +kernel | rfl,
       by first | decide +kernel | rfl, by first | decide +kernel | rfl, by first | decide +kernel | rfl,
       by first | decide +kernel | rfl, by first | decide +kernel | rfl⟩,
   ⟨0, 4094, 0, [1, 2], { running with fair := { running.fair with link := .up } }, by first | decide +kernel | rfl,
       by first | decide +kernel | rfl, by first | decide +kernel | rfl, by first | decide +kernel | rfl,
       by first | decide +kernel | rfl⟩,
   ⟨0, 0x1FFE, 0, 31, [1, 2], { running with fair := { running.fair with link := .up, windows := [(31, { enable := true, write := true, farBase := 0x1000, localBase := dram })] } }, _, by first | rfl | decide +kernel, by first | rfl | decide +kernel, by first | rfl | decide +kernel, by first | rfl | decide +kernel, by first | rfl | decide +kernel, by first | rfl | decide +kernel, rfl⟩,
   ⟨4, 0, 4, { { running with boot := { running.boot with straps := 2 } } with fair := { running.fair with link := .up } },
       by first | decide +kernel | rfl, by first | decide +kernel | rfl, by first | decide +kernel | rfl,
       by first | decide +kernel | rfl, by first | decide +kernel | rfl, by first | decide +kernel | rfl⟩⟩

/-- The hypotheses of `HealthCommandsComplete` can be met. -/
theorem test_health_commands_complete_can_apply :
    (∃ (r : Request) (s : State), Clear cmdHealthClassSet r s) ∧
    (∃ (r : Request) (s : State), Clear cmdHealthUnitQuery r s) ∧
    (∃ (r : Request) (count : Nat) (s : State), Clear cmdUnitFurl r s ∧
        count = (countIn (s.unitHealth (r.field 0 2)).history s.now (s.classParams (r.field 0 2 / 256)).windowMs).length) ∧
    (∃ (r : Request) (s : State), Clear cmdUnitUnfurl r s) ∧
    (∃ (n : Nat) (s : State), (s.unitHealth n).testing = true ∧ (s.unitHealth n).furled = true) ∧
    (∃ (n : Nat) (u : State) (s : State), (s.unitHealth n).testing = true ∧ (s.unitHealth n).furled = true ∧ s.absent = false ∧
        (u = (s.mapUnit n fun h => { h with furled := false, testing := false, selftestFail := false, history := [], count := 0, furlTime := 0 }).restoreUnit n)) ∧
    (∃ (s : State), s.absent = false ∧ s.flow.owed ≠ []) ∧
    (∃ (n cause inFlight : Nat) (s : State), s.computeOn = true ∧ unitExists n = true ∧ s.furled n = false ∧
        s.counting n = true ∧ n ≠ unitId 0x1C 0 ∧
        (countIn ((s.now :: (s.unitHealth n).history).take 255) s.now (s.classParams (n / 256)).windowMs).length < (s.classParams (n / 256)).threshold) ∧
    (∃ (r : Request) (s : State), Clear cmdSelftestRun r s) ∧
    (∃ (r : Request) (s : State), Clear cmdSelftestScheduleSet r s) ∧
    (∃ (r : Request) (s : State), Clear cmdSelftestQuery r s) ∧
    (∃ (n : Nat) (s : State), unitExists n = true ∧ (onlinePeriod (n / 256)).isSome = true ∧ s.period (n / 256) ≠ 0 ∧
        (s.unitHealth n).pendingTest = false ∧ s.furled n = false) :=
  ⟨⟨(packetFor cmdHealthClassSet 0 [(0, 1, 0x27), (1, 1, 255), (4, 4, 3600000)]), running, ⟨by decide +kernel,
      by decide +kernel⟩⟩,
   ⟨(packetFor cmdHealthUnitQuery 0 [(0, 2, 0x1327)]), running, ⟨by decide +kernel, by decide +kernel⟩⟩,
   ⟨(packetFor cmdUnitFurl 0 [(0, 2, 0x1327)]), _, running, ⟨by decide +kernel, by decide +kernel⟩, rfl⟩,
   ⟨(packetFor cmdUnitUnfurl 0 [(0, 2, 0x1327)]),
       (State.mapUnit (running) 0x1327 fun h => { h with furled := true, furls := 1 }), ⟨by decide +kernel, by decide +kernel⟩⟩,
   ⟨0x1327, (State.mapUnit (running) 0x1327 fun h => { h with furled := true, testing := true }),
       by first | decide +kernel | rfl, by first | decide +kernel | rfl⟩,
   ⟨0x1327, _, (State.mapUnit (running) 0x1327 fun h => { h with furled := true, testing := true }),
       by first | rfl | decide +kernel, by first | rfl | decide +kernel, by first | rfl | decide +kernel, rfl⟩,
   ⟨{ running with flow := { running.flow with owed := [{ unit := 0x1327, at_ := 0, cause := 1, flows := [] }] } },
       by first | decide +kernel | rfl, by first | decide +kernel | rfl⟩,
   ⟨0x1327, 1, 0, running, by first | decide +kernel | rfl, by first | decide +kernel | rfl,
       by first | decide +kernel | rfl, by first | decide +kernel | rfl, by first | decide +kernel | rfl,
       by first | decide +kernel | rfl⟩,
   ⟨(packetFor cmdSelftestRun 0 [(0, 2, 0x1327)]), running, ⟨by decide +kernel, by decide +kernel⟩⟩,
   ⟨(packetFor cmdSelftestScheduleSet 0 [(0, 1, 0x13), (4, 4, 3600000)]), running, ⟨by decide +kernel, by decide +kernel⟩⟩,
   ⟨(packetFor cmdSelftestQuery 0 [(0, 1, 0x27)]), running, ⟨by decide +kernel, by decide +kernel⟩⟩,
   ⟨0x1327, running, by first | decide +kernel | rfl, by first | decide +kernel | rfl, by first | decide +kernel | rfl,
       by first | decide +kernel | rfl, by first | decide +kernel | rfl⟩⟩

/-- The hypotheses of `ReefCommandsComplete` can be met. -/
theorem test_reef_commands_complete_can_apply :
    (∃ (r : Request) (s : State), Clear cmdReefPlanRun r s) ∧
    (∃ (r : Request) (s : State), Clear cmdReefQuery r s) ∧
    (∃ (x : PlanRun) (s : State), s.absent = false ∧ s.load.holdOpen = false ∧ s.sleep.entry = none ∧ s.computeOn = true ∧
        s.health.plan = some x ∧ x.computed = false) ∧
    (∃ (x : PlanRun) (s : State), s.health.plan = some x ∧ x.computed = true ∧ s.absent = false ∧ x.trigger ≠ 0x03 ∧
        x.raised = 0 ∧ x.steps = 0 ∧ x.revoked = 0 ∧ x.trims = false ∧ x.marks = false) ∧
    (∃ (d i : Nat) (v : Int) (s : State), 1 ≤ d ∧ d ≤ 2) ∧
    (∃ (d n : Nat) (v : Int) (s : State), n < 48) :=
  ⟨⟨(packetFor cmdReefPlanRun 0 []), running, ⟨by decide +kernel, by decide +kernel⟩⟩,
   ⟨(packetFor cmdReefQuery 0 []), running, ⟨by decide +kernel, by decide +kernel⟩⟩,
   ⟨{ trigger := 3, computed := false }, { running with health := { running.health with plan := some { trigger := 3, computed := false } } }, by first | decide +kernel | rfl, by first | decide +kernel | rfl, by first | decide +kernel | rfl, by first | decide +kernel | rfl, by first | decide +kernel | rfl, by first | decide +kernel | rfl⟩,
   ⟨{ trigger := 1, computed := true }, { running with health := { running.health with plan := some { trigger := 1, computed := true } } }, by first | decide +kernel | rfl, by first | decide +kernel | rfl, by first | decide +kernel | rfl, by first | decide +kernel | rfl, by first | decide +kernel | rfl, by first | decide +kernel | rfl, by first | decide +kernel | rfl, by first | decide +kernel | rfl, by first | decide +kernel | rfl⟩,
   ⟨2, 3, 5, running, by first | decide +kernel | rfl, by first | decide +kernel | rfl⟩,
   ⟨8, 47, 5, running, by first | decide +kernel | rfl⟩⟩

/-- The hypotheses of `ResetsAndBanksComplete` can be met. -/
theorem test_resets_and_banks_complete_can_apply :
    (∃ (r : Request) (s : State), Clear cmdDeviceReset r s ∧ r.byte 0 = 0) ∧
    (∃ (r : Request) (s : State), Clear cmdDeviceReset r s ∧ r.byte 0 = 1) ∧
    (∃ (r : Request) (w : Nat) (s s1 : State), Clear cmdFwBankWrite r s ∧
        s.read r.issuer (r.field 8 8) (r.field 4 4) = (s1, .ok w) ∧ s1.judgeImage (r.byte 0 == 1) w (r.field 4 4) = 0) ∧
    (∃ (r : Request) (w : Nat) (s s1 : State), Clear cmdFwBankWrite r s ∧
        s.read r.issuer (r.field 8 8) (r.field 4 4) = (s1, .ok w) ∧ s1.judgeImage (r.byte 0 == 1) w (r.field 4 4) ≠ 0) ∧
    (∃ (x : BankWrite) (rest : List BankWrite) (s : State), s.boot.bankWrites = x :: rest ∧ s.computeOn = true ∧
        s.absent = false ∧ s.nvFurled = false) ∧
    (∃ (r : Request) (s : State), Clear cmdBootConfirm r s) ∧
    (∃ (n : Nat) (s : State), s.supply.unpowered = false ∧ s.boot.phase ≠ .off ∧ 10000 ≤ n) ∧
    (∃ (mv : Nat) (s : State), (s.supply.unpowered = true ∨ s.boot.phase = .off) ∧ 4800 < mv) :=
  ⟨⟨(packetFor cmdDeviceReset 0 []), running, ⟨by decide +kernel, by decide +kernel⟩, by first | decide +kernel | rfl⟩,
   ⟨(packetFor cmdDeviceReset 0 [(0, 1, 1)]), running, ⟨by decide +kernel, by decide +kernel⟩, by first | decide +kernel | rfl⟩,
   ⟨(packetFor cmdFwBankWrite 0 [(0, 1, 0), (4, 4, 132),
       (8, 8, dram)]), signedImage, { running with keys := { running.keys with otp := { running.keys.otp with lifecycle := 3, fwKeys := [(3, { key := imageKey, written := true })] } }, io := { running.io with mem := cells dram 132 signedImage } }, _, ⟨by decide +kernel, by decide +kernel⟩, read_gives (by decide +kernel), by decide +kernel⟩,
   ⟨(packetFor cmdFwBankWrite 0 [(0, 1, 0), (4, 4, 132), (8, 8, dram)]), 0, running, _, ⟨by decide +kernel,
       by decide +kernel⟩, read_gives (by decide +kernel), by decide +kernel⟩,
   ⟨{ config := true, bankB := true, activate := true, image := { version := 1, length := 4 } }, [], { running with boot := { running.boot with bankWrites := [{ config := true, bankB := true, activate := true, image := { version := 1, length := 4 } }] } }, by first | decide +kernel | rfl, by first | decide +kernel | rfl, by first | decide +kernel | rfl, by first | decide +kernel | rfl⟩,
   ⟨(packetFor cmdBootConfirm 0 []), running, ⟨by decide +kernel, by decide +kernel⟩⟩,
   ⟨10000, running, by first | decide +kernel | rfl, by first | decide +kernel | rfl, by first | decide +kernel | rfl⟩,
   ⟨4801, { running with boot := { running.boot with phase := .off } }, by decide +kernel, by decide⟩⟩

/-- The hypotheses of `StartCompletes` can be met. -/
theorem test_start_completes_can_apply :
    (∃ (s u : State), s.computeOn = true ∧ s.boot.phase = .released ∧ u = s.finishErasure.generateRoot.1 ∧
        u.boot.lostTamper = false ∧ u.boot.lostLife = false ∧ u.boot.fwA = none ∧ u.boot.fwB = none) ∧
    (∃ (s u : State), s.computeOn = true ∧ s.boot.phase = .released ∧ u = s.finishErasure.generateRoot.1 ∧
        u.boot.lostTamper = false ∧ u.boot.lostLife = false ∧ u.bankStands false (u.record false).atStart.preferredB = true ∧
        u.bankStands true (u.record true).atStart.preferredB = true) ∧
    (∃ (failing : List Nat) (n : Nat) (s : State), s.computeOn = true ∧ s.boot.phase = .selected ∧ n ∈ failing ∧
        unitExists n = true ∧ ((n / 256 = 0x07 ∨ n / 256 = 0x08 ∨ n / 256 = 0x0A))) ∧
    (∃ (s : State), s.computeOn = true ∧ s.boot.phase = .selected) ∧
    (∃ (s : State), s.absent = false ∧ s.computeOn = true ∧ s.boot.phase = .unsealed ∧ s.boot.waiting = none ∧
        s.boot.tamperHeld = false ∧ s.boot.list = []) ∧
    (∃ (s : State), s.absent = false ∧ s.computeOn = true ∧ s.boot.phase = .unsealed ∧ s.boot.waiting = none ∧
        s.boot.tamperHeld = true) ∧
    (∃ (image : List Byte) (ok : Bool) (s : State), s.computeOn = true ∧ s.boot.phase = .recovery ∧
        s.judgeImage (byteField (ofBytes image) 0 4 == imageMagic true) (ofBytes image) image.length ≠ 0) ∧
    (∃ (image : List Byte) (s : State), s.computeOn = true ∧ s.boot.phase = .recovery ∧
        s.judgeImage (byteField (ofBytes image) 0 4 == imageMagic true) (ofBytes image) image.length = 0 ∧
        image.length ≤ bankBytes (byteField (ofBytes image) 0 4 == imageMagic true)) ∧
    (∃ (s : State), s.computeOn = true ∧ s.boot.phase = .recovery ∧ s.boot.beaconAt ≤ s.now) ∧
    (∃ (s : State), s.computeOn = true ∧ s.cpu.masthead.returned = true ∧ s.cpu.masthead.present = true) ∧
    (∃ (s : State), s.supply.unpowered = false ∧ s.boot.phase ≠ .off ∧ s.boot.lostLimits = true) ∧
    (∃ (s : State), s.supply.unpowered = false ∧ s.boot.phase ≠ .off ∧ s.boot.lostLimits = true ∧
        s.boot.limitsSince + 100000000 ≤ s.now) :=
  ⟨⟨{ running with boot := { running.boot with phase := .released, fwA := none, fwB := none }, keys := { running.keys with otp := { running.keys.otp with  root0 := { start := true, done := true } } } }, _, by first | rfl | decide +kernel, by first | rfl | decide +kernel, rfl, by first | rfl | decide +kernel, by first | rfl | decide +kernel, by first | rfl | decide +kernel, by first | rfl | decide +kernel⟩,
   ⟨{ running with boot := { running.boot with phase := .released, fwA := some { keyIndex := 3, version := 1 }, cfgA := some { keyIndex := 3, version := 1 } }, keys := { running.keys with otp := { running.keys.otp with fwKeys := [(3, { written := true })], root0 := { start := true, done := true } } } }, _, by first | rfl | decide +kernel, by first | rfl | decide +kernel, rfl, by first | rfl | decide +kernel, by first | rfl | decide +kernel, by first | rfl | decide +kernel, by first | rfl | decide +kernel⟩,
   ⟨[0x0700], 0x0700, { running with boot := { running.boot with phase := .selected } }, by first | decide +kernel | rfl,
       by first | decide +kernel | rfl, by first | decide +kernel | rfl, by first | decide +kernel | rfl,
       by first | decide +kernel | rfl⟩,
   ⟨{ running with boot := { running.boot with phase := .selected } }, by first | decide +kernel | rfl,
       by first | decide +kernel | rfl⟩,
   ⟨{ running with boot := { running.boot with phase := .unsealed } }, by first | decide +kernel | rfl,
       by first | decide +kernel | rfl, by first | decide +kernel | rfl, by first | decide +kernel | rfl,
       by first | decide +kernel | rfl, by first | decide +kernel | rfl⟩,
   ⟨{ running with boot := { running.boot with phase := .unsealed, tamperHeld := true } }, by first | decide +kernel | rfl,
       by first | decide +kernel | rfl, by first | decide +kernel | rfl, by first | decide +kernel | rfl,
       by first | decide +kernel | rfl⟩,
   ⟨[0, 0, 0, 0], true, { running with boot := { running.boot with phase := .recovery } }, by first | decide +kernel | rfl,
       by first | decide +kernel | rfl, by first | decide +kernel | rfl⟩,
   ⟨toBytes 132 signedImage, { running with boot := { running.boot with phase := .recovery }, keys := { running.keys with otp := { running.keys.otp with lifecycle := 3, fwKeys := [(3, { key := imageKey, written := true })] } } }, by first | decide +kernel | rfl, by first | decide +kernel | rfl, by first | decide +kernel | rfl, by first | decide +kernel | rfl⟩,
   ⟨{ running with boot := { running.boot with phase := .recovery } }, by first | decide +kernel | rfl,
       by first | decide +kernel | rfl, by first | decide +kernel | rfl⟩,
   ⟨running.mapMasthead fun m => { m with returned := true }, by first | decide +kernel | rfl,
       by first | decide +kernel | rfl, by first | decide +kernel | rfl⟩,
   ⟨{ running with boot := { running.boot with lostLimits := true } }, by first | decide +kernel | rfl,
       by first | decide +kernel | rfl, by first | decide +kernel | rfl⟩,
   ⟨{ runningAt 100000000 with boot := { running.boot with lostLimits := true } }, by first | decide +kernel | rfl,
       by first | decide +kernel | rfl, by first | decide +kernel | rfl, by first | decide +kernel | rfl⟩⟩

end Sys2Proof.Tests
end

section
/-! SUPPORT. Memory of several bytes (R8): a write is byte writes at rising addresses, least significant byte first, and a
read gathers them in the same order. -/

namespace Sys2Proof.Machine

@[simp] theorem Io.writePhys_zero (io : Io) (pa w : Nat) : io.writePhys pa 0 w = io := rfl

/-- The least significant byte goes to the lowest address, the rest of the number to the addresses above it (R8). -/
theorem Io.writePhys_succ (io : Io) (pa n w : Nat) :
    io.writePhys pa (n + 1) w = (io.writeByte pa (BitVec.ofNat 8 w)).writePhys (pa + 1) n (w / 256) := rfl

@[simp] theorem Io.readPhys_zero (io : Io) (pa : Nat) : io.readPhys pa 0 = 0 := rfl

/-- The lowest address holds the least significant byte (R8). -/
theorem Io.readPhys_succ (io : Io) (pa n : Nat) :
    io.readPhys pa (n + 1) = (io.readByte pa).toNat + 256 * io.readPhys (pa + 1) n := rfl

theorem Io.readByte_writePhys_outside (io : Io) {pa n a : Nat} (w : Nat) (h : a < pa ∨ pa + n ≤ a) :
    (io.writePhys pa n w).readByte a = io.readByte a := by
  induction n generalizing io pa w with
  | zero => rw [Io.writePhys_zero]
  | succ n ih =>
    have hrest : a < pa + 1 ∨ pa + 1 + n ≤ a := by omega
    have hfirst : a ≠ pa := by omega
    rw [Io.writePhys_succ, ih _ _ hrest, Io.readByte_writeByte_ne io _ hfirst]

theorem Io.readByte_writePhys_first (io : Io) (pa n w : Nat) :
    (io.writePhys pa (n + 1) w).readByte pa = BitVec.ofNat 8 w := by
  rw [Io.writePhys_succ, Io.readByte_writePhys_outside _ _ (.inl pa.lt_succ_self), Io.readByte_writeByte]

theorem Io.readByte_writePhys_inside (io : Io) (pa w : Nat) {n i : Nat} (h : i < n) :
    (io.writePhys pa n w).readByte (pa + i) = BitVec.ofNat 8 (w / 256 ^ i) := by
  induction i generalizing io pa n w with
  | zero =>
    obtain ⟨n, rfl⟩ := Nat.exists_eq_succ_of_ne_zero (Nat.ne_zero_of_lt h)
    rw [Nat.add_zero, Nat.pow_zero, Nat.div_one, Io.readByte_writePhys_first]
  | succ i ih =>
    obtain ⟨n, rfl⟩ := Nat.exists_eq_succ_of_ne_zero (Nat.ne_zero_of_lt h)
    calc (io.writePhys pa (n + 1) w).readByte (pa + (i + 1))
      _ = ((io.writeByte pa (BitVec.ofNat 8 w)).writePhys (pa + 1) n (w / 256)).readByte (pa + 1 + i) := by
        rw [Io.writePhys_succ, Nat.add_right_comm, Nat.add_assoc]
      _ = BitVec.ofNat 8 (w / 256 / 256 ^ i) := ih _ _ _ (Nat.lt_of_succ_lt_succ h)
      _ = BitVec.ofNat 8 (w / 256 ^ (i + 1)) := by rw [Nat.div_div_eq_div_mul, Nat.pow_succ']

theorem Io.readPhys_writePhys (io : Io) (pa n w : Nat) : (io.writePhys pa n w).readPhys pa n = w % 256 ^ n := by
  induction n generalizing io pa w with
  | zero => rw [Io.readPhys_zero, Nat.pow_zero, Nat.mod_one]
  | succ n ih =>
    calc (io.writePhys pa (n + 1) w).readPhys pa (n + 1)
      _ = w % 256 + 256 * (io.writePhys pa (n + 1) w).readPhys (pa + 1) n := by
        rw [Io.readPhys_succ, Io.readByte_writePhys_first, BitVec.toNat_ofNat]
      _ = w % 256 + 256 * (w / 256 % 256 ^ n) := by rw [Io.writePhys_succ, ih]
      _ = w % 256 ^ (n + 1) := by rw [Nat.pow_succ', Nat.mod_mul]

end Sys2Proof.Machine

end

section

open Sys2Proof.Machine

/-- Settles O8, by induction on the number of bytes written. -/
theorem memoryReadsBackWhatWasWritten : Obligations.MemoryReadsBackWhatWasWritten :=
  ⟨Io.readPhys_writePhys,
   fun io _ _ w _ => Io.readByte_writePhys_outside io w,
   fun io pa _ w _ => Io.readByte_writePhys_inside io pa w⟩

end

section
/-! SUPPORT. What the accessors read in the state right after reset: a table without entries gives its default at every key. -/

namespace Sys2Proof.Machine

@[simp] theorem Table.get_nil {α : Type} (d : α) (i : Nat) : Table.get d [] i = d := rfl

@[simp] theorem Table.get_singleton {α : Type} (d v : α) (k i : Nat) : Table.get d [(k, v)] i = if i = k then v else d := rfl

@[simp] theorem State.reset_owner (kind n : Nat) : State.reset.owner kind n = 0 := Table.get_nil ..
@[simp] theorem State.reset_window (p : Nat) : State.reset.io.window p = {} := Table.get_nil ..
@[simp] theorem State.reset_flowOf (f : Nat) : State.reset.flowOf f = {} := Table.get_nil ..
@[simp] theorem State.reset_slotOf (k : Nat) : State.reset.slotOf k = {} := Table.get_nil ..
@[simp] theorem State.reset_unitHealth (u : Nat) : State.reset.unitHealth u = {} := Table.get_nil ..
@[simp] theorem State.reset_domainOf (d : Nat) : State.reset.domainOf d = {} := Table.get_nil ..
@[simp] theorem State.reset_ethOf (p : Nat) : State.reset.ethOf p = {} := Table.get_nil ..
@[simp] theorem State.reset_canOf (c : Nat) : State.reset.canOf c = {} := Table.get_nil ..

@[simp] theorem State.reset_furled (u : Nat) : State.reset.furled u = false := by
  rw [State.furled, State.reset_unitHealth]

/-- Only P0 is in the partition table's reset contents, and it is ACTIVE (R106). -/
theorem State.reset_part (p : Nat) : State.reset.io.part p = if p = 0 then { state := .active } else {} :=
  Table.get_singleton ..

theorem State.reset_part_state (p : Nat) : (State.reset.io.part p).state = if p = 0 then .active else .free := by
  rw [State.reset_part]
  split
  · rfl
  · rfl

theorem State.reset_shaped : Safety.Shaped State.reset := ⟨rfl, rfl, rfl, rfl⟩

end Sys2Proof.Machine

end

section

open Sys2Proof.Machine

/-- Settles O15, from what each accessor reads in the reset state and the reset values of the single registers. That memory
starts blank and that reset stands just before the boot ROM runs are the model's choices (log entries 6 and 9). -/
theorem resetState : Obligations.ResetState := by
  unfold Obligations.ResetState
  refine ⟨rfl, rfl, State.reset_shaped, rfl, rfl, rfl, rfl, State.reset_owner,
    State.reset_part_state, ?windows, ?flows, ?slots, State.reset_furled, ?reefLevels,
    ?ethernet, ?can, rfl, rfl, rfl⟩
  case windows =>
    intro p
    rw [State.reset_window]
    exact ⟨rfl, rfl, rfl, rfl, rfl, rfl⟩
  case flows => intro f; rw [State.reset_flowOf]
  case slots => intro k; rw [State.reset_slotOf]
  case reefLevels => intro d; rw [State.reset_domainOf]
  case ethernet => intro p; rw [State.reset_ethOf]
  case can => intro c; rw [State.reset_canOf]

end

section
/-! SUPPORT. How a command that is clear to execute answers when it is DONE and when a buffer that it names faults. -/

namespace Sys2Proof.Machine

open Sys2Proof.Safety

theorem Command.step_done {c : Command} {r : Request} {s t : State} {n : Nat} (h : Clear c r s) (e : c.run r s = .done n t)
    (k : c.spends = false := by rfl) : c.step r s = .next (t.complete r c.opcode .done n) :=
  Command.step_finish h e k

theorem Command.step_fault {c : Command} {r : Request} {s t : State} {f : XFault} (h : Clear c r s)
    (e : c.run r s = .fault f t) (k : c.spends = false := by rfl) :
    c.step r s = .next ((t.raiseFault f r.issuer 0xFFFF 0x07 0).complete r c.opcode .bufferFault 0) := by
  rw [Command.step_clear h k, e]
  rfl

end Sys2Proof.Machine

end

section
/-! SUPPORT. Unit identifiers (R36): the class and the number within it read back. -/

namespace Sys2Proof.Machine

theorem unitId_div {i : Nat} (cls : Nat) (h : i < 256) : unitId cls i / 256 = cls := by
  unfold unitId
  omega

theorem unitId_mod {i : Nat} (cls : Nat) (h : i < 256) : unitId cls i % 256 = i := by
  unfold unitId
  omega

end Sys2Proof.Machine

end

section
/-! SUPPORT. The safety cores (R456-R458): what a core and its partition read after an update, and what SAFETY_CORE_ASSIGN does
with and without an image. -/

namespace Sys2Proof.Machine

@[simp] theorem State.mapCore_coreOf_self (s : State) (c : Nat) (g : SafetyCore → SafetyCore) :
    (s.mapCore c g).coreOf c = g (s.coreOf c) :=
  Table.get_modify_self ..

@[simp] theorem State.setCorePart_coreOf (s : State) (c n : Nat) (p : Option Nat) :
    (s.setCorePart c p).coreOf n = s.coreOf n := rfl

@[simp] theorem State.setCorePart_safetyPart_self (s : State) (c : Nat) (p : Option Nat) :
    Table.get none (s.setCorePart c p).io.safetyPart c = p :=
  Table.get_put_self ..

/-- The core that SAFETY_CORE_ASSIGN leaves: stopped, with the image in its TCM and blank registers. -/
def assignedCore (r : Request) (image : Nat) : SafetyCore :=
  { tcm := memWrite [] 0 (r.field 4 4) image, iovaBase := r.field 16 8, restartEntry := r.field 24 4 }

theorem cmdSafetyCoreAssign_run_clears {r : Request} (s : State) (h : r.byte 1 = 0xFF) :
    cmdSafetyCoreAssign.run r s = .done s.now ((s.mapCore (r.byte 0) fun _ => {}).setCorePart (r.byte 0) none) :=
  if_pos h

theorem cmdSafetyCoreAssign_run_faults {r : Request} {s s1 : State} {f : XFault} (h : r.byte 1 ≠ 0xFF)
    (read : s.read r.issuer (r.field 8 8) (r.field 4 4) = (s1, .error f)) :
    cmdSafetyCoreAssign.run r s = .fault f s1 := by
  simp only [cmdSafetyCoreAssign, if_neg h, read]

theorem cmdSafetyCoreAssign_run_loads {r : Request} {s s1 : State} {w : Nat} (h : r.byte 1 ≠ 0xFF)
    (spare : s.cpu.spare ≠ some (r.byte 0)) (read : s.read r.issuer (r.field 8 8) (r.field 4 4) = (s1, .ok w)) :
    cmdSafetyCoreAssign.run r s =
      .done s.now ((s1.mapCore (r.byte 0) fun _ => assignedCore r w).setCorePart (r.byte 0) (some (r.byte 1))) := by
  simp only [cmdSafetyCoreAssign, if_neg h, read, if_neg spare, assignedCore]

end Sys2Proof.Machine

end

section
/-! SUPPORT. The events of the cores and of Backstay (R13, R448, R461): one lemma for each outcome of a row. -/

namespace Sys2Proof.Machine

/-- A bit of the number that a word holds is the bit of the word. -/
theorem bitOf_toNat (v : BitVec 64) (i : Nat) : bitOf v.toNat i = v.getLsbD i := by
  rw [bitOf, BitVec.getLsbD, Nat.testBit_eq_decide_div_mod_eq]

/-- A pair of a running safety core mismatches (R461). -/
theorem exec_twinPassMismatch_core {s : State} {n : Nat} (again : Bool) (on : s.computeOn = true) (hn : n < 8)
    (served : s.furled (unitId 0x02 n) = false) (runs : (s.coreOf n).running = true) :
    exec (.twinPassMismatch (unitId 0x02 n) again) s =
      .next (if again then s.lasting (unitId 0x02 n) 0x01
        else (s.mapCore n fun c => { c with upsets := (c.upsets + 1) % 2 ^ 32 }).unitEvent (unitId 0x02 n) 0x01) := by
  have hcls : unitId 0x02 n / 256 = 0x02 := unitId_div _ (by omega)
  have hinst : unitId 0x02 n % 256 = n := unitId_mod _ (by omega)
  cases again <;> simp [exec, execTwinPassMismatch, on, served, runs, hcls, hinst, hn]

/-- A core that does not run has no pair that could mismatch. -/
theorem exec_twinPassMismatch_stopped {s : State} {n : Nat} (again : Bool) (hn : n < 8)
    (stopped : (s.coreOf n).running = false) : exec (.twinPassMismatch (unitId 0x02 n) again) s = .next s := by
  have hinst : unitId 0x02 n % 256 = n := unitId_mod _ (by omega)
  have hcore : unitId 0x02 n ≠ 0x0300 := by unfold unitId; omega
  simp [exec, execTwinPassMismatch, stopped, hinst, hcore]

/-- The first three failing frames in a row count one event each (R13). -/
theorem exec_backstayFrameFail_counts {s : State} (on : s.computeOn = true) (served : s.furled (unitId 0x05 0) = false)
    (few : s.cpu.backstayFails < 3) :
    exec .backstayFrameFail s =
      .next (({ s with cpu := { s.cpu with backstayFails := s.cpu.backstayFails + 1 } } : State).unitEvent (unitId 0x05 0) 0x03) := by
  simp [exec, execBackstayFrameFail, on, served, Nat.not_le.mpr few]

/-- The fourth failing frame in a row is lasting, and the count begins anew (R13). -/
theorem exec_backstayFrameFail_lasts {s : State} (on : s.computeOn = true) (served : s.furled (unitId 0x05 0) = false)
    (three : s.cpu.backstayFails = 3) :
    exec .backstayFrameFail s =
      .next (({ s with cpu := { s.cpu with backstayFails := 0 } } : State).lasting (unitId 0x05 0) 0x03) := by
  simp [exec, execBackstayFrameFail, on, served, three]

end Sys2Proof.Machine

end

section
/-! SUPPORT. Masthead under Stay's watch (R15, R466, R467, R591): heartbeats, their absence, and the attempts to restart. -/

namespace Sys2Proof.Machine

theorem exec_mastheadHeartbeat_inOrder {s : State} {n : Nat} (on : s.computeOn = true)
    (backstay : s.furled (unitId 0x05 0) = false) (masthead : s.furled (unitId 0x03 0) = false)
    (hove : s.cpu.masthead.hoveTo = false) (here : s.cpu.masthead.present = true)
    (due : s.cpu.masthead.expected = some (n % 2 ^ 16)) :
    exec (.mastheadHeartbeat n) s =
      .next (({ s with cpu := { s.cpu with backstayFails := 0 } } : State).mapMasthead fun m =>
        { m with expected := some ((n + 1) % 2 ^ 16), lastBeat := s.now }) := by
  simp [exec, execMastheadHeartbeat, on, backstay, masthead, hove, here, due]

theorem exec_mastheadHeartbeat_returns {s : State} {n t0 : Nat} (on : s.computeOn = true)
    (backstay : s.furled (unitId 0x05 0) = false) (masthead : s.furled (unitId 0x03 0) = false)
    (hove : s.cpu.masthead.hoveTo = false) (gone : s.cpu.masthead.present = false)
    (attempt : s.cpu.masthead.attempting = some t0) (soon : s.now < t0 + 50000000) :
    exec (.mastheadHeartbeat n) s =
      .next (({ s with cpu := { s.cpu with backstayFails := 0 } } : State).mapMasthead fun m =>
        { m with present := true, returned := true, attempting := none, nextAttempt := none,
                 expected := some ((n + 1) % 2 ^ 16), lastBeat := s.now }) := by
  simp [exec, execMastheadHeartbeat, on, backstay, masthead, hove, gone, attempt, soon]

theorem exec_mastheadHeartbeatTimeout_lost {s : State} {n : Nat} (on : s.computeOn = true)
    (here : s.cpu.masthead.present = true) (due : s.cpu.masthead.expected = some n)
    (late : s.cpu.masthead.lastBeat + 4000000 ≤ s.now) :
    exec (.mastheadHeartbeatTimeout 1) s = .next (s.mastheadLost 1) := by
  simp [exec, execMastheadHeartbeatTimeout, on, here, due, late]

theorem exec_mastheadHeartbeatTimeout_early {s : State} {n : Nat} (due : s.cpu.masthead.expected = some n)
    (early : s.now < s.cpu.masthead.lastBeat + 4000000) : exec (.mastheadHeartbeatTimeout 1) s = .next s := by
  simp [exec, execMastheadHeartbeatTimeout, due, Nat.not_le.mpr early]

theorem exec_mastheadRestartAttempt_due {s : State} {t : Nat} (next : s.cpu.masthead.nextAttempt = some t) (due : t ≤ s.now)
    (on : s.computeOn = true) : exec .mastheadRestartAttempt s = .next s.beginAttempt := by
  simp [exec, execMastheadRestartAttempt, next, due, on]

theorem exec_mastheadRestartTimeout_due {s : State} {t : Nat} (began : s.cpu.masthead.attempting = some t)
    (due : t + 50000000 ≤ s.now) (on : s.computeOn = true) : exec .mastheadRestartTimeout s = .next s.attemptFailed := by
  simp [exec, execMastheadRestartTimeout, began, due, on]

theorem exec_trialHoveToReset_due {s : State} {t : Nat} (hove : s.boot.hoveAt = some t)
    (still : s.cpu.masthead.hoveTo = true) (trial : s.boot.fwRecord.trial = true) (due : t + 1000000000 ≤ s.now) :
    exec .trialHoveToReset s = .next s.moduleReset := by
  simp [exec, execTrialHoveToReset, hove, still, trial, due]

theorem exec_trialHoveToReset_early {s : State} {t : Nat} (hove : s.boot.hoveAt = some t) (early : s.now < t + 1000000000) :
    exec .trialHoveToReset s = .next s := by
  simp [exec, execTrialHoveToReset, hove, Nat.not_le.mpr early]

end Sys2Proof.Machine

end

section

open Sys2Proof.Machine Sys2Proof.Safety

/-- Settles O50, from what each command of the cores answers when it is clear to execute and what each event of the cores, of
Backstay and of Masthead does in the state that the clause describes. -/
theorem coresAndStayComplete : Obligations.CoresAndStayComplete := by
  unfold Obligations.CoresAndStayComplete
  refine ⟨?query, ?dvfs, ?assignClears, ?assignFaults, ?assignLoads, ?stop, ?start, ?noSpare, ?cclass, ?mismatch, ?stopped,
    ?frameFails, ?fourthFrameFails, ?beat, ?beatReturns, ?lost, ?notYetLost, ?attempt, ?attemptFails, ?trialEnds, ?trialGoesOn⟩
  case query =>
    intro r s h
    exact ⟨_, Command.step_done h rfl⟩
  case dvfs =>
    intro r s h
    exact ⟨_, _, Command.step_done h rfl, rfl⟩
  case assignClears =>
    intro r s h clears
    exact Command.step_done h (cmdSafetyCoreAssign_run_clears s clears)
  case assignFaults =>
    intro r s s1 f h loads read
    exact Command.step_fault h (cmdSafetyCoreAssign_run_faults loads read)
  case assignLoads =>
    intro r w s s1 h loads _ spare read
    exact ⟨_, Command.step_done h (cmdSafetyCoreAssign_run_loads loads spare read), by simp [assignedCore]⟩
  case stop =>
    intro r s h stops
    exact ⟨_, _, Command.step_done h rfl, by simp [stops]⟩
  case start =>
    intro r s h starts
    exact ⟨_, _, Command.step_done h rfl, by simp [starts]⟩
  case noSpare =>
    intro r s h clears
    exact Command.step_done h (by simp [cmdSafetySpareSet, clears])
  case cclass =>
    rintro c v x s on hc served rfl
    simp [exec, execCpuCclassWrite, on, hc, served, bitOf_toNat]
  case mismatch =>
    intro n s on hn served runs
    exact ⟨exec_twinPassMismatch_core false on hn served runs, exec_twinPassMismatch_core true on hn served runs⟩
  case stopped =>
    intro n again s hn stopped
    exact exec_twinPassMismatch_stopped again hn stopped
  case frameFails =>
    intro s on served few
    exact exec_backstayFrameFail_counts on served few
  case fourthFrameFails =>
    intro s on served three
    exact exec_backstayFrameFail_lasts on served three
  case beat =>
    intro n s on backstay masthead hove here hn due
    rw [← Nat.mod_eq_of_lt hn] at due
    exact .of_exec (exec_mastheadHeartbeat_inOrder on backstay masthead hove here due) ⟨rfl, rfl⟩
  case beatReturns =>
    intro n t0 s on backstay masthead hove gone attempt soon
    exact .of_exec (exec_mastheadHeartbeat_returns on backstay masthead hove gone attempt soon) ⟨rfl, rfl, rfl, rfl, rfl⟩
  case lost =>
    intro n s on here due late
    exact exec_mastheadHeartbeatTimeout_lost on here due late
  case notYetLost =>
    intro n s due early
    exact exec_mastheadHeartbeatTimeout_early due early
  case attempt =>
    intro t s next due on
    exact exec_mastheadRestartAttempt_due next due on
  case attemptFails =>
    intro t s began due on
    exact exec_mastheadRestartTimeout_due began due on
  case trialEnds =>
    intro t s hove still trial due
    exact exec_trialHoveToReset_due hove still trial due
  case trialGoesOn =>
    intro t s hove early
    exact exec_trialHoveToReset_early hove early

end

section
/-! SUPPORT. The online tests of the compute die's units (R571): without the die there is nothing to test. -/

namespace Sys2Proof.Machine

theorem exec_selftestSlice_dieOff {s : State} {unit : Nat} (failed : Bool) (off : s.computeOn = false)
    (onDie : onPowerDie unit = false) : exec (.selftestSlice unit failed) s = .next s := by
  simp [exec, execSelftestSlice, off, onDie]

end Sys2Proof.Machine

end

section

open Sys2Proof.Machine Sys2Proof.Safety

/-- Refutes O56: its last clause has SELFTEST_SLICE count an online test of every unit that is in service and has a period, and
does not ask that the unit's die is on. In Heath the compute die is off, and a slice of safety core 0 counts nothing. -/
theorem not_healthCommandsComplete : ¬ Obligations.HealthCommandsComplete := by
  unfold Obligations.HealthCommandsComplete
  rintro ⟨-, -, -, -, -, -, -, -, -, -, -, counts⟩
  let asleep : State := { State.reset with sleep := { State.reset.sleep with power := .heath } }
  obtain ⟨t, slice, -, run, -⟩ := counts (unitId 0x02 0) asleep rfl rfl (by decide) rfl rfl
  have same : t = asleep :=
    Host.Outcome.next.inj (slice.symm.trans (exec_selftestSlice_dieOff false rfl rfl))
  have counted : (asleep.classTest 0x02).run = wrapAdd 32 (asleep.classTest 0x02).run 1 := same ▸ run
  exact absurd counted (by decide)

end

section
/-! SUPPORT. `Keeps s0 o`: what a row answers is a state that keeps what `Kept` names. -/

namespace Sys2Proof.Machine

/-- Where the outcome is a next state, it keeps what `Kept` names, from `s0` on. -/
def Keeps (s0 : State) (o : Host.Outcome State Fault Refusal) : Prop := ∀ t, o = .next t → Kept s0 t

/-- The parts that `Kept` speaks of. -/
def State.heart (s : State) :
    List Instr × Table Byte × List LoadChannel × SenseState × Table DomainReef × Table ChannelReef × Nat :=
  (s.pending, s.io.mem, s.load.channels, s.sense, s.health.domains, s.health.channels, s.lifecycle)

/-- A change of other parts of the state. -/
theorem Kept.frame {s0 s t : State} (h : Kept s0 s) (same : t.heart = s.heart) : Kept s0 t := by
  simp only [State.heart, Prod.mk.injEq] at same
  obtain ⟨queue, mem, channels, sense, domains, reef, life⟩ := same
  exact Kept.upd h queue (fun w => by rw [Io.Wf, mem]; exact w) channels sense domains reef life

namespace Keeps

variable {s0 s : State}

protected theorem next {t : State} (h : Kept s0 t) : Keeps s0 (.next t) := by
  rintro _ ⟨⟩
  exact h

protected theorem ite {c : Prop} [Decidable c] {a b : Host.Outcome State Fault Refusal} (ha : Keeps s0 a) (hb : Keeps s0 b) :
    Keeps s0 (if c then a else b) := by
  split
  · exact ha
  · exact hb

/-- A row that does nothing unless its condition holds. -/
theorem skipIf {c : Prop} [Decidable c] {o : Host.Outcome State Fault Refusal} (h : Kept s0 s) (ho : Keeps s0 o) :
    Keeps s0 (if c then .next s else o) := .ite (.next h) ho

/-- A row that acts where its condition holds. -/
theorem actIf {c : Prop} [Decidable c] {o : Host.Outcome State Fault Refusal} (h : Kept s0 s) (ho : Keeps s0 o) :
    Keeps s0 (if c then o else .next s) := .ite ho (.next h)

/-- A ring command whose answer keeps it. -/
theorem step {c : Command} {r : Request} (keeps : c.Keeps) (h : Kept s0 s) : Keeps s0 (c.step r s) :=
  fun _ e => Command.kept_step keeps h e

end Keeps

theorem Kept.ite {s0 a b : State} {c : Prop} [Decidable c] (ha : Kept s0 a) (hb : Kept s0 b) : Kept s0 (if c then a else b) := by
  split
  · exact ha
  · exact hb

end Sys2Proof.Machine
end

section
/-! SUPPORT. The rows of start-up, health, keys and life cycle. -/

namespace Sys2Proof.Machine

variable {s0 s : State}

theorem execFwBankWritten_keeps {ok : Bool} (h : Kept s0 s) : Keeps s0 (execFwBankWritten ok s) := by
  unfold execFwBankWritten
  split
  · exact .next h
  · exact .skipIf h (.next (State.kept_opEnd (State.kept_raise (.ite (State.kept_setRecord (.ite (State.kept_setBank (h.frame rfl)) (h.frame rfl)))
      (.ite (State.kept_setBank (h.frame rfl)) (h.frame rfl))))))

theorem execWakeLatch_keeps {source : Nat} (detail : Nat) (h : Kept s0 s) : Keeps s0 (execWakeLatch source detail s) :=
  .skipIf h (.next (State.kept_latchWake h))

theorem execSelectiveWakeDecoderFrame_keeps {channel : Nat} {ok : Bool} {frame : CanFrame} (h : Kept s0 s) :
    Keeps s0 (execSelectiveWakeDecoderFrame channel ok frame s) :=
  have k : Kept s0 (if ok ∧ frame.format.val = 0 then s.evidence channel else s) := .ite (State.kept_evidence h) h
  .skipIf k (.ite (.next (.ite (State.kept_latchWake (State.kept_mapWake k)) (State.kept_mapWake k)))
    (.skipIf k (.next (.ite (State.kept_latchWake (State.kept_mapWake k)) (State.kept_mapWake k)))))

theorem execSleepEntryPhase_keeps (h : Kept s0 s) : Keeps s0 (execSleepEntryPhase s) := by
  unfold execSleepEntryPhase
  split
  · split
    · exact .actIf h (.next (State.kept_startFromSleep (h.frame rfl)))
    · exact .next h
  · dsimp only
    split
    · refine .next ?_
      have k : Kept s0 (({ s with sleep := { s.sleep with entry := none } } : State).entryEnd .done 1 0 0xFF 0) :=
        State.kept_entryEnd (h.frame rfl)
      split
      · exact State.kept_leaveIdle (k.frame rfl)
      · exact k.frame rfl
    · split
      · have k : Kept s0 (s.each s.slotNumbers State.raiseMark).outputsOff.1 :=
          State.kept_outputsOff (State.kept_each h fun _ _ k => State.kept_raiseMark k)
        generalize (s.each s.slotNumbers State.raiseMark).outputsOff = x at k ⊢
        exact .next (k.frame rfl)
      · exact .actIf h (.next (State.kept_commitSleep h))
      · exact .next (h.frame rfl)

theorem execRtcAlarm_keeps (h : Kept s0 s) : Keeps s0 (execRtcAlarm s) :=
  .skipIf h (.next (State.kept_latchWake (h.frame rfl)))

theorem execIdleExit_keeps {cause source : Nat} (h : Kept s0 s) : Keeps s0 (execIdleExit cause source s) :=
  .skipIf h (.ite (.next (State.kept_leaveIdle h)) (.actIf h (.next (h.frame rfl))))

theorem execWakeWindowExpiry_keeps {source : Nat} (h : Kept s0 s) : Keeps s0 (execWakeWindowExpiry source s) := by
  unfold execWakeWindowExpiry
  split
  · exact .actIf h (.next (State.kept_falseWake h))
  · exact .next h

theorem execWakeMuteExpiry_keeps {source : Nat} (h : Kept s0 s) : Keeps s0 (execWakeMuteExpiry source s) :=
  .actIf h (.next (State.kept_mapWake h))

theorem execUnitEvent_keeps {unit cause inFlight : Nat} {lasting copyFails : Bool} (h : Kept s0 s) :
    Keeps s0 (execUnitEvent unit cause inFlight lasting copyFails s) :=
  .actIf h (.next (State.kept_unitError (State.kept_copyMismatch h)))

theorem execCanIntegrationDone_keeps {channel : Nat} (h : Kept s0 s) : Keeps s0 (execCanIntegrationDone channel s) :=
  .actIf h (.next (State.kept_moveCan h))

theorem execCanBusOffRecovery_keeps {channel : Nat} (h : Kept s0 s) : Keeps s0 (execCanBusOffRecovery channel s) :=
  .actIf h (.next (State.kept_moveCan h))

theorem execCanFrameTransmitEnd_keeps {channel start : Nat} {result : CanEnd} (h : Kept s0 s) :
    Keeps s0 (execCanFrameTransmitEnd channel start result s) := by
  unfold execCanFrameTransmitEnd
  refine .skipIf h ?_
  split
  · exact .next h
  · split
    · exact .next h
    · split
      · exact .next (State.kept_judgeErrors (State.kept_mapCan (State.kept_sentFrame (State.kept_mapObj h))))
      · exact .next (.ite (State.kept_failSend (State.kept_mapObj h))
          (.ite (State.kept_failSend (State.kept_mapObj h)) (State.kept_mapObj h)))
      · exact .next (State.kept_judgeErrors (State.kept_errorFrame (State.kept_mapCan (State.kept_mapObj h))))

theorem execCanFrameReceive_keeps {channel : Nat} {rx : CanRx} (h : Kept s0 s) : Keeps s0 (execCanFrameReceive channel rx s) := by
  have k : Kept s0 (s.canEvidence channel rx) := State.kept_canEvidence h
  unfold execCanFrameReceive
  refine .skipIf k ?_
  split
  · exact .next (State.kept_receiveError k)
  · refine .ite (.ite (.next (State.kept_moveCan (State.kept_mapCan k))) (.next (State.kept_receiveError k))) ?_
    dsimp only
    split
    · exact .next (State.kept_acceptFrame (State.kept_judgeErrors (State.kept_mapCan k)))
    · exact .next (State.kept_mapCan (State.kept_judgeErrors (State.kept_mapCan k)))

theorem execCanTtRelease_keeps {object : Nat} (h : Kept s0 s) : Keeps s0 (execCanTtRelease object s) := by
  unfold execCanTtRelease
  dsimp only
  split
  · exact .skipIf h (.ite (.next (State.kept_mapObj h)) (.next (State.kept_release h)))
  · exact .next h

theorem execCanGangInstant_keeps {channel : Nat} (h : Kept s0 s) : Keeps s0 (execCanGangInstant channel s) := by
  unfold execCanGangInstant
  split
  · exact .actIf h (.next (.frame (State.kept_each h fun _ _ k => State.kept_gangRelease k) rfl))
  · exact .next h

theorem execCanTxdDominantTimeout_keeps {channel : Nat} (h : Kept s0 s) : Keeps s0 (execCanTxdDominantTimeout channel s) :=
  .actIf h (.next (State.kept_unitEvent h))

theorem execObjStatusRead_keeps {partition object : Nat} (h : Kept s0 s) : Keeps s0 (execObjStatusRead partition object s) :=
  .actIf h (.next (State.kept_mapObj h))

theorem execObjCtrlSendReq_keeps {partition object : Nat} (h : Kept s0 s) : Keeps s0 (execObjCtrlSendReq partition object s) :=
  .next (State.kept_slotWrite h (State.kept_sendRequest h))

theorem execObjCtrlAbort_keeps {partition object : Nat} {begun : Bool} (h : Kept s0 s) :
    Keeps s0 (execObjCtrlAbort partition object begun s) :=
  .next (State.kept_slotWrite h (State.kept_abortSend h))

theorem execObjCtrlRelease_keeps {partition object : Nat} (h : Kept s0 s) : Keeps s0 (execObjCtrlRelease partition object s) :=
  .next (State.kept_slotWrite h (State.kept_releaseRead h))

theorem execCipherOpEnd_keeps {operation : Nat} (h : Kept s0 s) : Keeps s0 (execCipherOpEnd operation s) := by
  unfold execCipherOpEnd
  split
  · exact .next h
  · refine .skipIf h (.next ?_)
    split
    · exact State.kept_deliver (State.kept_runOp (h.frame rfl))
    · exact State.kept_runOp (h.frame rfl)

theorem execFairleadMoveEnd_keeps {operation status : Nat} {data : List Byte} (h : Kept s0 s) :
    Keeps s0 (execFairleadMoveEnd operation status data s) := by
  have k : Kept s0 (s.dropOp operation) := State.kept_dropOp h
  unfold execFairleadMoveEnd
  split
  · exact .next h
  · exact .skipIf h (.ite (.skipIf h (.next (State.kept_advanceFair (State.kept_endWrite k))))
      (.ite (.next (State.kept_advanceFair (State.kept_failRead k)))
        (.actIf h (.next (State.kept_advanceFair (State.kept_endRead k))))))

theorem execFairleadCompletionTimeout_keeps {operation : Nat} (h : Kept s0 s) :
    Keeps s0 (execFairleadCompletionTimeout operation s) := by
  have k : Kept s0 (s.dropOp operation) := State.kept_dropOp h
  unfold execFairleadCompletionTimeout
  split
  · exact .next h
  · exact .skipIf h (.ite (.next (State.kept_advanceFair (State.kept_failRead k)))
      (.actIf h (.next (State.kept_advanceFair (State.kept_endFair k)))))

theorem execFairleadBackoff_keeps {operation : Nat} (h : Kept s0 s) : Keeps s0 (execFairleadBackoff operation s) := by
  unfold execFairleadBackoff
  split
  · exact .next h
  · exact .actIf h (.next (h.frame rfl))

theorem execPrefetchBufferExpiry_keeps {window : Nat} (h : Kept s0 s) : Keeps s0 (execPrefetchBufferExpiry window s) := by
  unfold execPrefetchBufferExpiry
  split
  · exact .actIf h (.next (State.kept_mapFairWindow h))
  · exact .next h

theorem execFairleadLinkState_keeps {state speed width : Nat} {progress : List (Nat × Nat)} (h : Kept s0 s) :
    Keeps s0 (execFairleadLinkState state speed width progress s) :=
  .skipIf h (.ite (.next (State.kept_moveFair h)) (.actIf h (.next (State.kept_dropFair h))))

theorem execFairleadInboundRequest_keeps {write : Bool} {bar address : Nat} {data : List Byte} {length requester : Nat}
    (h : Kept s0 s) : Keeps s0 (execFairleadInboundRequest write bar address data length requester s) := by
  unfold execFairleadInboundRequest
  refine .skipIf h ?_
  split
  · exact .next (h.frame rfl)
  · refine .ite (.skipIf h ?_) (.skipIf h ?_)
    · split
      · rename_i e
        exact .next (Kept.fst e (State.kept_write h))
      · rename_i e
        exact .next (State.kept_inboundFault (Kept.fst e (State.kept_write h)))
    · split
      · rename_i e
        exact .next (Kept.fst e (State.kept_read h))
      · rename_i e
        exact .next (State.kept_inboundFault (Kept.fst e (State.kept_read h)))

theorem execFairleadPostedError_keeps {cause address length : Nat} (h : Kept s0 s) :
    Keeps s0 (execFairleadPostedError cause address length s) :=
  .skipIf h (.next (State.kept_postError h))

theorem execKeyCommitted_keeps {slot : Nat} {ok : Bool} (h : Kept s0 s) : Keeps s0 (execKeyCommitted slot ok s) := by
  unfold execKeyCommitted
  dsimp only
  split
  · exact .next h
  · exact .skipIf h (.ite (.next (State.kept_abandonWrite h))
      (.skipIf h (.next (.ite (State.kept_commitWrite h) (State.kept_abandonWrite h)))))

theorem execKeyAreaEraseDone_keeps {slot : Nat} {ok : Bool} (h : Kept s0 s) : Keeps s0 (execKeyAreaEraseDone slot ok s) :=
  .next (.ite (State.kept_mapSlot h) h)

theorem execTrngHealthFail_keeps (h : Kept s0 s) : Keeps s0 (execTrngHealthFail s) :=
  .skipIf h (.next (State.kept_unitEvent (h.frame rfl)))

theorem execDrbgReseed_keeps (h : Kept s0 s) : Keeps s0 (execDrbgReseed s) := .actIf h (.next (h.frame rfl))

theorem execCounterHighMarkWrite_keeps {slot : Nat} (h : Kept s0 s) : Keeps s0 (execCounterHighMarkWrite slot s) :=
  .actIf h (.next (State.kept_raiseMark h))

theorem execLockerUnseal_keeps (h : Kept s0 s) : Keeps s0 (execLockerUnseal s) :=
  .skipIf h (.next (.frame (.ite h (State.kept_unseal h)) rfl))

theorem execUnfurlDone_keeps {unit : Nat} {passed : Bool} (h : Kept s0 s) : Keeps s0 (execUnfurlDone unit passed s) := by
  unfold execUnfurlDone
  refine .actIf h ?_
  cases passed
  · exact .next (State.kept_opEnd (State.kept_raise (State.kept_draw (State.kept_mapUnit h))))
  · exact .next (State.kept_opEnd (State.kept_raise (State.kept_restoreUnit (State.kept_mapUnit h))))

theorem execFurlRevocation_keeps (h : Kept s0 s) : Keeps s0 (execFurlRevocation s) :=
  .skipIf h (.next (State.kept_settleOwed h))

theorem execReefPlan_keeps (h : Kept s0 s) : Keeps s0 (execReefPlan s) := by
  unfold execReefPlan
  refine .skipIf h ?_
  split
  · exact .skipIf h (.next (State.kept_computePlan h))
  · dsimp only
    split
    · rename_i due _
      have k : Kept s0 (s.computePlan due ((s.health.planSeq + 1) % 2 ^ 16)) := State.kept_computePlan h
      generalize s.computePlan due ((s.health.planSeq + 1) % 2 ^ 16) = s1 at k ⊢
      exact .next (k.frame rfl)
    · exact .actIf h (.next (State.kept_computePlan h))

theorem execReefCeilingApply_keeps (h : Kept s0 s) : Keeps s0 (execReefCeilingApply s) := by
  unfold execReefCeilingApply
  split
  · exact .next h
  · rename_i x _
    have k : Kept s0 (s.withCeilings x.ceilings).recompute := State.kept_recompute (State.kept_withCeilings h)
    exact .skipIf h (.ite (.next (State.kept_opEnd (State.kept_raiseAll (k.frame rfl)))) (.next (k.frame rfl)))

/-- A monitor's sample changes a domain's slack loss and leaves its level (R563). -/
theorem Kept.domainSampled {n : Nat} {f : DomainReef → DomainReef} (h : Kept s0 s) (hf : ∀ d, (f d).level = d.level) :
    Kept s0 { s with health := { s.health with domains := Table.modify {} s.health.domains n fun d => (f d).measured n } } :=
  Kept.aged h rfl id id
    (Table.le_modify (m := DomainReef.level) (f := fun d => (f d).measured n) fun d => Nat.le_of_eq (hf d).symm)
    (fun _ => Nat.le_refl _) rfl

theorem Kept.channelSampled {n : Nat} {f : ChannelReef → ChannelReef} (h : Kept s0 s) (hf : ∀ c, (f c).step = c.step) :
    Kept s0 { s with health := { s.health with channels := Table.modify {} s.health.channels n f } } :=
  Kept.aged h rfl id id (fun _ => Nat.le_refl _)
    (Table.le_modify (m := ChannelReef.step) fun c => Nat.le_of_eq (hf c).symm) rfl

theorem execAgeingMonitorSample_keeps {domain measure index : Nat} {value : Int} (h : Kept s0 s) :
    Keeps s0 (execAgeingMonitorSample domain measure index value s) := by
  unfold execAgeingMonitorSample
  dsimp only
  split
  · exact .next (.ite (h.domainSampled fun _ => rfl) h)
  · exact .next (.ite (h.domainSampled fun _ => rfl) h)
  · exact .next (.ite (h.domainSampled fun _ => rfl) h)
  · exact .next (.ite (h.domainSampled fun _ => rfl) h)
  · exact .next (.ite (h.channelSampled fun _ => rfl) h)
  · exact .next (.ite (h.channelSampled fun _ => rfl) h)
  · exact .actIf h (.next (h.frame rfl))
  · exact .next h

theorem execSelftestSlice_keeps {unit : Nat} {failed : Bool} (h : Kept s0 s) : Keeps s0 (execSelftestSlice unit failed s) := by
  have k (c : Prop) [Decidable c] : Kept s0 (if c then s.mapUnit unit fun h => { h with pendingTest := false } else s) :=
    .ite (State.kept_mapUnit h) h
  unfold execSelftestSlice
  refine .skipIf h (.ite (.actIf h (.next (State.kept_selftestDone (k _)))) (.ite ?_ (.ite ?_ ?_)))
  · exact .next (State.kept_selftestDone (State.kept_unitEvent (State.kept_draw (State.kept_mapUnit ((k _).frame rfl)))))
  · exact .next (State.kept_selftestDone (State.kept_mapUnit ((k _).frame rfl)))
  · exact .next (State.kept_mapUnit ((k _).frame rfl))

end Sys2Proof.Machine
end

section
/-! SUPPORT. The rows of flows, load channels, local ports and rings. -/

namespace Sys2Proof.Machine

variable {s0 s : State}

theorem execFlowReleaseDone_keeps {flow : Nat} (h : Kept s0 s) : Keeps s0 (execFlowReleaseDone flow s) := by
  unfold execFlowReleaseDone
  split
  · exact .actIf h (.next (State.kept_unblock (State.kept_complete (State.kept_recompute (State.kept_freeFlow h)))))
  · exact .next h

theorem execMediumContractWindow_keeps {medium usedNs largest lowestKey : Nat} (h : Kept s0 s) :
    Keeps s0 (execMediumContractWindow medium usedNs largest lowestKey s) :=
  .skipIf h (.next (State.kept_each (h.frame rfl) fun _ _ k => State.kept_contractExceeded k))

theorem execMaintenanceRetry_keeps (h : Kept s0 s) : Keeps s0 (execMaintenanceRetry s) :=
  .skipIf h (.next (State.kept_each (State.kept_noneDeferred h) fun _ _ k => State.kept_retryDeferred k))

theorem execLoadSetDirectWrite_keeps {partition channel : Nat} {value : Word} (h : Kept s0 s) :
    Keeps s0 (execLoadSetDirectWrite partition channel value s) :=
  .actIf h (.next (State.kept_directSet h))

theorem execLoadDiagDone_keeps {channel result measured : Nat} (h : Kept s0 s) :
    Keeps s0 (execLoadDiagDone channel result measured s) := by
  unfold execLoadDiagDone
  split
  · exact .skipIf h (.ite (.next (State.kept_endDiag (h.frame rfl))) (.ite (.next (State.kept_endDiag (h.frame rfl)))
      (.skipIf h (.next (State.kept_diagDone (State.kept_mapLoad (h.frame rfl)))))))
  · exact .next h

theorem execSafeTableWritten_keeps (h : Kept s0 s) : Keeps s0 (execSafeTableWritten s) := by
  unfold execSafeTableWritten
  split
  · exact .skipIf h (.next (State.kept_opEnd (State.kept_raise (h.frame rfl))))
  · exact .next h

theorem execLoadHoldEnd_keeps (h : Kept s0 s) : Keeps s0 (execLoadHoldEnd s) := by
  unfold execLoadHoldEnd
  refine .actIf h ?_
  extract_lets kept unset load s1 s2 s3 load3 s5
  have k2 : Kept s0 s2 := State.kept_each (h.frame rfl) fun _ _ k => State.kept_applyEntry k
  have k3 : Kept s0 s3 := State.kept_each k2 fun _ _ k => State.kept_mapLoad k
  clear_value s3
  have k5 : Kept s0 s5 := .ite (Kept.upd k3 rfl id rfl rfl rfl rfl rfl) (State.kept_holdEnd k3)
  split
  · exact .next (State.kept_enterHoveTo k5)
  · exact .next k5

theorem execLoadOvercurrentTrip_keeps {channel currentMa : Nat} (h : Kept s0 s) :
    Keeps s0 (execLoadOvercurrentTrip channel currentMa s) :=
  .actIf h (.next (State.kept_trip (State.kept_mapLoad h)))

theorem execLoadThermalTrip_keeps {channel : Nat} (h : Kept s0 s) : Keeps s0 (execLoadThermalTrip channel s) :=
  .actIf h (.next (State.kept_trip (State.kept_mapLoad h)))

theorem execLoadDeltaTTrip_keeps {channel : Nat} (h : Kept s0 s) : Keeps s0 (execLoadDeltaTTrip channel s) :=
  .actIf h (.next (State.kept_trip (State.kept_mapLoad h)))

theorem execWireModelUpdate_keeps (h : Kept s0 s) : Keeps s0 (execWireModelUpdate s) :=
  .skipIf h (.next (State.kept_each h fun _ _ k =>
    have k1 := State.kept_mapLoad (State.kept_measureChannel k)
    .ite (State.kept_trip k1) k1))

theorem execLoadRestart_keeps {channel : Nat} (h : Kept s0 s) : Keeps s0 (execLoadRestart channel s) :=
  .actIf h (.next (State.kept_restart h))

theorem execPwmPeriodStart_keeps {channel : Nat} (h : Kept s0 s) : Keeps s0 (execPwmPeriodStart channel s) := by
  have k : Kept s0 (s.startPeriod (lead channel)) := State.kept_startPeriod h
  unfold execPwmPeriodStart
  refine .skipIf h ?_
  dsimp only
  generalize s.startPeriod (lead channel) = s1 at k ⊢
  split
  · exact .next (.ite (State.kept_deliver (State.kept_mapLoad (k.frame rfl))) (State.kept_mapLoad (k.frame rfl)))
  · exact .next (k.frame rfl)

theorem execOpenLoadDetect_keeps {channel kind : Nat} (h : Kept s0 s) : Keeps s0 (execOpenLoadDetect channel kind s) := by
  unfold execOpenLoadDetect
  refine .skipIf h ?_
  split
  · exact .actIf h (.next (State.kept_setFlags (State.kept_mapLoad h)))
  · exact .actIf h (.next (State.kept_setFlags (State.kept_mapLoad h)))
  · exact .actIf h (.next (State.kept_setFlags (State.kept_mapLoad h)))
  · exact .next h

theorem execRippleReplan_keeps (h : Kept s0 s) : Keeps s0 (execRippleReplan s) :=
  .skipIf h (.next (State.kept_each (h.frame rfl) fun _ _ k => State.kept_mapLoad (State.kept_draw k)))

theorem execLocalTransferDone_keeps {i status : Nat} {data : List Byte} (h : Kept s0 s) :
    Keeps s0 (execLocalTransferDone i status data s) := by
  unfold execLocalTransferDone
  split
  · exact .next h
  · refine .skipIf h (.ite (.next (State.kept_transferDone h)) (.ite (.next (State.kept_transferDone h)) (.actIf h ?_)))
    split
    · rename_i e
      exact .next (State.kept_transferDone (State.kept_raiseFault (Kept.fst e (State.kept_write h))))
    · rename_i e
      exact .next (State.kept_transferDone (Kept.fst e (State.kept_write h)))

theorem execGpioEdge_keeps {gpio : Nat} {level : Bool} (h : Kept s0 s) : Keeps s0 (execGpioEdge gpio level s) :=
  .skipIf h (.next (.ite (State.kept_vector (State.kept_mapPort (State.kept_mapPort h))) (State.kept_mapPort h)))

theorem execRingConfigWrite_keeps {partition offset : Nat} {value : Word} (h : Kept s0 s) :
    Keeps s0 (execRingConfigWrite partition offset value s) := by
  unfold execRingConfigWrite
  refine .actIf h ?_
  split
  · exact .next (State.kept_mapRing h)
  · exact .next (State.kept_mapRing h)
  · exact .next (State.kept_mapRing h)
  · exact .next h

theorem execEvtRingEnable_keeps {partition : Nat} {control : Word} (h : Kept s0 s) :
    Keeps s0 (execEvtRingEnable partition control s) := .actIf h (.next (State.kept_enableEvents h))

theorem execEvtRingTailWrite_keeps {partition : Nat} {tail : Word} (h : Kept s0 s) :
    Keeps s0 (execEvtRingTailWrite partition tail s) := .actIf h (.next (State.kept_writeEventTail h))

theorem execEvtRingDroppedRead_keeps {partition : Nat} (h : Kept s0 s) : Keeps s0 (execEvtRingDroppedRead partition s) :=
  .actIf h (.next (State.kept_mapWindow h))

theorem execIntStatusClear_keeps {partition : Nat} {value : Word} (h : Kept s0 s) :
    Keeps s0 (execIntStatusClear partition value s) := .actIf h (.next (State.kept_clearStatus h))

theorem execIntMaskWrite_keeps {partition : Nat} {value : Word} (h : Kept s0 s) :
    Keeps s0 (execIntMaskWrite partition value s) := .actIf h (.next (State.kept_writeMask h))

theorem execCoalesceTimer_keeps {partition : Nat} (h : Kept s0 s) : Keeps s0 (execCoalesceTimer partition s) :=
  .actIf h (.next (State.kept_vector (State.kept_mapWindow h)))

theorem execLinSlotStart_keeps {channel : Nat} (h : Kept s0 s) : Keeps s0 (execLinSlotStart channel s) := by
  have k : Kept s0 (s.closeFrame channel) := State.kept_closeFrame h
  unfold execLinSlotStart
  refine .skipIf h (.ite (.next (State.kept_mapLin k)) (.ite (.next (State.kept_mapLin k)) (.next ?_)))
  refine State.kept_mapLin (State.kept_beginFrame ?_)
  split
  · exact State.kept_recompute (State.kept_mapLin k)
  · exact k

theorem execLinHeaderReceive_keeps {channel id : Nat} (h : Kept s0 s) : Keeps s0 (execLinHeaderReceive channel id s) := by
  have k : Kept s0 (s.evidence (0x10 + channel)) := State.kept_evidence h
  unfold execLinHeaderReceive
  refine .skipIf k ?_
  dsimp only
  split
  · exact .next (State.kept_beginFrame (State.kept_closeFrame k))
  · exact .next (State.kept_closeFrame k)

theorem execLinResponseReceive_keeps {channel : Nat} {data : List Byte} {checksum : Byte} {error : Nat} (h : Kept s0 s) :
    Keeps s0 (execLinResponseReceive channel data checksum error s) := by
  have k : Keeps s0 (.next (s.linError channel (s.linOf channel).current error)) := .next (State.kept_linError h)
  unfold execLinResponseReceive
  dsimp only
  split
  · exact .next h
  · refine .skipIf h (.ite (.actIf h (.next (State.kept_linError h))) (.ite k (.ite (.next (State.kept_linError h))
      (.ite (.next (State.kept_linError h)) (.next (State.kept_deliver ?_))))))
    exact .ite (State.kept_vector (State.kept_mapLin h)) (State.kept_mapLin h)

theorem execLinNoResponse_keeps {channel : Nat} (h : Kept s0 s) : Keeps s0 (execLinNoResponse channel s) := by
  unfold execLinNoResponse
  dsimp only
  split
  · exact .actIf h (.next (State.kept_linError h))
  · exact .next h

theorem execLinWakeSeen_keeps {channel : Nat} (h : Kept s0 s) : Keeps s0 (execLinWakeSeen channel s) :=
  .actIf h (.next (State.kept_raise h))

theorem execLinScheduleRestart_keeps {channel : Nat} (h : Kept s0 s) : Keeps s0 (execLinScheduleRestart channel s) := by
  unfold execLinScheduleRestart
  dsimp only
  split
  · refine .actIf h (.next (State.kept_startSchedule ?_))
    split
    · exact State.kept_recompute (State.kept_mapLin h)
    · exact h
  · exact .next h

theorem execTimeSourceMeasurement_keeps {offset rate : Int} (h : Kept s0 s) :
    Keeps s0 (execTimeSourceMeasurement offset rate s) := by
  have k : Kept s0 ((s.followRate rate).mapTime fun t => { t with lastSync := s.now }) :=
    State.kept_mapTime (State.kept_followRate h)
  unfold execTimeSourceMeasurement
  refine .skipIf h ?_
  dsimp only
  split
  · exact .ite (.next (State.kept_moveServo (State.kept_mapTime k))) (.next (State.kept_takeOffset k))
  · exact .ite (.next (State.kept_moveServo (State.kept_takeOffset (State.kept_mapTime (State.kept_mapTime k)))))
      (.next (State.kept_mapTime k))
  · exact .next (State.kept_moveServo (State.kept_mapTime k))

theorem execTimeSourceLoss_keeps (h : Kept s0 s) : Keeps s0 (execTimeSourceLoss s) :=
  .actIf h (.next (State.kept_moveServo (State.kept_mapTime (State.kept_setRate h))))

theorem execHoldoverLimit_keeps (h : Kept s0 s) : Keeps s0 (execHoldoverLimit s) :=
  .actIf h (.next (State.kept_moveServo (State.kept_setRate h)))

theorem execPpsInEdge_keeps (h : Kept s0 s) : Keeps s0 (execPpsInEdge s) :=
  .skipIf h (.ite (.next (State.kept_mapTime h)) (.next (State.kept_mapTime h)))

theorem execPpsOutPulse_keeps (h : Kept s0 s) : Keeps s0 (execPpsOutPulse s) :=
  .ite (.actIf h (.next (State.kept_mapTime h))) (.actIf h (.next (State.kept_mapTime h)))

theorem execD7TimeStamp_keeps (h : Kept s0 s) : Keeps s0 (execD7TimeStamp s) :=
  .skipIf h (.next (.ite (State.kept_mapTime h) (State.kept_timeChanged (State.kept_mapTime h))))

theorem execD7CopyInvalid_keeps (h : Kept s0 s) : Keeps s0 (execD7CopyInvalid s) :=
  .actIf h (.next (State.kept_owe (State.kept_timeChanged (State.kept_mapTime h))))

theorem execD6TimeStamp_keeps (h : Kept s0 s) : Keeps s0 (execD6TimeStamp s) :=
  .skipIf h (.next (.ite (State.kept_mapTime h) (State.kept_timeChanged (State.kept_mapTime h))))

theorem execD6CopyInvalid_keeps (h : Kept s0 s) : Keeps s0 (execD6CopyInvalid s) :=
  .actIf h (.next (State.kept_timeChanged (State.kept_mapTime h)))

theorem execTimeReferenceRefresh_keeps (h : Kept s0 s) : Keeps s0 (execTimeReferenceRefresh s) :=
  .actIf h (.next (State.kept_refreshReference h))

theorem execClockMonitorExcursion_keeps {unit cause : Nat} (h : Kept s0 s) : Keeps s0 (execClockMonitorExcursion unit cause s) :=
  .actIf h (.next (State.kept_unitEvent (.ite (State.kept_mapTime h) h)))

end Sys2Proof.Machine
end

section
/-! SUPPORT. The rows of the switch, DMA, sense inputs, partitions, cores and links. -/

namespace Sys2Proof.Machine

variable {s0 s : State}

theorem execFrameReceive_keeps {port : Nat} {frame : EthFrame} (h : Kept s0 s) : Keeps s0 (execFrameReceive port frame s) :=
  .actIf h (.next (State.kept_receiveFrame h))

theorem execGateListActive_keeps {port : Nat} (h : Kept s0 s) : Keeps s0 (execGateListActive port s) := by
  unfold execGateListActive
  dsimp only
  split
  · exact .actIf h (.next (State.kept_raise (State.kept_mapSw h)))
  · exact .next h

theorem execGateChange_keeps {port : Nat} (h : Kept s0 s) : Keeps s0 (execGateChange port s) := by
  unfold execGateChange
  split
  · exact .actIf h (.next (State.kept_mapSw h))
  · exact .next h

theorem execPreemptVerifyDone_keeps {port : Nat} {ok : Bool} (h : Kept s0 s) : Keeps s0 (execPreemptVerifyDone port ok s) :=
  .actIf h (.ite (.next (State.kept_preemptState (State.kept_mapSw h)))
    (.ite (.next (State.kept_unitEvent (State.kept_mapSw (State.kept_mapSw h))))
      (.next (State.kept_preemptState (State.kept_mapSw (State.kept_mapSw h))))))

theorem execFrerLatentError_keeps {function : Nat} (h : Kept s0 s) : Keeps s0 (execFrerLatentError function s) :=
  .actIf h (.next (.ite (State.kept_raise (State.kept_mapFrer h)) (State.kept_mapFrer h)))

theorem execMacEntryAge_keeps {vid addr : Nat} (h : Kept s0 s) : Keeps s0 (execMacEntryAge vid addr s) :=
  .actIf h (.next (State.kept_mapSwitch h))

theorem execSwitchCellMatch_keeps (h : Kept s0 s) : Keeps s0 (execSwitchCellMatch s) :=
  .skipIf h (.next (State.kept_mapSwitch (State.kept_each h fun _ _ k => State.kept_moveCell k)))

theorem execFrameTransmit_keeps {port : Nat} (h : Kept s0 s) : Keeps s0 (execFrameTransmit port s) := by
  unfold execFrameTransmit
  refine .skipIf h (.ite ?_ ?_)
  · split
    · exact .next (State.kept_mapEth (State.kept_removeFrame h))
    · exact .next h
  · dsimp only
    split
    · exact .next h
    · exact .skipIf h (.next (.ite (State.kept_startFrame h) (State.kept_presentTo h)))

theorem execSwitchAudit_keeps {found : Nat} (h : Kept s0 s) : Keeps s0 (execSwitchAudit found s) :=
  .actIf h (.next (State.kept_mapSwitch h))

theorem execSwitchMarkSweep_keeps {cells : List Nat} {counts : Nat} (h : Kept s0 s) :
    Keeps s0 (execSwitchMarkSweep cells counts s) := by
  unfold execSwitchMarkSweep
  refine .actIf h ?_
  dsimp only
  split
  · exact .ite (.next (State.kept_mapSwitch h)) (.next (State.kept_each (State.kept_raise (State.kept_mapSwitch h))
      fun _ _ k => State.kept_unitEvent k))
  · exact .next (State.kept_mapSwitch h)

theorem execSwitchAuditStatusRead_keeps {partition : Nat} (h : Kept s0 s) : Keeps s0 (execSwitchAuditStatusRead partition s) :=
  .actIf h (.next (State.kept_mapSwitch h))

theorem execGptpMessage_keeps {port : Nat} {sync : Bool} {frame : EthFrame} (h : Kept s0 s) :
    Keeps s0 (execGptpMessage port sync frame s) :=
  .actIf h (.next (.ite (State.kept_mapTime (State.kept_mapEth h)) (State.kept_mapEth h)))

theorem execDmaSegmentMove_keeps {queue : Nat} (h : Kept s0 s) : Keeps s0 (execDmaSegmentMove queue s) :=
  .actIf h (.next (State.kept_serveQueue h))

/-- What the converters, the calibration or the rotation hold changes, and no part of the sense unit comes or goes. -/
theorem Kept.senseParts {t : State} (h : Kept s0 s) (i : t.sense.inputs = s.sense.inputs) (c : t.sense.converters = s.sense.converters)
    (u : t.sense.supplies = s.sense.supplies) (q : t.pending = s.pending := by rfl) (m : t.io = s.io := by rfl)
    (l : t.load = s.load := by rfl) (d : t.health = s.health := by rfl) (k : t.keys = s.keys := by rfl) : Kept s0 t :=
  Kept.shaped h q (fun w => by rw [m]; exact w) (fun w => by unfold Safety.Shaped at *; rw [i, c, u, l]; exact w) (by rw [d]) (by rw [d])
    (by rw [k])

theorem execSenseCalDone_keeps (h : Kept s0 s) : Keeps s0 (execSenseCalDone s) := by
  unfold execSenseCalDone
  split
  · exact .skipIf h (.next (State.kept_opEnd (State.kept_raise (h.senseParts rfl rfl rfl))))
  · exact .next h

theorem execConverterRotation_keeps (h : Kept s0 s) : Keeps s0 (execConverterRotation s) := by
  unfold execConverterRotation
  refine .skipIf h ?_
  split
  · rename_i a b _ _
    have k : Kept s0 ((s.mapConv a fun c => { c with state := .calibrating }).mapConv b fun c =>
      { c with state := .inService, since := s.now }) := State.kept_mapConv (State.kept_mapConv h)
    exact .next (k.senseParts rfl rfl rfl)
  · exact .next h

theorem execConverterCalibrationDone_keeps {converter : Nat} {bad : Bool} (h : Kept s0 s) :
    Keeps s0 (execConverterCalibrationDone converter bad s) :=
  have k : Kept s0 (s.mapConv converter fun c => { c with state := .standby, calAt := s.now }) := State.kept_mapConv h
  .skipIf h (.next (.ite (State.kept_unitEvent (k.senseParts rfl rfl rfl)) (k.senseParts rfl rfl rfl)))

theorem execSenseComparatorRead_keeps {input : Nat} {high : Bool} (h : Kept s0 s) :
    Keeps s0 (execSenseComparatorRead input high s) :=
  .skipIf h (.ite (.ite (.next (State.kept_switchTo h)) (.next (State.kept_mapSense h)))
    (.ite (.next (State.kept_mapSense h)) (.ite (.next (State.kept_switchTo h)) (.next (State.kept_mapSense h)))))

theorem execSensorSupplyLimit_keeps {output : Nat} (h : Kept s0 s) : Keeps s0 (execSensorSupplyLimit output s) :=
  .skipIf h (.ite (.next (State.kept_sensorFault (State.kept_mapSensor h))) (.next (State.kept_sensorFault (State.kept_mapSensor h))))

theorem execSensorSupplyRestart_keeps {output : Nat} (h : Kept s0 s) : Keeps s0 (execSensorSupplyRestart output s) := by
  unfold execSensorSupplyRestart
  split
  · exact .actIf h (.next (State.kept_mapSensor h))
  · exact .next h

theorem execSensorSupplyOvervoltage_keeps {output : Nat} (h : Kept s0 s) : Keeps s0 (execSensorSupplyOvervoltage output s) :=
  .actIf h (.next (State.kept_sensorFault (State.kept_mapSensor h)))

theorem execSensorSupplyOvervoltageRelease_keeps {output : Nat} (h : Kept s0 s) :
    Keeps s0 (execSensorSupplyOvervoltageRelease output s) :=
  .actIf h (.next (State.kept_mapSensor h))

theorem execSensorSupplyUndervoltage_keeps {output : Nat} (h : Kept s0 s) : Keeps s0 (execSensorSupplyUndervoltage output s) :=
  .actIf h (.next (State.kept_sensorFault h))

theorem execUartByteReceive_keeps {port : Nat} {byte : Byte} {error : Bool} (h : Kept s0 s) :
    Keeps s0 (execUartByteReceive port byte error s) :=
  .actIf h (.ite (.next (State.kept_mapPort h)) (.next (State.kept_takeByte h)))

theorem execUartIdleTimeout_keeps {port : Nat} (h : Kept s0 s) : Keeps s0 (execUartIdleTimeout port s) :=
  .actIf h (.next (State.kept_mapQueue h))

theorem execSenseSample_keeps {input : Nat} {value : Int} {flags : Nat} (h : Kept s0 s) :
    Keeps s0 (execSenseSample input value flags s) := by
  unfold execSenseSample
  split
  · exact .skipIf h (.ite (.next (State.kept_nextSample (State.kept_mapSense h)))
      (.ite (.next (State.kept_nextSample (State.kept_mapSense h)))
        (.next (State.kept_nextSample (State.kept_mapSense (State.kept_draw h))))))
  · exact .next h

theorem execCurrentSample_keeps {channel : Nat} {microamps : Int} {saturated : Bool} (h : Kept s0 s) :
    Keeps s0 (execCurrentSample channel microamps saturated s) := by
  unfold execCurrentSample
  split
  · exact .skipIf h (.ite (.next (State.kept_mapLoad h)) (.next (State.kept_mapLoad h)))
  · exact .next h

theorem execPartitionQuiet_keeps {partition : Nat} (h : Kept s0 s) : Keeps s0 (execPartitionQuiet partition s) :=
  .skipIf h (.next (State.kept_opEnd (State.kept_raise (State.kept_mapPart h))))

theorem execQuiesceDrainLimit_keeps {partition : Nat} (h : Kept s0 s) : Keeps s0 (execQuiesceDrainLimit partition s) :=
  .actIf h (.next (State.kept_mapPart (State.kept_parkQueues h)))

theorem execCapsuleDone_keeps {partition : Nat} (h : Kept s0 s) : Keeps s0 (execCapsuleDone partition s) := by
  unfold execCapsuleDone
  split
  · exact .next h
  · rename_i o _
    have k : Kept s0 { s with capsules := s.capsules.erase o } := (h.frame rfl)
    refine .skipIf h (.ite (.next (State.kept_capsuleDone k)) (.ite ?_ (.ite (.next (State.kept_capsuleDone k))
      (.ite (.next (State.kept_capsuleDone k)) ?_))))
    · split
      · rename_i e
        exact .next (State.kept_capsuleDone (State.kept_raiseFault (Kept.fst e (State.kept_write k))))
      · rename_i e
        exact .next (State.kept_capsuleDone (Kept.fst e (State.kept_write k)))
    · split
      · rename_i e
        exact .next (State.kept_capsuleDone (State.kept_raiseFault (Kept.fst e (State.kept_read k))))
      · rename_i e
        exact .next (State.kept_importCapsule (Kept.fst e (State.kept_read k)))

theorem execCpuCclassWrite_keeps {core : Nat} {value : BitVec 64} (h : Kept s0 s) : Keeps s0 (execCpuCclassWrite core value s) :=
  .actIf h (.next (h.frame rfl))

theorem execTwinPassMismatch_keeps {unit : Nat} {again : Bool} (h : Kept s0 s) : Keeps s0 (execTwinPassMismatch unit again s) :=
  .skipIf h (.ite (.next (State.kept_lasting h)) (.next (State.kept_unitEvent (.ite (State.kept_mapCore h) h))))

theorem execBackstayFrameFail_keeps (h : Kept s0 s) : Keeps s0 (execBackstayFrameFail s) :=
  .skipIf h (.ite (.next (State.kept_lasting (h.frame rfl))) (.next (State.kept_unitEvent (h.frame rfl))))

theorem execMastheadHeartbeat_keeps {count : Nat} (h : Kept s0 s) : Keeps s0 (execMastheadHeartbeat count s) := by
  unfold execMastheadHeartbeat
  refine .skipIf h (.ite (.ite (.next (State.kept_mapMasthead (h.frame rfl))) (.next (h.frame rfl))) ?_)
  dsimp only
  split
  · exact .ite (.next (State.kept_mapMasthead (h.frame rfl))) (.next (h.frame rfl))
  · exact .next (h.frame rfl)

theorem execMastheadHeartbeatTimeout_keeps {cause : Nat} (h : Kept s0 s) : Keeps s0 (execMastheadHeartbeatTimeout cause s) :=
  .skipIf h (.ite (.next (State.kept_mastheadLost h)) (.ite (.next (State.kept_mastheadLost h))
    (.actIf h (.next (State.kept_mastheadLost h)))))

theorem execMastheadRestartAttempt_keeps (h : Kept s0 s) : Keeps s0 (execMastheadRestartAttempt s) := by
  unfold execMastheadRestartAttempt
  split
  · exact .actIf h (.next (State.kept_beginAttempt h))
  · exact .next h

theorem execMastheadRestartTimeout_keeps (h : Kept s0 s) : Keeps s0 (execMastheadRestartTimeout s) := by
  unfold execMastheadRestartTimeout
  split
  · exact .actIf h (.next (State.kept_attemptFailed h))
  · exact .next h

theorem execTrialHoveToReset_keeps (h : Kept s0 s) : Keeps s0 (execTrialHoveToReset s) := by
  unfold execTrialHoveToReset
  split
  · exact .actIf h (.next (State.kept_moduleReset h))
  · exact .next h

theorem execEthCableResult_keeps {port result distance : Nat} (h : Kept s0 s) : Keeps s0 (execEthCableResult port result distance s) :=
  .actIf h (.ite (.next (State.kept_mapEth (State.kept_cableResult h))) (.next (State.kept_moveLink (State.kept_cableResult h))))

theorem execLinkTrainingDone_keeps {port : Nat} (h : Kept s0 s) : Keeps s0 (execLinkTrainingDone port s) :=
  .actIf h (.next (State.kept_evidence (State.kept_moveLink h)))

theorem execLinkFailure_keeps {port : Nat} (h : Kept s0 s) : Keeps s0 (execLinkFailure port s) :=
  .actIf h (.next (State.kept_moveLink h))

theorem execTc10SleepAck_keeps {port : Nat} (h : Kept s0 s) : Keeps s0 (execTc10SleepAck port s) :=
  .actIf h (.next (State.kept_moveLink h))

theorem execTc10SleepAckTimeout_keeps {port : Nat} (h : Kept s0 s) : Keeps s0 (execTc10SleepAckTimeout port s) :=
  .actIf h (.next (State.kept_moveLink h))

theorem execTc10SleepRequest_keeps {port : Nat} (h : Kept s0 s) : Keeps s0 (execTc10SleepRequest port s) :=
  .actIf h (.ite (.next (State.kept_mapEth h)) (.ite (.next (State.kept_moveLink h)) (.next (State.kept_raise h))))

theorem execTc10WakePulse_keeps {port : Nat} (h : Kept s0 s) : Keeps s0 (execTc10WakePulse port s) :=
  .skipIf h (.ite (.next (State.kept_moveLink (State.kept_mapEth h))) (.actIf h (.next (State.kept_mapEth h))))

theorem execPlcaBeaconLoss_keeps {port : Nat} (h : Kept s0 s) : Keeps s0 (execPlcaBeaconLoss port s) :=
  have k := State.kept_plcaEvent (State.kept_mapEth h)
  .actIf h (.ite (.next (State.kept_contractExceeded k)) (.next k))

theorem execPlcaBeaconReturn_keeps {port : Nat} (h : Kept s0 s) : Keeps s0 (execPlcaBeaconReturn port s) :=
  .actIf h (.next (State.kept_plcaEvent (State.kept_mapEth h)))

end Sys2Proof.Machine
end

section
/-! SUPPORT. The rows of the supply, tamper inputs, command rings, start-up and recovery. -/

namespace Sys2Proof.Machine

variable {s0 s : State}

theorem execSupplyDipStart_keeps {feed mv : Nat} (h : Kept s0 s) : Keeps s0 (execSupplyDipStart feed mv s) :=
  .skipIf h (.next (State.kept_unitEvent (State.kept_refeed (State.kept_joinChain (State.kept_sampleFeed
    (State.kept_mapSupply (State.kept_mapFeed h)))))))

theorem execSupplyDipEnd_keeps {feed lowest : Nat} (h : Kept s0 s) : Keeps s0 (execSupplyDipEnd feed lowest s) := by
  unfold execSupplyDipEnd
  refine .skipIf h ?_
  extract_lets s1 s2
  have k : Kept s0 s2 := State.kept_refeed (State.kept_sampleFeed (State.kept_mapSupply (State.kept_mapFeed h)))
  refine .ite (.next k) ?_
  split
  · exact .next (State.kept_supplyEvent (State.kept_mapSupply k))
  · exact .next k

theorem execShedRestoreDelay_keeps {channel : Nat} (h : Kept s0 s) : Keeps s0 (execShedRestoreDelay channel s) := by
  unfold execShedRestoreDelay
  split
  · exact .actIf h (.next (State.kept_redrive (State.kept_mapLoad h)))
  · exact .next h

theorem execSupplyFeedLost_keeps {feed mv : Nat} (h : Kept s0 s) : Keeps s0 (execSupplyFeedLost feed mv s) :=
  .skipIf h (.next (State.kept_unitEvent (State.kept_supplyEvent (State.kept_refeed (State.kept_joinChain
    (State.kept_sampleFeed (State.kept_mapFeed h)))))))

theorem execVlogicLow_keeps {mv : Nat} (h : Kept s0 s) : Keeps s0 (execVlogicLow mv s) := by
  unfold execVlogicLow
  refine .skipIf h (.next (State.kept_computeReset (State.kept_mapSupply (State.kept_sampleFeed ?_))))
  split
  · exact State.kept_holdSupply (State.kept_mapSupply h)
  · exact h

theorem execVlogicResetRelease_keeps (h : Kept s0 s) : Keeps s0 (execVlogicResetRelease s) :=
  have k : Kept s0 (s.mapSupply fun y => { y with vlogicLow := false }) := State.kept_mapSupply h
  .actIf h (.next (.ite (k.frame rfl) k))

theorem execPowerDieLogicLoss_keeps (h : Kept s0 s) : Keeps s0 (execPowerDieLogicLoss s) :=
  have k : Kept s0 (s.mapSupply fun y => { y with unpowered := true, vlogicLow := true }) := State.kept_mapSupply h
  .skipIf h (.next (State.kept_redriveAll (k.frame rfl)))

theorem execOverVoltageLogged_keeps {feed mv : Nat} (h : Kept s0 s) : Keeps s0 (execOverVoltageLogged feed mv s) :=
  .skipIf h (.next (State.kept_sampleFeed (State.kept_mapFeed h)))

theorem execSupplyOvervoltage_keeps {feed highest : Nat} (h : Kept s0 s) : Keeps s0 (execSupplyOvervoltage feed highest s) :=
  .skipIf h (.next (State.kept_supplyEvent (State.kept_sampleFeed (State.kept_mapFeed h))))

theorem execHighVoltageShutdown_keeps {feed mv : Nat} (h : Kept s0 s) : Keeps s0 (execHighVoltageShutdown feed mv s) :=
  .skipIf h (.next (State.kept_redriveAll (State.kept_mapSupply (State.kept_sampleFeed (State.kept_mapFeed h)))))

theorem execHighVoltageRelease_keeps (h : Kept s0 s) : Keeps s0 (execHighVoltageRelease s) :=
  .skipIf h (.next (State.kept_supplyEvent (State.kept_redriveAll (State.kept_each
    (State.kept_mapSupply (State.kept_mapFeed (State.kept_mapFeed h))) fun _ _ k => State.kept_mapLoad k))))

theorem execGroundLoss_keeps {blades : Nat} {offsetMv : Int} (h : Kept s0 s) : Keeps s0 (execGroundLoss blades offsetMv s) :=
  .skipIf h (.next (State.kept_unitEvent (State.kept_supplyEvent (State.kept_redriveAll (State.kept_mapSupply h)))))

theorem execGroundRestored_keeps {largest : Nat} (h : Kept s0 s) : Keeps s0 (execGroundRestored largest s) :=
  .skipIf h (.next (State.kept_supplyEvent (State.kept_redriveAll (State.kept_each (State.kept_mapSupply h)
    fun _ _ k => State.kept_mapLoad k))))

theorem execSupplyRegulator_keeps {rail mv : Nat} {above : Bool} (h : Kept s0 s) :
    Keeps s0 (execSupplyRegulator rail mv above s) :=
  .skipIf h (.next (State.kept_unitEvent (State.kept_supplyEvent (.ite (State.kept_turnAllOff h) h))))

theorem execChallengeExpiry_keeps (h : Kept s0 s) : Keeps s0 (execChallengeExpiry s) := .actIf h (.next (h.frame rfl))

theorem execTamperDetected_keeps {input detail : Nat} (h : Kept s0 s) : Keeps s0 (execTamperDetected input detail s) :=
  .skipIf h (.next (State.kept_tamperEvent h))

theorem execTamperEraseDone_keeps (h : Kept s0 s) : Keeps s0 (execTamperEraseDone s) :=
  .actIf h (.next (State.kept_finishErasure h))

theorem execCmdRingTailWrite_keeps {partition ring : Nat} {tail : Word} (h : Kept s0 s) :
    Keeps s0 (execCmdRingTailWrite partition ring tail s) := .actIf h (.next (State.kept_writeCmdTail h))

theorem execCmdRingEnable_keeps {partition ring : Nat} {control : Word} (h : Kept s0 s) :
    Keeps s0 (execCmdRingEnable partition ring control s) := .actIf h (.next (State.kept_writeCmdControl h))

theorem execCmdRingDisable_keeps {partition ring : Nat} {control : Word} (h : Kept s0 s) :
    Keeps s0 (execCmdRingDisable partition ring control s) := .actIf h (.next (State.kept_writeCmdControl h))

theorem execCplRingEnable_keeps {partition : Nat} {control : Word} (h : Kept s0 s) :
    Keeps s0 (execCplRingEnable partition control s) := .actIf h (.next (State.kept_writeCplControl h))

theorem execCplRingTailWrite_keeps {partition : Nat} {tail : Word} (h : Kept s0 s) :
    Keeps s0 (execCplRingTailWrite partition tail s) := .actIf h (.next (State.kept_writeCplTail h))

theorem execRingAccessFaultClear_keeps {partition offset : Nat} (h : Kept s0 s) :
    Keeps s0 (execRingAccessFaultClear partition offset s) := .actIf h (.next (State.kept_clearRingFault h))

theorem execCommandExecuteF_keeps (h : Kept s0 s) : Keeps s0 (execCommandExecuteF s) := by
  have k : Kept s0 s.drainAll := State.kept_drainAll h
  unfold execCommandExecuteF
  refine .actIf h ?_
  dsimp only
  split
  · exact .next (State.kept_takeRing k)
  · exact .next k

theorem execDelayedItemConforms_keeps {kind subject : Nat} (h : Kept s0 s) : Keeps s0 (execDelayedItemConforms kind subject s) := by
  unfold execDelayedItemConforms
  refine .skipIf h ?_
  split
  · exact .next (State.kept_retryRing h)
  · exact .next (State.kept_conformObject h)
  · exact .next (State.kept_conformQueue h)
  · exact .next (State.kept_conformOp h)
  · exact .next h

theorem execRegisterWrite_keeps {partition address : Nat} {value : Word} (h : Kept s0 s) :
    Keeps s0 (execRegisterWrite partition address value s) := .actIf h (.next (State.kept_writeRegister h))

theorem execControllerReturned_keeps (h : Kept s0 s) : Keeps s0 (execControllerReturned s) :=
  .skipIf h (.next (State.kept_postMissed (State.kept_settleOwed (State.kept_thaw (State.kept_raiseAll
    (State.kept_mapMasthead h))))))

theorem execPowerUp_keeps {straps vlogicMv : Nat} {heathLost : Bool} (h : Kept s0 s) :
    Keeps s0 (execPowerUp straps vlogicMv heathLost s) := .actIf h (.next (State.kept_powerUp h))

theorem execResetNPulse_keeps {lengthNs : Nat} (h : Kept s0 s) : Keeps s0 (execResetNPulse lengthNs s) :=
  .skipIf h (.ite (.next (State.kept_moduleReset h))
    (.next (.ite (State.kept_moduleReset (State.kept_choose h)) (State.kept_choose h))))

theorem execStartupBootRom_keeps (h : Kept s0 s) : Keeps s0 (execStartupBootRom s) := by
  have k1 : Kept s0 s.finishErasure.generateRoot.1 := State.kept_generateRoot (State.kept_finishErasure h)
  unfold execStartupBootRom
  refine .skipIf h ?_
  generalize s.finishErasure.generateRoot = x1 at k1 ⊢
  obtain ⟨s1, fresh⟩ := x1
  dsimp -zeta only
  extract_lets held boot s2 s3
  have k3 : Kept s0 s3 := State.kept_lifeChange (.ite (State.kept_isolation (k1.frame rfl)) (k1.frame rfl))
  have k4 : Kept s0 (s3.selectBank false).1 := State.kept_selectBank k3
  generalize s3.selectBank false = x4 at k4 ⊢
  obtain ⟨s4, fw⟩ := x4
  refine .ite (.next (State.kept_recoveryStart k4)) ?_
  have k5 : Kept s0 (s4.selectBank true).1 := State.kept_selectBank k4
  generalize s4.selectBank true = x5 at k5 ⊢
  obtain ⟨s5, cfg⟩ := x5
  exact .ite (.next (State.kept_recoveryStart k5)) (.next (k5.frame rfl))

theorem execStartupSelftest_keeps {failing : List Nat} (h : Kept s0 s) : Keeps s0 (execStartupSelftest failing s) := by
  unfold execStartupSelftest
  refine .skipIf h ?_
  extract_lets units stops off offBoot s1 i s2
  have k0 : Kept s0 off := State.kept_turnAllOff h
  have k1 : Kept s0 s1 := State.kept_each h fun _ _ k => State.kept_lasting k
  have k2 : Kept s0 s2 := State.kept_copyApplication (State.kept_runPreamble (State.kept_commitConfigured k1))
  clear_value off s2
  exact .ite (.next (k0.frame rfl)) (.skipIf k1 (.next (k2.frame rfl)))

theorem execCommandListExecute_keeps (h : Kept s0 s) : Keeps s0 (execCommandListExecute s) :=
  have k : Kept s0 (State.runList s.boot.list s) := State.kept_runList _ h
  .skipIf h (.ite (.next (State.kept_enterRun h)) (.skipIf k (.next (State.kept_enterRun k))))

theorem execRecoveryImageReceive_keeps {image : List Byte} {writeOk : Bool} (h : Kept s0 s) :
    Keeps s0 (execRecoveryImageReceive image writeOk s) :=
  have k := State.kept_sendUart (State.kept_setBank h)
  .skipIf h (.ite (.next (State.kept_sendUart h)) (.ite (.next (State.kept_sendUart (State.kept_setBank h)))
    (.next (.ite (State.kept_moduleReset k) k))))

theorem execRecoveryBeacon_keeps (h : Kept s0 s) : Keeps s0 (execRecoveryBeacon s) :=
  have k : Kept s0 (s.sendUart [0x52, 0x45, 0x43, 0x56, s.lifecycle, s.boot.recovery, 0, 0]) := State.kept_sendUart h
  .actIf h (.next (k.frame rfl))

theorem execIsolationCondition_keeps {outside : Bool} (h : Kept s0 s) : Keeps s0 (execIsolationCondition outside s) :=
  .skipIf h (.ite (.next (.ite (h.frame rfl) (State.kept_isolation (h.frame rfl)))) (.actIf h (.next (State.kept_isolation (h.frame rfl)))))

end Sys2Proof.Machine
end

section
/-! SUPPORT. Every row keeps what `Kept` names; the end of a life-cycle change keeps all of it but the life cycle. -/

namespace Sys2Proof.Machine

variable {s0 s : State}

/-- The state with its life cycle set to `n`, and nothing else changed. -/
def State.inLife (s : State) (n : Nat) : State := { s with keys := { s.keys with otp := { s.keys.otp with lifecycle := n } } }

/-- The end of a life-cycle operation: the life cycle stands or moves to the state that R496 allows, and the rest is kept. -/
theorem State.kept_endLife_inLife (s : State) (o : LifeOp) (blown : Bool) :
    ∃ n, (n = s.lifecycle ∨ s.mayAdvance n = true) ∧ Kept (s.inLife n) (s.endLife o blown).1 := by
  by_cases change : o.opcode = 0x0903
  · by_cases advances : (blown && s.mayAdvance o.target) = true
    · refine ⟨o.target, .inr (Bool.and_eq_true_iff.mp advances).2, ?_⟩
      rw [State.endLife, if_pos change, if_pos advances]
      exact State.kept_advance (.refl _)
    · refine ⟨s.lifecycle, .inl rfl, ?_⟩
      rw [State.endLife, if_pos change, if_neg advances]
      exact State.kept_serveAgain (.refl s)
  · exact ⟨s.lifecycle, .inl rfl, State.kept_endLife change (.refl s)⟩

theorem execLifecycleDone_keeps (s : State) (blown : Bool) :
    ∃ n, (n = s.lifecycle ∨ s.mayAdvance n = true) ∧ Keeps (s.inLife n) (execLifecycleDone blown s) := by
  have stands : Kept (s.inLife s.lifecycle) s := .refl s
  unfold execLifecycleDone
  split
  · exact ⟨_, .inl rfl, .next stands⟩
  · rename_i o rest _
    obtain ⟨n, hn, k⟩ := State.kept_endLife_inLife { s with keys := { s.keys with ops := rest } } o blown
    have k1 : Kept (s.inLife n) (State.endLife { s with keys := { s.keys with ops := rest } } o blown).1 :=
      Kept.trans (b := State.inLife { s with keys := { s.keys with ops := rest } } n) (.frame (.refl _) rfl) k
    by_cases off : (!s.computeOn) = true
    · rw [if_pos off]
      exact ⟨_, .inl rfl, .next stands⟩
    · rw [if_neg off]
      exact ⟨n, hn, .next (State.kept_opEnd (State.kept_lifeChange (State.kept_raise k1)))⟩

/-- What every row but LIFECYCLE_DONE keeps. -/
theorem exec_keeps {i : Instr} (other : ∀ b, i ≠ .lifecycleDone b) (h : Kept s0 s) : Keeps s0 (exec i s) := by
  cases i with
  | deviceIdentify => exact .step (fun _ _ _ => kept_cmdDeviceIdentify) h
  | deviceFeaturesCommit => exact .step (fun _ _ _ => kept_cmdDeviceFeaturesCommit) h
  | deviceNop => exact .step (fun _ _ _ => kept_cmdDeviceNop) h
  | timeRead => exact .step (fun _ _ _ => kept_cmdTimeRead) h
  | timeSourceSet => exact .step (fun _ _ _ => kept_cmdTimeSourceSet) h
  | ppsConfig => exact .step (fun _ _ _ => kept_cmdPpsConfig) h
  | supplyConfig => exact .step (fun _ _ _ => kept_cmdSupplyConfig) h
  | supplyQuery => exact .step (fun _ _ _ => kept_cmdSupplyQuery) h
  | loadDipSet => exact .step (fun _ _ _ => kept_cmdLoadDipSet) h
  | cpuQuery => exact .step (fun _ _ _ => kept_cmdCpuQuery) h
  | cpuAppDvfsSet => exact .step (fun _ _ _ => kept_cmdCpuAppDvfsSet) h
  | safetyCoreAssign => exact .step (fun _ _ _ => kept_cmdSafetyCoreAssign) h
  | safetyCoreControl => exact .step (fun _ _ _ => kept_cmdSafetyCoreControl) h
  | safetySpareSet => exact .step (fun _ _ _ => kept_cmdSafetySpareSet) h
  | deviceReset => exact .step (fun _ _ _ => kept_cmdDeviceReset) h
  | fwBankWrite => exact .step (fun _ _ _ => kept_cmdFwBankWrite) h
  | fwBankWritten => exact execFwBankWritten_keeps h
  | bootConfirm => exact .step (fun _ _ _ => kept_cmdBootConfirm) h
  | partitionCreate => exact .step (fun _ _ _ => kept_cmdPartitionCreate) h
  | partitionQuiesce => exact .step (fun _ _ _ => kept_cmdPartitionQuiesce) h
  | partitionQuiet => exact execPartitionQuiet_keeps h
  | quiesceDrainLimit => exact execQuiesceDrainLimit_keeps h
  | partitionResume => exact .step (fun _ _ _ => kept_cmdPartitionResume) h
  | partitionReset => exact .step (fun _ _ _ => kept_cmdPartitionReset) h
  | partitionRemove => exact .step (fun _ _ _ => kept_cmdPartitionRemove) h
  | objectAssign => exact .step (fun _ _ _ => kept_cmdObjectAssign) h
  | cacheClassSet => exact .step (fun _ _ _ => kept_cmdCacheClassSet) h
  | memoryOwnerSet => exact .step (fun _ _ _ => kept_cmdMemoryOwnerSet) h
  | iommuRootSet => exact .step (fun _ _ _ => kept_cmdIommuRootSet) h
  | iommuInvalidate => exact .step (fun _ _ _ => kept_cmdIommuInvalidate) h
  | dmaQueueConfig => exact .step (fun _ _ _ => kept_cmdDmaQueueConfig) h
  | dmaQueuePost => exact .step (fun _ _ _ => kept_cmdDmaQueuePost) h
  | dmaQueueResume => exact .step (fun _ _ _ => kept_cmdDmaQueueResume) h
  | dmaQueueQuery => exact .step (fun _ _ _ => kept_cmdDmaQueueQuery) h
  | dmaSegmentMove => exact execDmaSegmentMove_keeps h
  | dirtyLogStart => exact .step (fun _ _ _ => kept_cmdDirtyLogStart) h
  | dirtyLogSwap => exact .step (fun _ _ _ => kept_cmdDirtyLogSwap) h
  | dirtyLogStop => exact .step (fun _ _ _ => kept_cmdDirtyLogStop) h
  | partitionCapsuleExport => exact .step (fun _ _ _ => kept_cmdPartitionCapsuleExport) h
  | partitionCapsuleImport => exact .step (fun _ _ _ => kept_cmdPartitionCapsuleImport) h
  | capsuleDone => exact execCapsuleDone_keeps h
  | flowAdmit => exact .step (fun _ _ _ => kept_cmdFlowAdmit) h
  | flowPredict => exact .step (fun _ _ _ => kept_cmdFlowPredict) h
  | flowRelease => exact .step (fun _ _ _ => kept_cmdFlowRelease) h
  | flowReleaseDone => exact execFlowReleaseDone_keeps h
  | flowQuery => exact .step (fun _ _ _ => kept_cmdFlowQuery) h
  | flowStats => exact .step (fun _ _ _ => kept_cmdFlowStats) h
  | mediumContractSet => exact .step (fun _ _ _ => kept_cmdMediumContractSet) h
  | mediumContractWindow => exact execMediumContractWindow_keeps h
  | maintenanceRetry => exact execMaintenanceRetry_keeps h
  | switchPortConfig => exact .step (fun _ _ _ => kept_cmdSwitchPortConfig) h
  | switchVlanSet => exact .step (fun _ _ _ => kept_cmdSwitchVlanSet) h
  | switchMacSet => exact .step (fun _ _ _ => kept_cmdSwitchMacSet) h
  | switchEndpointSet => exact .step (fun _ _ _ => kept_cmdSwitchEndpointSet) h
  | switchEndpointAttach => exact .step (fun _ _ _ => kept_cmdSwitchEndpointAttach) h
  | switchQuotaSet => exact .step (fun _ _ _ => kept_cmdSwitchQuotaSet) h
  | switchAccountQuery => exact .step (fun _ _ _ => kept_cmdSwitchAccountQuery) h
  | switchGateSet => exact .step (fun _ _ _ => kept_cmdSwitchGateSet) h
  | gateListActive => exact execGateListActive_keeps h
  | gateChange => exact execGateChange_keeps h
  | switchShaperSet => exact .step (fun _ _ _ => kept_cmdSwitchShaperSet) h
  | switchPreemptSet => exact .step (fun _ _ _ => kept_cmdSwitchPreemptSet) h
  | preemptVerifyDone => exact execPreemptVerifyDone_keeps h
  | switchStreamSet => exact .step (fun _ _ _ => kept_cmdSwitchStreamSet) h
  | switchFrerSet => exact .step (fun _ _ _ => kept_cmdSwitchFrerSet) h
  | frerLatentError => exact execFrerLatentError_keeps h
  | switchMacsecSaSet => exact .step (fun _ _ _ => kept_cmdSwitchMacsecSaSet) h
  | switchSampleSet => exact .step (fun _ _ _ => kept_cmdSwitchSampleSet) h
  | switchGptpSet => exact .step (fun _ _ _ => kept_cmdSwitchGptpSet) h
  | frameReceive => exact execFrameReceive_keeps h
  | macEntryAge => exact execMacEntryAge_keeps h
  | switchCellMatch => exact execSwitchCellMatch_keeps h
  | frameTransmit => exact execFrameTransmit_keeps h
  | switchAudit => exact execSwitchAudit_keeps h
  | switchMarkSweep => exact execSwitchMarkSweep_keeps h
  | switchAuditStatusRead => exact execSwitchAuditStatusRead_keeps h
  | gptpMessage => exact execGptpMessage_keeps h
  | ethPortConfig => exact .step (fun _ _ _ => kept_cmdEthPortConfig) h
  | ethLinkQuery => exact .step (fun _ _ _ => kept_cmdEthLinkQuery) h
  | ethPlcaSet => exact .step (fun _ _ _ => kept_cmdEthPlcaSet) h
  | ethTc10Sleep => exact .step (fun _ _ _ => kept_cmdEthTc10Sleep) h
  | ethTc10Wake => exact .step (fun _ _ _ => kept_cmdEthTc10Wake) h
  | ethCableTest => exact .step (fun _ _ _ => kept_cmdEthCableTest) h
  | ethCableResult => exact execEthCableResult_keeps h
  | ethPortStats => exact .step (fun _ _ _ => kept_cmdEthPortStats) h
  | ethPhyMmdRead => exact .step (fun _ _ _ => kept_cmdEthPhyMmdRead) h
  | linkTrainingDone => exact execLinkTrainingDone_keeps h
  | linkFailure => exact execLinkFailure_keeps h
  | tc10SleepAck => exact execTc10SleepAck_keeps h
  | tc10SleepAckTimeout => exact execTc10SleepAckTimeout_keeps h
  | tc10SleepRequest => exact execTc10SleepRequest_keeps h
  | tc10WakePulse => exact execTc10WakePulse_keeps h
  | plcaBeaconLoss => exact execPlcaBeaconLoss_keeps h
  | plcaBeaconReturn => exact execPlcaBeaconReturn_keeps h
  | canChannelConfig => exact .step (fun _ _ _ => kept_cmdCanChannelConfig) h
  | canObjectConfig => exact .step (fun _ _ _ => kept_cmdCanObjectConfig) h
  | canObjectAttach => exact .step (fun _ _ _ => kept_cmdCanObjectAttach) h
  | canChannelQuery => exact .step (fun _ _ _ => kept_cmdCanChannelQuery) h
  | canChannelRecover => exact .step (fun _ _ _ => kept_cmdCanChannelRecover) h
  | canObjectQuery => exact .step (fun _ _ _ => kept_cmdCanObjectQuery) h
  | canGangSet => exact .step (fun _ _ _ => kept_cmdCanGangSet) h
  | canIntegrationDone => exact execCanIntegrationDone_keeps h
  | canBusOffRecovery => exact execCanBusOffRecovery_keeps h
  | canFrameReceive => exact execCanFrameReceive_keeps h
  | canFrameTransmitEnd => exact execCanFrameTransmitEnd_keeps h
  | canTtRelease => exact execCanTtRelease_keeps h
  | canGangInstant => exact execCanGangInstant_keeps h
  | canTxdDominantTimeout => exact execCanTxdDominantTimeout_keeps h
  | objStatusRead => exact execObjStatusRead_keeps h
  | objCtrlSendReq => exact execObjCtrlSendReq_keeps h
  | objCtrlAbort => exact execObjCtrlAbort_keeps h
  | objCtrlRelease => exact execObjCtrlRelease_keeps h
  | linChannelConfig => exact .step (fun _ _ _ => kept_cmdLinChannelConfig) h
  | linScheduleSet => exact .step (fun _ _ _ => kept_cmdLinScheduleSet) h
  | linFrameWrite => exact .step (fun _ _ _ => kept_cmdLinFrameWrite) h
  | linFrameRead => exact .step (fun _ _ _ => kept_cmdLinFrameRead) h
  | linBusControl => exact .step (fun _ _ _ => kept_cmdLinBusControl) h
  | linSlotStart => exact execLinSlotStart_keeps h
  | linHeaderReceive => exact execLinHeaderReceive_keeps h
  | linResponseReceive => exact execLinResponseReceive_keeps h
  | linNoResponse => exact execLinNoResponse_keeps h
  | linWakeSeen => exact execLinWakeSeen_keeps h
  | linScheduleRestart => exact execLinScheduleRestart_keeps h
  | localPortConfig => exact .step (fun _ _ _ => kept_cmdLocalPortConfig) h
  | localTransfer => exact .step (fun _ _ _ => kept_cmdLocalTransfer) h
  | localTransferDone => exact execLocalTransferDone_keeps h
  | localGpioSet => exact .step (fun _ _ _ => kept_cmdLocalGpioSet) h
  | localGpioGet => exact .step (fun _ _ _ => kept_cmdLocalGpioGet) h
  | gpioEdge => exact execGpioEdge_keeps h
  | uartByteReceive => exact execUartByteReceive_keeps h
  | uartIdleTimeout => exact execUartIdleTimeout_keeps h
  | loadChannelConfig => exact .step (fun _ _ _ => kept_cmdLoadChannelConfig) h
  | loadWireSet => exact .step (fun _ _ _ => kept_cmdLoadWireSet) h
  | loadSet => exact .step (fun _ _ _ => kept_cmdLoadSet) h
  | loadSetDirectWrite => exact execLoadSetDirectWrite_keeps h
  | loadSetClear => exact .step (fun _ _ _ => kept_cmdLoadSet) h
  | loadQuery => exact .step (fun _ _ _ => kept_cmdLoadQuery) h
  | loadGangSet => exact .step (fun _ _ _ => kept_cmdLoadGangSet) h
  | loadMeasureSet => exact .step (fun _ _ _ => kept_cmdLoadMeasureSet) h
  | loadDiagRun => exact .step (fun _ _ _ => kept_cmdLoadDiagRun) h
  | loadDiagDone => exact execLoadDiagDone_keeps h
  | loadSafeTableSet => exact .step (fun _ _ _ => kept_cmdLoadSafeTableSet) h
  | safeTableWritten => exact execSafeTableWritten_keeps h
  | loadHoldSet => exact .step (fun _ _ _ => kept_cmdLoadHoldSet) h
  | loadReclaim => exact .step (fun _ _ _ => kept_cmdLoadReclaim) h
  | loadHoldEnd => exact execLoadHoldEnd_keeps h
  | loadOvercurrentTrip => exact execLoadOvercurrentTrip_keeps h
  | loadThermalTrip => exact execLoadThermalTrip_keeps h
  | loadDeltaTTrip => exact execLoadDeltaTTrip_keeps h
  | wireModelUpdate => exact execWireModelUpdate_keeps h
  | loadRestart => exact execLoadRestart_keeps h
  | pwmPeriodStart => exact execPwmPeriodStart_keeps h
  | currentSample => exact execCurrentSample_keeps h
  | openLoadDetect => exact execOpenLoadDetect_keeps h
  | rippleReplan => exact execRippleReplan_keeps h
  | supplyDipStart => exact execSupplyDipStart_keeps h
  | supplyDipEnd => exact execSupplyDipEnd_keeps h
  | shedRestoreDelay => exact execShedRestoreDelay_keeps h
  | supplyFeedLost => exact execSupplyFeedLost_keeps h
  | vlogicLow => exact execVlogicLow_keeps h
  | powerDieLogicLoss => exact execPowerDieLogicLoss_keeps h
  | supplyOvervoltage => exact execSupplyOvervoltage_keeps h
  | highVoltageShutdown => exact execHighVoltageShutdown_keeps h
  | highVoltageRelease => exact execHighVoltageRelease_keeps h
  | groundLoss => exact execGroundLoss_keeps h
  | groundRestored => exact execGroundRestored_keeps h
  | supplyRegulator => exact execSupplyRegulator_keeps h
  | senseInputConfig => exact .step (fun _ _ _ => kept_cmdSenseInputConfig) h
  | senseStateRead => exact .step (fun _ _ _ => kept_cmdSenseStateRead) h
  | senseSampleSet => exact .step (fun _ _ _ => kept_cmdSenseSampleSet) h
  | senseGangSet => exact .step (fun _ _ _ => kept_cmdSenseGangSet) h
  | senseCalRun => exact .step (fun _ _ _ => kept_cmdSenseCalRun) h
  | senseCalDone => exact execSenseCalDone_keeps h
  | sensorSupplySet => exact .step (fun _ _ _ => kept_cmdSensorSupplySet) h
  | senseQuery => exact .step (fun _ _ _ => kept_cmdSenseQuery) h
  | senseComparatorRead => exact execSenseComparatorRead_keeps h
  | senseSample => exact execSenseSample_keeps h
  | converterRotation => exact execConverterRotation_keeps h
  | converterCalibrationDone => exact execConverterCalibrationDone_keeps h
  | sensorSupplyLimit => exact execSensorSupplyLimit_keeps h
  | sensorSupplyOvervoltage => exact execSensorSupplyOvervoltage_keeps h
  | sensorSupplyUndervoltage => exact execSensorSupplyUndervoltage_keeps h
  | sleepEnter => exact .step (fun _ _ _ => kept_cmdSleepEnter) h
  | sleepEntryPhase => exact execSleepEntryPhase_keeps h
  | sleepCancel => exact .step (fun _ _ _ => kept_cmdSleepCancel) h
  | wakeSourceSet => exact .step (fun _ _ _ => kept_cmdWakeSourceSet) h
  | wakeSelectiveSet => exact .step (fun _ _ _ => kept_cmdWakeSelectiveSet) h
  | wakeQuery => exact .step (fun _ _ _ => kept_cmdWakeQuery) h
  | wakeValidate => exact .step (fun _ _ _ => kept_cmdWakeValidate) h
  | rtcAlarmSet => exact .step (fun _ _ _ => kept_cmdRtcAlarmSet) h
  | rtcAlarm => exact execRtcAlarm_keeps h
  | wakeLatch source detail => exact execWakeLatch_keeps detail h
  | idleExit => exact execIdleExit_keeps h
  | wakeWindowExpiry => exact execWakeWindowExpiry_keeps h
  | wakeMuteExpiry => exact execWakeMuteExpiry_keeps h
  | timeSourceMeasurement => exact execTimeSourceMeasurement_keeps h
  | timeSourceLoss => exact execTimeSourceLoss_keeps h
  | holdoverLimit => exact execHoldoverLimit_keeps h
  | ppsInEdge => exact execPpsInEdge_keeps h
  | ppsOutPulse => exact execPpsOutPulse_keeps h
  | d7TimeStamp => exact execD7TimeStamp_keeps h
  | d7CopyInvalid => exact execD7CopyInvalid_keeps h
  | d6CopyInvalid => exact execD6CopyInvalid_keeps h
  | timeReferenceRefresh => exact execTimeReferenceRefresh_keeps h
  | clockMonitorExcursion => exact execClockMonitorExcursion_keeps h
  | backstayFrameFail => exact execBackstayFrameFail_keeps h
  | mastheadHeartbeat => exact execMastheadHeartbeat_keeps h
  | mastheadHeartbeatTimeout => exact execMastheadHeartbeatTimeout_keeps h
  | mastheadRestartAttempt => exact execMastheadRestartAttempt_keeps h
  | mastheadRestartTimeout => exact execMastheadRestartTimeout_keeps h
  | controllerReturned => exact execControllerReturned_keeps h
  | trialHoveToReset => exact execTrialHoveToReset_keeps h
  | twinPassMismatch => exact execTwinPassMismatch_keeps h
  | cpuCclassWrite => exact execCpuCclassWrite_keeps h
  | unitEvent => exact execUnitEvent_keeps h
  | furlRevocation => exact execFurlRevocation_keeps h
  | healthClassSet => exact .step (fun _ _ _ => kept_cmdHealthClassSet) h
  | healthUnitQuery => exact .step (fun _ _ _ => kept_cmdHealthUnitQuery) h
  | unitFurl => exact .step (fun _ _ _ => kept_cmdUnitFurl) h
  | unitUnfurl => exact .step (fun _ _ _ => kept_cmdUnitUnfurl) h
  | unfurlDone => exact execUnfurlDone_keeps h
  | reefPlanRun => exact .step (fun _ _ _ => kept_cmdReefPlanRun) h
  | reefQuery => exact .step (fun _ _ _ => kept_cmdReefQuery) h
  | reefPlan => exact execReefPlan_keeps h
  | reefCeilingApply => exact execReefCeilingApply_keeps h
  | ageingMonitorSample => exact execAgeingMonitorSample_keeps h
  | selftestRun => exact .step (fun _ _ _ => kept_cmdSelftestRun) h
  | selftestScheduleSet => exact .step (fun _ _ _ => kept_cmdSelftestScheduleSet) h
  | selftestQuery => exact .step (fun _ _ _ => kept_cmdSelftestQuery) h
  | selftestSlice => exact execSelftestSlice_keeps h
  | lifecycleRead => exact .step (fun _ _ _ => kept_cmdLifecycleRead) h
  | lifecycleChallenge => exact .step (fun _ _ _ => kept_cmdLifecycleChallenge) h
  | challengeExpiry => exact execChallengeExpiry_keeps h
  | lifecycleAdvance => exact .step (fun _ _ _ => kept_cmdLifecycleAdvance) h
  | debugOpen => exact .step (fun _ _ _ => kept_cmdDebugOpen) h
  | otpWrite => exact .step (fun _ _ _ => kept_cmdOtpWrite) h
  | lifecycleDone b => exact absurd rfl (other b)
  | tamperConfig => exact .step (fun _ _ _ => kept_cmdTamperConfig) h
  | tamperLogRead => exact .step (fun _ _ _ => kept_cmdTamperLogRead) h
  | tamperRelease => exact .step (fun _ _ _ => kept_cmdTamperRelease) h
  | tamperDetected => exact execTamperDetected_keeps h
  | tamperEraseDone => exact execTamperEraseDone_keeps h
  | keySlotOwnerSet => exact .step (fun _ _ _ => kept_cmdKeySlotOwnerSet) h
  | keyGenerate => exact .step (fun _ _ _ => kept_cmdKeyGenerate) h
  | keyDerive => exact .step (fun _ _ _ => kept_cmdKeyDerive) h
  | keyUnwrap => exact .step (fun _ _ _ => kept_cmdKeyUnwrap) h
  | keyImport => exact .step (fun _ _ _ => kept_cmdKeyImport) h
  | keyWrap => exact .step (fun _ _ _ => kept_cmdKeyWrap) h
  | keyDestroy => exact .step (fun _ _ _ => kept_cmdKeyDestroy) h
  | keyQuery => exact .step (fun _ _ _ => kept_cmdKeyQuery) h
  | keyCommitted => exact execKeyCommitted_keeps h
  | keyAreaEraseDone => exact execKeyAreaEraseDone_keeps h
  | trngHealthFail => exact execTrngHealthFail_keeps h
  | drbgReseed => exact execDrbgReseed_keeps h
  | counterHighMarkWrite => exact execCounterHighMarkWrite_keeps h
  | lockerUnseal => exact execLockerUnseal_keeps h
  | cipherRun => exact .step (fun _ _ _ => kept_cmdCipherRun) h
  | cipherOpEnd => exact execCipherOpEnd_keeps h
  | cipherCounterRead => exact .step (fun _ _ _ => kept_cmdCipherCounterRead) h
  | cipherQuery => exact .step (fun _ _ _ => kept_cmdCipherQuery) h
  | cipherHoldSet => exact .step (fun _ _ _ => kept_cmdCipherHoldSet) h
  | cvuConfig => exact .step (fun _ _ _ => kept_cmdCvuConfig) h
  | cvuRun => exact .step (fun _ _ _ => kept_cmdCvuRun) h
  | cvuStreamAttach => exact .step (fun _ _ _ => kept_cmdCvuStreamAttach) h
  | cvuQuery => exact .step (fun _ _ _ => kept_cmdCvuQuery) h
  | fairleadConfig => exact .step (fun _ _ _ => kept_cmdFairleadConfig) h
  | fairleadWindowSet => exact .step (fun _ _ _ => kept_cmdFairleadWindowSet) h
  | fairleadMove => exact .step (fun _ _ _ => kept_cmdFairleadMove) h
  | fairleadMoveEnd => exact execFairleadMoveEnd_keeps h
  | fairleadFenceClear => exact .step (fun _ _ _ => kept_cmdFairleadFenceClear) h
  | fairleadCfg => exact .step (fun _ _ _ => kept_cmdFairleadCfg) h
  | fairleadQuery => exact .step (fun _ _ _ => kept_cmdFairleadQuery) h
  | fairleadLinkState => exact execFairleadLinkState_keeps h
  | fairleadInboundRequest => exact execFairleadInboundRequest_keeps h
  | fairleadPostedError => exact execFairleadPostedError_keeps h
  | fairleadBackoff => exact execFairleadBackoff_keeps h
  | fairleadCompletionTimeout => exact execFairleadCompletionTimeout_keeps h
  | prefetchBufferExpiry => exact execPrefetchBufferExpiry_keeps h
  | cmdRingTailWrite => exact execCmdRingTailWrite_keeps h
  | cmdRingEnable => exact execCmdRingEnable_keeps h
  | cmdRingDisable => exact execCmdRingDisable_keeps h
  | cplRingEnable => exact execCplRingEnable_keeps h
  | evtRingEnable => exact execEvtRingEnable_keeps h
  | ringConfigWrite => exact execRingConfigWrite_keeps h
  | cplRingTailWrite => exact execCplRingTailWrite_keeps h
  | evtRingTailWrite => exact execEvtRingTailWrite_keeps h
  | ringAccessFaultClear => exact execRingAccessFaultClear_keeps h
  | evtRingDroppedRead => exact execEvtRingDroppedRead_keeps h
  | commandExecuteF => exact execCommandExecuteF_keeps h
  | intStatusClear => exact execIntStatusClear_keeps h
  | intMaskWrite => exact execIntMaskWrite_keeps h
  | coalesceTimer => exact execCoalesceTimer_keeps h
  | registerWrite => exact execRegisterWrite_keeps h
  | powerUp => exact execPowerUp_keeps h
  | resetNPulse => exact execResetNPulse_keeps h
  | startupBootRom => exact execStartupBootRom_keeps h
  | startupSelftest => exact execStartupSelftest_keeps h
  | commandListExecute => exact execCommandListExecute_keeps h
  | recoveryImageReceive => exact execRecoveryImageReceive_keeps h
  | recoveryBeacon => exact execRecoveryBeacon_keeps h
  | isolationCondition => exact execIsolationCondition_keeps h
  | vlogicResetRelease => exact execVlogicResetRelease_keeps h
  | overVoltageLogged => exact execOverVoltageLogged_keeps h
  | d6TimeStamp => exact execD6TimeStamp_keeps h
  | sensorSupplyRestart => exact execSensorSupplyRestart_keeps h
  | sensorSupplyOvervoltageRelease => exact execSensorSupplyOvervoltageRelease_keeps h
  | selectiveWakeDecoderFrame => exact execSelectiveWakeDecoderFrame_keeps h
  | delayedItemConforms => exact execDelayedItemConforms_keeps h

end Sys2Proof.Machine
end

section

open Sys2Proof.Machine

/-- Settles O3, from what every row keeps. -/
theorem commandsLeaveTheQueue : Obligations.CommandsLeaveTheQueue := by
  unfold Obligations.CommandsLeaveTheQueue
  intro i s t e
  by_cases life : ∃ b, i = .lifecycleDone b
  · obtain ⟨b, rfl⟩ := life
    obtain ⟨n, -, k⟩ := execLifecycleDone_keeps s b
    exact (k t e).queue
  · exact (exec_keeps (fun b eq => life ⟨b, eq⟩) (.refl s) t e).queue

/-- Settles O1: it is how a step is defined where a command waits. -/
theorem stepRunsTheFrontCommand : Obligations.StepRunsTheFrontCommand := by
  unfold Obligations.StepRunsTheFrontCommand
  intro c rest s front
  rw [step, front]

end

section
/-! SUPPORT. The statuses of R89 in their order: what the gate has left to judge once the first ones do not apply. -/

namespace Sys2Proof.Machine

open Sys2Proof.Safety

@[simp] theorem firstOf_cons_true {σ : Type} (st : σ) (l : List (Bool × σ)) : firstOf ((true, st) :: l) = some st := rfl

@[simp] theorem firstOf_cons_false {σ : Type} (st : σ) (l : List (Bool × σ)) : firstOf ((false, st) :: l) = firstOf l := rfl

variable {c : Command} {r : Request} {s : State}

/-- A command that a status refuses ends with it (R89). -/
theorem Command.exec_status_of_refusal {st : Status} (h : c.refusal r s = some st) : (c.exec r s).status = some st := by
  simp [Command.exec, h, Command.finish, Answer.no]

/-- A command that does not pass the gate ends with the gate's status. -/
theorem Command.exec_status_of_gate {st : Status} (h : c.gate r s = some st) : (c.exec r s).status = some st :=
  Command.exec_status_of_refusal (by rw [Command.refusal, h])

/-- Behind the gate the range is judged, then the command's own conditions in their order (log entry 4). -/
theorem Command.refusal_of_gate_none (h : c.gate r s = none) :
    c.refusal r s = firstOf ((!c.range r, .badParam) :: c.checks r s) := by
  rw [Command.refusal, h]

theorem Command.gate_of_malformed (h : c.wellFormed r = false) : c.gate r s = some .badParam := by
  simp [Command.gate, h]

theorem Command.gate_of_uncommitted (w : c.wellFormed r = true) (a : c.always = false)
    (f : (s.io.window r.issuer).committed = false) : c.gate r s = some .featuresNotCommitted := by
  simp [Command.gate, w, a, f]

theorem Command.gate_of_featureless {f : Feature} (w : c.wellFormed r = true) (k : (s.io.window r.issuer).committed = true)
    (needs : c.feature = some f) (lacks : s.has r.issuer f = false) : c.gate r s = some .badOpcode := by
  simp [Command.gate, w, k, needs, lacks]

/-- A well-formed command of an issuer that may use it, with the feature that it needs, goes on to its flags (R102). -/
theorem Command.gate_of_featured (w : c.wellFormed r = true)
    (mayUse : c.always = true ∨ (s.io.window r.issuer).committed = true)
    (has : ∀ f, c.feature = some f → s.has r.issuer f = true) :
    c.gate r s = firstOf [
      (r.deadlineValid && (s.io.window r.issuer).committed && !s.has r.issuer .cmdDeadline, .badParam),
      (r.suppressDone && (s.io.window r.issuer).committed && !s.has r.issuer .completionSuppress, .badParam),
      (c.featureBad r s, .badParam),
      (c.tamperRefused r s, .tamperHeld),
      (c.lifecycle r s, .notPermittedLifecycle),
      ((c.manager && decide (r.issuer ≠ 0)) || !c.owns r s, .notOwner),
      (r.deadlineValid && decide (r.deadline.toNat < s.now), .deadlinePassed),
      ((!c.fast && s.absent) || (c.hoveTo && s.cpu.masthead.hoveTo), .controllerAbsent),
      (c.furled r s, .unitFurled)] := by
  have notEarly : (!c.always && !(s.io.window r.issuer).committed) = false := by
    rcases mayUse with h | h <;> simp [h]
  rw [Command.gate, w, notEarly]
  split
  · rename_i f e
    rw [has f e]
    rfl
  · rfl

/-- A committed issuer without the feature of a flag, or of a parameter, has named a bad parameter (R79, R88, R102). -/
theorem Command.gate_of_badFlag (w : c.wellFormed r = true) (k : (s.io.window r.issuer).committed = true)
    (has : ∀ f, c.feature = some f → s.has r.issuer f = true)
    (bad : (r.deadlineValid = true ∧ s.has r.issuer .cmdDeadline = false) ∨
      (r.suppressDone = true ∧ s.has r.issuer .completionSuppress = false) ∨ c.featureBad r s = true) :
    c.gate r s = some .badParam := by
  rw [Command.gate_of_featured w (.inr k) has, k]
  rcases bad with ⟨valid, lacks⟩ | ⟨suppress, lacks⟩ | bad
  · simp [valid, lacks]
  · simp [firstOf, suppress, lacks]
  · simp [firstOf, bad]

/-- Behind the statuses of features and flags stand the other six of the gate. -/
theorem Command.gate_of_gated (g : Gated c r s) :
    c.gate r s = firstOf [
      (c.tamperRefused r s, .tamperHeld),
      (c.lifecycle r s, .notPermittedLifecycle),
      ((c.manager && decide (r.issuer ≠ 0)) || !c.owns r s, .notOwner),
      (r.deadlineValid && decide (r.deadline.toNat < s.now), .deadlinePassed),
      ((!c.fast && s.absent) || (c.hoveTo && s.cpu.masthead.hoveTo), .controllerAbsent),
      (c.furled r s, .unitFurled)] := by
  obtain ⟨formed, committed, has, deadline, suppress, notBad⟩ := g
  have deadlineOk : (r.deadlineValid && (s.io.window r.issuer).committed && !s.has r.issuer .cmdDeadline) = false := by
    grind
  have suppressOk : (r.suppressDone && (s.io.window r.issuer).committed && !s.has r.issuer .completionSuppress) = false := by
    grind
  rw [Command.gate_of_featured formed committed has, deadlineOk, suppressOk, notBad]
  rfl

/-- Behind those of tamper, life cycle and owner stand the last three. -/
theorem Command.gate_of_allowed (g : Gated c r s) (a : Allowed c r s) :
    c.gate r s = firstOf [
      (r.deadlineValid && decide (r.deadline.toNat < s.now), .deadlinePassed),
      ((!c.fast && s.absent) || (c.hoveTo && s.cpu.masthead.hoveTo), .controllerAbsent),
      (c.furled r s, .unitFurled)] := by
  obtain ⟨free, state, manager, owner⟩ := a
  have owned : ((c.manager && decide (r.issuer ≠ 0)) || !c.owns r s) = false := by
    rcases manager with h | h <;> simp [h, owner]
  rw [Command.gate_of_gated g, free, state, owned]
  rfl

/-- A command whose deadline has not passed goes on to the last two. -/
theorem Command.gate_of_inTime (g : Gated c r s) (a : Allowed c r s) (inTime : r.deadlineValid = true → s.now ≤ r.deadline.toNat) :
    c.gate r s = firstOf [
      ((!c.fast && s.absent) || (c.hoveTo && s.cpu.masthead.hoveTo), .controllerAbsent),
      (c.furled r s, .unitFurled)] := by
  have notPassed : (r.deadlineValid && decide (r.deadline.toNat < s.now)) = false := by grind
  rw [Command.gate_of_allowed g a, notPassed]
  rfl

/-- A command that carries out what Masthead does, or that Hove-to refuses, ends so while Masthead is absent (R103, R470). -/
theorem Command.mastheadNeeded_iff : ((!c.fast && s.absent) || (c.hoveTo && s.cpu.masthead.hoveTo)) = true ↔
    (c.fast = false ∧ s.absent = true) ∨ (c.hoveTo = true ∧ s.cpu.masthead.hoveTo = true) := by
  simp

end Sys2Proof.Machine

end

section

open Sys2Proof.Machine Sys2Proof.Safety

/-- Settles O9, from how a completion is posted and the gate's judgement of SUPPRESS_DONE. -/
theorem completionsAreSuppressed : Obligations.CompletionsAreSuppressed := by
  unfold Obligations.CompletionsAreSuppressed
  refine ⟨?suppressed, ?posted, ?withoutFeature⟩
  case suppressed =>
    intro r opcode results s suppress
    exact if_pos ⟨suppress, rfl⟩
  case posted =>
    intro r opcode results st s asked
    refine if_neg ?_
    rintro ⟨suppress, done⟩
    rcases asked with h | h
    · exact absurd suppress (by simp [h])
    · exact h done
  case withoutFeature =>
    intro c r s formed committed has _ suppress lacks
    exact Command.exec_status_of_gate (Command.gate_of_badFlag formed committed has (.inr (.inl ⟨suppress, lacks⟩)))

/-- Settles O10, from what the gate has left to judge at each place of R89. That the range of the parameters comes before a
command's own conditions is the model's choice (log entry 4). -/
theorem statusesComeInOrder : Obligations.StatusesComeInOrder := by
  unfold Obligations.StatusesComeInOrder
  refine ⟨?opcode, ?formed, ?committed, ?feature, ?flags, ?tamper, ?lifecycle, ?owner, ?deadline, ?controller, ?furled, ?range,
    ?own⟩
  case opcode =>
    intro x s undefined
    simp [State.perform, undefined]
  case formed =>
    intro c r s h
    exact Command.exec_status_of_gate (Command.gate_of_malformed h)
  case committed =>
    intro c r s w a f
    exact Command.exec_status_of_gate (Command.gate_of_uncommitted w a f)
  case feature =>
    intro c f r s w k needs lacks
    exact Command.exec_status_of_gate (Command.gate_of_featureless w k needs lacks)
  case flags =>
    intro c r s w k has bad
    exact Command.exec_status_of_gate (Command.gate_of_badFlag w k has bad)
  case tamper =>
    intro c r s g held
    exact Command.exec_status_of_gate (by rw [Command.gate_of_gated g, held]; rfl)
  case lifecycle =>
    intro c r s g free state
    exact Command.exec_status_of_gate (by rw [Command.gate_of_gated g, free, state]; rfl)
  case owner =>
    intro c r s g free state other
    have h : ((c.manager && decide (r.issuer ≠ 0)) || !c.owns r s) = true := by simpa using other
    exact Command.exec_status_of_gate (by rw [Command.gate_of_gated g, free, state, h]; rfl)
  case deadline =>
    intro c r s g a valid passed
    exact Command.exec_status_of_gate (by rw [Command.gate_of_allowed g a, valid, decide_eq_true passed]; rfl)
  case controller =>
    intro c r s g a inTime absent
    exact Command.exec_status_of_gate (by
      rw [Command.gate_of_inTime g a inTime, Command.mastheadNeeded_iff.mpr absent]; rfl)
  case furled =>
    intro c r s g a inTime present notHove furled
    have h : ((!c.fast && s.absent) || (c.hoveTo && s.cpu.masthead.hoveTo)) = false := by
      rcases present with p | p <;> rcases notHove with n | n <;> simp [p, n]
    exact Command.exec_status_of_gate (by rw [Command.gate_of_inTime g a inTime, h, furled]; rfl)
  case range =>
    intro c r s passed outside
    exact Command.exec_status_of_refusal (by rw [Command.refusal_of_gate_none passed, outside]; rfl)
  case own =>
    intro c r st s passed inside first
    exact Command.exec_status_of_refusal (by rw [Command.refusal_of_gate_none passed, inside]; exact first)

/-- Settles O11, from what a refused command's step answers. That a command without a window in service has no effect is the
model's choice (log entry 3). -/
theorem refusedCommandOnlyCompletes : Obligations.RefusedCommandOnlyCompletes := by
  unfold Obligations.RefusedCommandOnlyCompletes
  refine ⟨?tokenless, ?token, ?off⟩
  case tokenless =>
    intro c r st s on refused spends
    exact Command.step_refused on refused spends
  case token =>
    rintro c r st s on refused spends manager _ rfl
    rw [Command.step_refused_spent on refused, Command.spent, spends, manager]
    rfl
  case off =>
    intro c r s off
    exact Command.step_off off

end

section
/-! SUPPORT. Rings (R58-R70): what a write to a ring's register leaves, and when nothing can be read or executed. -/

namespace Sys2Proof.Machine

@[simp] theorem Io.mapWindow_window_self (io : Io) (p : Nat) (f : Window → Window) :
    (io.mapWindow p f).window p = f (io.window p) := Table.get_put_self ..

@[simp] theorem Window.setRing_ring_self (w : Window) (x : Ring) (n : RingName) : (w.setRing x n).ring n = x := by
  cases n with
  | cmd k => exact Table.get_put_self ..
  | cpl => rfl
  | evt => rfl

@[simp] theorem Window.setRing_intake (w : Window) (x : Ring) (n : RingName) : (w.setRing x n).intake = w.intake := by
  cases n <;> rfl

@[simp] theorem State.mapRing_ring_self (s : State) (p : Nat) (n : RingName) (f : Ring → Ring) :
    ((s.mapRing p n f).io.window p).ring n = f ((s.io.window p).ring n) := by
  simp [State.mapRing]

/-- Every partition has command ring 0 (R58). -/
@[simp] theorem State.hasRing_cmd_zero (s : State) (p : Nat) : s.hasRing p (.cmd 0) = true := rfl

/-- A guest has no other command ring (R58). -/
theorem State.hasRing_guest (s : State) {p n : Nat} (guest : p ≠ 0) (other : n ≠ 0) : s.hasRing p (.cmd n) = false := by
  simp [State.hasRing, guest, other]

/-- A write to CTRL that leaves SIZE_LOG2 as it is changes VECTOR and ENABLE only (R62). -/
theorem Ring.writeCtrl_sameSize {x : Ring} {n : RingName} {v : Nat} (h : x.sizeLog2 = bitsOf v 3 0) :
    x.writeCtrl n v = { x with vector := (match n with | .cmd _ => 0 | _ => bitsOf v 12 8), enable := bitOf v 31 } := by
  cases n <;> simp [Ring.writeCtrl, h]

/-- A write to BASE_LO of a ring that is off (R59, R62). -/
theorem Ring.writeBase_low {x : Ring} {v : Nat} (off : x.enable = false) : x.writeBase false v =
    { x with base := x.base / 2 ^ 32 * 2 ^ 32 + bitsOf v 31 12 * 4096, head := 0, tail := 0, phase := true } := by
  simp [Ring.writeBase, Ring.restart, off]

/-- A write to BASE_HI of a ring that is off (R60, R62). -/
theorem Ring.writeBase_high {x : Ring} {v : Nat} (off : x.enable = false) : x.writeBase true v =
    { x with base := bitsOf v 15 0 * 2 ^ 32 + x.base % 2 ^ 32, head := 0, tail := 0, phase := true } := by
  simp [Ring.writeBase, Ring.restart, off]

/-- The producer's index goes on by one, modulo the ring's size, and the phase turns where it wraps (R70). -/
theorem Ring.advance_eq {x : Ring} (h : x.head < x.size) :
    x.advance = { x with head := (x.head + 1) % x.size, phase := if x.head + 1 = x.size then !x.phase else x.phase } := by
  by_cases wraps : x.head + 1 = x.size
  · simp [Ring.advance, wraps]
  · have inside : x.head + 1 < x.size := by omega
    simp [Ring.advance, wraps, Nat.mod_eq_of_lt inside]

/-- A bit of the number that a register holds is the bit of the register. -/
theorem bitOf_word_toNat {w : Nat} (v : BitVec w) (i : Nat) : bitOf v.toNat i = v.getLsbD i := by
  rw [bitOf, BitVec.getLsbD, Nat.testBit_eq_decide_div_mod_eq]

theorem bitOf_set_enable (v : Word) : bitOf (v ||| 0x80000000#32).toNat 31 = true := by
  rw [bitOf_word_toNat]
  simp

theorem bitOf_clear_enable (v : Word) : bitOf (v &&& 0x7FFFFFFF#32).toNat 31 = false := by
  rw [bitOf_word_toNat]
  simp

/-- SIZE_LOG2 lies below ENABLE in CTRL (R61). -/
theorem sizeLog2_set_enable (v : Word) : bitsOf (v ||| 0x80000000#32).toNat 3 0 = bitsOf v.toNat 3 0 := by
  simp only [bitsOf, BitVec.toNat_or, Nat.pow_zero, Nat.div_one, Nat.or_mod_two_pow]
  simp

end Sys2Proof.Machine

end

section
/-! SUPPORT. When a partition's rings hold nothing to read and nothing to execute (R65, R67). -/

namespace Sys2Proof.Machine

variable {α : Type}

theorem Table.mem_erase {t : Table α} {i : Nat} {x : Nat × α} (h : x ∈ Table.erase i t) : x ∈ t := by
  induction t with
  | nil => exact h
  | cons y t ih =>
    rw [Table.erase] at h
    split at h
    · exact List.mem_cons_of_mem _ (ih h)
    · rcases List.mem_cons.mp h with rfl | h
      · exact List.mem_cons_self
      · exact List.mem_cons_of_mem _ (ih h)

theorem Table.mem_insertSorted {t : Table α} {i : Nat} {v : α} {x : Nat × α} (h : x ∈ Table.insertSorted i v t) :
    x = (i, v) ∨ x ∈ t := by
  induction t with
  | nil => exact .inl (List.mem_singleton.mp h)
  | cons y t ih =>
    rw [Table.insertSorted] at h
    split at h
    · exact List.mem_cons.mp h
    · rcases List.mem_cons.mp h with rfl | h
      · exact .inr List.mem_cons_self
      · exact (ih h).imp_right (List.mem_cons_of_mem _)

/-- An entry of a table after a write is the one written or one that was there. -/
theorem Table.mem_put [DecidableEq α] {d : α} {t : Table α} {i : Nat} {v : α} {x : Nat × α} (h : x ∈ Table.put d t i v) :
    x = (i, v) ∨ x ∈ t := by
  rw [Table.put] at h
  split at h
  · exact .inr (Table.mem_erase h)
  · exact (Table.mem_insertSorted h).imp_right Table.mem_erase

/-- What a table holds at a key is its default or one of its entries. -/
theorem Table.get_eq_or_mem (d : α) (t : Table α) (i : Nat) : Table.get d t i = d ∨ ∃ x ∈ t, x.2 = Table.get d t i := by
  induction t with
  | nil => exact .inl rfl
  | cons y t ih =>
    rw [Table.get]
    split
    · exact .inr ⟨y, List.mem_cons_self, rfl⟩
    · exact ih.imp_right fun ⟨x, m, e⟩ => ⟨x, List.mem_cons_of_mem _ m, e⟩

theorem State.each_fixed {s : State} {f : State → α → State} (l : List α) (h : ∀ x ∈ l, f s x = s) : s.each l f = s := by
  induction l with
  | nil => rfl
  | cons x l ih =>
    rw [State.each, List.foldl_cons, h x List.mem_cons_self]
    exact ih fun y m => h y (List.mem_cons_of_mem _ m)

variable {s : State}

theorem State.readEntries_of_not_reads {p n : Nat} (fuel : Nat) (h : s.reads p n = false) : State.readEntries p n fuel s = s := by
  cases fuel with
  | zero => rfl
  | succ fuel => simp [State.readEntries, h]

theorem State.readRings_of_not_reads {p : Nat} (h : ∀ n, s.reads p n = false) : s.readRings p = s :=
  State.each_fixed _ fun n _ => State.readEntries_of_not_reads _ (h n)

/-- A guest whose ring is off has no entry read (R58, R65). -/
theorem State.reads_guest_off {p : Nat} (guest : p ≠ 0) (off : ((s.io.window p).ring (.cmd 0)).enable = false) (n : Nat) :
    s.reads p n = false := by
  by_cases zero : n = 0
  · simp [State.reads, zero, off]
  · simp [State.reads, State.hasRing_guest s guest zero]

/-- With no command in any intake nothing is executed. -/
theorem State.drainAll_of_idle (idle : ∀ w ∈ s.io.windows, w.2.intake = []) : s.drainAll = s := by
  have none : s.waitingRings = [] := by
    rw [State.waitingRings, List.flatMap_eq_nil_iff]
    intro w m
    rw [idle w m]
    rfl
  rw [State.drainAll, none]
  split <;> rfl

theorem State.idle_window (idle : ∀ w ∈ s.io.windows, w.2.intake = []) (p : Nat) : (s.io.window p).intake = [] := by
  rcases Table.get_eq_or_mem {} s.io.windows p with h | ⟨x, m, e⟩
  · rw [Io.window, h]
  · rw [Io.window, ← e]
    exact idle x m

/-- A change of a ring's registers puts no command in an intake. -/
theorem State.idle_mapRing {p : Nat} {n : RingName} {f : Ring → Ring} (idle : ∀ w ∈ s.io.windows, w.2.intake = []) :
    ∀ w ∈ (s.mapRing p n f).io.windows, w.2.intake = [] := by
  intro w m
  rcases Table.mem_put m with rfl | m
  · exact (Window.setRing_intake ..).trans (State.idle_window idle p)
  · exact idle w m

end Sys2Proof.Machine

end

section
/-! SUPPORT. The rows of the rings' registers where the window is in service (R57, R63-R67). -/

namespace Sys2Proof.Machine

variable {s : State} {p n : Nat} {v : Word}

theorem exec_cmdRingTailWrite (on : s.windowOn p = true) (has : s.hasRing p (.cmd n) = true) :
    exec (.cmdRingTailWrite p n v) s = .next ((s.mapRing p (.cmd n) fun x => x.writeTail v.toNat).serveRings p) := by
  show execCmdRingTailWrite p n v s = _
  simp only [execCmdRingTailWrite, State.writeCmdTail, on, has, if_true]

theorem exec_cmdRingEnable (on : s.windowOn p = true) (has : s.hasRing p (.cmd n) = true) :
    exec (.cmdRingEnable p n v) s =
      .next ((s.mapRing p (.cmd n) fun x => x.writeCtrl (.cmd n) (v ||| 0x80000000#32).toNat).serveRings p) := by
  show execCmdRingEnable p n v s = _
  simp only [execCmdRingEnable, State.writeCmdControl, on, has, if_true]

theorem exec_cmdRingDisable (on : s.windowOn p = true) (has : s.hasRing p (.cmd n) = true) :
    exec (.cmdRingDisable p n v) s =
      .next ((s.mapRing p (.cmd n) fun x => x.writeCtrl (.cmd n) (v &&& 0x7FFFFFFF#32).toNat).serveRings p) := by
  show execCmdRingDisable p n v s = _
  simp only [execCmdRingDisable, State.writeCmdControl, on, has, if_true]

/-- A TAIL below the ring's size is taken (R63). -/
theorem State.mapRing_writeTail_inside {m : RingName} {i : Nat} (inside : i < ((s.io.window p).ring m).size) :
    (s.mapRing p m fun x => x.writeTail i) = s.mapRing p m fun x => { x with tail := i } :=
  State.mapRing_congr (if_pos inside)

/-- Another TAIL is left, and DOORBELL_ERR set (R63). -/
theorem State.mapRing_writeTail_outside {m : RingName} {i : Nat} (outside : ((s.io.window p).ring m).size ≤ i) :
    (s.mapRing p m fun x => x.writeTail i) = s.mapRing p m fun x => { x with doorbellErr := true } :=
  State.mapRing_congr (if_neg (Nat.not_lt.mpr outside))

theorem State.mapRing_cmd_disable (enabled : ((s.io.window p).ring (.cmd n)).enable = true) :
    (s.mapRing p (.cmd n) fun x => x.writeCtrl (.cmd n) (v &&& 0x7FFFFFFF#32).toNat) =
      s.mapRing p (.cmd n) fun x => { x with vector := 0, enable := false } :=
  State.mapRing_congr (by simp only [Ring.writeCtrl_enabled enabled, bitOf_clear_enable])

theorem State.mapRing_cmd_enable (same : ((s.io.window p).ring (.cmd n)).sizeLog2 = bitsOf v.toNat 3 0) :
    (s.mapRing p (.cmd n) fun x => x.writeCtrl (.cmd n) (v ||| 0x80000000#32).toNat) =
      s.mapRing p (.cmd n) fun x => { x with vector := 0, enable := true } := by
  rw [← sizeLog2_set_enable] at same
  exact State.mapRing_congr (by simp only [Ring.writeCtrl_sameSize same, bitOf_set_enable])

/-- A write to BASE_LO of the completion ring while it is off (R59). -/
theorem exec_ringConfigWrite_cplBase (on : s.windowOn p = true) (off : (s.io.window p).cpl.enable = false) :
    exec (.ringConfigWrite p 0x80 v) s = .next (s.mapRing p .cpl fun x => x.writeBase false v.toNat) := by
  show execRingConfigWrite p 0x80 v s = _
  simp [execRingConfigWrite, ringAt, State.hasRing, Window.ring, on, off]

/-- A write to BASE_HI of the event ring while it is off (R60). -/
theorem exec_ringConfigWrite_evtBase (on : s.windowOn p = true) (off : (s.io.window p).evt.enable = false) :
    exec (.ringConfigWrite p 0xA4 v) s = .next (s.mapRing p .evt fun x => x.writeBase true v.toNat) := by
  show execRingConfigWrite p 0xA4 v s = _
  simp [execRingConfigWrite, ringAt, State.hasRing, Window.ring, on, off]

/-- A ring that is on keeps its configuration (R62). -/
theorem exec_ringConfigWrite_on {a : Nat} (enabled : ((s.io.window p).ring (ringAt a)).enable = true) :
    exec (.ringConfigWrite p a v) s = .next s := by
  show execRingConfigWrite p a v s = _
  simp [execRingConfigWrite, enabled]

theorem exec_ringAccessFaultClear {a : Nat} (on : s.windowOn p = true) (block : a < 0xC0) :
    exec (.ringAccessFaultClear p a) s = .next (s.clearRingFault p (ringAt a)) := by
  show execRingAccessFaultClear p a s = _
  simp [execRingAccessFaultClear, on, block]

theorem State.clearRingFault_cmd (fault : ((s.io.window p).ring (.cmd 0)).fault = true) :
    s.clearRingFault p (.cmd 0) = (s.mapRing p (.cmd 0) fun x => { x with fault := false }).serveRings p := by
  simp [State.clearRingFault, fault]

theorem State.clearRingFault_cpl (fault : (s.io.window p).cpl.fault = true) :
    s.clearRingFault p .cpl = (s.mapRing p .cpl fun x => { x with fault := false }).completionSpace p := by
  simp [State.clearRingFault, State.hasRing, Window.ring, fault]

theorem State.clearRingFault_evt (fault : (s.io.window p).evt.fault = true) :
    s.clearRingFault p .evt = (s.mapRing p .evt fun x => { x with fault := false }).eventSpace p := by
  simp [State.clearRingFault, State.hasRing, Window.ring, fault]

end Sys2Proof.Machine

end

section

open Sys2Proof.Machine

/-- Settles O14, from where the producer of a ring goes on and what a write of a record without a fault leaves. -/
theorem entriesCarryThePhase : Obligations.EntriesCarryThePhase := by
  unfold Obligations.EntriesCarryThePhase
  refine ⟨rfl, ?turns, ?event, ?completion⟩
  case turns =>
    intro x h
    rw [Ring.advance_eq h]
    exact ⟨rfl, rfl, rfl⟩
  case event =>
    intro io io1 p record ts written
    simp only [Io.writeEvent, written]
  case completion =>
    intro io io1 io2 p record ts ts2 written counted
    simp only [Io.writeCompletion, written, counted]

/-- Settles O16, from what a write to TAIL and to CTRL leaves in the ring, and that a ring which is off has nothing read. -/
theorem commandRingsComplete : Obligations.CommandRingsComplete := by
  unfold Obligations.CommandRingsComplete
  refine ⟨?inside, ?outside, ?disable, ?enable, ?off⟩
  case inside =>
    intro p n v s on has inside
    rw [exec_cmdRingTailWrite on has, State.mapRing_writeTail_inside inside]
  case outside =>
    intro p n v s on has outside
    rw [exec_cmdRingTailWrite on has, State.mapRing_writeTail_outside outside]
  case disable =>
    intro p n v s on has enabled
    rw [exec_cmdRingDisable on has, State.mapRing_cmd_disable enabled]
  case enable =>
    intro p n v s on has _ same
    rw [exec_cmdRingEnable on has, State.mapRing_cmd_enable same]
  case off =>
    intro p v s on guest off idle inside
    rw [exec_cmdRingTailWrite on (State.hasRing_cmd_zero s p), State.mapRing_writeTail_inside inside,
      State.serveRings, State.readRings_of_not_reads (State.reads_guest_off guest (by simpa using off)),
      State.drainAll_of_idle (State.idle_mapRing idle)]

end

section

open Sys2Proof.Machine

/-- Settles O18, from what a write to BASE leaves in a ring that is off and what clearing ACCESS_FAULT lets go on. -/
theorem ringConfigurationCompletes : Obligations.RingConfigurationCompletes := by
  unfold Obligations.RingConfigurationCompletes
  refine ⟨?low, ?high, ?on, ?command, ?completion, ?event⟩
  case low =>
    intro p v s on off
    rw [exec_ringConfigWrite_cplBase on off]
    exact congrArg _ (State.mapRing_congr (Ring.writeBase_low off))
  case high =>
    intro p v s on off
    rw [exec_ringConfigWrite_evtBase on off]
    exact congrArg _ (State.mapRing_congr (Ring.writeBase_high off))
  case on =>
    intro p v s _ enabled
    exact exec_ringConfigWrite_on enabled
  case command =>
    intro p s on fault
    exact (exec_ringAccessFaultClear on (by decide)).trans (congrArg _ (State.clearRingFault_cmd fault))
  case completion =>
    intro p s on fault
    exact (exec_ringAccessFaultClear on (by decide)).trans (congrArg _ (State.clearRingFault_cpl fault))
  case event =>
    intro p s on fault
    exact (exec_ringAccessFaultClear on (by decide)).trans (congrArg _ (State.clearRingFault_evt fault))

end

section
/-! SUPPORT. A write to a register of a window by its address (R6, R57): which of its parts takes it, or that none does. -/

namespace Sys2Proof.Machine

variable {s : State} {p a : Nat} {v : Word}

/-- A write with nothing to uncover sends no message (R97). -/
theorem sendUncovered_none (p : Nat) (l : List Nat) (io : Io) : sendUncovered p 0#32 l io = io := by
  induction l with
  | nil => rfl
  | cons x l ih => simpa [sendUncovered] using ih

theorem State.writeMask_covered (covered : (s.io.window p).intStatus &&& (s.io.window p).intMask &&& ~~~v = 0#32) :
    s.writeMask p v = s.mapWindow p fun w => { w with intMask := v } := by
  rw [State.writeMask, covered, sendUncovered_none]
  rfl

theorem exec_registerWrite (on : s.windowOn p = true) (whole : a % 4 = 0) :
    exec (.registerWrite p a v) s = .next (s.writeRegister p a v.toNat) := by
  show execRegisterWrite p a v s = _
  simp [execRegisterWrite, aligned, on, whole]

/-- A write that the registers ignore, whether or not the window is in service. -/
theorem exec_registerWrite_ignored (same : s.writeRegister p a v.toNat = s) : exec (.registerWrite p a v) s = .next s := by
  show execRegisterWrite p a v s = _
  rw [execRegisterWrite, same, ite_self]

/-- An access that is not aligned is ignored (R6). -/
theorem exec_registerWrite_unaligned (split : a % 4 ≠ 0) : exec (.registerWrite p a v) s = .next s := by
  show execRegisterWrite p a v s = _
  simp [execRegisterWrite, aligned, split]

/-- CPL_RING_COALESCE takes TIME_US and COUNT with its feature (R72, R102). -/
theorem State.writeRegister_coalesce (s : State) (p v : Nat) :
    s.writeRegister p 0x98 v = if s.has p .completionCoalesce then
      s.mapWindow p fun w => { w with coalesceUs := bitsOf v 31 16, coalesceCount := bitsOf v 7 0 } else s := by
  simp [State.writeRegister, State.writeRing, ringAt, State.hasRing]

/-- VEC_DATA of a vector (R95). -/
theorem State.writeRegister_vecData (s : State) (p v : Nat) {k : Nat} (vector : k < 32) :
    s.writeRegister p (0x208 + 16 * k) v =
      s.mapWindow p fun w => { w with vectors := Table.modify {} w.vectors k fun x => { x with data := v } } := by
  have table : 0x200 ≤ 0x208 + 16 * k ∧ 0x208 + 16 * k < 0x400 := by omega
  have offset : 0x208 + 16 * k - 0x200 = 8 + 16 * k := by omega
  have field : (8 + 16 * k) % 16 = 8 := by omega
  have entry : (8 + 16 * k) / 16 = k := by omega
  rw [State.writeRegister, if_neg (by omega), if_neg (by omega), if_neg (by omega), if_pos table, offset]
  simp only [State.writeVector, field, entry]

/-- The lower half of FEAT_ACCEPT0 (R98). -/
theorem State.writeRegister_accept (s : State) (p v : Nat) : s.writeRegister p 0x420 v = s.writeAccept p 0 v := rfl

theorem State.writeAccept_committed (committed : (s.io.window p).committed = true) (offset v : Nat) :
    s.writeAccept p offset v = s := if_pos committed

theorem State.writeAccept_low (notYet : (s.io.window p).committed = false) (v : Word) : s.writeAccept p 0 v.toNat =
    s.mapWindow p fun w => { w with accept := Table.modify 0 w.accept 0 fun a => a / 2 ^ 32 * 2 ^ 32 + v.toNat } := by
  simp [State.writeAccept, notYet, withHalf, Nat.mod_eq_of_lt v.isLt]

/-- SWITCH_AUDIT_CTRL stands in P0's window alone (R264). -/
theorem State.writeRegister_audit (s : State) (v : Nat) : s.writeRegister 0 0x30020 v = s.writeAudit v := rfl

/-- While a sweep runs, ENABLE may only be set (R264). -/
theorem State.writeAudit_sweeping {v : Nat} (sweeping : s.sw.sweeping = true) (period : 100 ≤ bitsOf v 15 0) :
    s.writeAudit v =
      s.mapSwitch fun w => { w with auditEnable := bitOf v 31 || w.auditEnable, auditPeriod := bitsOf v 15 0 } := by
  simp [State.writeAudit, State.mapSwitch, sweeping, Nat.not_lt.mpr period]

/-- Between the ring registers and INT_STATUS no register stands (R57). -/
theorem State.writeRegister_reserved (s : State) (p v : Nat) (above : 0xC0 ≤ a) (below : a < 0x100) :
    s.writeRegister p a v = s := by
  rw [State.writeRegister, if_neg (by omega), if_neg (by omega), if_neg (by omega), if_neg (by omega), if_neg (by omega),
    if_neg (by omega), if_neg (by omega), if_neg (by omega)]

end Sys2Proof.Machine

end

section
/-! SUPPORT. The first field of a record reads back (R8). -/

namespace Sys2Proof.Machine

theorem pack_dvd {n : Nat} (l : List (Nat × Nat × Nat)) (h : ∀ f ∈ l, n ≤ f.1) : 256 ^ n ∣ pack l := by
  induction l with
  | nil => exact Nat.dvd_zero _
  | cons f l ih =>
    refine Nat.dvd_add ?_ (ih fun g m => h g (List.mem_cons_of_mem _ m))
    exact Nat.dvd_mul_left_of_dvd (Nat.pow_dvd_pow _ (h f List.mem_cons_self)) _

/-- Fields behind the first leave it as it is. -/
theorem byteField_pack_first {n v : Nat} {l : List (Nat × Nat × Nat)} (h : ∀ f ∈ l, n ≤ f.1) :
    byteField (pack ((0, n, v) :: l)) 0 n = v % 256 ^ n := by
  obtain ⟨k, e⟩ := pack_dvd l h
  simp [byteField, pack, e]

end Sys2Proof.Machine

end

section

open Sys2Proof.Machine Sys2Proof.Safety

/-- Settles O19, from which part of the window takes the write at each address and what it does with it. -/
theorem windowRegistersComplete : Obligations.WindowRegistersComplete := by
  unfold Obligations.WindowRegistersComplete
  refine ⟨?status, ?mask, ?coalesce, ?noCoalesce, ?vector, ?accept, ?accepted, ?audit, ?reserved, ?unaligned⟩
  case status =>
    intro p v s on
    exact if_pos on
  case mask =>
    intro p v s on covered
    rw [← State.writeMask_covered covered]
    exact if_pos on
  case coalesce =>
    intro p v s on has
    rw [exec_registerWrite on rfl, State.writeRegister_coalesce, if_pos has]
  case noCoalesce =>
    intro p v s lacks
    exact exec_registerWrite_ignored (by rw [State.writeRegister_coalesce, lacks]; rfl)
  case vector =>
    intro p k v s on vector
    rw [exec_registerWrite on (by omega), State.writeRegister_vecData s p _ vector]
  case accept =>
    intro p v s on notYet
    rw [exec_registerWrite on rfl, State.writeRegister_accept, State.writeAccept_low notYet]
  case accepted =>
    intro p v s committed
    exact exec_registerWrite_ignored (State.writeAccept_committed committed 0 _)
  case audit =>
    intro v s on sweeping period
    rw [exec_registerWrite on rfl, State.writeRegister_audit, State.writeAudit_sweeping sweeping period]
  case reserved =>
    intro p a v s above below
    exact exec_registerWrite_ignored (State.writeRegister_reserved s p _ above below)
  case unaligned =>
    intro p a v s split
    exact exec_registerWrite_unaligned split

/-- Settles O21, from the answer of each of the three commands where it is clear to execute. -/
theorem deviceCommandsComplete : Obligations.DeviceCommandsComplete := by
  unfold Obligations.DeviceCommandsComplete
  refine ⟨?nop, ?commit, ?identify⟩
  case nop =>
    intro r s clear
    exact Command.step_done clear rfl
  case commit =>
    intro r s clear
    exact Command.step_done clear rfl
  case identify =>
    intro r s clear
    exact .of_exec (Command.step_done clear rfl) ⟨_, rfl, byteField_pack_first (by simp)⟩

end

section
/-! SUPPORT. Memory in a row and in a step: each keeps its canonical form. -/

namespace Sys2Proof.Machine

variable {s t : State}

/-- No row breaks the form of memory; the end of a life-cycle change sets the life cycle, which is no part of memory. -/
theorem exec_memory {i : Instr} (e : exec i s = .next t) (form : s.io.Wf) : t.io.Wf := by
  by_cases life : ∃ b, i = .lifecycleDone b
  · obtain ⟨b, rfl⟩ := life
    obtain ⟨n, -, keeps⟩ := execLifecycleDone_keeps s b
    exact (keeps t e).memory form
  · exact (exec_keeps (fun b eq => life ⟨b, eq⟩) (.refl s) t e).memory form

/-- A step is a row on the rest of the queue, or a cycle of the clock (log entry 2). -/
theorem step_memory (e : step s = .next t) (form : s.io.Wf) : t.io.Wf := by
  unfold step at e
  split at e
  case h_1 =>
    cases e
    exact (State.kept_idle (.refl s)).memory form
  case h_2 c rest _ => exact exec_memory (s := { s with pending := rest }) e form

end Sys2Proof.Machine

end

section

/-- Settles O4, from what every row and the idle clock keep of memory. -/
theorem memoryKeepsItsForm : Obligations.MemoryKeepsItsForm := by
  unfold Obligations.MemoryKeepsItsForm
  intro s t form e
  exact Sys2Proof.Machine.step_memory e form

end

section
/-! SUPPORT. A partition's row and window after a change of either (R106), and what belongs to a partition (R107): an owner other
than P0 stands in the table of owners. -/

namespace Sys2Proof.Machine

variable {s : State} {p : Nat}

@[simp] theorem State.mapPart_part_self (s : State) (p : Nat) (f : Part → Part) : (s.mapPart p f).io.part p = f (s.io.part p) :=
  Table.get_modify_self ..

@[simp] theorem State.mapPart_window (s : State) (p q : Nat) (f : Part → Part) :
    (s.mapPart p f).io.window q = s.io.window q := rfl

@[simp] theorem State.mapPart_ownedBy (s : State) (p q kind : Nat) (f : Part → Part) :
    (s.mapPart p f).ownedBy q kind = s.ownedBy q kind := rfl

@[simp] theorem State.mapPart_flowsOwned (s : State) (p q : Nat) (f : Part → Part) :
    (s.mapPart p f).flowsOwned q = s.flowsOwned q := rfl

@[simp] theorem Io.setWindow_window_self (io : Io) (p : Nat) (w : Window) : (io.setWindow p w).window p = w :=
  Table.get_put_self ..

@[simp] theorem State.each_nil {α : Type} (s : State) (f : State → α → State) : s.each [] f = s := rfl

/-- What a table holds at a key, if it is not the default, is the entry of that key. -/
theorem Table.mem_of_get_ne {α : Type} {d : α} {t : Table α} {i : Nat} (h : Table.get d t i ≠ d) : (i, Table.get d t i) ∈ t := by
  induction t with
  | nil => exact absurd rfl h
  | cons x t ih =>
    obtain ⟨k, v⟩ := x
    by_cases here : i = k
    · subst here
      simp [Table.get]
    · simp only [Table.get, if_neg here] at h ⊢
      exact List.mem_cons_of_mem _ (ih h)

/-- An object that a guest owns is among the guest's objects. -/
theorem State.mem_ownedBy {kind n : Nat} (guest : p ≠ 0) (numbered : n < 65536) (owns : s.owner kind n = p) :
    n ∈ s.ownedBy p kind := by
  have entry : (kind * 65536 + n, p) ∈ s.owners := by
    have found := Table.mem_of_get_ne (d := 0) (t := s.owners) (i := kind * 65536 + n) (fun zero => guest (owns.symm.trans zero))
    rwa [show Table.get 0 s.owners (kind * 65536 + n) = p from owns] at found
  refine List.mem_map.mpr ⟨_, List.mem_filter.mpr ⟨entry, ?_⟩, ?_⟩
  · have kindOf : (kind * 65536 + n) / 65536 = kind := by omega
    simp [kindOf]
  · show (kind * 65536 + n) % 65536 = n
    omega

/-- A guest without a LIN channel owns none of the eight. -/
theorem State.linChannels_of_none (guest : p ≠ 0) (linless : s.ownedBy p kindLin = []) :
    ((span 0 8).filter fun c => s.owner kindLin c = p) = [] := by
  refine List.filter_eq_nil_iff.mpr fun c m owns => ?_
  have few : ∀ c ∈ span 0 8, c < 65536 := by decide
  have mine : c ∈ s.ownedBy p kindLin := State.mem_ownedBy guest (few c m) (of_decide_eq_true owns)
  simp [linless] at mine

theorem State.quiesceLin_of_none (guest : p ≠ 0) (linless : s.ownedBy p kindLin = []) : s.quiesceLin p = s := by
  rw [State.quiesceLin, State.linChannels_of_none guest linless, State.each_nil]

theorem State.resumeLin_of_none (guest : p ≠ 0) (linless : s.ownedBy p kindLin = []) : s.resumeLin p = s := by
  rw [State.resumeLin, State.linChannels_of_none guest linless, State.each_nil]

end Sys2Proof.Machine

end

section
/-! SUPPORT. The life of a partition (R106, R133-R136, R145): what each of its commands answers and each of its events does. -/

namespace Sys2Proof.Machine

open Sys2Proof.Safety

variable {s : State} {r : Request} {p : Nat}

/-- The parameters of a command that is clear to execute are in range (R89). -/
theorem Command.range_of_clear {c : Command} (clear : Clear c r s) : c.range r = true := by
  obtain ⟨-, unrefused⟩ := clear
  unfold Command.refusal at unrefused
  split at unrefused
  case h_1 => simp at unrefused
  case h_2 =>
    cases inRange : c.range r
    case true => rfl
    case false => simp [firstOf, inRange] at unrefused

theorem guestOk_iff : guestOk p = true ↔ 1 ≤ p ∧ p ≤ 63 := by simp [guestOk, within]

theorem ne_zero_of_guestOk (guest : guestOk p = true) : p ≠ 0 := Nat.one_le_iff_ne_zero.mp (guestOk_iff.mp guest).1

/-- A partition as PARTITION_CREATE leaves it: ACTIVE, with its window and its own stage as after a reset of the device (R106). -/
def State.createPartition (s : State) (p cls : Nat) (root : Root) : State :=
  State.invalidate { s with
    io := { (s.mapPart p fun _ => { state := .active, cacheClass := cls }).io.setWindow p {} with
      msRoot := Table.put {} s.io.msRoot p root, psRoot := Table.put {} s.io.psRoot p {} } } fun e => e.part == p

section

variable (s : State) (p cls : Nat) (root : Root)

theorem State.createPartition_part : (s.createPartition p cls root).io.part p = { state := .active, cacheClass := cls } :=
  State.mapPart_part_self s p fun _ => { state := .active, cacheClass := cls }

theorem State.createPartition_window : (s.createPartition p cls root).io.window p = {} :=
  Io.setWindow_window_self s.io p {}

theorem State.createPartition_msRoot : Table.get {} (s.createPartition p cls root).io.msRoot p = root :=
  Table.get_put_self ..

end

theorem cmdPartitionCreate_run (r : Request) (s : State) : cmdPartitionCreate.run r s = .done s.now
    (s.createPartition (r.byte 0) (r.byte 1) { enable := decide (r.field 8 8 ≠ 0), addr := r.field 8 8 }) := rfl

/-- A drain-mode quiesce of a partition without flows and LIN channels: the partition's row begins to quiesce (R133). -/
theorem cmdPartitionQuiesce_run_drains (guest : r.byte 0 ≠ 0) (drains : r.byte 1 = 1) (holds : r.byte 2 = 0)
    (flowless : s.flowsOwned (r.byte 0) = []) (linless : s.ownedBy (r.byte 0) kindLin = []) :
    cmdPartitionQuiesce.run r s = .accepted s.now (s.mapPart (r.byte 0) fun x =>
      { x with state := .quiescing, drain := true, holdSafe := false, drainUntil := s.now + r.field 4 2 * 1000,
               drainExpired := false, writesIgnored := 0, drained := 0 }) := by
  simp [cmdPartitionQuiesce, drains, holds, flowless, State.quiesceLin_of_none guest, linless]

/-- A resume of a partition without queues, flows and LIN channels: its row is ACTIVE, and its rings are read at once (log entry
53). -/
theorem cmdPartitionResume_run_activates (guest : r.byte 0 ≠ 0) (queueless : s.ownedBy (r.byte 0) kindQueue = [])
    (flowless : s.flowsOwned (r.byte 0) = []) (linless : s.ownedBy (r.byte 0) kindLin = []) :
    cmdPartitionResume.run r s = .finish .done (pack [(8, 8, s.now)])
      (s.mapPart (r.byte 0) fun x => { x with state := .active }) fun t => t.readRings (r.byte 0) := by
  simp [cmdPartitionResume, queueless, flowless, State.resumeLin_of_none guest, linless]

/-- A command list that waits for nothing learns of no end (R589). -/
theorem State.opEnd_of_notWaiting {opcode : Nat} {st : Status} (free : s.boot.waiting = none) : s.opEnd opcode st = s := by
  simp [State.opEnd, free]

/-- With nothing in flight a quiescing partition is quiet, and the event says what it left (R106, R145). -/
theorem exec_partitionQuiet (on : s.computeOn = true) (present : s.absent = false) (guest : guestOk p = true)
    (quiesces : (s.io.part p).state = .quiescing) (done : s.inFlight p = false) (free : s.boot.waiting = none) :
    ∃ detail, exec (.partitionQuiet p) s = .next ((s.mapPart p fun x => { x with state := .quiet }).raise
      { unit := 0, code := 0x0202, partition := p, detail := detail } [0]) := by
  show ∃ detail, execPartitionQuiet p s = _
  simp only [execPartitionQuiet, on, present, guest, quiesces, done, State.opEnd_of_notWaiting, State.raise_boot,
    State.mapPart_boot, free]
  exact ⟨_, rfl⟩

/-- The drain of a quiescing partition ends at its limit, where the queues still at work are parked (R133). -/
theorem exec_quiesceDrainLimit (on : s.computeOn = true) (quiesces : (s.io.part p).state = .quiescing)
    (drains : (s.io.part p).drain = true) (notYet : (s.io.part p).drainExpired = false)
    (due : (s.io.part p).drainUntil ≤ s.now) :
    exec (.quiesceDrainLimit p) s = .next ((s.parkQueues p).mapPart p fun x => { x with drainExpired := true }) := by
  show execQuiesceDrainLimit p s = _
  simp [execQuiesceDrainLimit, on, quiesces, drains, notYet, due]

/-- A partition's window, its translation stage and its dirty log after a reset or a removal (R136). -/
def State.forgetPartition (s : State) (p : Nat) : State :=
  State.invalidate { s with
    io := { s.io.setWindow p {} with
      psRoot := Table.put {} s.io.psRoot p {}, dirty := Table.modify {} s.io.dirty p fun d => { d with running := false } } }
    fun e => e.part == p

@[simp] theorem State.forgetPartition_window (s : State) (p : Nat) : (s.forgetPartition p).io.window p = {} :=
  Io.setWindow_window_self s.io p {}

theorem State.resetPartition_forgets (s : State) (p : Nat) (remove : Bool) :
    ∃ t : State, (s.resetPartition p remove).1 = t.forgetPartition p := by
  unfold State.resetPartition
  exact ⟨_, rfl⟩

theorem State.resetPartition_window (s : State) (p : Nat) (remove : Bool) : (s.resetPartition p remove).1.io.window p = {} := by
  obtain ⟨t, e⟩ := s.resetPartition_forgets p remove
  rw [e, State.forgetPartition_window]

/-- A partition after PARTITION_RESET: ACTIVE, in its cache class (R136). -/
def State.afterReset (s : State) (p : Nat) : State :=
  (s.resetPartition p false).1.mapPart p fun x => { state := .active, cacheClass := x.cacheClass }

theorem cmdPartitionReset_run (r : Request) (s : State) : cmdPartitionReset.run r s =
    .done (pack [(0, 2, (s.resetPartition (r.byte 0) false).2), (8, 8, s.now)]) (s.afterReset (r.byte 0)) := rfl

theorem State.afterReset_part (s : State) (p : Nat) :
    (s.afterReset p).io.part p = { state := .active, cacheClass := ((s.afterReset p).io.part p).cacheClass } := by
  rw [State.afterReset, State.mapPart_part_self]

theorem State.afterReset_window (s : State) (p : Nat) : (s.afterReset p).io.window p = {} := by
  rw [State.afterReset, State.mapPart_window, State.resetPartition_window]

/-- What a removal does after the reset: the partition is FREE, with nothing owned (R136). -/
def State.freePartition (s : State) (p : Nat) : State :=
  State.mapPart { s with
    owners := s.owners.filter fun o => decide (o.2 ≠ p)
    io := { s.io with
      msRoot := Table.put {} s.io.msRoot p {}, memOwner := s.io.memOwner.filter fun u => decide (u.2.owner ≠ p) } }
    p fun _ => {}

@[simp] theorem State.freePartition_part (s : State) (p : Nat) : (s.freePartition p).io.part p = {} :=
  State.mapPart_part_self _ p fun _ => {}

@[simp] theorem State.freePartition_window (s : State) (p q : Nat) : (s.freePartition p).io.window q = s.io.window q := rfl

theorem State.freePartition_owners (s : State) (p : Nat) : ∀ o ∈ (s.freePartition p).owners, o.2 ≠ p :=
  fun _ m => of_decide_eq_true (List.mem_filter.mp m).2

theorem cmdPartitionRemove_run (r : Request) (s : State) : cmdPartitionRemove.run r s =
    .done (pack [(0, 2, (s.resetPartition (r.byte 0) true).2),
      (2, 2, ((s.resetPartition (r.byte 0) true).1.owners.filter fun o => decide (o.2 = r.byte 0)).length), (8, 8, s.now)])
      ((s.resetPartition (r.byte 0) true).1.freePartition (r.byte 0)) := rfl

end Sys2Proof.Machine

end

section

open Sys2Proof.Machine Sys2Proof.Safety

/-- Settles O22, from what each command of a partition's life answers and each event of it does. That a resume reads the
partition's rings at once is the model's choice (log entry 53). -/
theorem partitionLifeCompletes : Obligations.PartitionLifeCompletes := by
  unfold Obligations.PartitionLifeCompletes
  refine ⟨?create, ?quiesce, ?quiet, ?limit, ?reset, ?remove, ?resume⟩
  case create =>
    intro r s clear
    exact ⟨_, Command.step_done clear (cmdPartitionCreate_run r s), rfl, State.createPartition_part ..,
      State.createPartition_window .., State.createPartition_msRoot .., rfl⟩
  case quiesce =>
    intro r s clear drains holds flowless linless
    have inRange : (guestOk (r.byte 0) && decide (r.byte 1 ≤ 1) && decide (r.byte 2 ≤ 1)) = true :=
      Command.range_of_clear clear
    obtain ⟨⟨guest, -⟩, -⟩ := by simpa only [Bool.and_eq_true] using inRange
    have run := cmdPartitionQuiesce_run_drains (ne_zero_of_guestOk guest) drains holds flowless linless
    refine ⟨_, Command.step_finish clear run, rfl, ?state, ?drain, rfl⟩
    case state => rw [State.mapPart_part_self]
    case drain => rw [State.mapPart_part_self]
  case quiet =>
    intro p s on present low high quiesces done free
    obtain ⟨detail, e⟩ := exec_partitionQuiet on present (guestOk_iff.mpr ⟨low, high⟩) quiesces done free
    exact .of_exec e ⟨detail, rfl⟩
  case limit =>
    intro p s on quiesces drains notYet due
    exact exec_quiesceDrainLimit on quiesces drains notYet due
  case reset =>
    intro r s clear
    exact ⟨_, _, Command.step_done clear (cmdPartitionReset_run r s), State.afterReset_part .., State.afterReset_window ..⟩
  case remove =>
    intro r s clear
    refine ⟨_, _, Command.step_done clear (cmdPartitionRemove_run r s), State.freePartition_part .., ?window,
      State.freePartition_owners _ _⟩
    case window => rw [State.freePartition_window, State.resetPartition_window]
  case resume =>
    intro r s clear queueless flowless linless
    have guest : r.byte 0 ≠ 0 := ne_zero_of_guestOk (Command.range_of_clear clear)
    have resumed := Command.step_finish clear (cmdPartitionResume_run_activates guest queueless flowless linless)
    exact resumed

end

section
/-! SUPPORT. Dirty logs (R137-R139) and capsules (R140-R145): what a log reads after it is set, and what begins and ends an
outward capsule. -/

namespace Sys2Proof.Machine

variable {s : State} {r : Request}

@[simp] theorem State.setDirty_dirty_self (s : State) (p : Nat) (d : DirtyLog) :
    Table.get ({} : DirtyLog) (s.setDirty p d).io.dirty p = d :=
  Table.get_put_self ..

/-- Changes that leave the capsule operations alone leave them alone one after the other. -/
theorem State.each_capsules {α : Type} {f : State → α → State} (h : ∀ t x, (f t x).capsules = t.capsules) (s : State)
    (l : List α) : (s.each l f).capsules = s.capsules := by
  induction l generalizing s with
  | nil => rfl
  | cons x l ih => exact (ih (f s x)).trans (h s x)

/-- The operation of a capsule that carries no keys: it is taken when the command executes (log entry 90). -/
def State.keylessExport (s : State) (p buffer : Nat) : CapsuleOp where
  outward := true
  partition := p
  slot := none
  length := s.neededLength p none
  buffer := buffer
  data := capsuleBody p s.now (s.committedSet p)
    ((s.plainSections p ++ [({ type := 7, size := 64, records := [] } : Section)]).filter fun x => !x.records.isEmpty)

/-- The slots that go into a partition's capsule are marked as exported (R142). -/
def State.markExported (s : State) (p : Nat) : State :=
  s.each (s.privateSlots p) fun t k => t.mapSlot k fun x => { x with exported := some p }

@[simp] theorem State.markExported_capsules (s : State) (p : Nat) : (s.markExported p).capsules = s.capsules :=
  State.each_capsules (f := fun t k => t.mapSlot k _) (fun _ _ => rfl) s _

/-- An outward capsule without a pairing slot is taken whole when it begins (R140, R142). -/
theorem cmdPartitionCapsuleExport_run_keyless (keyless : pairing r = none)
    (fits : s.neededLength (r.byte 0) none ≤ r.field 4 4) :
    cmdPartitionCapsuleExport.run r s = .accepted 0 { s.markExported (r.byte 0) with
      capsules := (s.markExported (r.byte 0)).capsules ++ [s.keylessExport (r.byte 0) (r.field 8 8)] } := by
  have enough : ¬ r.field 4 4 < s.neededLength (r.byte 0) none := Nat.not_lt.mpr fits
  simp [cmdPartitionCapsuleExport, keyless, enough, State.keylessExport, State.markExported]

/-- Where the buffer is too small, the answer says how long the capsule is (R140). -/
theorem cmdPartitionCapsuleExport_run_small (small : r.field 4 4 < s.neededLength (r.byte 0) (pairing r)) :
    cmdPartitionCapsuleExport.run r s = .refuse .capsuleBufferSmall (s.neededLength (r.byte 0) (pairing r)) :=
  if_pos small

/-- The end of an outward capsule that its buffer takes (R140, R145). -/
theorem exec_capsuleDone_written {p : Nat} {o : CapsuleOp} {u : State} (on : s.computeOn = true) (present : s.absent = false)
    (op : s.capsules.find? (fun x => x.partition == p) = some o) (outward : o.outward = true)
    (written : ({ s with capsules := s.capsules.erase o } : State).write 0 o.buffer o.length o.data = (u, none)) :
    exec (.capsuleDone p) s = .next (u.capsuleDone o .done (byteField o.data 3 1) 0) := by
  show execCapsuleDone p s = _
  simp [execCapsuleDone, op, on, present, outward, written]

end Sys2Proof.Machine

end

section

open Sys2Proof.Machine Sys2Proof.Safety

/-- Settles O24, from what each command of dirty logging sets and what a capsule operation is when it begins and does when it
ends. That an outward capsule is taken at the command and written at its end is the model's choice (log entry 90). -/
theorem migrationCommandsComplete : Obligations.MigrationCommandsComplete := by
  unfold Obligations.MigrationCommandsComplete
  refine ⟨?start, ?swap, ?stop, ?outward, ?small, ?inward, ?done⟩
  case start =>
    intro r s clear
    exact ⟨_, Command.step_done clear rfl, rfl, State.setDirty_dirty_self ..⟩
  case swap =>
    intro r s clear
    exact ⟨_, Command.step_done clear rfl, rfl, State.setDirty_dirty_self ..⟩
  case stop =>
    intro r s clear
    exact ⟨_, Command.step_done clear rfl, rfl, State.setDirty_dirty_self ..⟩
  case outward =>
    intro r s clear keyless fits
    exact ⟨_, Command.step_finish clear (cmdPartitionCapsuleExport_run_keyless keyless fits),
      s.keylessExport (r.byte 0) (r.field 8 8), by simp, rfl, rfl, rfl, rfl⟩
  case small =>
    intro r s clear small
    refine (Command.step_clear clear).trans ?_
    rw [cmdPartitionCapsuleExport_run_small small]
    rfl
  case inward =>
    intro r s clear
    exact ⟨_, Command.step_finish clear rfl, rfl⟩
  case done =>
    intro p o u s on present free op outward written
    have boot : u.boot = s.boot := congrArg (fun x => x.1.boot) written.symm
    have waits : u.boot.waiting = none := by rw [boot, free]
    rw [exec_capsuleDone_written on present op outward written, State.capsuleDone]
    exact congrArg _ (State.opEnd_of_notWaiting waits)

end

section
/-! SUPPORT. The DMA queues: what a queue reads after an update, what each queue command answers (R124, R129-R132), and one segment
of a transfer between two places in memory (R127, R128). -/

namespace Sys2Proof.Machine

variable {s : State} {r : Request} {q : Nat}

@[simp] theorem State.mapQueue_queueOf_self (s : State) (q : Nat) (g : DmaQueue → DmaQueue) :
    (s.mapQueue q g).queueOf q = g (s.queueOf q) :=
  Table.get_modify_self ..

theorem State.mapQueue_queueOf_ne (s : State) {q k : Nat} (g : DmaQueue → DmaQueue) (other : k ≠ q) :
    (s.mapQueue q g).queueOf k = s.queueOf k :=
  Table.get_modify_ne _ _ _ other

theorem State.mapQueue_congr {f g : DmaQueue → DmaQueue} (h : f (s.queueOf q) = g (s.queueOf q)) :
    s.mapQueue q f = s.mapQueue q g := by
  rw [State.queueOf] at h
  simp only [State.mapQueue, Table.modify, h]

/-- What a read and a write of memory leave of the queues. -/
theorem State.queueOf_of_read {s1 : State} {p a n : Nat} {x : Except XFault Nat} (e : s.read p a n = (s1, x)) (k : Nat) :
    s1.queueOf k = s.queueOf k := by
  cases e
  rfl

theorem State.queueOf_of_write {s1 : State} {p a n w : Nat} {x : Option XFault} (e : s.write p a n w = (s1, x)) (k : Nat) :
    s1.queueOf k = s.queueOf k := by
  cases e
  rfl

/-- A queue that is enabled afresh is IDLE and empty, and keeps its attachment (cmd 0x020B). -/
theorem cmdDmaQueueConfig_run_enables (enables : r.byte 4 = 1) : cmdDmaQueueConfig.run r s =
    .done 0 (s.mapQueue (r.field 0 2) fun d =>
      { attach := d.attach, state := .idle, base := r.field 8 8, sizeLog2 := r.byte 2, vector := r.byte 3 }) := by
  simp [cmdDmaQueueConfig, enables]

/-- A queue stopped by a fault tries its descriptor again (R130). -/
theorem cmdDmaQueueResume_run_retries (retries : r.byte 2 = 0) (active : s.quiescing (s.queueOwner (r.field 0 2)) = false) :
    cmdDmaQueueResume.run r s =
      .done 0 (s.mapQueue (r.field 0 2) fun d => { d with state := .waiting, cause := 0, faultAddr := 0 }) := by
  simp [cmdDmaQueueResume, retries, active]

/-- A queue that no fault has stopped shows no cause and no address (cmd 0x020E). -/
theorem cmdDmaQueueQuery_run_faultless (faultless : (s.queueOf (r.field 0 2)).state ≠ .parkedFault) :
    cmdDmaQueueQuery.run r s =
      .done (pack [(0, 1, (s.queueOf (r.field 0 2)).state.code), (1, 1, 0), (2, 2, (s.queueOf (r.field 0 2)).head),
        (4, 2, (s.queueOf (r.field 0 2)).tail), (8, 4, (s.queueOf (r.field 0 2)).offset), (16, 8, 0)]) s := by
  simp [cmdDmaQueueQuery, faultless]

/-- The engines go on with a queue that one of them is on (R128). -/
theorem exec_dmaSegmentMove (on : s.computeOn = true) (known : q < 1024) (running : (s.queueOf q).state = .running)
    (work : (s.queueOf q).head ≠ (s.queueOf q).tail) : exec (.dmaSegmentMove q) s = .next (s.serveQueue q) := by
  show execDmaSegmentMove q s = _
  simp [execDmaSegmentMove, on, known, running, work, DmaQueue.runnable, State.served?]

theorem State.deviceSource_unattached (unattached : (s.queueOf q).attach = .none) : s.deviceSource q = false := by
  rw [State.deviceSource, unattached]

theorem State.deviceDest_unattached (unattached : (s.queueOf q).attach = .none) : s.deviceDest q = false := by
  rw [State.deviceDest, unattached]

/-- A queue without a device never waits for one. -/
theorem State.deviceReady_unattached (x : Descriptor) (unattached : (s.queueOf q).attach = .none) :
    s.deviceReady q x = (s, true) := by
  simp [State.deviceReady, State.deviceSource_unattached unattached, unattached]

/-- An engine that is on a queue, whose descriptor has been read and has passed its bucket, moves the next segment (R126-R130). -/
theorem State.serveQueue_goesOn {x : Descriptor} (running : (s.queueOf q).state = .running)
    (noCpl : (s.queueOf q).cplStatus = none) (fetched : (s.queueOf q).desc = some x) (passed : (s.queueOf q).conforms = true)
    (unattached : (s.queueOf q).attach = .none) (engines : s.liveEngines ≠ []) :
    s.serveQueue q = s.moveSegment q (s.queueOf q).engine x := by
  have fetch : s.fetchDescriptor q = (s, true) := by simp [State.fetchDescriptor, fetched]
  have bucket : s.passBucket q x = (s, true) := by simp [State.passBucket, passed]
  have engine : s.takeEngine q = ((s.queueOf q).engine, s) := if_pos running
  simp only [State.serveQueue, noCpl, if_neg engines, fetch, fetched, bucket, State.deviceReady_unattached x unattached, engine,
    Option.getD_some]

/-- A segment that is not the last of its descriptor moves 256 bytes between two places in memory (R127). -/
theorem State.moveSegment_unattached {x : Descriptor} {w : Nat} {s1 s2 : State} (running : (s.queueOf q).state = .running)
    (unattached : (s.queueOf q).attach = .none) (more : (s.queueOf q).offset + 256 < x.length)
    (read : s.read (s.queueOwner q) (x.source + (s.queueOf q).offset) 256 = (s1, .ok w))
    (write : s1.write (s.queueOwner q) (x.dest + (s.queueOf q).offset) 256 w = (s2, none)) :
    s.moveSegment q (s.queueOf q).engine x = s2.mapQueue q fun d => { d with offset := d.offset + 256 } := by
  have same : s2.queueOf q = s.queueOf q := (State.queueOf_of_write write q).trans (State.queueOf_of_read read q)
  have bytes : min 256 (x.length - (s.queueOf q).offset) = 256 := by omega
  have notLast : ¬ x.length ≤ (s.queueOf q).offset + 256 := by omega
  have stays : s2.mapQueue q (fun d => { d with offset := d.offset + 256, state := .running, engine := (s.queueOf q).engine }) =
      s2.mapQueue q fun d => { d with offset := d.offset + 256 } :=
    State.mapQueue_congr (by simp [same, running])
  simp [State.moveSegment, State.transferLength, State.deviceSource_unattached unattached,
    State.deviceDest_unattached unattached, bytes, read, write, notLast, stays]

end Sys2Proof.Machine

end

section

open Sys2Proof.Machine Sys2Proof.Safety

/-- Settles O25, from what each queue command answers and what an engine does with the next segment of a queue. -/
theorem dmaQueuesComplete : Obligations.DmaQueuesComplete := by
  unfold Obligations.DmaQueuesComplete
  refine ⟨?config, ?post, ?resume, ?query, ?segment⟩
  case config =>
    intro r s clear enables
    exact Command.step_done clear (cmdDmaQueueConfig_run_enables enables)
  case post =>
    intro r s clear
    refine ⟨_, Command.step_done clear rfl, rfl, ?tail, ?head, ?others⟩
    case tail => rw [State.mapQueue_queueOf_self]
    case head => rw [State.mapQueue_queueOf_self]
    case others => exact fun q other => State.mapQueue_queueOf_ne _ _ other
  case resume =>
    intro r s clear retries active
    exact Command.step_done clear (cmdDmaQueueResume_run_retries retries active)
  case query =>
    intro r s clear faultless
    exact Command.step_done clear (cmdDmaQueueQuery_run_faultless faultless)
  case segment =>
    intro q x w s s1 s2 on known running work noCpl fetched passed unattached engines more read write
    rw [exec_dmaSegmentMove on known running work, State.serveQueue_goesOn running noCpl fetched passed unattached engines,
      State.moveSegment_unattached running unattached more read write]

end

section
/-! SUPPORT. The window of CAN objects (R301, R306-R312): which accesses reach an object, and what each of them does with it. -/

namespace Sys2Proof.Machine

variable {s : State} {p o : Nat}

@[simp] theorem State.mapObj_objOf_self (s : State) (o : Nat) (g : CanObject → CanObject) :
    (s.mapObj o g).objOf o = g (s.objOf o) :=
  Table.get_modify_self ..

@[simp] theorem State.raise_objOf (s : State) (e : Event) (l : List Nat) (o : Nat) : (s.raise e l).objOf o = s.objOf o := rfl

@[simp] theorem State.vector_objOf (s : State) (p v o : Nat) : (s.vector p v).objOf o = s.objOf o := rfl

theorem State.mapObj_congr {f g : CanObject → CanObject} (h : f (s.objOf o) = g (s.objOf o)) : s.mapObj o f = s.mapObj o g := by
  rw [State.objOf] at h
  simp only [State.mapObj, Table.modify, h]

/-- An access of a partition that the object does not belong to reaches nothing. -/
theorem State.slotWrite_unseen {f : State → State} (unseen : s.slotSeen p o = false) : s.slotWrite p o f = s := by
  simp [State.slotWrite, unseen]

/-- A write of a quiescing owner is counted and does nothing else (R133). -/
theorem State.slotWrite_quiescing {f : State → State} (seen : s.slotSeen p o = true) (quiesces : s.quiescing p = true) :
    s.slotWrite p o f = s.mapPart p fun x => { x with writesIgnored := x.writesIgnored + 1 } := by
  simp [State.slotWrite, seen, quiesces, State.mapPart]

/-- A write of the owner reaches an object whose channel is in service. -/
theorem State.slotWrite_reaches {f : State → State} (seen : s.slotSeen p o = true) (active : s.quiescing p = false)
    (served : s.furled (unitId 0x10 (o / 128)) = false) : s.slotWrite p o f = f s := by
  simp [State.slotWrite, seen, active, served]

/-- A second SEND_REQ while a frame is pending is ignored, and the object shows it (R308). -/
theorem State.sendRequest_pending (sends : (s.objOf o).direction = 2) (pending : (s.objOf o).pending = true) :
    s.sendRequest o = s.mapObj o fun x => { x with writeIgnored := true } := by
  simp [State.sendRequest, sends, pending]

/-- SEND_REQ arms an object that its gang releases (R313). -/
theorem State.sendRequest_arms (sends : (s.objOf o).direction = 2) (idle : (s.objOf o).pending = false)
    (alone : (s.objOf o).queue = none) (gang : (s.objOf o).tt = 2) :
    s.sendRequest o = s.mapObj o fun x => { x with pending := true, armed := true, attempts := 0 } := by
  simp [State.sendRequest, sends, idle, alone, gang]

/-- A frame whose transmission has not begun fails at once (R311). -/
theorem State.abortSend_notBegun (sends : (s.objOf o).direction = 2) (pending : (s.objOf o).pending = true) :
    s.abortSend o false = s.failSend o 0x9 := by
  simp [State.abortSend, sends, pending]

/-- A failed send frame is gone from its object; the limiter of CAN_SEND_FAILED alone depends on the time (R308, R314). -/
theorem State.failSend_objOf (s : State) (o cause : Nat) : (s.failSend o cause).objOf o = { s.objOf o with
    pending := false, armed := false, armedAt := none, tx := none, abort := false, lastCause := cause,
    failed := satAdd 32 (s.objOf o).failed 1, sfAt := ((s.failSend o cause).objOf o).sfAt,
    sfCount := ((s.failSend o cause).objOf o).sfCount } := by
  unfold State.failSend
  dsimp only
  split
  case isTrue soon => split <;> simp
  case isFalse due => split <;> simp

/-- RELEASE with a frame in the shadow buffer makes it visible, and touches nothing else but the vector that it may raise
(R306, R307). -/
theorem State.releaseRead_shadow {b : CanRxBuf} (receives : (s.objOf o).direction = 1) (alone : (s.objOf o).queue = none)
    (waits : (s.objOf o).shadow = some b) :
    s.releaseRead p o = { s with can := (s.releaseRead p o).can, io := (s.releaseRead p o).io } ∧
      (s.releaseRead p o).objOf o = { s.objOf o with locked := false, visible := some b, shadow := none, new := true } := by
  have moves : (s.objOf o).endRead = { s.objOf o with locked := false, visible := some b, shadow := none, new := true } := by
    rw [CanObject.endRead, waits]
  have released : s.releaseRead p o =
      if (s.objOf o).intNew then (s.mapObj o CanObject.endRead).vector p (s.objOf o).vector else s.mapObj o CanObject.endRead := by
    simp [State.releaseRead, receives, alone, waits]
  rw [released]
  split
  case isTrue interrupts => exact ⟨rfl, by rw [State.vector_objOf, State.mapObj_objOf_self, moves]⟩
  case isFalse silent => exact ⟨rfl, by rw [State.mapObj_objOf_self, moves]⟩

/-- RELEASE with nothing in the shadow buffer ends the read of the visible frame (R306). -/
theorem State.releaseRead_noShadow (receives : (s.objOf o).direction = 1) (alone : (s.objOf o).queue = none)
    (bare : (s.objOf o).shadow = none) :
    s.releaseRead p o = s.mapObj o fun x => { x with locked := false, new := false } := by
  have ends : s.mapObj o CanObject.endRead = s.mapObj o fun x => { x with locked := false, new := false } :=
    State.mapObj_congr (by simp [CanObject.endRead, bare])
  simp [State.releaseRead, receives, alone, bare, ends]

end Sys2Proof.Machine

end

section

open Sys2Proof.Machine Sys2Proof.Safety

/-- Settles O39, from which accesses reach an object and what each of them does with it. -/
theorem canWindowCompletes : Obligations.CanWindowCompletes := by
  unfold Obligations.CanWindowCompletes
  refine ⟨?lock, ?ignored, ?arms, ?abort, ?failed, ?shadow, ?noShadow, ?unseen, ?quiescing⟩
  case lock =>
    intro p o s seen receives
    exact if_pos ⟨seen, receives⟩
  case ignored =>
    intro p o s seen active served sends pending
    exact congrArg _ ((State.slotWrite_reaches seen active served).trans (State.sendRequest_pending sends pending))
  case arms =>
    intro p o s seen active served sends idle alone gang
    exact congrArg _ ((State.slotWrite_reaches seen active served).trans (State.sendRequest_arms sends idle alone gang))
  case abort =>
    intro p o s seen active served sends pending
    exact congrArg _ ((State.slotWrite_reaches seen active served).trans (State.abortSend_notBegun sends pending))
  case failed =>
    intro o s
    exact State.failSend_objOf s o 0x9
  case shadow =>
    intro p o b s seen active served receives alone waits
    exact .of_exec (t := s.releaseRead p o) (congrArg _ (State.slotWrite_reaches seen active served))
      (State.releaseRead_shadow receives alone waits)
  case noShadow =>
    intro p o s seen active served receives alone bare
    exact congrArg _ ((State.slotWrite_reaches seen active served).trans (State.releaseRead_noShadow receives alone bare))
  case unseen =>
    intro p o s unseen
    refine ⟨congrArg _ (State.slotWrite_unseen unseen), congrArg _ (State.slotWrite_unseen unseen), if_neg ?_⟩
    simp [unseen]
  case quiescing =>
    intro p o s seen quiesces
    exact congrArg _ (State.slotWrite_quiescing seen quiesces)

end

section
/-! SUPPORT. Flows (R151, R169, R174): what a flow reads after a change of a flow, that recomputing the bounds moves no flow between
its states, and what an admission and a release leave. -/

namespace Sys2Proof.Machine

@[simp] theorem State.mapFlow_flowOf_self (s : State) (id : Nat) (g : Flow → Flow) : (s.mapFlow id g).flowOf id = g (s.flowOf id) :=
  Table.get_modify_self ..

theorem State.mapFlow_flowOf_ne (s : State) {id k : Nat} (g : Flow → Flow) (other : k ≠ id) :
    (s.mapFlow id g).flowOf k = s.flowOf k :=
  Table.get_modify_ne _ _ _ other

@[simp] theorem State.complete_flowOf (s : State) (r : Request) (opcode : Nat) (st : Status) (results id : Nat) :
    (s.complete r opcode st results).flowOf id = s.flowOf id := by
  rw [State.flowOf, State.complete_flow, State.flowOf]

@[simp] theorem State.fillBucket_flowOf (s : State) (id k : Nat) : (s.fillBucket id).flowOf k = s.flowOf k := rfl

/-- A change of a flow's figures alone moves no flow between its states. -/
theorem State.mapFlow_flowState (s : State) (id k : Nat) {g : Flow → Flow} (figures : ∀ f, (g f).state = f.state) :
    ((s.mapFlow id g).flowOf k).state = (s.flowOf k).state := by
  by_cases same : k = id
  case pos => rw [same, State.mapFlow_flowOf_self, figures]
  case neg => rw [State.mapFlow_flowOf_ne s g same]

/-- What each of the changes in a row leaves as it was, all of them together leave as it was. -/
theorem State.each_keeps {α β : Type} {f : State → α → State} (read : State → β) (h : ∀ t x, read (f t x) = read t) (s : State)
    (l : List α) : read (s.each l f) = read s := by
  induction l generalizing s with
  | nil => rfl
  | cons x l ih => exact (ih (f s x)).trans (h s x)

@[simp] theorem State.recompute_flowState (s : State) (id : Nat) : (s.recompute.flowOf id).state = (s.flowOf id).state := by
  rw [State.recompute]
  refine State.each_keeps (fun t => (t.flowOf id).state) (fun t g => ?_) s s.reserved
  exact State.mapFlow_flowState t g.1 id fun _ => rfl

/-- A flow that is admitted while its owner quiesces is HELD from the start (R174, R186). -/
theorem State.accept_flowState (s : State) (id : Nat) (f : Flow) (v : Verdict) :
    ((s.accept id f v).flowOf id).state = if s.quiescing f.owner then .held else .admitted := by
  rw [State.accept, State.recompute_flowState, apply_ite (fun t : State => (t.flowOf id).state), State.fillBucket_flowOf, ite_self]
  simp [State.flowOf, State.mapFlow]

/-- A flow that is forgotten is as it was before its first admission (R174). -/
@[simp] theorem State.freeFlow_flowOf_self (s : State) (id : Nat) : (s.freeFlow id).flowOf id = {} := by
  have forgotten : Table.get {} (s.mapFlow id fun _ => {}).flow.flows id = {} := State.mapFlow_flowOf_self s id fun _ => {}
  rw [State.freeFlow]
  split <;> exact forgotten

end Sys2Proof.Machine

end

section
/-! SUPPORT. A flow that a guest admits while it quiesces (R186). -/

namespace Sys2Proof.Machine

variable {s : State} {r : Request}

/-- A candidate that fits is admitted under the ID of the command (R170, R171). -/
theorem cmdFlowAdmit_run_fits (fits : (s.verdict (s.flowId r) (candidate r)).status = none) :
    ∃ n, cmdFlowAdmit.run r s = .done n (s.accept (s.flowId r) (candidate r) (s.verdict (s.flowId r) (candidate r))) := by
  simp [cmdFlowAdmit, fits, Answer.done]

/-- After a FLOW_ADMIT that fits, the flow is HELD where its owner quiesces and ADMITTED otherwise (R174, R186). -/
theorem cmdFlowAdmit_step_flowState (clear : Safety.Clear cmdFlowAdmit r s)
    (fits : (s.verdict (s.flowId r) (candidate r)).status = none) : ∃ t, cmdFlowAdmit.step r s = .next t ∧
      (t.flowOf (s.flowId r)).state = if s.quiescing r.issuer then .held else .admitted := by
  obtain ⟨n, run⟩ := cmdFlowAdmit_run_fits fits
  exact ⟨_, Command.step_done clear run, by rw [State.complete_flowOf, State.accept_flowState]; rfl⟩

/-- Guest 1, which owns load channel 3, is quiescing; its features are committed and the device runs. -/
def quiescingGuest : State :=
  { State.reset with
    io := { State.reset.io with
      windows := [(1, { committed := true })]
      parts := [(0, { state := .active }), (1, { state := .quiescing })] }
    boot := { State.reset.boot with phase := .run }
    owners := [(kindLoad * 65536 + 3, 1)] }

/-- Guest 1 asks for flow 5, of type 5 (LOAD_COMMAND) on load channel 3: one command every 100 ms, each within 4 s. -/
def admitLoadFlow : Request :=
  { partition := 1, ring := 0, flags := 0, paramLen := 48, tag := 1, deadline := 0
    params := BitVec.ofNat 384 (pack [(0, 2, 5), (2, 1, 5), (4, 4, 1), (8, 4, 100000000), (14, 1, 1), (16, 4, 4000000000),
      (20, 1, 10), (22, 2, 3)]) }

/-- The guest's FLOW_ADMIT, read before the quiesce, is clear to execute, and the flow fits. -/
theorem quiescingGuest_admits : Safety.Clear cmdFlowAdmit admitLoadFlow quiescingGuest ∧
    (quiescingGuest.verdict (quiescingGuest.flowId admitLoadFlow) (candidate admitLoadFlow)).status = none :=
  ⟨⟨by decide +kernel, by decide +kernel⟩, by decide +kernel⟩

end Sys2Proof.Machine

end

section

open Sys2Proof.Machine Sys2Proof.Safety

/-- Refutes O26: its first clause has every flow that fits end ADMITTED, and does not ask that the owner is not quiescing. A
FLOW_ADMIT that was read before its partition's quiesce is executed, and the new flow enters HELD at once (R186). -/
theorem not_flowAdmissionCompletes : ¬ Obligations.FlowAdmissionCompletes := by
  unfold Obligations.FlowAdmissionCompletes
  rintro ⟨admits, -, -⟩
  obtain ⟨clear, fits⟩ := quiescingGuest_admits
  obtain ⟨res, u, answer, -, admitted, -, -⟩ := admits admitLoadFlow quiescingGuest clear fits
  obtain ⟨t, step, held⟩ := cmdFlowAdmit_step_flowState clear fits
  obtain rfl : u.complete admitLoadFlow 0x0301 .done res = t := Host.Outcome.next.inj (answer.symm.trans step)
  rw [State.complete_flowOf, admitted] at held
  exact absurd held (by decide)

end

section
/-! SUPPORT. Release (R174, R186): what FLOW_RELEASE answers, and the end of one that waited. -/

namespace Sys2Proof.Machine

open Sys2Proof.Safety

variable {s : State} {r : Request}

/-- A command that is clear to execute and has to wait stays at the front of its ring (R86). -/
theorem Command.step_wait {c : Command} {t : State} (h : Clear c r s) (e : c.run r s = .wait t)
    (k : c.spends = false := by rfl) : c.step r s = .next (t.hold r c.opcode) := by
  rw [Command.step_clear h k, e]
  rfl

theorem cmdFlowRelease_run_frees (own : (s.flowOf (r.field 0 2)).owner = r.issuer) (left : s.itemsOn (r.field 0 2) = 0) :
    cmdFlowRelease.run r s = .done (pack [(0, 8, s.now), (8, 1, 0)]) (s.freeFlow (r.field 0 2)).recompute := by
  simp [cmdFlowRelease, own, left]

theorem cmdFlowRelease_run_waits (own : (s.flowOf (r.field 0 2)).owner = r.issuer) (items : s.itemsOn (r.field 0 2) ≠ 0) :
    cmdFlowRelease.run r s = .wait (s.mapFlow (r.field 0 2) fun f => { f with releasing := some r }) := by
  simp [cmdFlowRelease, own, items]

/-- The manager's release of a guest's flow revokes it (R174). -/
theorem cmdFlowRelease_run_revokes (guests : (s.flowOf (r.field 0 2)).owner ≠ r.issuer) :
    cmdFlowRelease.run r s = .done (pack [(0, 8, s.now), (8, 1, 3)]) (s.revokeList [r.field 0 2] 0 0x04 s.now) :=
  if_pos guests

theorem exec_flowReleaseDone_left {id : Nat} (waits : (s.flowOf id).releasing = some r) (left : s.itemsOn id = 0) :
    exec (.flowReleaseDone id) s =
      .next ((((s.freeFlow id).recompute).complete r 0x0303 .done (pack [(0, 8, s.now), (8, 1, 0)])).unblock r) := by
  show execFlowReleaseDone id s = _
  simp [execFlowReleaseDone, waits, left]

end Sys2Proof.Machine

end

section

open Sys2Proof.Machine Sys2Proof.Safety

/-- Settles O27, from what FLOW_RELEASE answers to the flow's owner and to the manager, and how a release that waited ends. -/
theorem flowReleaseCompletes : Obligations.FlowReleaseCompletes := by
  unfold Obligations.FlowReleaseCompletes
  refine ⟨?frees, ?waits, ?revokes, ?ends, ?free⟩
  case frees =>
    intro r s clear own left
    exact ⟨_, Command.step_done clear (cmdFlowRelease_run_frees own left), rfl⟩
  case waits =>
    intro r s clear own items
    exact Command.step_wait clear (cmdFlowRelease_run_waits own items)
  case revokes =>
    intro r s clear guests
    exact Command.step_done clear (cmdFlowRelease_run_revokes guests)
  case ends =>
    intro id r s waits left
    exact exec_flowReleaseDone_left waits left
  case free =>
    intro id s
    rw [State.freeFlow_flowOf_self]

end

section
/-! SUPPORT. The figures of a flow (R178, R179), the contracts of media (R164, R168, R182) and deferred maintenance (R181): what each
command answers and each event does. -/

namespace Sys2Proof.Machine

variable {s s1 : State} {r : Request}

/-- FLOW_STATS that does not clear changes the caller's buffer alone (cmd 0x0305). -/
theorem cmdFlowStats_run_keeps (keeps : r.bit 2 0 = false)
    (written : s.write r.issuer (r.field 8 8) 128 ((s.flowOf (r.field 0 2)).record s.now
      (s.has (s.flowOf (r.field 0 2)).owner .latencyHistogram)) = (s1, none)) :
    cmdFlowStats.run r s = .done 0 s1 := by
  simp [cmdFlowStats, written, keeps]

theorem cmdFlowStats_run_faults {f : XFault}
    (faults : s.write r.issuer (r.field 8 8) 128 ((s.flowOf (r.field 0 2)).record s.now
      (s.has (s.flowOf (r.field 0 2)).owner .latencyHistogram)) = (s1, some f)) :
    cmdFlowStats.run r s = .fault f s1 := by
  simp [cmdFlowStats, faults]

/-- The state with a medium's contract set, and nothing of what follows from it. -/
def State.putContract (s : State) (m : Nat) (c : Contract) : State :=
  { s with flow := { s.flow with contracts := Table.put {} s.flow.contracts m c } }

@[simp] theorem State.putContract_contract_self (s : State) (m : Nat) (c : Contract) : (s.putContract m c).contract m = c :=
  Table.get_put_self ..

/-- A contract under which every flow keeps its place takes effect as it stands (R164, R182). -/
theorem cmdMediumContractSet_run_costless
    (costless : (s.putContract (r.byte 0) (contractOf r (s.contract (r.byte 0)))).chosen [] = []) :
    cmdMediumContractSet.run r s = .done (pack [(0, 2, 0), (8, 8, s.now)])
      (s.putContract (r.byte 0) (contractOf r (s.contract (r.byte 0)))).recompute := by
  rw [State.putContract] at costless
  simp [cmdMediumContractSet, costless, State.putContract]

/-- The contract remembers a window that broke it, and 100 ms more (R168). -/
def Contract.exceededAt (c : Contract) (now : Nat) : Contract :=
  { c with excessFrom := now - 100000000, excessUntil := now + 100000000 }

/-- A window whose use breaks the contract in one measure is reported once (R168). -/
theorem exec_mediumContractWindow_exceeded {m used largest lowest measure value : Nat} (on : s.computeOn = true) (known : m ≤ 21)
    (enabled : (s.contract m).enable = true)
    (breaks : (s.contract m).excess (mediumKind m) used largest lowest = [(measure, value)]) :
    exec (.mediumContractWindow m used largest lowest) s =
      .next ((s.putContract m ((s.contract m).exceededAt s.now)).contractExceeded m measure value s.now) := by
  have inRange : ¬ 21 < m := Nat.not_lt.mpr known
  show execMediumContractWindow m used largest lowest s = _
  simp [execMediumContractWindow, on, enabled, inRange, breaks, State.each, State.putContract, Contract.exceededAt]

theorem exec_maintenanceRetry_present (present : s.absent = false) (on : s.computeOn = true) :
    exec .maintenanceRetry s = .next (s.noneDeferred.each s.flow.maintenance State.retryDeferred) := by
  show execMaintenanceRetry s = _
  simp [execMaintenanceRetry, present, on]

theorem State.retryDeferred_early {m : Maintenance} (early : s.now < m.triedAt + 100000000) :
    s.retryDeferred m = s.keepDeferred m m.triedAt :=
  if_pos early

/-- An activity whose 100 ms have passed goes on or waits again, as the free choice falls (R181, log entry 84). -/
theorem State.retryDeferred_due {m : Maintenance} (due : m.triedAt + 100000000 ≤ s.now) :
    s.retryDeferred m = if s.choose.1 then s.choose.2.proceed m else s.choose.2.keepDeferred m s.now :=
  if_neg (Nat.not_lt.mpr due)

end Sys2Proof.Machine

end

section

open Sys2Proof.Machine Sys2Proof.Safety

/-- Settles O28, from what each command of the figures and the contracts answers, what a window that breaks a contract leaves, and
how a deferred activity is taken up. That a free choice decides whether it fits is the model's choice (log entry 84). -/
theorem flowFiguresAndMediaComplete : Obligations.FlowFiguresAndMediaComplete := by
  unfold Obligations.FlowFiguresAndMediaComplete
  refine ⟨?query, ?stats, ?statsFault, ?contract, ?window, ?retry, ?early, ?due⟩
  case query =>
    intro r s clear
    exact Command.step_done clear rfl
  case stats =>
    intro r s s1 clear keeps written
    exact Command.step_done clear (cmdFlowStats_run_keeps keeps written)
  case statsFault =>
    intro r s s1 f clear faults
    exact Command.step_fault clear (cmdFlowStats_run_faults faults)
  case contract =>
    rintro r _ s clear rfl costless
    exact Command.step_done clear (cmdMediumContractSet_run_costless costless)
  case window =>
    intro m used largest lowest measure value s on known enabled breaks
    exact .of_exec (exec_mediumContractWindow_exceeded on known enabled breaks)
      ⟨_, rfl, rfl, State.putContract_contract_self ..⟩
  case retry =>
    intro s present on
    exact exec_maintenanceRetry_present present on
  case early =>
    intro m s early
    exact State.retryDeferred_early early
  case due =>
    intro m s due
    rw [State.retryDeferred_due due]
    split
    case isTrue fits => exact .inl rfl
    case isFalse full => exact .inr rfl

end

section
/-! SUPPORT. The servo of Device Time (R195, R198-R200): what following a source, stepping or slewing a domain's offset and
a change of the servo's state leave. -/

namespace Sys2Proof.Machine

variable {s : State}

theorem natAbs_clampTo_le (limit : Nat) (x : Int) : (clampTo limit x).natAbs ≤ limit := by
  unfold clampTo
  omega

/-- An offset that has been held before moves by at most 100 ppm of the time since it last moved (R200). -/
theorem slewOffset_moves_le {first : Bool} (again : first = false) (held measured : Int) (elapsed : Nat) :
    ((slewOffset held measured first elapsed).1 - held).natAbs ≤ elapsed * 65536 / 10000 := by
  have moves : (slewOffset held measured first elapsed).1 - held =
      clampTo (elapsed * 65536 / 10000 : Nat) (measured - held) := by
    simp only [slewOffset, again, Bool.false_eq_true, false_and, if_false]
    omega
  rw [moves]
  exact natAbs_clampTo_le _ _

/-- A measurement of the first gPTP domain goes into that domain's offset and leaves the other's (R199, R200). -/
theorem State.takeOffset_domainA (first : s.time.source = 1) (measured : Int) :
    (s.takeOffset measured).1 = s.mapTime fun t =>
      { t with offsetA := (slewOffset t.offsetA measured (!t.everLockedA) (s.now - t.offsetAtA)).1,
               offsetAtA := s.now, everLockedA := true } := by
  simp [State.takeOffset, State.mapTime, first]

/-- What every measurement of the selected source does first: its rate is followed, and the source counts as alive (R198). -/
def State.hearSource (s : State) (rate : Int) : State :=
  (s.followRate rate).mapTime fun t => { t with lastSync := s.now }

/-- A measurement while LOCKED: one beyond four times LOCK_NS begins ACQUIRING anew, another goes into the domain's offset
(R198, R200). -/
theorem exec_timeSourceMeasurement_locked {offset rate : Int} (selected : s.time.source ≠ 0)
    (crystal : s.time.backupOsc = false) (on : s.computeOn = true) (locked : s.time.servo = .locked) :
    exec (.timeSourceMeasurement offset rate) s =
      .next (if 4 * (s.time.lockNs : Int) * 65536 < ((offset - s.time.lockMean).natAbs : Int) then
        ((s.hearSource rate).mapTime fun t => { t with run := [offset] }).moveServo .acquiring 0
      else ((s.hearSource rate).takeOffset offset).1) := by
  show execTimeSourceMeasurement offset rate s = _
  simp only [execTimeSourceMeasurement, selected, crystal, on, locked, decide_false, Bool.not_true, Bool.or_self,
    Bool.false_eq_true, if_false, State.hearSource]
  split
  · rfl
  · rfl

/-- The mean rate of the last 16 s, at which a lost source leaves the servo (R198). -/
def State.meanRate (s : State) : Int :=
  meanOf ((s.time.rates.filter fun x => decide (s.now < x.at_ + 16000000000)).map (·.rate))

/-- A LOCKED source that has been silent for too long is lost (R198). -/
theorem exec_timeSourceLoss_locked (locked : s.time.servo = .locked) (silent : s.time.lastSync + s.lossAfter ≤ s.now) :
    exec .timeSourceLoss s =
      .next (((s.setRate s.meanRate).mapTime fun t => { t with holdoverAt := s.now }).moveServo .holdover 0) :=
  if_pos ⟨.inr locked, silent⟩

/-- HOLDOVER ends at its limit, and the rate correction with it (R198). -/
theorem exec_holdoverLimit_due (holdover : s.time.servo = .holdover) (crystal : s.time.backupOsc = false)
    (due : s.time.holdoverAt + s.time.holdoverLimitS * 1000000000 ≤ s.now) :
    exec .holdoverLimit s = .next ((s.setRate 0).moveServo .free 0) :=
  if_pos ⟨holdover, by rw [crystal]; rfl, due⟩

end Sys2Proof.Machine

end

section
/-! SUPPORT. The pulses (R201, R202): the edges of PPS_IN and the two edges of PPS_OUT. -/

namespace Sys2Proof.Machine

variable {s : State}

/-- An edge far from a whole second is refused while LOCKED (R201). -/
theorem exec_ppsInEdge_refused (on : s.computeOn = true) (selected : s.time.source = 3) (locked : s.time.servo = .locked)
    (far : 100000 < edgeError s.time.ppsLastEdge s.now) :
    exec .ppsInEdge s = .next (s.mapTime fun t => { t with ppsRejected := satAdd 32 t.ppsRejected 1 }) := by
  show execPpsInEdge s = _
  simp [execPpsInEdge, on, selected, locked, far]

/-- An edge near a whole second is taken as the source's sign of life (R198, R201). -/
theorem exec_ppsInEdge_taken (on : s.computeOn = true) (selected : s.time.source = 3)
    (near : edgeError s.time.ppsLastEdge s.now ≤ 100000) :
    exec .ppsInEdge s = .next (s.mapTime fun t => { t with ppsLastEdge := s.now, lastSync := s.now }) := by
  have notFar : ¬ 100000 < edgeError s.time.ppsLastEdge s.now := Nat.not_lt.mpr near
  show execPpsInEdge s = _
  simp [execPpsInEdge, State.mapTime, on, selected, notFar]

/-- PPS_OUT rises at its crossing, and the next crossing is that after the present time (R202). -/
theorem exec_ppsOutPulse_rises (on : s.computeOn = true) (low : s.time.ppsHigh = false) (enabled : s.time.ppsEnable = true)
    (sourced : s.time.pulseOk = true) (due : s.time.ppsNext ≤ s.now) :
    exec .ppsOutPulse s = .next (s.mapTime fun t =>
      { t with ppsHigh := true, ppsRiseAt := t.ppsNext.toNat, ppsNext := t.crossing s.now }) := by
  show execPpsOutPulse s = _
  simp [execPpsOutPulse, on, low, enabled, sourced, due]

/-- PPS_OUT falls after its width (R202). -/
theorem exec_ppsOutPulse_falls (high : s.time.ppsHigh = true)
    (due : s.time.ppsRiseAt + s.time.ppsWidthMs * 1000000 ≤ s.now) :
    exec .ppsOutPulse s = .next (s.mapTime fun t => { t with ppsHigh := false }) := by
  show execPpsOutPulse s = _
  simp [execPpsOutPulse, high, due]

end Sys2Proof.Machine

end

section

open Sys2Proof.Machine Sys2Proof.Safety

/-- Settles O30, from what each event of the servo and each edge of a pulse does. That an offset is judged against the mean of
the eight that gave LOCKED is the model's choice (log entry 20). -/
theorem servoEventsComplete : Obligations.ServoEventsComplete := by
  unfold Obligations.ServoEventsComplete
  refine ⟨?far, ?near, ?loss, ?limit, ?refused, ?taken, ?rises, ?falls⟩
  case far =>
    intro offset rate s selected crystal on locked far
    have answer := exec_timeSourceMeasurement_locked (offset := offset) (rate := rate) selected crystal on locked
    rw [if_pos far] at answer
    exact .of_exec answer ⟨rfl, rfl, rfl, rfl, rfl⟩
  case near =>
    intro offset rate s domainA crystal on locked near
    have answer := exec_timeSourceMeasurement_locked (offset := offset) (rate := rate) (by simp [domainA]) crystal on locked
    have followed : (s.hearSource rate).time.source = 1 := domainA
    rw [if_neg (Int.not_lt.mpr near), State.takeOffset_domainA followed] at answer
    refine .of_exec answer ⟨rfl, locked, rfl, rfl, fun held => ?_⟩
    have again : (!s.time.everLockedA) = false := by rw [held]; rfl
    exact slewOffset_moves_le again s.time.offsetA offset (s.now - s.time.offsetAtA)
  case loss =>
    intro s locked silent
    exact .of_exec (exec_timeSourceLoss_locked locked silent) ⟨rfl, rfl, rfl, rfl⟩
  case limit =>
    intro s holdover crystal due
    exact .of_exec (exec_holdoverLimit_due holdover crystal due) ⟨rfl, rfl, rfl⟩
  case refused =>
    intro s on selected locked far
    exact exec_ppsInEdge_refused on selected locked far
  case taken =>
    intro s on selected near
    exact exec_ppsInEdge_taken on selected near
  case rises =>
    intro s on low enabled sourced due
    exact .of_exec (exec_ppsOutPulse_rises on low enabled sourced due) rfl
  case falls =>
    intro s high due
    exact exec_ppsOutPulse_falls high due

end

section
/-! SUPPORT. A cycle of the clock (R194, log entry 2): a step with nothing waiting. -/

namespace Sys2Proof.Machine

variable {s : State}

theorem step_of_pending_nil (empty : s.pending = []) : step s = .next s.tick.drainAll := by
  rw [step, empty]
  rfl

@[simp] theorem State.tick_computeOn (s : State) : s.tick.computeOn = s.computeOn := rfl

/-- A cycle leaves the reference pair's Device Time alone (R196). -/
@[simp] theorem State.tick_tRef (s : State) : s.tick.time.tRef = s.time.tRef := by simp only [State.tick]

/-- While the compute die does not run no ring's command starts (R583). -/
theorem State.drainAll_of_computeOff (off : s.computeOn = false) : s.drainAll = s := by
  rw [State.drainAll, off]
  rfl

end Sys2Proof.Machine

end

section

open Sys2Proof.Machine

/-- Settles O2, from what a step on an empty queue is and what a cycle of the clock changes. That an empty queue lets the clock
run is the model's choice (log entry 2). -/
theorem emptyQueueLetsTheClockRun : Obligations.EmptyQueueLetsTheClockRun := by
  unfold Obligations.EmptyQueueLetsTheClockRun
  refine ⟨?cycle, ?alone⟩
  case cycle =>
    intro s empty
    exact step_of_pending_nil empty
  case alone =>
    intro s empty off
    have answer : step s = .next s.tick := by
      rw [step_of_pending_nil empty, State.drainAll_of_computeOff (s.tick_computeOn.trans off)]
    exact ⟨s.tick, answer, rfl, s.tick_tRef, rfl, rfl, rfl, empty⟩

end

section
/-! SUPPORT. The copies of Device Time (R203, R204), its reference pairs (R196) and the monitors of its clocks (R210, R211). -/

namespace Sys2Proof.Machine

variable {s : State}

/-- A stamp for D7 while Backstay serves; a copy that was invalid reports that it is valid again (R203, R213). -/
theorem exec_d7TimeStamp_served (on : s.computeOn = true) (backstay : s.furled (unitId 0x05 0) = false) :
    exec .d7TimeStamp s = .next (if s.time.d7Valid then s.mapTime fun t => { t with d7Valid := true, d7Stamp := s.now }
      else (s.mapTime fun t => { t with d7Valid := true, d7Stamp := s.now }).timeChanged 1 0 1 0) := by
  show execD7TimeStamp s = _
  simp [execD7TimeStamp, on, backstay]

/-- A millisecond without a stamp makes D7's copy invalid, and the flows that need it are owed a revocation (R203, R204). -/
theorem exec_d7CopyInvalid_due (valid : s.time.d7Valid = true) (silent : s.time.d7Stamp + 1000000 ≤ s.now) :
    ∃ flows, exec .d7CopyInvalid s =
      .next (((s.mapTime fun t => { t with d7Valid := false }).timeChanged 1 1 0 0).owe 0 0x06 flows) :=
  ⟨_, if_pos ⟨valid, silent⟩⟩

/-- A stamp for D6 whose copy is valid. -/
theorem exec_d6TimeStamp_valid (on : s.computeOn = true) (valid : s.time.d6Valid = true) :
    exec .d6TimeStamp s = .next (s.mapTime fun t => { t with d6Valid := true, d6Stamp := s.now }) := by
  show execD6TimeStamp s = _
  simp [execD6TimeStamp, on, valid]

/-- Ten microseconds without a stamp make D6's copy invalid (R203). -/
theorem exec_d6CopyInvalid_due (valid : s.time.d6Valid = true) (silent : s.time.d6Stamp + 10000 ≤ s.now) :
    exec .d6CopyInvalid s = .next ((s.mapTime fun t => { t with d6Valid := false }).timeChanged 2 1 0 0) :=
  if_pos ⟨valid, silent⟩

/-- Masthead refreshes the reference pair once a second (R196). -/
theorem exec_timeReferenceRefresh_due (on : s.computeOn = true) (present : s.absent = false)
    (due : s.time.tRef + 1000000000 ≤ s.now) : exec .timeReferenceRefresh s = .next s.refreshReference := by
  show execTimeReferenceRefresh s = _
  simp [execTimeReferenceRefresh, on, present, due]

/-- A monitored clock's excursion is one event of its unit; that of the crystal puts the Heath logic on its RC fallback (R210,
R211). -/
theorem exec_clockMonitorExcursion_monitored {unit : Nat} (cause : Nat)
    (monitored : ((unit / 256 == 0x24 && unitExists unit) || unit == 0x2500) = true) :
    exec (.clockMonitorExcursion unit cause) s =
      .next ((if unit = 0x2401 then s.mapTime fun t => { t with rtcFallback := true } else s).unitEvent unit cause) :=
  if_pos monitored

/-- A unit that is neither a clock domain nor Device Time has no clock monitor (R210). -/
theorem exec_clockMonitorExcursion_unmonitored {unit : Nat} (cause : Nat) (noDomain : unit / 256 ≠ 0x24)
    (notTime : unit ≠ 0x2500) : exec (.clockMonitorExcursion unit cause) s = .next s := by
  show execClockMonitorExcursion unit cause s = _
  simp [execClockMonitorExcursion, noDomain, notTime]

end Sys2Proof.Machine

end

section

open Sys2Proof.Machine Sys2Proof.Safety

/-- Settles O31, from what each event of the copies, of the references and of the clock monitors does. -/
theorem timeCopiesComplete : Obligations.TimeCopiesComplete := by
  unfold Obligations.TimeCopiesComplete
  refine ⟨?d7Again, ?d7Returns, ?d7Invalid, ?d6Again, ?d6Invalid, ?refresh, ?crystal, ?deviceTime, ?unmonitored⟩
  case d7Again =>
    intro s on backstay valid
    rw [exec_d7TimeStamp_served on backstay, valid]
    rfl
  case d7Returns =>
    intro s on backstay invalid
    have answer := exec_d7TimeStamp_served on backstay
    rw [invalid] at answer
    exact .of_exec answer ⟨rfl, rfl, rfl⟩
  case d7Invalid =>
    intro s valid silent
    obtain ⟨flows, answer⟩ := exec_d7CopyInvalid_due valid silent
    exact .of_exec answer rfl
  case d6Again =>
    intro s on valid
    exact exec_d6TimeStamp_valid on valid
  case d6Invalid =>
    intro s valid silent
    exact .of_exec (exec_d6CopyInvalid_due valid silent) rfl
  case refresh =>
    intro s on present due
    exact .of_exec (exec_timeReferenceRefresh_due on present due) ⟨rfl, rfl⟩
  case crystal =>
    intro cause s
    exact exec_clockMonitorExcursion_monitored cause (by decide)
  case deviceTime =>
    intro cause s
    exact exec_clockMonitorExcursion_monitored cause (by decide)
  case unmonitored =>
    intro unit cause s noDomain notTime
    exact exec_clockMonitorExcursion_unmonitored cause noDomain notTime

end

section
/-! SUPPORT. CAN channels and message objects (R287-R291, R295, R315): what a channel reads after a change, what an object loses and
gains with its queue, and what each command answers. -/

namespace Sys2Proof.Machine

variable {s : State} {r : Request}

@[simp] theorem State.mapCan_canOf_self (s : State) (c : Nat) (g : CanChannel → CanChannel) :
    (s.mapCan c g).canOf c = g (s.canOf c) :=
  Table.get_modify_self ..

theorem State.mapCan_canOf_ne (s : State) {c k : Nat} (g : CanChannel → CanChannel) (other : k ≠ c) :
    (s.mapCan c g).canOf k = s.canOf k :=
  Table.get_modify_ne _ _ _ other

theorem State.mapObj_objOf_ne (s : State) {o k : Nat} (g : CanObject → CanObject) (other : k ≠ o) :
    (s.mapObj o g).objOf k = s.objOf k :=
  Table.get_modify_ne _ _ _ other

@[simp] theorem State.raise_canOf (s : State) (e : Event) (l : List Nat) (c : Nat) : (s.raise e l).canOf c = s.canOf c := rfl

/-- A channel that begins to integrate keeps its counters (R291). -/
theorem State.moveCan_integrating_canOf (s : State) (c : Nat) : (s.moveCan c .integrating).canOf c =
    { s.canOf c with state := .integrating, transceiver := transceiverOf .integrating (s.canOf c).mode } := by
  simp [State.moveCan]

/-- A channel's transition is no other channel's. -/
theorem State.moveCan_canOf_ne (s : State) {c k : Nat} (next : CanState) (other : k ≠ c) :
    (s.moveCan c next).canOf k = s.canOf k := by
  rw [State.moveCan, State.raise_canOf, State.mapCan_canOf_ne s _ other]

/-- The channel that CAN_CHANNEL_CONFIG enables: its settings are in force, and it integrates (R290, R291). -/
def State.enableCan (s : State) (r : Request) : State :=
  (s.mapCan (r.byte 0) (channelSettings r)).moveCan (r.byte 0) .integrating

theorem State.enableCan_canOf_self (s : State) (r : Request) : (s.enableCan r).canOf (r.byte 0) =
    { channelSettings r (s.canOf (r.byte 0)) with
      state := .integrating, transceiver := transceiverOf .integrating (r.byte 3) } := by
  rw [State.enableCan, State.moveCan_integrating_canOf, State.mapCan_canOf_self]
  rfl

theorem State.enableCan_canOf_ne (s : State) (r : Request) {c : Nat} (other : c ≠ r.byte 0) :
    (s.enableCan r).canOf c = s.canOf c := by
  rw [State.enableCan, State.moveCan_canOf_ne _ _ other, State.mapCan_canOf_ne s _ other]

theorem cmdCanChannelConfig_run_enables (disabled : (s.canOf (r.byte 0)).state = .disabled) (enables : r.bit 1 0 = true) :
    cmdCanChannelConfig.run r s = .done CanState.integrating.code (s.enableCan r) := by
  have state : ((s.enableCan r).canOf (r.byte 0)).state = .integrating := by rw [State.enableCan_canOf_self]
  have set : (channelSettings r (s.canOf (r.byte 0))).enable = true := enables
  rw [← state]
  simp [cmdCanChannelConfig, State.enableCan, disabled, set]

/-- CAN_OBJECT_CONFIG writes the object's settings, with the pool block found for it (R295, R298). -/
theorem cmdCanObjectConfig_run (r : Request) (s : State) : ∃ n block,
    cmdCanObjectConfig.run r s = .done n (s.mapObj (r.field 0 2) fun x => objectSettings r x block) :=
  ⟨_, _, rfl⟩

theorem cmdCanObjectAttach_run_detaches (none : r.field 2 2 = 0xFFFF) :
    cmdCanObjectAttach.run r s = .done 0 (s.detachObject (r.field 0 2)) :=
  if_pos none

theorem State.detachObject_free {o : Nat} (free : (s.objOf o).queue = none) : s.detachObject o = s := by
  rw [State.detachObject, free]

/-- An object without a queue takes the one that is named (R315). -/
theorem cmdCanObjectAttach_run_attaches (names : r.field 2 2 ≠ 0xFFFF) (free : (s.objOf (r.field 0 2)).queue = none) :
    cmdCanObjectAttach.run r s = .done 0 ((s.mapObj (r.field 0 2) fun x => { x with queue := some (r.field 2 2) }).mapQueue
      (r.field 2 2) fun x => { x with attach := .canObject (r.field 0 2) }) := by
  have run : cmdCanObjectAttach.run r s = .done 0 (((s.detachObject (r.field 0 2)).mapObj (r.field 0 2) fun x =>
      { x with queue := some (r.field 2 2) }).mapQueue (r.field 2 2) fun x => { x with attach := .canObject (r.field 0 2) }) :=
    if_neg names
  rw [run, State.detachObject_free free]

/-- A query of a channel that clears nothing changes nothing (cmd 0x0504). -/
theorem cmdCanChannelQuery_run_keeps (keeps : r.bit 1 0 = false) : cmdCanChannelQuery.run r s =
    .done (pack [(0, 1, (s.canOf (r.byte 0)).state.code),
      (1, 1, min 255 (s.canOf (r.byte 0)).tec), (2, 1, min 255 (s.canOf (r.byte 0)).rec_), (3, 1, (s.canOf (r.byte 0)).lastError),
      (4, 4, (s.canOf (r.byte 0)).errorFrames), (8, 4, (s.canOf (r.byte 0)).noMatch), (12, 4, (s.canOf (r.byte 0)).tooLong),
      (16, 2, (s.canOf (r.byte 0)).exceptions), (18, 2, (s.canOf (r.byte 0)).busOffCount),
      (20, 1, (s.canOf (r.byte 0)).transceiver.code)]) s := by
  simp only [cmdCanChannelQuery, keeps, Bool.false_eq_true, if_false]

/-- A query of an object with CLEAR sets its five counters to zero (cmd 0x0506). -/
theorem cmdCanObjectQuery_run_clears (clears : r.bit 2 0 = true) : ∃ n, cmdCanObjectQuery.run r s =
    .done n (s.mapObj (r.field 0 2) fun x =>
      { x with frames := 0, overrun := 0, failed := 0, skipped := 0, checkFails := 0 }) := by
  simp only [cmdCanObjectQuery, clears, if_true]
  exact ⟨_, rfl⟩

/-- Set a gang of CAN channels (R206). -/
def State.setCanGang (s : State) (k : Nat) (g : Gang) : State :=
  s.mapTime fun t => { t with canGangs := Table.put {} t.canGangs k g }

theorem State.setCanGang_self (s : State) (k : Nat) (g : Gang) : Table.get {} (s.setCanGang k g).time.canGangs k = g :=
  Table.get_put_self ..

theorem State.setCanGang_ne (s : State) {k j : Nat} (g : Gang) (other : j ≠ k) :
    Table.get {} (s.setCanGang k g).time.canGangs j = Table.get {} s.time.canGangs j :=
  Table.get_put_ne _ _ _ other

/-- CAN_GANG_SET starts a gang that does not run (R208). -/
theorem cmdCanGangSet_run_starts (starts : r.byte 32 = 1) (stopped : (Table.get {} s.time.canGangs (r.byte 0)).running = false) :
    cmdCanGangSet.run r s = .done ((Gang.start (gangBlock r 0) r.issuer s.now .can).first .can)
      (s.setCanGang (r.byte 0) (Gang.start (gangBlock r 0) r.issuer s.now .can)) := by
  simp [cmdCanGangSet, State.setCanGang, State.mapTime, starts, stopped]

end Sys2Proof.Machine

end

section

open Sys2Proof.Machine Sys2Proof.Safety

/-- Settles O37, from what each CAN command answers where it is clear to execute and what a channel, an object and a gang read
after it. -/
theorem canCommandsComplete : Obligations.CanCommandsComplete := by
  unfold Obligations.CanCommandsComplete
  refine ⟨?enable, ?object, ?detach, ?attach, ?channelQuery, ?recover, ?objectQuery, ?gang⟩
  case enable =>
    intro r s clear disabled enables
    exact ⟨_, Command.step_done clear (cmdCanChannelConfig_run_enables disabled enables), rfl,
      State.enableCan_canOf_self s r, rfl, fun c other => State.enableCan_canOf_ne s r other⟩
  case object =>
    intro r s clear
    obtain ⟨n, block, run⟩ := cmdCanObjectConfig_run r s
    refine ⟨n, _, Command.step_done clear run, rfl, ?direction, ?id, ?mask, ?pending, ?new, fun o other =>
      State.mapObj_objOf_ne s _ other⟩
    all_goals
      rw [State.mapObj_objOf_self]
      rfl
  case detach =>
    intro r s clear none
    exact Command.step_done clear (cmdCanObjectAttach_run_detaches none)
  case attach =>
    intro r s clear names free
    exact Command.step_done clear (cmdCanObjectAttach_run_attaches names free)
  case channelQuery =>
    intro r s clear keeps
    exact Command.step_done clear (cmdCanChannelQuery_run_keeps keeps)
  case recover =>
    intro r s clear
    exact Command.step_done clear rfl
  case objectQuery =>
    intro r s clear clears
    obtain ⟨n, run⟩ := cmdCanObjectQuery_run_clears (s := s) clears
    exact ⟨n, _, Command.step_done clear run, rfl⟩
  case gang =>
    intro r s clear starts stopped
    exact ⟨_, _, Command.step_done clear (cmdCanGangSet_run_starts starts stopped), rfl, rfl,
      State.setCanGang_self .., fun k other => State.setCanGang_ne _ _ other⟩

end

section
/-! SUPPORT. Banks and the boot record (R586-R595): what they read after a change, and what the commands and events of a bank's
write do. -/

namespace Sys2Proof.Machine

open Sys2Proof.Safety

variable {s s1 : State} {r : Request}

/-- A command that is clear to execute and refuses of itself posts its completion and does nothing else (R88). -/
theorem Command.step_refuse {c : Command} {st : Status} {n : Nat} (clear : Clear c r s) (e : c.run r s = .refuse st n)
    (k : c.spends = false := by rfl) : c.step r s = .next (s.complete r c.opcode st n) := by
  rw [Command.step_clear clear k, e]
  rfl

@[simp] theorem State.setBank_bank_self (s : State) (config b : Bool) (i : Option BankImage) :
    (s.setBank config b i).bank config b = i := by
  cases config <;> cases b <;> rfl

@[simp] theorem State.setBank_bank_other (s : State) (config b : Bool) (i : Option BankImage) :
    (s.setBank config b i).bank config (!b) = s.bank config (!b) := by
  cases config <;> cases b <;> rfl

@[simp] theorem State.setBank_record (s : State) (config b k : Bool) (i : Option BankImage) :
    (s.setBank config b i).record k = s.record k := by
  cases config <;> cases b <;> rfl

@[simp] theorem State.setBank_bankWrites (s : State) (config b : Bool) (i : Option BankImage) :
    (s.setBank config b i).boot.bankWrites = s.boot.bankWrites := by
  cases config <;> cases b <;> rfl

@[simp] theorem State.setRecord_record_self (s : State) (config : Bool) (x : BootRecord) :
    (s.setRecord config x).record config = x := by
  cases config <;> rfl

@[simp] theorem State.setRecord_bank (s : State) (config k b : Bool) (x : BootRecord) :
    (s.setRecord config x).bank k b = s.bank k b := by
  cases config <;> rfl

@[simp] theorem State.setRecord_bankWrites (s : State) (config : Bool) (x : BootRecord) :
    (s.setRecord config x).boot.bankWrites = s.boot.bankWrites := by
  cases config <;> rfl

@[simp] theorem State.raise_bank (s : State) (e : Event) (l : List Nat) (config b : Bool) :
    (s.raise e l).bank config b = s.bank config b := rfl

@[simp] theorem State.raise_record (s : State) (e : Event) (l : List Nat) (config : Bool) :
    (s.raise e l).record config = s.record config := rfl

@[simp] theorem State.opEnd_bank (s : State) (opcode : Nat) (st : Status) (config b : Bool) :
    (s.opEnd opcode st).bank config b = s.bank config b := by
  rw [State.opEnd]
  split <;> rfl

@[simp] theorem State.opEnd_record (s : State) (opcode : Nat) (st : Status) (config : Bool) :
    (s.opEnd opcode st).record config = s.record config := by
  rw [State.opEnd]
  split <;> rfl

@[simp] theorem State.opEnd_bankWrites (s : State) (opcode : Nat) (st : Status) :
    (s.opEnd opcode st).boot.bankWrites = s.boot.bankWrites := by
  rw [State.opEnd]
  split <;> rfl

/-- The write that FW_BANK_WRITE begins: of the bank not in use, with the image read (R595). -/
def State.bankWriteOf (s : State) (r : Request) (w : Nat) : BankWrite where
  config := r.byte 0 == 1
  bankB := !s.inUse (r.byte 0 == 1)
  activate := r.bit 1 0
  image := s.bankImage (r.byte 0 == 1) w

/-- A bank's write begins: the bank is empty until it ends (log entry 88). -/
def State.beginBankWrite (s : State) (x : BankWrite) : State :=
  let t := s.setBank x.config x.bankB none
  { t with boot := { t.boot with bankWrites := t.boot.bankWrites ++ [x] } }

theorem State.beginBankWrite_bank (s : State) (x : BankWrite) : (s.beginBankWrite x).bank x.config x.bankB = none :=
  State.setBank_bank_self ..

theorem State.beginBankWrite_bankWrites (s : State) (x : BankWrite) :
    (s.beginBankWrite x).boot.bankWrites = s.boot.bankWrites ++ [x] := by
  rw [State.beginBankWrite, State.setBank_bankWrites]

/-- A good image is ACCEPTED (R595). -/
theorem cmdFwBankWrite_run_accepts {w : Nat} (read : s.read r.issuer (r.field 8 8) (r.field 4 4) = (s1, .ok w))
    (good : s1.judgeImage (r.byte 0 == 1) w (r.field 4 4) = 0) :
    cmdFwBankWrite.run r s = .accepted 0 (s1.beginBankWrite (s1.bankWriteOf r w)) := by
  simp only [cmdFwBankWrite, read, good]
  rfl

/-- Another is refused, and RESULTS say what is wrong with it (R586). -/
theorem cmdFwBankWrite_run_refuses {w : Nat} (read : s.read r.issuer (r.field 8 8) (r.field 4 4) = (s1, .ok w))
    (bad : s1.judgeImage (r.byte 0 == 1) w (r.field 4 4) ≠ 0) :
    cmdFwBankWrite.run r s = .refuse .badParam (s1.judgeImage (r.byte 0 == 1) w (r.field 4 4)) := by
  simp only [cmdFwBankWrite, read]

/-- The state in which the oldest write has ended well: its image is in its bank, on trial if it was to be activated (R595). -/
def State.storeBank (s : State) (x : BankWrite) (rest : List BankWrite) : State :=
  let t := ({ s with boot := { s.boot with bankWrites := rest } } : State).setBank x.config x.bankB (some x.image)
  if x.activate then t.setRecord x.config { preferredB := x.bankB, trial := true, triesLeft := 3 } else t

theorem State.storeBank_bank (s : State) (x : BankWrite) (rest : List BankWrite) :
    (s.storeBank x rest).bank x.config x.bankB = some x.image := by
  rw [State.storeBank]
  split <;> simp

theorem State.storeBank_bank_other (s : State) (x : BankWrite) (rest : List BankWrite) :
    (s.storeBank x rest).bank x.config (!x.bankB) = s.bank x.config (!x.bankB) := by
  rw [State.storeBank]
  split
  case isTrue => exact (State.setRecord_bank ..).trans (State.setBank_bank_other ..)
  case isFalse => exact State.setBank_bank_other ..

theorem State.storeBank_bankWrites (s : State) (x : BankWrite) (rest : List BankWrite) :
    (s.storeBank x rest).boot.bankWrites = rest := by
  rw [State.storeBank]
  split <;> simp

theorem State.storeBank_record (s : State) (x : BankWrite) (rest : List BankWrite) : (s.storeBank x rest).record x.config =
    if x.activate then { preferredB := x.bankB, trial := true, triesLeft := 3 } else s.record x.config := by
  rw [State.storeBank]
  split
  case isTrue => exact State.setRecord_record_self ..
  case isFalse => exact State.setBank_record ..

/-- What FW_BANK_WRITTEN reports of a write that ended well (R595, R596). -/
def BankWrite.stored (x : BankWrite) (now : Nat) : Event :=
  { unit := 0, code := 0x0141,
    detail := pack [(0, 1, flag x.config), (1, 1, flag x.bankB), (2, 1, Status.done.code), (3, 1, flag x.activate),
      (4, 4, x.image.version), (8, 8, now)] }

/-- A write that was read back well ends with the image stored (R595). -/
theorem exec_fwBankWritten_stores {x : BankWrite} {rest : List BankWrite} (oldest : s.boot.bankWrites = x :: rest)
    (on : s.computeOn = true) (present : s.absent = false) (served : s.nvFurled = false) :
    exec (.fwBankWritten true) s = .next (((s.storeBank x rest).raise (x.stored s.now) [0]).opEnd 0x0141 .done) := by
  show execFwBankWritten true s = _
  simp [execFwBankWritten, oldest, on, present, served, State.storeBank, BankWrite.stored]

end Sys2Proof.Machine

end

section
/-! SUPPORT. Resets and power-ups (R581-R584, R600): what makes one, and what it leaves of the supply and the safe-state table. -/

namespace Sys2Proof.Machine

variable {s : State}

/-- What no change of an output reaches: the supply, and the stored safe-state table. -/
def State.undriven (s : State) : SupplyState × Table SafeEntry := (s.supply, s.load.safeTable)

@[simp] theorem State.mapLoad_undriven (s : State) (n : Nat) (g : LoadChannel → LoadChannel) :
    (s.mapLoad n g).undriven = s.undriven := rfl

@[simp] theorem State.vector_undriven (s : State) (p v : Nat) : (s.vector p v).undriven = s.undriven := rfl

@[simp] theorem State.beginPeriod_undriven (s : State) (n : Nat) : (s.beginPeriod n).undriven = s.undriven := rfl

@[simp] theorem State.setFlags_undriven (s : State) (n mask : Nat) : (s.setFlags n mask).undriven = s.undriven := by
  simp [State.setFlags, apply_ite State.undriven]

@[simp] theorem State.driveLead_undriven (s : State) (e : Nat) : (s.driveLead e).undriven = s.undriven := by
  simp [State.driveLead, apply_ite State.undriven]

@[simp] theorem State.mirror_undriven (s : State) (n : Nat) : (s.mirror n).undriven = s.undriven := by
  rw [State.mirror]
  refine State.each_keeps State.undriven (fun t m => ?_) s (outputs n)
  simp [apply_ite State.undriven]

@[simp] theorem State.redriveAll_undriven (s : State) : s.redriveAll.undriven = s.undriven := by
  refine State.each_keeps State.undriven (fun t n => ?_) s _
  rw [State.redrive, State.mirror_undriven, State.driveLead_undriven]

theorem State.clearCompute_undriven (s : State) (fromSleep : Bool) : (s.clearCompute fromSleep).undriven = s.undriven := by
  simp only [State.clearCompute, State.undriven]

/-- The board profile is sampled at power-up alone, and the safe-state table is nonvolatile (R582). -/
theorem State.clearPower_keeps (s : State) :
    s.clearPower.supply.profile48 = s.supply.profile48 ∧ s.clearPower.load.safeTable = s.load.safeTable := by
  simp only [State.clearPower, State.draw, and_self]

/-- A module reset keeps the board profile and the safe-state table (R582). -/
theorem State.moduleReset_keeps (s : State) : s.moduleReset.supply.profile48 = s.supply.profile48 ∧
    s.moduleReset.load.safeTable = s.load.safeTable := by
  obtain ⟨driven, drivenTable⟩ := Prod.mk.inj (State.redriveAll_undriven (s.clearCompute false).clearPower)
  obtain ⟨profile, table⟩ := State.clearPower_keeps (s.clearCompute false)
  obtain ⟨compute, computeTable⟩ := Prod.mk.inj (State.clearCompute_undriven s false)
  rw [State.moduleReset]
  exact ⟨by rw [driven, profile, compute], by rw [drivenTable, table, computeTable]⟩

@[simp] theorem State.heathReset_supply (s : State) : s.heathReset.supply = s.supply := rfl

@[simp] theorem State.heathReset_load (s : State) : s.heathReset.load = s.load := rfl

/-- RESET_N held low for 10 µs resets the module (R600). -/
theorem exec_resetNPulse_long {n : Nat} (powered : s.supply.unpowered = false) (started : s.boot.phase ≠ .off)
    (long : 10000 ≤ n) : exec (.resetNPulse n) s = .next s.moduleReset := by
  have notShort : ¬ n < 1000 := by omega
  show execResetNPulse n s = _
  simp [execResetNPulse, powered, started, long, notShort]

/-- VLOGIC above 4.8 V starts a TZ7 that was off (R584). -/
theorem exec_powerUp_rises {straps mv : Nat} {lost : Bool} (off : s.supply.unpowered = true ∨ s.boot.phase = .off)
    (rises : 4800 < mv) : exec (.powerUp straps mv lost) s = .next (s.powerUp straps mv lost) :=
  if_pos (by simpa [rises] using off)

/-- The strapped board profile is in force, and the safe-state table stays (R334, R582). -/
theorem State.powerUp_keeps (s : State) (straps mv : Nat) (lost : Bool) :
    (s.powerUp straps mv lost).supply.profile48 = bitOf straps 0 ∧
      (s.powerUp straps mv lost).load.safeTable = s.load.safeTable := by
  cases lost
  case false =>
    simp only [State.powerUp, Bool.false_eq_true, if_false]
    exact State.moduleReset_keeps _
  case true =>
    simp only [State.powerUp, if_true, State.heathReset_supply, State.heathReset_load]
    exact State.moduleReset_keeps _

end Sys2Proof.Machine

end

section

open Sys2Proof.Machine Sys2Proof.Safety

/-- Settles O58, from what each command of resets and banks answers, what the end of a bank's write stores, and what a power-up
keeps. That the bank is cleared when its write is accepted is the model's choice (log entry 88). -/
theorem resetsAndBanksComplete : Obligations.ResetsAndBanksComplete := by
  unfold Obligations.ResetsAndBanksComplete
  refine ⟨?moduleReset, ?computeReset, ?accepted, ?refused, ?written, ?confirm, ?pulse, ?powerUp, ?poweredUp⟩
  case moduleReset =>
    intro r s clear whole
    exact (Command.step_finish clear rfl).trans (congrArg _ (if_pos whole))
  case computeReset =>
    intro r s clear compute
    exact (Command.step_finish clear rfl).trans (congrArg _ (if_neg (by simp [compute])))
  case accepted =>
    intro r w s s1 clear read good
    exact ⟨_, Command.step_finish clear (cmdFwBankWrite_run_accepts read good),
      State.beginBankWrite_bank s1 (s1.bankWriteOf r w), rfl, State.beginBankWrite_bankWrites ..⟩
  case refused =>
    intro r w s s1 clear read bad
    exact Command.step_refuse clear (cmdFwBankWrite_run_refuses read bad)
  case written =>
    intro x rest s oldest on present served
    refine .of_exec (exec_fwBankWritten_stores oldest on present served) ⟨?bank, ?writes, ?record, ?other⟩
    case bank => rw [State.opEnd_bank, State.raise_bank, State.storeBank_bank]
    case writes => rw [State.opEnd_bankWrites, State.raise_boot, State.storeBank_bankWrites]
    case record => rw [State.opEnd_record, State.raise_record, State.storeBank_record]
    case other => rw [State.opEnd_bank, State.raise_bank, State.storeBank_bank_other]
  case confirm =>
    intro r s clear
    exact ⟨_, _, Command.step_done clear rfl, rfl, rfl, rfl, rfl, rfl, rfl⟩
  case pulse =>
    intro n s powered started long
    exact exec_resetNPulse_long powered started long
  case powerUp =>
    intro straps mv lost s off rises
    exact exec_powerUp_rises off rises
  case poweredUp =>
    intro straps mv lost s
    obtain ⟨profile, table⟩ := State.powerUp_keeps s straps mv lost
    exact ⟨rfl, rfl, profile, rfl, table⟩

end

section
/-! SUPPORT. LIN channels (R322-R330): what a channel reads after a change, what a bus error counts, and what each command and event
of a channel does. -/

namespace Sys2Proof.Machine

variable {s s1 : State} {r : Request} {c : Nat}

@[simp] theorem State.mapLin_linOf_self (s : State) (c : Nat) (g : LinChannel → LinChannel) :
    (s.mapLin c g).linOf c = g (s.linOf c) :=
  Table.get_modify_self ..

theorem State.mapLin_linOf_ne (s : State) {c k : Nat} (g : LinChannel → LinChannel) (other : k ≠ c) :
    (s.mapLin c g).linOf k = s.linOf k :=
  Table.get_modify_ne _ _ _ other

theorem State.mapLin_congr {f g : LinChannel → LinChannel} (h : f (s.linOf c) = g (s.linOf c)) :
    s.mapLin c f = s.mapLin c g := by
  rw [State.linOf] at h
  simp only [State.mapLin, Table.modify, h]

@[simp] theorem State.raise_linOf (s : State) (e : Event) (l : List Nat) (c : Nat) : (s.raise e l).linOf c = s.linOf c := rfl

theorem LinChannel.mapBuf_buf_self (x : LinChannel) (q : Nat) (g : LinBuf → LinBuf) : (x.mapBuf q g).buf q = g (x.buf q) :=
  Table.get_modify_self ..

/-- The settings that LIN_CHANNEL_CONFIG gives a channel; a change of role drops the table (log entry 28). -/
def linSettings (r : Request) (x : LinChannel) : LinChannel :=
  let drop := x.commander != r.bit 1 1
  { x with enable := r.bit 1 0, commander := r.bit 1 1, vector := r.byte 2, bitRate := r.field 4 2,
           table := if drop then [] else x.table, nextTable := if drop then none else x.nextTable,
           bufs := if drop then [] else x.bufs, running := x.running && r.bit 1 0 && !drop,
           inFrame := x.inFrame && r.bit 1 0 && !drop }

/-- The state with a channel's settings in force; a schedule that does not go on starts at entry 0 (R330). -/
def State.configureLin (s : State) (r : Request) : State :=
  let t := s.mapLin (r.byte 0) (linSettings r)
  if (t.linOf (r.byte 0)).running then t else t.startSchedule (r.byte 0)

theorem cmdLinChannelConfig_run (r : Request) (s : State) : cmdLinChannelConfig.run r s = .done 0 (s.configureLin r) := rfl

/-- A configuration changes nothing but the LIN channels. -/
theorem State.configureLin_frame (s : State) (r : Request) :
    s.configureLin r = { s with lin := (s.configureLin r).lin } := by
  rw [State.configureLin]
  split <;> rfl

/-- A configured channel has the four settings of the command (R330). -/
theorem State.configureLin_linOf_self (s : State) (r : Request) :
    ((s.configureLin r).linOf (r.byte 0)).enable = r.bit 1 0 ∧ ((s.configureLin r).linOf (r.byte 0)).commander = r.bit 1 1 ∧
      ((s.configureLin r).linOf (r.byte 0)).vector = r.byte 2 ∧ ((s.configureLin r).linOf (r.byte 0)).bitRate = r.field 4 2 := by
  rw [State.configureLin]
  split
  case isTrue => simp [linSettings]
  case isFalse => simp [linSettings, State.startSchedule]

theorem State.configureLin_linOf_ne (s : State) (r : Request) (other : c ≠ r.byte 0) :
    (s.configureLin r).linOf c = s.linOf c := by
  rw [State.configureLin]
  split
  case isTrue => rw [State.mapLin_linOf_ne s _ other]
  case isFalse => rw [State.startSchedule, State.mapLin_linOf_ne _ _ other, State.mapLin_linOf_ne s _ other]

theorem cmdLinScheduleSet_run_faults {f : XFault}
    (read : s.read r.issuer (r.field 8 8) (4 * r.byte 1) = (s1, .error f)) : cmdLinScheduleSet.run r s = .fault f s1 := by
  simp only [cmdLinScheduleSet, read]

/-- A schedule that runs keeps its table until the cycle's end (R326). -/
theorem cmdLinScheduleSet_run_waits {w : Nat} {l : List LinEntry}
    (read : s.read r.issuer (r.field 8 8) (4 * r.byte 1) = (s1, .ok w))
    (valid : readTable w (r.byte 1) (s1.linOf (r.byte 0)).commander (s1.linOf (r.byte 0)).bitRate = some l)
    (free : s1.tableConflict (r.byte 0) l = false) (running : (s1.linOf (r.byte 0)).running = true) :
    ∃ n, cmdLinScheduleSet.run r s = .done n (s1.mapLin (r.byte 0) fun x => { x with nextTable := some l }) := by
  simp only [cmdLinScheduleSet, read, valid, free, running, Bool.false_eq_true, if_false, if_true]
  exact ⟨_, rfl⟩

/-- A table that breaks a reserved flow is not installed (R326). -/
theorem cmdLinScheduleSet_run_conflicts {w : Nat} {l : List LinEntry}
    (read : s.read r.issuer (r.field 8 8) (4 * r.byte 1) = (s1, .ok w))
    (valid : readTable w (r.byte 1) (s1.linOf (r.byte 0)).commander (s1.linOf (r.byte 0)).bitRate = some l)
    (conflict : s1.tableConflict (r.byte 0) l = true) : cmdLinScheduleSet.run r s = .no .linScheduleConflict := by
  simp only [cmdLinScheduleSet, read, valid, conflict, if_true]

/-- A channel between frames goes to sleep at once (R329). -/
theorem cmdLinBusControl_run_sleeps (sleep : r.byte 1 = 0) (stopped : (s.linOf (r.byte 0)).running = false) :
    cmdLinBusControl.run r s =
      .done s.now (s.mapLin (r.byte 0) fun x => { x with asleep := true, nextTable := none, restartAt := none }) := by
  simp [cmdLinBusControl, sleep, stopped]

/-- A responder that wakes the bus has no schedule to restart (R329). -/
theorem cmdLinBusControl_run_wakes (wake : r.byte 1 = 1) (responder : (s.linOf (r.byte 0)).commander = false) :
    cmdLinBusControl.run r s =
      .done s.now (s.mapLin (r.byte 0) fun x => { x with asleep := false, sleepAfter := false, restartAt := none }) := by
  have run : cmdLinBusControl.run r s = .done s.now (s.mapLin (r.byte 0) fun x =>
      { x with asleep := false, sleepAfter := false,
               restartAt := if x.commander then some (s.now + 100250000) else none }) := if_pos wake
  rw [run, State.mapLin_congr]
  simp [responder]

/-- Without a frame in progress there is no missing response (R323). -/
theorem State.closeFrame_idle (idle : (s.linOf c).inFrame = false) : s.closeFrame c = s := by
  simp [State.closeFrame, idle]

/-- An entry's frame of which the TZ7 receives the response has begun (R324). -/
def State.awaitResponse (s : State) (c q : Nat) : State :=
  s.mapLin c fun x => { x with current := q, frameAt := s.now, inFrame := true }

theorem State.beginFrame_receives {q : Nat} (publishes : Bool) (receives : (s.linOf c).dirOf q = 2) :
    s.beginFrame c q publishes = s.awaitResponse c q := by
  simp [State.beginFrame, State.awaitResponse, receives]

/-- The next slot of a commander's channel is `entry`, at `slotAt` (R324). -/
def State.setSlot (s : State) (c entry slotAt : Nat) : State :=
  s.mapLin c fun x => { x with entry := entry, slotAt := slotAt }

section
variable (on : s.computeOn = true) (enabled : (s.linOf c).enable = true) (commands : (s.linOf c).commander = true)
  (runs : (s.linOf c).running = true) (due : (s.linOf c).slotAt ≤ s.now) (idle : (s.linOf c).inFrame = false)

include on enabled commands runs due idle

/-- A schedule that was to stop at the slot's end stops (R330). -/
theorem exec_linSlotStart_stops (stops : (s.linOf c).stopAfter = true) :
    exec (.linSlotStart c) s = .next (s.mapLin c fun x => { x with running := false }) := by
  have notEarly : ¬ s.now < (s.linOf c).slotAt := Nat.not_lt.mpr due
  show execLinSlotStart c s = _
  simp [execLinSlotStart, on, enabled, commands, runs, notEarly, stops, State.closeFrame_idle idle]

/-- A slot that is not the table's last and whose response the TZ7 receives: its frame begins, and the next slot is due when its
delay is over (R324). -/
theorem exec_linSlotStart_receives {e : LinEntry} (goesOn : (s.linOf c).stopAfter = false)
    (further : (s.linOf c).entry + 1 < (s.linOf c).table.length) (awake : (s.linOf c).sleepAfter = false)
    (sameTable : (s.linOf c).nextTable = none) (receives : (s.linOf c).dirOf (s.linOf c).entry = 2)
    (slot : (s.linOf c).table[(s.linOf c).entry]? = some e) :
    exec (.linSlotStart c) s = .next ((s.awaitResponse c (s.linOf c).entry).setSlot c ((s.linOf c).entry + 1)
      ((s.linOf c).slotAt + e.delayMs * 1000000)) := by
  have notEarly : ¬ s.now < (s.linOf c).slotAt := Nat.not_lt.mpr due
  show execLinSlotStart c s = _
  simp only [execLinSlotStart, on, enabled, commands, runs, notEarly, goesOn, awake, sameTable, State.closeFrame_idle idle,
    Bool.not_true, Bool.or_self, Bool.false_eq_true, decide_false, and_false, if_false]
  split
  case h_1 waiting => cases waiting
  case h_2 =>
    rw [State.beginFrame_receives true receives]
    refine congrArg _ (State.mapLin_congr ?_)
    simp [State.awaitResponse, further, slot]

end

/-- Evidence of a wake does nothing while the source's validation window is closed (R359). -/
theorem State.evidence_closed {w : Nat} (closed : (s.wakeOf w).windowOpen = false) : s.evidence w = s := by
  simp [State.evidence, closed]

/-- A responder that hears the header of an entry that it receives awaits the response (R324). -/
theorem exec_linHeaderReceive_receives {id q : Nat} (on : s.computeOn = true)
    (closed : (s.wakeOf (0x10 + c)).windowOpen = false) (enabled : (s.linOf c).enable = true)
    (responder : (s.linOf c).commander = false) (served : s.furled (unitId 0x11 c) = false)
    (idle : (s.linOf c).inFrame = false) (listed : (s.linOf c).table.findIdx? (fun e => e.id == id) = some q)
    (receives : (s.linOf c).dirOf q = 2) : exec (.linHeaderReceive c id) s = .next (s.awaitResponse c q) := by
  show execLinHeaderReceive c id s = _
  simp [execLinHeaderReceive, State.evidence_closed closed, on, enabled, responder, served, State.closeFrame_idle idle, listed,
    State.beginFrame_receives _ receives]

/-- What a bus error leaves of its channel: the frame is over, and the error is counted with those of its kind and with those
since the last event (R328, R337). -/
def LinChannel.countError (x : LinChannel) (kind : Nat) : LinChannel :=
  { x with
    inFrame := false
    checksum := if kind = 1 then satAdd 32 x.checksum 1 else x.checksum
    noResponse := if kind = 2 then satAdd 32 x.noResponse 1 else x.noResponse
    framing := if kind = 3 then satAdd 32 x.framing 1 else x.framing
    bitErrors := if kind = 4 then satAdd 32 x.bitErrors 1 else x.bitErrors
    errCount := x.errCount + 1 }

/-- A bus error is counted; its event is held back, or raised and the errors since the last event counted afresh (R337). -/
theorem State.linError_cases (s : State) (c q kind : Nat) :
    s.linError c q kind = s.mapLin c (·.countError kind) ∨
      ∃ e, s.linError c q kind = ((s.mapLin c (·.countError kind)).mapLin c fun x =>
        { x with errAt := s.now + 1, errCount := 0 }).raise e [s.owner kindLin c] := by
  by_cases limited : ((s.mapLin c (·.countError kind)).linOf c).errAt ≠ 0 ∧
      s.now < ((s.mapLin c (·.countError kind)).linOf c).errAt - 1 + 100000000
  case pos => exact .inl (if_pos limited)
  case neg => exact .inr ⟨_, if_neg limited⟩

/-- The channel after a bus error, but for the limit of its events. -/
theorem State.linError_linOf (s : State) (c q kind : Nat) : ∃ at_ n,
    (s.linError c q kind).linOf c = { (s.linOf c).countError kind with errAt := at_, errCount := n } := by
  obtain held | ⟨e, raised⟩ := s.linError_cases c q kind
  case inl => exact ⟨_, _, by rw [held, State.mapLin_linOf_self]⟩
  case inr => exact ⟨_, _, by rw [raised, State.raise_linOf, State.mapLin_linOf_self, State.mapLin_linOf_self]⟩

/-- A bus error changes nothing but the LIN channels and the events. -/
theorem State.linError_frame (s : State) (c q kind : Nat) :
    s.linError c q kind = { s with lin := (s.linError c q kind).lin, io := (s.linError c q kind).io } := by
  obtain held | ⟨e, raised⟩ := s.linError_cases c q kind
  case inl => rw [held]; rfl
  case inr => rw [raised]; rfl

/-- A buffer with the response of its entry, counted as an overrun where the last one was not read (R327). -/
def LinBuf.fill (b : LinBuf) (e : LinEntry) (data : List Byte) (now : Nat) : LinBuf :=
  { b with data := ofBytes data, length := e.length, time := now, new := true,
           overruns := if b.new then satAdd 16 b.overruns 1 else b.overruns }

/-- The state with a response in its entry's buffer, and the frame over (R327). -/
def State.storeResponse (s : State) (c : Nat) (e : LinEntry) (data : List Byte) : State :=
  s.mapLin c fun x => { x.mapBuf (s.linOf c).current fun b => b.fill e data s.now with inFrame := false }

theorem State.storeResponse_inFrame (s : State) (c : Nat) (e : LinEntry) (data : List Byte) :
    ((s.storeResponse c e data).linOf c).inFrame = false := by
  rw [State.storeResponse, State.mapLin_linOf_self]

theorem State.storeResponse_buf (s : State) (c : Nat) (e : LinEntry) (data : List Byte) :
    ((s.storeResponse c e data).linOf c).buf (s.linOf c).current =
      ((s.linOf c).buf (s.linOf c).current).fill e data s.now := by
  rw [State.storeResponse, State.mapLin_linOf_self]
  exact LinChannel.mapBuf_buf_self _ _ (·.fill e data s.now)

/-- The state with a response taken: stored, told by the entry's vector, and delivered to its flows (R152, R327). -/
def State.takeResponse (s : State) (c : Nat) (e : LinEntry) (data : List Byte) : State :=
  let t := s.storeResponse c e data
  (if e.int then t.vector (s.owner kindLin c) (s.linOf c).vector else t).deliver (s.linFlows c (s.linOf c).current)
    s.now s.now 1000 (unitId 0x11 c)

/-- A response of the right length that comes in time without a bus error is taken when its checksum is right, and otherwise counted
as an error (R327, R328). -/
theorem exec_linResponseReceive_inTime {e : LinEntry} {data : List Byte} (sum : Byte) (on : s.computeOn = true)
    (enabled : (s.linOf c).enable = true) (served : s.furled (unitId 0x11 c) = false) (awaited : (s.linOf c).inFrame = true)
    (entry : (s.linOf c).table[(s.linOf c).current]? = some e) (begun : (s.linOf c).frameAt ≤ s.now)
    (inTime : s.now ≤ (s.linOf c).frameAt + linTMaxNs e.length (s.linOf c).bitRate) (fits : data.length = e.length) :
    exec (.linResponseReceive c data sum 0) s = .next (if linChecksum e.enhanced e.id data = sum.toNat
      then s.takeResponse c e data else s.linError c (s.linOf c).current 1) := by
  have notEarly : ¬ s.now < (s.linOf c).frameAt := Nat.not_lt.mpr begun
  have notLate : ¬ (s.linOf c).frameAt + linTMaxNs e.length (s.linOf c).bitRate < s.now := Nat.not_lt.mpr inTime
  show execLinResponseReceive c data sum 0 s = _
  by_cases right : linChecksum e.enhanced e.id data = sum.toNat
  case pos =>
    simp [execLinResponseReceive, entry, on, enabled, served, awaited, notEarly, notLate, fits, right, State.takeResponse,
      State.storeResponse, LinBuf.fill]
  case neg => simp [execLinResponseReceive, entry, on, enabled, served, awaited, notEarly, notLate, fits, right]

/-- A response that no flow waits for changes nothing but the LIN channels and the vectors. -/
theorem State.takeResponse_frame {e : LinEntry} (data : List Byte) (alone : s.linFlows c (s.linOf c).current = []) :
    s.takeResponse c e data =
      { s with lin := (s.takeResponse c e data).lin, io := (s.takeResponse c e data).io } := by
  simp only [State.takeResponse, alone]
  split <;> rfl

theorem State.takeResponse_linOf {e : LinEntry} (data : List Byte) (alone : s.linFlows c (s.linOf c).current = []) :
    (s.takeResponse c e data).linOf c = (s.storeResponse c e data).linOf c := by
  simp only [State.takeResponse, alone]
  split <;> rfl

/-- A response that does not come within T_MAX is missing (R323). -/
theorem exec_linNoResponse_due {e : LinEntry} (on : s.computeOn = true) (awaited : (s.linOf c).inFrame = true)
    (entry : (s.linOf c).table[(s.linOf c).current]? = some e)
    (late : (s.linOf c).frameAt + linTMaxNs e.length (s.linOf c).bitRate ≤ s.now) :
    exec (.linNoResponse c) s = .next (s.linError c (s.linOf c).current 2) := by
  show execLinNoResponse c s = _
  simp [execLinNoResponse, entry, on, awaited, late]

/-- A wake signal seen between frames is reported to the channel's owner and does nothing else (R329). -/
theorem exec_linWakeSeen_idle (on : s.computeOn = true) (enabled : (s.linOf c).enable = true)
    (idle : (s.linOf c).inFrame = false) (served : s.furled (unitId 0x11 c) = false) :
    exec (.linWakeSeen c) s = .next (s.raise
      { unit := unitId 0x11 c, code := 0x0602, partition := s.owner kindLin c,
        detail := pack [(0, 1, c), (8, 8, s.now - 150000)] } [s.owner kindLin c]) := by
  show execLinWakeSeen c s = _
  simp [execLinWakeSeen, on, enabled, idle, served]

/-- The schedule restarts when the wake's time is over (R329). -/
theorem exec_linScheduleRestart_due {at_ : Nat} (restarts : (s.linOf c).restartAt = some at_) (due : at_ ≤ s.now)
    (on : s.computeOn = true) (active : s.quiescing (s.owner kindLin c) = false)
    (sameTable : (s.linOf c).nextTable = none) : exec (.linScheduleRestart c) s = .next (s.startSchedule c) := by
  show execLinScheduleRestart c s = _
  simp [execLinScheduleRestart, restarts, due, on, active, sameTable]

end Sys2Proof.Machine

end

section

open Sys2Proof.Machine Sys2Proof.Safety

/-- Settles O40, from what each LIN command answers where it is clear to execute and what each event of a channel does with it. -/
theorem linChannelsComplete : Obligations.LinChannelsComplete := by
  unfold Obligations.LinChannelsComplete
  refine ⟨?config, ?fault, ?waits, ?conflict, ?write, ?read, ?sleep, ?wake, ?stops, ?slot, ?header, ?taken, ?wrong, ?missing,
    ?wakeSeen, ?restart⟩
  case config =>
    intro r s clear
    obtain ⟨enable, commander, vector, bitRate⟩ := State.configureLin_linOf_self s r
    exact ⟨_, Command.step_done clear (cmdLinChannelConfig_run r s), State.configureLin_frame s r, enable, commander, vector,
      bitRate, fun c other => State.configureLin_linOf_ne s r other⟩
  case fault =>
    intro r s s1 f clear read
    exact Command.step_fault clear (cmdLinScheduleSet_run_faults read)
  case waits =>
    intro r s s1 w l clear read valid free running
    obtain ⟨n, run⟩ := cmdLinScheduleSet_run_waits read valid free running
    exact ⟨n, _, Command.step_done clear run, rfl⟩
  case conflict =>
    intro r s s1 w l clear read valid conflict
    exact Command.step_refuse clear (cmdLinScheduleSet_run_conflicts read valid conflict)
  case write =>
    intro r s clear
    exact Command.step_done clear rfl
  case read =>
    intro r s clear
    exact Command.step_done clear rfl
  case sleep =>
    intro r s clear sleep stopped
    exact Command.step_done clear (cmdLinBusControl_run_sleeps sleep stopped)
  case wake =>
    intro r s clear wake responder
    exact Command.step_done clear (cmdLinBusControl_run_wakes wake responder)
  case stops =>
    intro c s on enabled commands runs due idle stops
    exact exec_linSlotStart_stops on enabled commands runs due idle stops
  case slot =>
    intro c s on enabled commands runs due idle goesOn further awake sameTable receives
    have slot := List.getElem?_eq_getElem (Nat.lt_of_succ_lt further)
    refine .of_exec (exec_linSlotStart_receives on enabled commands runs due idle goesOn further awake sameTable receives slot)
      ⟨rfl, ?entry, ?current, ?inFrame, ?frameAt, fun d other => ?others⟩
    case others =>
      rw [State.setSlot, State.mapLin_linOf_ne _ _ other, State.awaitResponse, State.mapLin_linOf_ne s _ other]
    all_goals simp [State.setSlot, State.awaitResponse]
  case header =>
    intro c id q s on closed enabled responder served idle listed receives
    exact exec_linHeaderReceive_receives on closed enabled responder served idle listed receives
  case taken =>
    intro c e data sum s on enabled served awaited entry begun inTime fits right alone
    have answer := exec_linResponseReceive_inTime sum on enabled served awaited entry begun inTime fits
    rw [if_pos right] at answer
    refine .of_exec answer ⟨State.takeResponse_frame data alone, ?_⟩
    rw [State.takeResponse_linOf data alone, State.storeResponse_buf]
    exact ⟨State.storeResponse_inFrame .., rfl, rfl, rfl⟩
  case wrong =>
    intro c e data sum s on enabled served awaited entry begun inTime fits wrong
    have answer := exec_linResponseReceive_inTime sum on enabled served awaited entry begun inTime fits
    rw [if_neg wrong] at answer
    obtain ⟨at_, n, counted⟩ := State.linError_linOf s c (s.linOf c).current 1
    refine .of_exec answer ⟨State.linError_frame .., ?_⟩
    rw [counted]
    exact ⟨rfl, rfl, rfl⟩
  case missing =>
    intro c e s on awaited entry late
    obtain ⟨at_, n, counted⟩ := State.linError_linOf s c (s.linOf c).current 2
    refine .of_exec (exec_linNoResponse_due on awaited entry late) ⟨State.linError_frame .., ?_⟩
    rw [counted]
    exact ⟨rfl, rfl, rfl⟩
  case wakeSeen =>
    intro c s on enabled idle served
    exact .of_exec (exec_linWakeSeen_idle on enabled idle served) rfl
  case restart =>
    intro c at_ s restarts due on active sameTable
    exact exec_linScheduleRestart_due restarts due on active sameTable

end

section
/-! SUPPORT. Sleep and wake (R338-R365): what a wake source reads after a change, what the end of an entry reaches, and what each
command and event of an entry, of a wake and of a source does. -/

namespace Sys2Proof.Machine

open Sys2Proof.Safety

variable {s : State} {r : Request} {e : SleepEntry} {w : Nat}

/-- None of the statuses of its own stands in the way of a command that is clear to execute (R89). -/
theorem Command.checks_of_clear {c : Command} (clear : Clear c r s) : firstOf (c.checks r s) = none := by
  have inRange := Command.range_of_clear clear
  obtain ⟨-, unrefused⟩ := clear
  cases passed : c.gate r s with
  | some st => simp [Command.refusal, passed] at unrefused
  | none => rwa [Command.refusal_of_gate_none passed, inRange, Bool.not_true, firstOf_cons_false] at unrefused

@[simp] theorem State.mapWake_wakeOf_self (s : State) (w : Nat) (g : WakeSource → WakeSource) :
    (s.mapWake w g).wakeOf w = g (s.wakeOf w) :=
  Table.get_modify_self ..

theorem State.mapWake_wakeOf_ne (s : State) {v : Nat} (g : WakeSource → WakeSource) (other : v ≠ w) :
    (s.mapWake w g).wakeOf v = s.wakeOf v :=
  Table.get_modify_ne _ _ _ other

theorem State.mapWake_congr {f g : WakeSource → WakeSource} (h : f (s.wakeOf w) = g (s.wakeOf w)) :
    s.mapWake w f = s.mapWake w g := by
  rw [State.wakeOf] at h
  simp only [State.mapWake, Table.modify, h]

/-- The end of an operation reaches nothing but the command list that waits for it (R589). -/
theorem State.opEnd_frame (s : State) (opcode : Nat) (st : Status) :
    s.opEnd opcode st = { s with boot := (s.opEnd opcode st).boot } := by
  rw [State.opEnd]
  split <;> rfl

/-- Reporting the end of an entry reaches nothing but the events and a command list that waits for it (R365, R589). -/
theorem State.entryEnd_frame (s : State) (st : Status) (target phase source offCount : Nat) :
    s.entryEnd st target phase source offCount =
      { s with io := (s.entryEnd st target phase source offCount).io
               boot := (s.entryEnd st target phase source offCount).boot } := by
  rw [State.entryEnd, State.opEnd_frame]
  rfl

/-- The state with no entry in progress, nor a wake that waits for its end (R348). -/
def State.endEntry (s : State) : State := { s with sleep := { s.sleep with entry := none, pendingWake := none } }

/-- An entry that has not committed ends where it is (R346, R348). -/
theorem State.abortEntry_uncommitted (st : Status) (source : Nat) (entering : s.sleep.entry = some e)
    (uncommitted : e.committed = false) :
    s.abortEntry st source = s.endEntry.entryEnd st e.target e.phase source e.offCount := by
  simp [State.abortEntry, entering, uncommitted, State.endEntry]

/-- Its end reaches nothing but the entry, the events and a command list that waits for it. -/
theorem State.abortEntry_frame (st : Status) (source : Nat) (entering : s.sleep.entry = some e)
    (uncommitted : e.committed = false) :
    s.abortEntry st source =
      { s.endEntry with io := (s.abortEntry st source).io, boot := (s.abortEntry st source).boot } := by
  rw [State.abortEntry_uncommitted st source entering uncommitted]
  exact State.entryEnd_frame ..

end Sys2Proof.Machine

end

section
/-! SUPPORT. The sleep and wake commands (R340, R348, R357, R359, R360): their answers. -/

namespace Sys2Proof.Machine

open Sys2Proof.Safety

variable {s : State} {r : Request} {e : SleepEntry} {w : Nat}

/-- An entry that SLEEP_CANCEL is clear to cancel has not reached its commit point (R348). -/
theorem uncommitted_of_clear_sleepCancel (clear : Clear cmdSleepCancel r s) (entering : s.sleep.entry = some e) :
    e.committed = false := by
  have unrefused := Command.checks_of_clear clear
  cases committed : e.committed with
  | false => rfl
  | true => simp [cmdSleepCancel, entering, committed, firstOf] at unrefused

/-- The settings that WAKE_SOURCE_SET gives a source; it keeps its mute unless that is to be cleared (R360). -/
def wakeSettings (r : Request) (x : WakeSource) : WakeSource :=
  { x with meadow := r.bit 1 0, heath := r.bit 1 1, selective := r.bit 1 2, activeLow := r.bit 1 3, muteExempt := r.bit 1 4,
           debounce := if wakeLine (r.byte 0) then r.byte 2 else x.debounce, bitRate := r.byte 3, falseLimit := r.byte 4,
           validMs := r.field 6 2, backoffS := r.field 8 4, muted := x.muted && !r.bit 1 5,
           muteUntil := if r.bit 1 5 then 0 else x.muteUntil }

/-- WAKE_SOURCE_SET gives its source the settings. -/
theorem cmdWakeSourceSet_run (r : Request) (s : State) :
    ∃ n, cmdWakeSourceSet.run r s = .done n (s.mapWake (r.byte 0) (wakeSettings r)) := by
  refine ⟨_, congrArg (Answer.done _) (State.mapWake_congr ?_)⟩
  cases clears : r.bit 1 5 <;> simp [wakeSettings, clears]

/-- WAKE_QUERY changes nothing. -/
theorem cmdWakeQuery_run (r : Request) (s : State) : ∃ n, cmdWakeQuery.run r s = .done n s := by
  by_cases record : r.byte 0 = 0
  case neg => exact ⟨_, if_neg record⟩
  case pos =>
    cases entry : s.sleep.record[r.byte 1]? with
    | none =>
      simp only [cmdWakeQuery, record, entry, if_true]
      exact ⟨_, rfl⟩
    | some x =>
      simp only [cmdWakeQuery, record, entry, if_true]
      exact ⟨_, rfl⟩

/-- A source whose wake was genuine (R359). -/
def WakeSource.validate (x : WakeSource) : WakeSource :=
  { x with validated := true, windowOpen := false, windowAt := none, falseCount := 0 }

/-- A genuine wake before Run is entered: what it reports waits until then (R358). -/
theorem State.genuineWake_beforeRun (configurable : w < 0x40) (before : s.sleep.power ≠ .run ∨ s.boot.phase ≠ .run) :
    s.genuineWake w =
      { s.mapWake w WakeSource.validate with sleep := { (s.mapWake w WakeSource.validate).sleep with genuine := true } } := by
  have notRun : ¬ (s.sleep.power = .run ∧ s.boot.phase = .run) := fun ⟨power, phase⟩ =>
    before.elim (fun other => other power) (fun other => other phase)
  rw [State.genuineWake, if_pos configurable]
  exact if_neg notRun

end Sys2Proof.Machine

end

section

open Sys2Proof.Machine Sys2Proof.Safety

/-- Settles O42, from what each sleep command answers where it is clear to execute and what a genuine wake before Run leaves of its
source. That a wake which validates in Run reports the mutes owed at once is deduced (log entry 44). -/
theorem sleepCommandsComplete : Obligations.SleepCommandsComplete := by
  unfold Obligations.SleepCommandsComplete
  refine ⟨?enter, ?cancel, ?source, ?selective, ?query, ?validate, ?genuine, ?alarm⟩
  case enter =>
    intro r s clear
    exact ⟨_, Command.step_finish clear rfl, rfl⟩
  case cancel =>
    intro r e s clear entering
    have uncommitted := uncommitted_of_clear_sleepCancel clear entering
    have completed (n : Nat) : (s.complete r cmdSleepCancel.opcode .done n).sleep.entry = some e := by
      rw [State.complete_sleep, entering]
    refine .of_exec (Command.step_finish clear rfl) ?_
    rw [State.abortEntry_frame .sleepCancelled 0xFF (completed _) uncommitted]
    exact ⟨by rw [State.endEntry, State.complete_sleep], State.complete_sw .., State.complete_load ..⟩
  case source =>
    intro r s clear
    obtain ⟨n, run⟩ := cmdWakeSourceSet_run r s
    refine ⟨n, _, Command.step_done clear run, rfl, ?meadow, ?heath, ?limit, ?valid, ?count, ?muted, fun w other =>
      State.mapWake_wakeOf_ne s _ other⟩
    all_goals
      rw [State.mapWake_wakeOf_self]
      rfl
  case selective =>
    intro r s clear
    exact ⟨_, Command.step_done clear rfl, rfl, Table.get_put_self ..⟩
  case query =>
    intro r s clear
    obtain ⟨n, run⟩ := cmdWakeQuery_run r s
    exact ⟨n, Command.step_done clear run⟩
  case validate =>
    intro r s clear
    exact Command.step_finish clear rfl
  case genuine =>
    intro w s configurable before
    rw [State.genuineWake_beforeRun configurable before]
    exact ⟨State.mapWake_wakeOf_self .., rfl, fun v other => State.mapWake_wakeOf_ne s _ other⟩
  case alarm =>
    intro r s clear none
    refine Command.step_done clear ?_
    simp [cmdRtcAlarmSet, none]

end

section
/-! SUPPORT. The events of sleep entries and of wakes (R341-R347, R349-R360): one lemma for each outcome of a row. -/

namespace Sys2Proof.Machine

variable {s : State} {e : SleepEntry} {w : Nat}

/-- The state that an entry into Idle ends in when no trigger has met it (R341). -/
def State.enterIdle (s : State) : State :=
  let t := ({ s with sleep := { s.sleep with entry := none } } : State).entryEnd .done 1 0 0xFF 0
  { t with sleep := { t.sleep with power := .idle } }

theorem State.enterIdle_frame (s : State) : s.enterIdle =
    { s with sleep := { s.sleep with entry := none, power := .idle }, io := s.enterIdle.io, boot := s.enterIdle.boot } := by
  rw [State.enterIdle, State.entryEnd_frame]

/-- An entry into Idle that no trigger has met ends in Idle (R341). -/
theorem exec_sleepEntryPhase_idle (entering : s.sleep.entry = some e) (idle : e.target = 1)
    (untriggered : s.sleep.pendingWake = none) : exec .sleepEntryPhase s = .next s.enterIdle := by
  show execSleepEntryPhase s = _
  simp [execSleepEntryPhase, entering, idle, untriggered, State.enterIdle]

/-- After the commit point the last phase puts the TZ7 into Heath (R344). -/
theorem exec_sleepEntryPhase_heath (entering : s.sleep.entry = some e) (heath : e.target = 3) (last : e.phase = 3) :
    exec .sleepEntryPhase s =
      .next { s with sleep := { s.sleep with entry := none, power := .heath, unpoweredAt := s.now } } := by
  show execSleepEntryPhase s = _
  simp [execSleepEntryPhase, entering, heath, last]

/-- Phase 2 lasts while an output has not gone quiet (R344). -/
theorem exec_sleepEntryPhase_waits (entering : s.sleep.entry = some e) (meadow : e.target = 2) (off : e.phase = 2)
    (loud : s.outputsQuiet e = false) : exec .sleepEntryPhase s = .next s := by
  show execSleepEntryPhase s = _
  simp [execSleepEntryPhase, entering, meadow, off, loud]

/-- A wake that came late starts the compute die once that has been unpowered for 1 ms (R347). -/
theorem exec_sleepEntryPhase_late (ended : s.sleep.entry = none) (late : s.sleep.pendingWake = some w)
    (meadow : s.sleep.power = .meadow) : exec .sleepEntryPhase s =
      .next (if s.sleep.unpoweredAt + 1000000 ≤ s.now
        then ({ s with sleep := { s.sleep with pendingWake := none } } : State).startFromSleep else s) := by
  show execSleepEntryPhase s = _
  by_cases due : s.sleep.unpoweredAt + 1000000 ≤ s.now <;> simp [execSleepEntryPhase, ended, late, meadow, due]

/-- A wake during an entry into Meadow or Heath that has not committed aborts it (R346). -/
theorem State.latchWake_aborts (detail : Nat) (entering : s.sleep.entry = some e) (deep : e.target ≠ 1)
    (uncommitted : e.committed = false) :
    s.latchWake w detail = (s.openWindow w).abortEntry .sleepAbortedWake w := by
  simp [State.latchWake, entering, deep, uncommitted]

/-- In Run a wake is nothing, unless the TZ7 is still waking (R354). -/
theorem State.latchWake_run (detail : Nat) (ended : s.sleep.entry = none) (running : s.sleep.power = .run)
    (awake : s.waking = false) : s.latchWake w detail = s := by
  simp [State.latchWake, ended, running, awake]

/-- A wake that counts, of a source that is no CAN channel, is latched (R356). -/
theorem exec_wakeLatch_counts (d : Nat) (powered : s.supply.unpowered = false) (counts : s.mayWake w = true)
    (notCan : 0x0B < w) : exec (.wakeLatch w d) s = .next (s.latchWake w 0) := by
  have notCan : ¬ w ≤ 0x0B := Nat.not_le.mpr notCan
  show execWakeLatch w d s = _
  simp [execWakeLatch, powered, counts, notCan]

/-- A wake that does not count does nothing (R338). -/
theorem exec_wakeLatch_unwatched (d : Nat) (uncounted : s.mayWake w = false) : exec (.wakeLatch w d) s = .next s := by
  show execWakeLatch w d s = _
  simp [execWakeLatch, uncounted]

/-- In Meadow a frame with an error counts up, and below the limit it wakes nothing (R349). -/
theorem exec_selectiveWakeDecoderFrame_error {c : Nat} (f : CanFrame) (powered : s.supply.unpowered = false) (can : c ≤ 11)
    (selective : (s.wakeOf c).selective = true) (ended : s.sleep.entry = none) (meadow : s.sleep.power = .meadow)
    (watched : s.watched c 2 = true) (below : (s.wakeOf c).errorCount < 31) :
    exec (.selectiveWakeDecoderFrame c false f) s =
      .next (s.mapWake c fun x => { x with errorCount := x.errorCount + 1 }) := by
  have notLimit : ¬ 31 ≤ (s.wakeOf c).errorCount := Nat.not_le.mpr below
  have notOther : ¬ 11 < c := Nat.not_lt.mpr can
  show execSelectiveWakeDecoderFrame c false f s = _
  simp only [execSelectiveWakeDecoderFrame, Bool.false_eq_true, false_and, if_false, powered, notOther, selective, ended, meadow,
    watched, notLimit, decide_false, beq_self_eq_true, Bool.not_true, Bool.not_false, Bool.or_self, if_true]
  exact congrArg _ (State.mapWake_congr (by rw [if_neg notLimit]))

/-- The alarm does nothing before its instant (R354). -/
theorem exec_rtcAlarm_early (early : s.now < s.sleep.alarm) : exec .rtcAlarm s = .next s :=
  if_pos (.inr (.inl early))

/-- In Run an alarm that is due is cleared and has no other effect (R354). -/
theorem exec_rtcAlarm_run (set : s.sleep.alarm ≠ 0) (due : s.sleep.alarm ≤ s.now) (powered : s.supply.unpowered = false)
    (ended : s.sleep.entry = none) (running : s.sleep.power = .run) (awake : s.waking = false) :
    exec .rtcAlarm s = .next { s with sleep := { s.sleep with alarm := 0 } } := by
  have fires : ¬ (s.sleep.alarm = 0 ∨ s.now < s.sleep.alarm ∨ s.supply.unpowered = true) := by
    simp [set, due, powered]
  exact (if_neg fires).trans (congrArg _ (State.latchWake_run 0 ended running awake))

/-- Work for a core ends Idle (R342). -/
theorem exec_idleExit_work (source : Nat) (idle : s.sleep.power = .idle) :
    exec (.idleExit 0 source) s = .next (s.leaveIdle 0x70) := by
  show execIdleExit 0 source s = _
  simp [execIdleExit, idle]

/-- A source of which another wake was false (R359). -/
def WakeSource.countFalse (x : WakeSource) : WakeSource :=
  { x with windowOpen := false, windowAt := none, falseCount := x.falseCount + 1 }

/-- A false wake below the source's limit is counted and does not mute it (R359, R360). -/
theorem State.falseWake_below (below : (s.wakeOf w).falseCount + 1 < (s.wakeOf w).falseLimit) : s.falseWake w =
    { s.mapWake w WakeSource.countFalse with
      sleep := { (s.mapWake w WakeSource.countFalse).sleep with falseSince := satAdd 16 s.sleep.falseSince 1 } } := by
  have keptOn : ¬ (s.wakeOf w).falseLimit ≤ (s.wakeOf w).falseCount + 1 := Nat.not_le.mpr below
  rw [State.falseWake, State.mapWake_congr (g := WakeSource.countFalse) (if_neg fun reached => keptOn reached.1)]
  rfl

/-- A window that closes without evidence makes the wake false (R359). -/
theorem exec_wakeWindowExpiry_closes {t : Nat} (source : wakeSource w = true) (closes : (s.wakeOf w).windowAt = some t)
    (opened : (s.wakeOf w).windowOpen = true) (due : t ≤ s.now) :
    exec (.wakeWindowExpiry w) s = .next (s.falseWake w) := by
  show execWakeWindowExpiry w s = _
  simp [execWakeWindowExpiry, source, closes, opened, due]

/-- A mute ends at its time (R360). -/
theorem exec_wakeMuteExpiry_due (source : wakeSource w = true) (muted : (s.wakeOf w).muted = true)
    (due : (s.wakeOf w).muteUntil ≤ s.now) :
    exec (.wakeMuteExpiry w) s = .next (s.mapWake w fun x => { x with muted := false, muteUntil := 0 }) :=
  if_pos ⟨source, muted, due⟩

end Sys2Proof.Machine

end

section

open Sys2Proof.Machine Sys2Proof.Safety

/-- Settles O43, from what each phase of an entry, each wake and each expiry of a source does. That a wake opens its
window also where it aborts an entry is the model's choice (log entry 96). -/
theorem wakesComplete : Obligations.WakesComplete := by
  unfold Obligations.WakesComplete
  refine ⟨?idle, ?heath, ?loud, ?early, ?late, ?aborts, ?aborted, ?unwatched, ?decoder, ?alarmEarly, ?alarm, ?work, ?window,
    ?mute⟩
  case idle =>
    intro e s entering idle untriggered
    refine .of_exec (exec_sleepEntryPhase_idle entering idle untriggered) ?_
    rw [State.enterIdle_frame]
    exact ⟨rfl, rfl, rfl, rfl⟩
  case heath =>
    intro e s entering heath last
    exact exec_sleepEntryPhase_heath entering heath last
  case loud =>
    intro e s entering meadow off loud
    exact exec_sleepEntryPhase_waits entering meadow off loud
  case early =>
    intro w s ended late meadow early
    rw [exec_sleepEntryPhase_late ended late meadow, if_neg (Nat.not_le.mpr early)]
  case late =>
    intro w s ended late meadow due
    rw [exec_sleepEntryPhase_late ended late meadow, if_pos due]
  case aborts =>
    intro w d e s powered counts notCan entering deep uncommitted
    rw [exec_wakeLatch_counts d powered counts notCan, State.latchWake_aborts 0 entering deep uncommitted]
  case aborted =>
    intro st w e s entering uncommitted
    rw [State.abortEntry_frame st w entering uncommitted]
    exact ⟨rfl, rfl⟩
  case unwatched =>
    intro w d s uncounted
    exact exec_wakeLatch_unwatched d uncounted
  case decoder =>
    intro c f s powered can selective ended meadow watched below
    exact exec_selectiveWakeDecoderFrame_error f powered can selective ended meadow watched below
  case alarmEarly =>
    intro s _ early
    exact exec_rtcAlarm_early early
  case alarm =>
    intro s set due powered ended running awake
    exact exec_rtcAlarm_run set due powered ended running awake
  case work =>
    intro source s idle
    exact .of_exec (exec_idleExit_work source idle) rfl
  case window =>
    intro w t s source closes opened due below
    refine .of_exec (exec_wakeWindowExpiry_closes source closes opened due) ?_
    rw [State.falseWake_below below]
    exact ⟨rfl, rfl, State.mapWake_wakeOf_self ..⟩
  case mute =>
    intro w s source muted due
    exact exec_wakeMuteExpiry_due source muted due

end

section
/-! SUPPORT. A step and what `Kept` names: memory's form, the parts in their number, and the ageing record. -/

namespace Sys2Proof.Machine

variable {s t : State}

/-- What a row answers keeps all that `Kept` names, from a state on in which at most the life cycle differs (R496). -/
theorem exec_kept {i : Instr} (e : exec i s = .next t) : ∃ n, Kept (s.inLife n) t := by
  by_cases life : ∃ b, i = .lifecycleDone b
  · obtain ⟨b, rfl⟩ := life
    obtain ⟨n, -, keeps⟩ := execLifecycleDone_keeps s b
    exact ⟨n, keeps t e⟩
  · exact ⟨s.lifecycle, exec_keeps (fun b eq => life ⟨b, eq⟩) (.refl s) t e⟩

/-- A step is a row on the rest of the queue, or a cycle of the clock (log entry 2): besides the queue and the life cycle it keeps
all that `Kept` names. -/
theorem step_kept (e : step s = .next t) : ∃ rest n, Kept (State.inLife { s with pending := rest } n) t := by
  unfold step at e
  split at e
  case h_1 =>
    cases e
    exact ⟨s.pending, s.lifecycle, State.kept_idle (.refl s)⟩
  case h_2 c rest _ => exact ⟨rest, exec_kept e⟩

end Sys2Proof.Machine

end

section

open Sys2Proof.Machine Sys2Proof.Safety

/-- Settles O5, from what every row and the idle clock keep: the parts of a state do not depend on its queue or its life cycle. -/
theorem partsStayInNumber : Obligations.PartsStayInNumber := by
  unfold Obligations.PartsStayInNumber
  intro s t parts e
  obtain ⟨_, _, kept⟩ := step_kept e
  exact kept.shape parts

end

section
/-! SUPPORT. A load channel after a change of one, and what driving an output leaves as it was (R369, R374). -/

namespace Sys2Proof.Machine

open Sys2Proof.Safety

variable {s : State} {n : Nat}

theorem nth_setAt_self {α : Type} (d v : α) {l : List α} {i : Nat} (inside : i < l.length) : nth d (setAt l i v) i = v := by
  induction l generalizing i with
  | nil => simp at inside
  | cons x l ih =>
    cases i with
    | zero => rfl
    | succ i => exact ih (Nat.lt_of_succ_lt_succ inside)

theorem nth_setAt_ne {α : Type} (d v : α) (l : List α) {i j : Nat} (other : j ≠ i) : nth d (setAt l i v) j = nth d l j := by
  induction l generalizing i j with
  | nil => rfl
  | cons x l ih =>
    cases i with
    | zero => cases j with
      | zero => exact absurd rfl other
      | succ j => rfl
    | succ i => cases j with
      | zero => rfl
      | succ j => exact ih fun same => other (congrArg Nat.succ same)

theorem setAt_of_length_le {α : Type} (v : α) {l : List α} {i : Nat} (beyond : l.length ≤ i) : setAt l i v = l := by
  induction l generalizing i with
  | nil => rfl
  | cons x l ih =>
    cases i with
    | zero => simp at beyond
    | succ i => exact congrArg (x :: ·) (ih (Nat.le_of_succ_le_succ beyond))

theorem State.mapLoad_shaped (parts : Shaped s) (n : Nat) (g : LoadChannel → LoadChannel) : Shaped (s.mapLoad n g) :=
  (State.kept_mapLoad (.refl s)).shape parts

theorem State.mapLoad_loadOf_self (parts : Shaped s) (g : LoadChannel → LoadChannel) (channel : n < 48) :
    (s.mapLoad n g).loadOf n = g (s.loadOf n) := by
  obtain ⟨count, -⟩ := parts
  exact nth_setAt_self _ _ (count ▸ channel)

/-- What a change of one channel does not reach in it, it does not reach in any. -/
theorem State.mapLoad_loadOf_read {β : Type} (read : LoadChannel → β) {g : LoadChannel → LoadChannel}
    (unread : read (g (s.loadOf n)) = read (s.loadOf n)) (m : Nat) : read ((s.mapLoad n g).loadOf m) = read (s.loadOf m) := by
  by_cases same : m = n
  case pos =>
    subst same
    by_cases inside : m < s.load.channels.length
    · rw [State.loadOf, State.mapLoad, nth_setAt_self _ _ inside, unread]
    · rw [State.loadOf, State.mapLoad, setAt_of_length_le _ (Nat.le_of_not_lt inside), State.loadOf]
  case neg => rw [State.loadOf, State.mapLoad, nth_setAt_ne _ _ _ same, State.loadOf]

/-- A channel but for its output: without what is applied, its supply state and its sticky flags. -/
def LoadChannel.settings (c : LoadChannel) : LoadChannel :=
  { c with appOn := false, appBridge := 0, appDuty := 0, appPeriod := 0, appPhase := 0, periodAt := 0, reversalUntil := 0,
           supplyOff := false, capped := false, flags := 0 }

/-- What driving an output does not reach: the settings of every channel, and all but the load channels and the interface. Those
two are taken from another state `a`. -/
def State.beside (s a : State) : (Nat → LoadChannel) × State :=
  (fun m => (s.loadOf m).settings, { s with load := a.load, io := a.io })

theorem State.mapLoad_beside (s a : State) (n : Nat) {g : LoadChannel → LoadChannel}
    (same : ∀ c, (g c).settings = c.settings := by exact fun _ => rfl) : (s.mapLoad n g).beside a = s.beside a :=
  Prod.ext (funext fun m => State.mapLoad_loadOf_read LoadChannel.settings (same _) m) rfl

theorem State.ite_beside {a x y : State} {c : Prop} [Decidable c] (hx : x.beside a = s.beside a) (hy : y.beside a = s.beside a) :
    (if c then x else y).beside a = s.beside a := by
  split
  · exact hx
  · exact hy

@[simp] theorem State.vector_beside (s a : State) (p v : Nat) : (s.vector p v).beside a = s.beside a := rfl

@[simp] theorem State.setFlags_beside (s a : State) (n mask : Nat) : (s.setFlags n mask).beside a = s.beside a := by
  simp only [State.setFlags, apply_ite (State.beside · a), State.vector_beside, ite_self]
  exact State.mapLoad_beside s a n

@[simp] theorem State.beginPeriod_beside (s a : State) (n : Nat) : (s.beginPeriod n).beside a = s.beside a :=
  State.mapLoad_beside s a n

@[simp] theorem State.driveLead_beside (s a : State) (e : Nat) : (s.driveLead e).beside a = s.beside a := by
  unfold State.driveLead
  exact State.ite_beside (State.mapLoad_beside ..) <| State.ite_beside (State.mapLoad_beside ..) <|
    State.ite_beside (State.mapLoad_beside ..) <| State.ite_beside (State.mapLoad_beside ..) <|
    State.ite_beside rfl <| (State.mapLoad_beside ..).trans (State.beginPeriod_beside s a e)

@[simp] theorem State.mirror_beside (s a : State) (n : Nat) : (s.mirror n).beside a = s.beside a := by
  rw [State.mirror]
  refine State.each_keeps (State.beside · a) (fun t m => ?_) s (outputs n)
  simp only [apply_ite (State.beside · a), State.setFlags_beside, ite_self]
  exact State.mapLoad_beside t a m

@[simp] theorem State.redrive_beside (s a : State) (n : Nat) : (s.redrive n).beside a = s.beside a := by
  rw [State.redrive, State.mirror_beside, State.driveLead_beside]

/-- Driving an output reaches nothing but the load channels and the interface. -/
theorem State.redrive_frame (s : State) (n : Nat) :
    s.redrive n = { s with load := (s.redrive n).load, io := (s.redrive n).io } :=
  (Prod.mk.inj (State.redrive_beside s (s.redrive n) n)).2

/-- No channel's settings change when an output is driven. -/
theorem State.redrive_settings (s : State) (n m : Nat) : ((s.redrive n).loadOf m).settings = (s.loadOf m).settings :=
  congrFun (Prod.mk.inj (State.redrive_beside s s n)).1 m

end Sys2Proof.Machine

end

section
/-! SUPPORT. A LOAD_SET item on a high-side channel (R371, R374, R388). -/

namespace Sys2Proof.Machine

open Sys2Proof.Safety

variable {s : State} {n : Nat}

theorem outputs_of_highSide (highSide : n < 40) : outputs n = [n] := if_pos highSide

@[simp] theorem State.each_singleton {α : Type} (s : State) (x : α) (f : State → α → State) : s.each [x] f = f s x := rfl

/-- Where a running check pulses the output, an item ends it (R390). -/
def State.unpulsed (s : State) (n : Nat) : State := if (s.loadOf n).pulsing then s.endDiag n .diagAborted else s

theorem State.unpulsed_shaped (parts : Shaped s) (n : Nat) : Shaped (s.unpulsed n) :=
  (Kept.ite (State.kept_endDiag (.refl s)) (.refl s)).shape parts

/-- CLEAR of an item clears the latch and the retry history (R388). -/
def State.unlatched (s : State) (n v : Nat) : State := if bitOf v 30 then s.clearLatch n else s

theorem State.unlatched_shaped (parts : Shaped s) (n v : Nat) : Shaped (s.unlatched n v) :=
  (Kept.ite (State.kept_clearLatch (.refl s)) (.refl s)).shape parts

theorem State.unlatched_loadOf_self (parts : Shaped s) {v : Nat} (highSide : n < 40) (clears : bitOf v 30 = true) :
    (s.unlatched n v).loadOf n = { s.loadOf n with latched := false, restarts := [] } := by
  rw [State.unlatched, if_pos clears, State.clearLatch, outputs_of_highSide highSide, State.each_singleton,
    State.mapLoad_loadOf_self parts _ (by omega)]

/-- An item takes its channel back from a safe state, a hold window and a pending restart (R388, R392, R394): `off` says that it
switches the channel off, `dip` that a supply condition still keeps the channel shed (R407). -/
def LoadChannel.reclaim (c : LoadChannel) (off dip : Bool) : LoadChannel :=
  { c with safe := false, forced := none, held := false, reclaimed := true, tripped := c.tripped && (c.latched || !off),
           shed := if c.shed = .untilItem ∧ ¬ dip then .none else c.shed }

/-- A channel with the value of an item recorded (R371). -/
def LoadChannel.record (c : LoadChannel) (v : Nat) : LoadChannel :=
  { c with on := bitOf v 31, bridge := bitsOf v 29 27, duty := bitsOf v 11 0 }

/-- What an item does with a high-side channel before it drives the output, in its order. -/
theorem State.loadItem_of_highSide (s : State) (v : Nat) (highSide : n < 40) : ∃ off dip, s.loadItem n v =
    ((((s.unpulsed n).unlatched n v).mapLoad n fun c => c.reclaim off dip).mapLoad n fun c => c.record v).redrive n := by
  rw [State.loadItem, outputs_of_highSide highSide]
  exact ⟨_, _, rfl⟩

/-- What a high-side channel reads after an item, but for its output. -/
theorem State.loadItem_settings (parts : Shaped s) (v : Nat) (highSide : n < 40) : ∃ off dip,
    ((s.loadItem n v).loadOf n).settings =
      (((((s.unpulsed n).unlatched n v).loadOf n).reclaim off dip).record v).settings := by
  obtain ⟨off, dip, item⟩ := State.loadItem_of_highSide s v highSide
  have ready := State.unlatched_shaped (State.unpulsed_shaped parts n) n v
  have channel : n < 48 := by omega
  refine ⟨off, dip, ?_⟩
  rw [item, State.redrive_settings, State.mapLoad_loadOf_self (State.mapLoad_shaped ready n _) _ channel,
    State.mapLoad_loadOf_self ready _ channel]

/-- An item is recorded, takes the channel back, and clears its latch where it says so (R371, R388, R394). -/
theorem State.loadItem_loadOf_self (parts : Shaped s) (v : Nat) (highSide : n < 40) :
    ((s.loadItem n v).loadOf n).on = bitOf v 31 ∧ ((s.loadItem n v).loadOf n).duty = bitsOf v 11 0 ∧
    ((s.loadItem n v).loadOf n).safe = false ∧ ((s.loadItem n v).loadOf n).held = false ∧
    ((s.loadItem n v).loadOf n).reclaimed = true ∧
    (bitOf v 30 = true → ((s.loadItem n v).loadOf n).latched = false ∧ ((s.loadItem n v).loadOf n).restarts = []) := by
  obtain ⟨off, dip, settings⟩ := State.loadItem_settings parts v highSide
  refine ⟨congrArg LoadChannel.on settings, congrArg LoadChannel.duty settings, congrArg LoadChannel.safe settings,
    congrArg LoadChannel.held settings, congrArg LoadChannel.reclaimed settings, fun clears => ?_⟩
  rw [State.unlatched_loadOf_self (State.unpulsed_shaped parts n) highSide clears] at settings
  exact ⟨congrArg LoadChannel.latched settings, congrArg LoadChannel.restarts settings⟩

end Sys2Proof.Machine

end

section
/-! SUPPORT. The answers of the load commands (cmd 0x0701 to 0x0706) and of a direct write (R370, R375). -/

namespace Sys2Proof.Machine

open Sys2Proof.Safety

variable {s : State} {r : Request}

/-- LOAD_CHANNEL_CONFIG changes its channel's settings and drives the output (cmd 0x0701). -/
theorem cmdLoadChannelConfig_run (r : Request) (s : State) : ∃ g : LoadChannel → LoadChannel,
    cmdLoadChannelConfig.run r s = .done 0 ((s.mapLoad (r.field 0 2) g).redrive (r.field 0 2)) ∧
    ∀ c, (g c).vector = r.byte 3 ∧ (g c).retryMax = r.byte 6 ∧ (g c).restartAuto = r.bit 2 0 ∧ (g c).retryWindow = r.field 8 2 ∧
      (g c).duty = c.duty :=
  ⟨_, rfl, fun _ => ⟨rfl, rfl, rfl, rfl, rfl⟩⟩

theorem channel_of_clear_loadChannelConfig (clear : Clear cmdLoadChannelConfig r s) : r.field 0 2 < 48 := by
  have inRange := Command.range_of_clear clear
  simp only [cmdLoadChannelConfig, Bool.and_eq_true, decide_eq_true_eq] at inRange
  omega

theorem channel_of_clear_loadMeasureSet (clear : Clear cmdLoadMeasureSet r s) : r.field 0 2 < 48 := by
  have inRange := Command.range_of_clear clear
  simp only [cmdLoadMeasureSet, Bool.and_eq_true, decide_eq_true_eq] at inRange
  exact inRange.1

/-- A LOAD_SET item that its flows' buckets take is applied (R175, R374). -/
theorem cmdLoadSet_run_applies (conforms : s.conforms (s.loadFlows (r.field 0 2) 1) 1 = true) : cmdLoadSet.run r s =
    .done ((s.applyItem (r.field 0 2) (r.field 4 4) 1 (s.loadFlows (r.field 0 2) 1)).loadState (r.field 0 2))
      (s.applyItem (r.field 0 2) (r.field 4 4) 1 (s.loadFlows (r.field 0 2) 1)) :=
  if_pos conforms

/-- One that they do not take waits; what has waited before is not counted again (R176). -/
theorem cmdLoadSet_run_waits (resumed : s.resumed r = true)
    (exceeds : s.conforms (s.loadFlows (r.field 0 2) 1) 1 = false) : cmdLoadSet.run r s = .wait s := by
  simp [cmdLoadSet, exceeds, resumed]

/-- The block of a channel of another partition ignores writes (R370). -/
theorem exec_loadSetDirectWrite_others {p n : Nat} (v : Word) (on : s.windowOn p = true) (others : s.owner kindLoad n ≠ p) :
    exec (.loadSetDirectWrite p n v) s = .next s := by
  show execLoadSetDirectWrite p n v s = _
  simp [execLoadSetDirectWrite, State.directSet, on, others]

/-- The owner's write of a value that its channel takes is an item (R371, R375). -/
theorem exec_loadSetDirectWrite_applies {p n : Nat} {v : Word} (on : s.windowOn p = true)
    (windows : s.has p .directWindows = true) (control : s.has p .loadChannelControl = true) (channel : n < 48)
    (own : s.owner kindLoad n = p) (active : s.quiescing p = false) (leads : oddLeg n = false)
    (takes : loadValueOk n v.toNat = true) (sails : s.cpu.masthead.hoveTo = false) (noHold : s.load.holdOpen = false)
    (served : s.loadFurled n = false) (conforms : s.conforms (s.loadFlows n 0) 1 = true) :
    exec (.loadSetDirectWrite p n v) s = .next (s.applyItem n v.toNat 0 (s.loadFlows n 0)) := by
  show execLoadSetDirectWrite p n v s = _
  simp [execLoadSetDirectWrite, State.directSet, on, windows, control, channel, own, active, leads, takes, sails, noHold, served,
    conforms]

/-- A query that clears nothing changes nothing (cmd 0x0704). -/
theorem cmdLoadQuery_run_keeps (keeps : r.bit 2 0 = false) : ∃ n, cmdLoadQuery.run r s = .done n s := by
  simp only [cmdLoadQuery, keeps, Bool.false_eq_true, if_false]
  exact ⟨_, rfl⟩

/-- A query with CLEAR sets the two counters to zero (cmd 0x0704). -/
theorem cmdLoadQuery_run_clears (clears : r.bit 2 0 = true) : ∃ n,
    cmdLoadQuery.run r s = .done n (s.mapLoad (r.field 0 2) fun c => { c with trips := 0, dropped := 0 }) := by
  simp only [cmdLoadQuery, clears, if_true]
  exact ⟨_, rfl⟩

/-- Set a PWM gang (R206). -/
def State.setPwmGang (s : State) (k : Nat) (g : Gang) : State :=
  s.mapTime fun t => { t with pwmGangs := Table.put {} t.pwmGangs k g }

theorem State.setPwmGang_self (s : State) (k : Nat) (g : Gang) : Table.get {} (s.setPwmGang k g).time.pwmGangs k = g :=
  Table.get_put_self ..

theorem State.setPwmGang_ne (s : State) {k j : Nat} (g : Gang) (other : j ≠ k) :
    Table.get {} (s.setPwmGang k g).time.pwmGangs j = Table.get {} s.time.pwmGangs j :=
  Table.get_put_ne _ _ _ other

/-- LOAD_GANG_SET with OP 0 stops a gang (R208). -/
theorem cmdLoadGangSet_run_stops (stops : r.byte 32 = 0) :
    cmdLoadGangSet.run r s = .done 0 (s.setPwmGang (r.byte 0) {}) := by
  simp [cmdLoadGangSet, State.setPwmGang, State.mapTime, stops]

/-- Stopping the measurement of a channel that has none leaves it without one (R380). -/
theorem cmdLoadMeasureSet_run_stops (stops : r.field 2 2 = 0xFFFF) (idle : (s.loadOf (r.field 0 2)).measure = none) :
    cmdLoadMeasureSet.run r s = .done 0 (s.mapLoad (r.field 0 2) fun c => { c with measure := none }) := by
  simp [cmdLoadMeasureSet, stops, idle]

/-- A channel without a measurement takes the one that is asked for, and its queue attaches to the channel (R380). -/
theorem cmdLoadMeasureSet_run_starts (names : r.field 2 2 ≠ 0xFFFF) (idle : (s.loadOf (r.field 0 2)).measure = none) :
    ∃ first, ∃ m : Measure, (m.queue = r.field 2 2 ∧ m.sync = r.bit 4 0 ∧ m.waiting = []) ∧
      cmdLoadMeasureSet.run r s = .done first
        ((s.mapLoad (r.field 0 2) fun c => { c with measure := some m }).mapQueue (r.field 2 2) fun x =>
          { x with attach := .load (r.field 0 2) }) := by
  simp only [cmdLoadMeasureSet, if_neg names, idle]
  exact ⟨_, _, ⟨rfl, rfl, rfl⟩, rfl⟩

end Sys2Proof.Machine

end

section

open Sys2Proof.Machine Sys2Proof.Safety

/-- Settles O44, from what each load command answers where it is clear to execute, what driving an output leaves of a channel and
what an item does with a high-side channel. -/
theorem loadSettingsComplete : Obligations.LoadSettingsComplete := by
  unfold Obligations.LoadSettingsComplete
  refine ⟨?config, ?wire, ?applies, ?waits, ?clears, ?item, ?others, ?direct, ?query, ?queryClear, ?gang, ?measureStops, ?measureStarts⟩
  case config =>
    intro r s parts clear
    obtain ⟨g, run, values⟩ := cmdLoadChannelConfig_run r s
    obtain ⟨vector, retryMax, restartAuto, retryWindow, duty⟩ := values (s.loadOf (r.field 0 2))
    have settings := State.redrive_settings (s.mapLoad (r.field 0 2) g) (r.field 0 2) (r.field 0 2)
    rw [State.mapLoad_loadOf_self parts g (channel_of_clear_loadChannelConfig clear)] at settings
    exact ⟨_, Command.step_done clear run, State.redrive_frame .., (congrArg LoadChannel.vector settings).trans vector,
      (congrArg LoadChannel.retryMax settings).trans retryMax, (congrArg LoadChannel.restartAuto settings).trans restartAuto,
      (congrArg LoadChannel.retryWindow settings).trans retryWindow, (congrArg LoadChannel.duty settings).trans duty⟩
  case wire =>
    intro r s clear
    exact ⟨_, _, Command.step_done clear rfl, rfl⟩
  case applies =>
    rintro r _ s clear rfl conforms
    exact Command.step_done clear (cmdLoadSet_run_applies conforms)
  case waits =>
    intro r s clear resumed exceeds
    exact Command.step_wait clear (cmdLoadSet_run_waits resumed exceeds)
  case clears =>
    rintro r _ s clear rfl conforms
    exact .of_exec (Command.step_done clear (cmdLoadSet_run_applies conforms)) ⟨_, rfl⟩
  case item =>
    intro n v s parts highSide
    exact State.loadItem_loadOf_self parts v highSide
  case others =>
    intro p n v s on others
    exact exec_loadSetDirectWrite_others v on others
  case direct =>
    intro p n v s on windows control channel own active leads takes sails noHold served conforms
    exact exec_loadSetDirectWrite_applies on windows control channel own active leads takes sails noHold served conforms
  case query =>
    intro r s clear keeps
    obtain ⟨n, run⟩ := cmdLoadQuery_run_keeps (s := s) keeps
    exact ⟨n, _, Command.step_done clear run, rfl⟩
  case queryClear =>
    intro r s clear clears
    obtain ⟨n, run⟩ := cmdLoadQuery_run_clears (s := s) clears
    exact ⟨n, _, Command.step_done clear run, rfl⟩
  case gang =>
    intro r s clear stops
    exact ⟨_, Command.step_done clear (cmdLoadGangSet_run_stops stops), rfl, rfl, State.setPwmGang_self ..,
      fun k other => State.setPwmGang_ne s _ other⟩
  case measureStops =>
    intro r s clear stops idle
    exact Command.step_done clear (cmdLoadMeasureSet_run_stops stops idle)
  case measureStarts =>
    intro r s parts clear names idle
    obtain ⟨first, m, asked, run⟩ := cmdLoadMeasureSet_run_starts names idle
    have attached : ((s.mapLoad (r.field 0 2) fun c => { c with measure := some m }).loadOf (r.field 0 2)).measure = some m := by
      rw [State.mapLoad_loadOf_self parts _ (channel_of_clear_loadMeasureSet clear)]
    refine ⟨first, _, Command.step_done clear run, rfl, ?_, m, attached, asked⟩
    rw [State.mapQueue_queueOf_self]

end

section
/-! SUPPORT. The key slots (R479-R494): what a slot reads after an update, when it is filled, when a counter value is drawn, and when
a persistent write begins, commits or is given up. -/

namespace Sys2Proof.Machine

variable {s : State} {k : Nat} {w : KeyWrite}

@[simp] theorem State.mapSlot_slotOf_self (s : State) (k : Nat) (g : KeySlot → KeySlot) : (s.mapSlot k g).slotOf k = g (s.slotOf k) :=
  Table.get_modify_self ..

theorem State.mapSlot_slotOf_ne (s : State) {j : Nat} (g : KeySlot → KeySlot) (other : j ≠ k) :
    (s.mapSlot k g).slotOf j = s.slotOf j :=
  Table.get_modify_ne _ _ _ other

@[simp] theorem State.fillVolatile_slotOf_self (s : State) (k attr key counter : Nat) : (s.fillVolatile k attr key counter).slotOf k =
    { (s.slotOf k).destroyImages.emptied with state := .ready, attr := attr, key := key, counter := counter } :=
  State.mapSlot_slotOf_self ..

theorem State.fillVolatile_slotOf_ne (s : State) {j : Nat} (attr key counter : Nat) (other : j ≠ k) :
    (s.fillVolatile k attr key counter).slotOf j = s.slotOf j :=
  State.mapSlot_slotOf_ne s _ other

/-- A value is drawn once: the next draw gives the following one (R519). -/
theorem State.drawCounter_slotOf_self (s : State) (k : Nat) :
    ((s.drawCounter k).2.slotOf k).counter = (s.slotOf k).counter + 1 := by
  rw [State.drawCounter, State.mapSlot_slotOf_self]

theorem State.drawCounter_slotOf_ne (s : State) {j : Nat} (other : j ≠ k) : (s.drawCounter k).2.slotOf j = s.slotOf j :=
  State.mapSlot_slotOf_ne s _ other

theorem State.beginWrite_slotOf_self (s : State) (k : Nat) (w : KeyWrite) :
    (s.beginWrite k w).slotOf k = { s.slotOf k with state := .committing, writing := some w } :=
  State.mapSlot_slotOf_self ..

theorem State.beginWrite_slotOf_ne (s : State) {j : Nat} (w : KeyWrite) (other : j ≠ k) :
    (s.beginWrite k w).slotOf j = s.slotOf j :=
  State.mapSlot_slotOf_ne s _ other

/-- Reporting the end of a write reaches no key (R510). -/
@[simp] theorem State.keyCommitted_slotOf (s : State) (k j : Nat) (w : KeyWrite) (st : Status) :
    (s.keyCommitted k w st).slotOf j = s.slotOf j := by
  rw [State.keyCommitted]
  split
  · rw [State.opEnd_frame]
    rfl
  · rfl

/-- A slot apart from its two image areas in NV (R491). -/
def KeySlot.working (x : KeySlot) : KeySlot := { x with imageA := none, imageB := none, erasingA := false, erasingB := false }

@[simp] theorem KeySlot.setImage_working (x : KeySlot) (b : Bool) (i : Option KeyImage) : (x.setImage b i).working = x.working := by
  cases b <;> rfl

@[simp] theorem KeySlot.setErasing_working (x : KeySlot) (b e : Bool) : (x.setErasing b e).working = x.working := by
  cases b <;> rfl

/-- At its commit point the new key is in force, in the area that was written (R491). -/
theorem State.commitWrite_working {key : Nat} (begun : (s.slotOf k).writing = some w) (holds : w.key = some key) :
    ((s.commitWrite k).slotOf k).working =
      { (s.slotOf k).working with
          state := .ready, attr := w.attr, owners := w.owners, key := key, version := w.version, area := some (s.slotOf k).targetB,
          counter := w.counter.getD (s.slotOf k).counter, high := (w.counter.map blockEnd).getD (s.slotOf k).high,
          writing := none } := by
  simp only [State.commitWrite, begun, holds]
  rw [State.keyCommitted_slotOf, State.mapSlot_slotOf_self, KeySlot.setErasing_working, KeySlot.setImage_working]
  cases w.counter <;> rfl

theorem State.commitWrite_slotOf_ne {key j : Nat} (begun : (s.slotOf k).writing = some w) (holds : w.key = some key)
    (other : j ≠ k) : (s.commitWrite k).slotOf j = s.slotOf j := by
  simp only [State.commitWrite, begun, holds]
  rw [State.keyCommitted_slotOf, State.mapSlot_slotOf_ne _ _ other]
  rfl

/-- A write that is given up leaves the slot as it was before the write began (R479, R491). -/
theorem State.abandonWrite_working (st : Status) (begun : (s.slotOf k).writing = some w) :
    ((s.abandonWrite k st).slotOf k).working = { (s.slotOf k).working with state := w.was, writing := none } := by
  simp only [State.abandonWrite, begun]
  rw [State.keyCommitted_slotOf, State.mapSlot_slotOf_self, apply_ite KeySlot.working, KeySlot.setErasing_working,
    KeySlot.setImage_working, ite_self]
  rfl

theorem State.abandonWrite_slotOf_ne {j : Nat} (st : Status) (begun : (s.slotOf k).writing = some w) (other : j ≠ k) :
    (s.abandonWrite k st).slotOf j = s.slotOf j := by
  simp only [State.abandonWrite, begun]
  rw [State.keyCommitted_slotOf, State.mapSlot_slotOf_ne _ _ other]

end Sys2Proof.Machine

end

section
/-! SUPPORT. What the commands of the key slots answer (cmds 0x0910 to 0x0917), and what the events of a slot do with it. -/

namespace Sys2Proof.Machine

variable {s s1 s2 : State} {r : Request}

/-- A volatile key is in force at once (R479). -/
theorem State.enterKey_volatile (opcode key : Nat) (volatile : persistent (keyAttr r) = false) :
    s.enterKey r opcode key =
      .done 0 (s.fillVolatile (keySlot r) (keyAttr r) (key % 2 ^ (if bits256 (keyAttr r) then 256 else 128)) 0) := by
  simp [State.enterKey, volatile]

/-- A persistent one waits for its write (R491, R508). -/
theorem State.enterKey_persistent (opcode key : Nat) (stored : persistent (keyAttr r) = true) :
    ∃ n w, s.enterKey r opcode key = .accepted n (s.beginWrite (keySlot r) w) := by
  simp only [State.enterKey, stored, if_true]
  exact ⟨_, _, rfl⟩

/-- The owners of an EMPTY slot are set at once (cmd 0x0910). -/
theorem cmdKeySlotOwnerSet_run_empty (empty : (s.slotOf (keySlot r)).state = .empty) :
    cmdKeySlotOwnerSet.run r s = .done 0 (s.mapSlot (keySlot r) fun x => { x with owners := r.field 8 8 }) := by
  simp [cmdKeySlotOwnerSet, empty]

/-- A generated key is one that the DRBG gives (R476, R482). -/
theorem cmdKeyGenerate_run_draws (good : s.keys.trngWaiting = false) :
    cmdKeyGenerate.run r s = (s.drbg 256).2.enterKey r 0x11 (s.drbg 256).1 := by
  simp only [cmdKeyGenerate, good, Bool.false_eq_true, if_false]

/-- Without good output of the TRNG the request waits (R476). -/
theorem cmdKeyGenerate_run_waits (bad : s.keys.trngWaiting = true) : cmdKeyGenerate.run r s = .wait s := by
  simp only [cmdKeyGenerate, bad, if_true]

theorem cmdKeyDerive_run (r : Request) (s : State) : ∃ key, cmdKeyDerive.run r s = s.enterKey r 0x12 key := ⟨_, rfl⟩

/-- A blob whose tag does not verify enters no key (R485). -/
theorem cmdKeyUnwrap_run_forged {blob : Nat} (read : s.read r.issuer (r.field 16 8) 64 = (s1, .ok blob))
    (forged : unwrapBlob (s.slotOf (r.field 8 2)).octets blob = none) : cmdKeyUnwrap.run r s = .no .tagFail := by
  simp only [cmdKeyUnwrap, read, forged]

/-- A genuine blob enters its key where the key's own ATTR permits the uses asked for and gives its length (R485). -/
theorem cmdKeyUnwrap_run_enters {blob key : Nat} (read : s.read r.issuer (r.field 16 8) 64 = (s1, .ok blob))
    (genuine : unwrapBlob (s.slotOf (r.field 8 2)).octets blob = some key)
    (uses : permits (byteField blob 2 2) (bitsOf (keyAttr r) 6 0) = true)
    (bits : bits256 (byteField blob 2 2) = bits256 (keyAttr r)) : cmdKeyUnwrap.run r s = s1.enterKey r 0x13 key := by
  simp only [cmdKeyUnwrap, read, genuine, uses, bits, and_self, if_true]

theorem cmdKeyImport_run_enters {key : Nat}
    (read : s.read r.issuer (r.field 8 8) (if bits256 (keyAttr r) then 32 else 16) = (s1, .ok key)) :
    cmdKeyImport.run r s = s1.enterKey r 0x14 key := by
  simp only [cmdKeyImport, read]

/-- A wrap writes the blob under the counter value that it drew (R485, R519). -/
theorem cmdKeyWrap_run_writes {blob : Nat}
    (wraps : blob = wrapBlob (s.slotOf (r.field 2 2)).octets (keySlot r) (s.slotOf (keySlot r)).attr s.keys.otp.deviceTag
      (s.slotOf (r.field 2 2)).counter ((s.slotOf (keySlot r)).key % 2 ^ (if bits256 (s.slotOf (keySlot r)).attr then 256 else 128)))
    (written : (s.drawCounter (r.field 2 2)).2.write r.issuer (r.field 8 8) 64 blob = (s2, none)) :
    cmdKeyWrap.run r s = .done (pack [(0, 8, (s.slotOf (r.field 2 2)).counter)]) s2 := by
  have drawn : s.drawCounter (r.field 2 2) = ((s.slotOf (r.field 2 2)).counter, (s.drawCounter (r.field 2 2)).2) := rfl
  rw [wraps] at written
  simp only [cmdKeyWrap]
  rw [drawn]
  simp only [written]

/-- A volatile slot is destroyed at once, and the MACsec keys loaded from it with it (R489, R493). -/
theorem cmdKeyDestroy_run_volatile (volatile : persistent (s.slotOf (keySlot r)).attr = false) :
    cmdKeyDestroy.run r s = .done 0 ((s.mapSlot (keySlot r) KeySlot.emptied).clearSas fun n => n == keySlot r) := by
  simp [cmdKeyDestroy, volatile]

/-- With Masthead present a write ends once its target area is erased: committed where it reads back, given up otherwise (R491). -/
theorem exec_keyCommitted_ends {k : Nat} {w : KeyWrite} (ok : Bool) (on : s.computeOn = true) (present : s.absent = false)
    (begun : (s.slotOf k).writing = some w) (clean : w.key = none ∨ (s.slotOf k).erasing (s.slotOf k).targetB = false) :
    exec (.keyCommitted k ok) s = .next (if ok then s.commitWrite k else s.abandonWrite k .internal) := by
  have target : (w.key.isSome && (s.slotOf k).erasing (s.slotOf k).targetB) = false := by
    rcases clean with keyless | erased
    · rw [keyless, Option.isSome_none, Bool.false_and]
    · rw [erased, Bool.and_false]
  show execKeyCommitted k ok s = _
  simp only [execKeyCommitted, begun, on, present, target, Bool.not_true, Bool.false_eq_true, if_false]

theorem exec_keyAreaEraseDone {k : Nat} (on : s.computeOn = true) (nv : s.nvFurled = false) :
    exec (.keyAreaEraseDone k true) s = .next (s.mapSlot k KeySlot.erased) := by
  show execKeyAreaEraseDone k true s = _
  simp [execKeyAreaEraseDone, on, nv]

/-- Past the middle of its block, the high mark moves to the end of the following one (R520). -/
theorem exec_counterHighMarkWrite_moves {k : Nat} (on : s.computeOn = true) (nv : s.nvFurled = false)
    (keyed : (s.slotOf k).hasKey = true) (stored : persistent (s.slotOf k).attr = true) (past : 2048 < (s.slotOf k).counter % 4096)
    (below : (s.slotOf k).counter < (s.slotOf k).high) (near : (s.slotOf k).high ≤ blockEnd (s.slotOf k).counter) :
    exec (.counterHighMarkWrite k) s = .next (s.mapSlot k fun x => { x with high := blockEnd x.counter + 4096 }) := by
  show execCounterHighMarkWrite k s = _
  simp [execCounterHighMarkWrite, State.raiseMark, on, nv, keyed, stored, past, below, near]

/-- Before that nothing is written (R520). -/
theorem exec_counterHighMarkWrite_early {k : Nat} (early : (s.slotOf k).counter % 4096 ≤ 2048) :
    exec (.counterHighMarkWrite k) s = .next s := by
  have notPast : ¬ 2048 < (s.slotOf k).counter % 4096 := Nat.not_lt.mpr early
  have unmoved : s.raiseMark k = s := by simp [State.raiseMark, notPast]
  show execCounterHighMarkWrite k s = _
  rw [execCounterHighMarkWrite, unmoved, ite_self]

end Sys2Proof.Machine

end

section

open Sys2Proof.Machine Sys2Proof.Safety

/-- Settles O51, from what each key command answers where it is clear to execute, what filling a slot and drawing a counter value
leave of it, and what a persistent write's commit point and its failure leave. -/
theorem keySlotsComplete : Obligations.KeySlotsComplete := by
  unfold Obligations.KeySlotsComplete
  refine ⟨?owners, ?generate, ?waits, ?derive, ?forged, ?unwrap, ?imports, ?filled, ?wrap, ?drawn, ?destroy, ?query, ?commits, ?fails,
    ?erased, ?moves, ?early⟩
  case owners =>
    intro r s clear empty
    exact Command.step_done clear (cmdKeySlotOwnerSet_run_empty empty)
  case generate =>
    intro r s clear good stored
    obtain ⟨n, w, accepted⟩ := State.enterKey_persistent (s := (s.drbg 256).2) 0x11 (s.drbg 256).1 stored
    have slot := State.beginWrite_slotOf_self (s.drbg 256).2 (keySlot r) w
    exact ⟨n, _, Command.step_finish clear ((cmdKeyGenerate_run_draws good).trans accepted), rfl, congrArg KeySlot.state slot,
      (congrArg KeySlot.key slot :), (congrArg KeySlot.version slot :), fun k other => State.beginWrite_slotOf_ne _ w other⟩
  case waits =>
    intro r s clear bad
    exact Command.step_wait clear (cmdKeyGenerate_run_waits bad)
  case derive =>
    intro r s clear volatile
    obtain ⟨key, run⟩ := cmdKeyDerive_run r s
    refine ⟨_, Command.step_done clear (run.trans (State.enterKey_volatile _ key volatile)), rfl, ?_⟩
    rw [State.fillVolatile_slotOf_self]
    exact ⟨rfl, rfl, rfl, fun k other => State.fillVolatile_slotOf_ne s _ _ _ other⟩
  case forged =>
    intro r w s s1 clear read forged
    exact Command.step_refuse clear (cmdKeyUnwrap_run_forged read forged)
  case unwrap =>
    intro r w key s s1 clear read genuine uses bits volatile
    exact Command.step_done clear ((cmdKeyUnwrap_run_enters read genuine uses bits).trans (State.enterKey_volatile _ key volatile))
  case imports =>
    intro r w s s1 clear volatile read
    exact Command.step_done clear ((cmdKeyImport_run_enters read).trans (State.enterKey_volatile _ w volatile))
  case filled =>
    intro slot attr key counter s
    rw [State.fillVolatile_slotOf_self]
    exact ⟨rfl, rfl, rfl, rfl⟩
  case wrap =>
    intro r blob s s2 clear wraps written
    exact Command.step_done clear (cmdKeyWrap_run_writes wraps written)
  case drawn =>
    intro k s
    exact ⟨rfl, State.drawCounter_slotOf_self s k, fun j other => State.drawCounter_slotOf_ne s other⟩
  case destroy =>
    intro r s clear volatile
    have slot := State.mapSlot_slotOf_self s (keySlot r) KeySlot.emptied
    exact ⟨_, Command.step_done clear (cmdKeyDestroy_run_volatile volatile), congrArg KeySlot.state slot,
      (congrArg KeySlot.owners slot :), rfl, fun k other => State.mapSlot_slotOf_ne s _ other⟩
  case query =>
    intro r s clear
    exact Command.step_done clear rfl
  case commits =>
    intro k key w s on present begun holds erased
    have slot := State.commitWrite_working begun holds
    exact ⟨_, exec_keyCommitted_ends true on present begun (.inr erased), congrArg KeySlot.state slot, congrArg KeySlot.key slot,
      congrArg KeySlot.version slot, congrArg KeySlot.area slot, congrArg KeySlot.writing slot,
      fun j other => State.commitWrite_slotOf_ne begun holds other⟩
  case fails =>
    intro k w s on present begun clean
    have slot := State.abandonWrite_working .internal begun
    exact ⟨_, exec_keyCommitted_ends false on present begun clean, congrArg KeySlot.state slot,
      (congrArg KeySlot.key slot :), (congrArg KeySlot.version slot :), congrArg KeySlot.writing slot,
      fun j other => State.abandonWrite_slotOf_ne .internal begun other⟩
  case erased =>
    intro k s on nv
    exact exec_keyAreaEraseDone on nv
  case moves =>
    intro k s on nv keyed stored past below near
    exact exec_counterHighMarkWrite_moves on nv keyed stored past below near
  case early =>
    intro k s early
    exact exec_counterHighMarkWrite_early early

end

section
/-! SUPPORT. The Locker's events: the TRNG (R476), the unseal (R487, R492, R593), the end of a tamper's erasure (R503) and the
expiry of a challenge (R498). -/

namespace Sys2Proof.Machine

variable {s : State}

theorem exec_trngHealthFail_waits (on : s.computeOn = true) (served : s.furled (unitId 0x21 0) = false) :
    exec .trngHealthFail s =
      .next (({ s with keys := { s.keys with trngWaiting := true } } : State).unitEvent (unitId 0x21 0) 0x04) := by
  show execTrngHealthFail s = _
  simp [execTrngHealthFail, on, served]

/-- Requests that wait are reason enough to reseed (R476). -/
theorem exec_drbgReseed_resumes (on : s.computeOn = true) (served : s.furled (unitId 0x21 0) = false)
    (waiting : s.keys.trngWaiting = true) :
    exec .drbgReseed s = .next { s with keys := { s.keys with trngWaiting := false, drbgRequests := 0, drbgAt := s.now } } := by
  show execDrbgReseed s = _
  simp [execDrbgReseed, on, served, waiting]

/-- Outside Scrapped, and where debug access has not sealed it, the Locker serves once it is unsealed (R487, R497, R499). -/
theorem State.unseal_serves (inLife : s.lifecycle ≠ 5) (closed : s.keys.debugSealed = false) :
    s.unseal.keys.sealed = false ∧ s.unseal.keys.unsealedOnce = true := by
  have serves : ¬ (s.lifecycle = 5 ∨ s.keys.debugSealed = true) := by simp [inLife, closed]
  rw [State.unseal, if_neg serves]
  exact ⟨rfl, rfl⟩

/-- With a tamper held, the start goes on past the unseal step with the Locker SEALED (R593). -/
theorem exec_lockerUnseal_held (tested : s.boot.phase = .tested) (held : s.tamperHeld = true) :
    exec .lockerUnseal s = .next { s with boot := { s.boot with phase := .unsealed, tamperHeld := true } } := by
  show execLockerUnseal s = _
  simp [execLockerUnseal, tested, held]

theorem exec_lockerUnseal_free (tested : s.boot.phase = .tested) (free : s.tamperHeld = false) :
    exec .lockerUnseal s = .next { s.unseal with boot := { s.unseal.boot with phase := .unsealed, tamperHeld := false } } := by
  show execLockerUnseal s = _
  simp [execLockerUnseal, tested, free]

/-- The unseal is a step of the start, after the self-test (R583). -/
theorem exec_lockerUnseal_elsewhere (elsewhere : s.boot.phase ≠ .tested) : exec .lockerUnseal s = .next s := if_pos elsewhere

theorem exec_tamperEraseDone (on : s.computeOn = true) : exec .tamperEraseDone s = .next s.finishErasure := if_pos on

/-- Changing slots one after the other changes nothing else. -/
theorem State.each_mapSlot_frame (s : State) (l : List Nat) (g : KeySlot → KeySlot) :
    s.each l (fun t k => t.mapSlot k g) =
      { s with keys := { s.keys with slots := (s.each l fun t k => t.mapSlot k g).keys.slots } } := by
  have beside := State.each_keeps (f := fun t k => t.mapSlot k g)
    (fun t : State => { t with keys := { t.keys with slots := [] } }) (fun _ _ => rfl) s l
  exact congrArg (fun t : State => { t with keys := { t.keys with slots := (s.each l fun t k => t.mapSlot k g).keys.slots } }) beside

/-- A tamper log entry once an erasure has ended: ERASE_PENDING has its ERASE_DONE (R507). -/
def TamperEntry.afterErasure (e : TamperEntry) : TamperEntry :=
  if bitOf e.flags 0 ∧ ¬ bitOf e.flags 1 then { e with flags := e.flags + 2 } else e

theorem bitOf_one_add_two {n : Nat} (unset : ¬ bitOf n 1 = true) : bitOf (n + 2) 1 = true := by
  simp only [bitOf, decide_eq_true_eq] at unset ⊢
  omega

theorem TamperEntry.afterErasure_done (e : TamperEntry) (pending : bitOf e.afterErasure.flags 0 = true) :
    bitOf e.afterErasure.flags 1 = true := by
  unfold TamperEntry.afterErasure at pending ⊢
  split at pending
  next owes => rw [if_pos owes]; exact bitOf_one_add_two owes.2
  next settled =>
    rw [if_neg settled]
    exact Decidable.byContradiction fun undone => settled ⟨pending, undone⟩

/-- The end of an erasure reaches the slots, the pending class and the log (R503, R507). -/
theorem State.finishErasure_pending (pending : s.keys.erasePending ≠ 0) : ∃ slots, s.finishErasure =
    { s with keys := { s.keys with slots := slots, erasePending := 0, log := s.keys.log.map TamperEntry.afterErasure } } := by
  rw [State.finishErasure, if_neg pending, State.each_mapSlot_frame]
  exact ⟨_, rfl⟩

/-- Without a pending erasure there is none to end. -/
theorem State.finishErasure_none (ended : s.keys.erasePending = 0) : s.finishErasure = s := if_pos ended

/-- A challenge lasts 60 s (R498). -/
theorem exec_challengeExpiry_due (issued : s.keys.challenge.isSome = true) (due : s.keys.challengeAt + 60000000000 ≤ s.now) :
    exec .challengeExpiry s = .next { s with keys := { s.keys with challenge := none } } := if_pos ⟨issued, due⟩

theorem exec_challengeExpiry_early (early : s.now < s.keys.challengeAt + 60000000000) : exec .challengeExpiry s = .next s :=
  if_neg fun due => Nat.not_le.mpr early due.2

end Sys2Proof.Machine

end

section

open Sys2Proof.Machine Sys2Proof.Safety

/-- Settles O52, from what each event of the TRNG, the unseal, the erasure and the challenge does. -/
theorem lockerEventsComplete : Obligations.LockerEventsComplete := by
  unfold Obligations.LockerEventsComplete
  refine ⟨?fails, ?reseeds, ?held, ?unseals, ?elsewhere, ?nothing, ?erases, ?expires, ?early⟩
  case fails =>
    intro s on served
    exact exec_trngHealthFail_waits on served
  case reseeds =>
    intro s on served waiting
    exact exec_drbgReseed_resumes on served waiting
  case held =>
    intro s tested held
    exact exec_lockerUnseal_held tested held
  case unseals =>
    intro s tested free inLife closed
    obtain ⟨serves, once⟩ := State.unseal_serves inLife closed
    exact .of_exec (exec_lockerUnseal_free tested free) ⟨serves, once, rfl⟩
  case elsewhere =>
    intro s elsewhere
    exact exec_lockerUnseal_elsewhere elsewhere
  case nothing =>
    intro s on ended
    rw [exec_tamperEraseDone on, State.finishErasure_none ended]
  case erases =>
    intro s on pending
    obtain ⟨slots, erased⟩ := State.finishErasure_pending pending
    refine .of_exec ((exec_tamperEraseDone on).trans (congrArg _ erased)) ⟨rfl, rfl, rfl, ?_⟩
    intro e logged
    obtain ⟨before, -, rfl⟩ := List.mem_map.mp logged
    exact before.afterErasure_done
  case expires =>
    intro s issued due
    exact exec_challengeExpiry_due issued due
  case early =>
    intro s early
    exact exec_challengeExpiry_early early

end

section
/-! SUPPORT. The check-value units (R528-R533): what a unit and a stream filter read after a change of one, what an item leaves of the
units, and what each of their commands answers. An item of no flow meets no bucket and no histogram (R175, R179). -/

namespace Sys2Proof.Machine

variable {s s1 s2 : State} {r : Request} {n : Nat}

@[simp] theorem State.mapCvu_cvuOf_self (s : State) (n : Nat) (g : Cvu → Cvu) : (s.mapCvu n g).cvuOf n = g (s.cvuOf n) :=
  Table.get_modify_self ..

theorem State.mapCvu_cvuOf_ne (s : State) {m : Nat} (g : Cvu → Cvu) (other : m ≠ n) : (s.mapCvu n g).cvuOf m = s.cvuOf m :=
  Table.get_modify_ne _ _ _ other

@[simp] theorem State.mapFilter_filterOf_self (s : State) (n : Nat) (g : Filter → Filter) :
    (s.mapFilter n g).filterOf n = g (s.filterOf n) :=
  Table.get_modify_self ..

theorem State.mapFilter_filterOf_ne (s : State) {m : Nat} (g : Filter → Filter) (other : m ≠ n) :
    (s.mapFilter n g).filterOf m = s.filterOf m :=
  Table.get_modify_ne _ _ _ other

@[simp] theorem State.conforms_nil (s : State) (size : Nat) : s.conforms [] size = true := rfl

@[simp] theorem State.takeTokens_nil (s : State) (size : Nat) : s.takeTokens [] size = s := rfl

@[simp] theorem State.deliver_nil (s : State) (ingress delivered err unit : Nat) :
    s.deliver [] ingress delivered err unit = s := rfl

theorem namedFlow_none {id : Nat} (unnamed : id = 0xFFFF) : namedFlow id = none := if_pos unnamed

/-- Every item counts, whatever its verdict (R530). -/
@[simp] theorem Cvu.after_items (c : Cvu) (x : Checked) (alive : Bool) : (c.after x alive).items = satAdd 32 c.items 1 := by
  rw [Cvu.after, apply_ite Cvu.items]
  exact ite_self _

/-- A mismatch is an item of verdict 1 (R530). -/
theorem Cvu.after_mismatches {c : Cvu} {x : Checked} (alive : Bool) (matching : x.verdict ≠ 1) :
    (c.after x alive).mismatches = c.mismatches := by
  rw [Cvu.after, apply_ite Cvu.mismatches]
  exact (ite_self _).trans (if_neg matching)

/-- An item that raises no objection changes its unit and reports nothing (R530). -/
theorem State.cvuItem_good {address off : Nat} {data : List Byte} {expected : Option Nat} {compare alive : Bool}
    (good : (s.cvuItem n address off data expected compare alive).2.verdict = 0) :
    (s.cvuItem n address off data expected compare alive).1 =
      s.draw.2.mapCvu n fun c => c.after (s.cvuItem n address off data expected compare alive).2 alive :=
  if_neg fun bad => bad good

/-- A run of no flow takes the bytes that it reads as one item (R532). -/
theorem cmdCvuRun_run_unbound {w : Nat} {x : Checked} (unbound : r.field 24 2 = 0xFFFF)
    (read : s.read r.issuer (r.field 8 8) (r.field 4 4) = (s1, .ok w))
    (checked : s1.cvuItem (r.byte 0) (r.field 8 8) (s.cvuOf (r.byte 0)).layout.checkOffset (toBytes (r.field 4 4) w)
      (if r.bit 1 0 then some (r.field 16 8) else none) (r.bit 1 0 || r.bit 1 1) (r.bit 1 1) = (s2, x)) :
    cmdCvuRun.run r s = .finish (if x.verdict = 0 then .done else .cvuMismatch)
      (pack [(0, 8, x.value), (8, 8, x.field), (16, 1, x.verdict), (18, 2, min 65535 x.lost), (20, 4, x.counter)]) s2 id := by
  simp only [cmdCvuRun, namedFlow_none unbound, State.conforms_nil, Bool.not_true, Bool.false_eq_true, if_false, read,
    State.takeTokens_nil, checked, State.deliver_nil]
  rfl

/-- A unit whose counts are cleared (R530). -/
def Cvu.cleared (c : Cvu) : Cvu := { c with items := 0, mismatches := 0, repeats := 0, outOfWindow := 0, lost := 0 }

/-- What CVU_QUERY leaves: the counts of the unit that it reads cleared, or nothing changed (cmd 0x0B04). -/
def State.cvuQueried (s : State) (n : Nat) (clear : Bool) : State := if clear then s.mapCvu n Cvu.cleared else s

theorem cmdCvuQuery_run (r : Request) (s : State) : cmdCvuQuery.run r s = .done
    (pack [(0, 4, (s.cvuOf (r.byte 0)).items), (4, 4, (s.cvuOf (r.byte 0)).mismatches), (8, 4, (s.cvuOf (r.byte 0)).repeats),
      (12, 4, (s.cvuOf (r.byte 0)).outOfWindow), (16, 4, (s.cvuOf (r.byte 0)).lost), (20, 4, (s.cvuOf (r.byte 0)).counter)])
    (s.cvuQueried (r.byte 0) (r.bit 1 0)) := rfl

theorem State.cvuQueried_frame (s : State) (n : Nat) (clear : Bool) :
    s.cvuQueried n clear = { s with cipher := { s.cipher with cvus := (s.cvuQueried n clear).cipher.cvus } } := by
  cases clear <;> rfl

theorem State.cvuQueried_cvuOf_self (s : State) (n : Nat) (clear : Bool) :
    (s.cvuQueried n clear).cvuOf n = if clear then (s.cvuOf n).cleared else s.cvuOf n := by
  rw [State.cvuQueried, apply_ite (State.cvuOf · n), State.mapCvu_cvuOf_self]

theorem State.cvuQueried_cvuOf_ne (s : State) {m : Nat} (clear : Bool) (other : m ≠ n) :
    (s.cvuQueried n clear).cvuOf m = s.cvuOf m := by
  rw [State.cvuQueried, apply_ite (State.cvuOf · m), State.mapCvu_cvuOf_ne s _ other, ite_self]

end Sys2Proof.Machine

end

section
/-! SUPPORT. The cipher strands (R513-R526): the operation that CIPHER_RUN opens where it names no flow, and how an operation ends. -/

namespace Sys2Proof.Machine

variable {s s1 s2 s3 : State} {r : Request} {o : CipherOp}

/-- What CIPHER_RUN leaves of its slot: a counter value drawn, or nothing changed (R519). -/
def State.counterTaken (s : State) (k : Nat) (draws : Bool) : State := if draws then (s.drawCounter k).2 else s

/-- Drawing a counter value reaches the Locker alone. -/
theorem State.counterTaken_frame (s : State) (k : Nat) (draws : Bool) :
    s.counterTaken k draws = { s with keys := (s.counterTaken k draws).keys } := by
  cases draws <;> rfl

theorem State.counterTaken_slotOf_self (s : State) (k : Nat) (draws : Bool) :
    ((s.counterTaken k draws).slotOf k).counter = (s.slotOf k).counter + (if draws then 1 else 0) := by
  cases draws
  case false => rfl
  case true => exact State.drawCounter_slotOf_self s k

theorem State.counterTaken_slotOf_ne (s : State) {j k : Nat} (draws : Bool) (other : j ≠ k) :
    (s.counterTaken k draws).slotOf j = s.slotOf j := by
  cases draws
  case false => rfl
  case true => exact State.drawCounter_slotOf_ne s other

/-- The operation of a CIPHER_RUN that names no flow: on a strand of free choice (R517, log entry 94). -/
def State.unboundOp (s : State) (r : Request) : CipherOp :=
  { issuer := r.issuer, ring := r.ring.val, flow := none, desc := r.params.toNat,
    counter := if drawsCounter (r.byte 2) (r.byte 3) then some (s.slotOf (r.field 0 2)).counter else none,
    key := (s.slotOf (r.field 0 2)).key, bits256 := bits256 (s.slotOf (r.field 0 2)).attr,
    strand := nth 0 s.strands (s.draw.1 % max 1 s.strands.length), begunAt := s.now, conforms := true, repeated := false }

/-- The state in which that operation is queued: its counter value and its strand are drawn. -/
def State.cipherDrawn (s : State) (r : Request) : State :=
  (s.counterTaken (r.field 0 2) (drawsCounter (r.byte 2) (r.byte 3))).draw.2

/-- Queue an operation behind those that are open (R517). -/
def State.openCipher (s : State) (o : CipherOp) : State := { s with cipher := { s.cipher with ops := s.cipher.ops ++ [o] } }

theorem cmdCipherRun_run_unbound (unbound : r.field 4 2 = 0xFFFF) :
    cmdCipherRun.run r s = .accepted 0 ((s.cipherDrawn r).openCipher (s.unboundOp r)) := by
  simp only [cmdCipherRun, namedFlow_none unbound, State.cipherDrawn, State.unboundOp]
  cases drawsCounter (r.byte 2) (r.byte 3) <;> rfl

/-- Opening an operation reaches the strands, the Locker and the free values alone. -/
theorem State.cipherDrawn_frame (s : State) (r : Request) : s.cipherDrawn r =
    { s with keys := (s.cipherDrawn r).keys, io := { s.io with free := s.io.free + 1 } } := by
  rw [State.cipherDrawn, State.counterTaken_frame]
  rfl

/-- The manager is shown the strands as well as its own counts (R518). -/
theorem cmdCipherQuery_run_manager (manager : r.issuer = 0) : cmdCipherQuery.run r s = .done
    (pack [(0, 3, maskOf s.strands), (4, 3, s.cipher.held), (8, 2, (s.cipher.ops.filter fun o => decide (o.issuer = 0)).length),
      (12, 4, Table.get 0 s.cipher.tagFails 0), (16, 4, Table.get 0 s.cipher.accessFaults 0)]) s := by
  simp only [cmdCipherQuery, manager, decide_true, if_true]

/-- An operation that is the first of its lane ends with all that it writes (R517, R518, log entry 94). -/
theorem exec_cipherOpEnd_unbound {i : Nat} (opened : s.cipher.ops[i]? = some o) (on : s.computeOn = true)
    (conforming : o.conforms = true) (head : s.laneHead i o = true) (unbound : o.flow = none) :
    exec (.cipherOpEnd i) s = .next (State.runOp { s with cipher := { s.cipher with ops := dropAt s.cipher.ops i } } o).1 := by
  show execCipherOpEnd i s = _
  simp [execCipherOpEnd, opened, on, conforming, head, unbound]

/-- An operation whose inputs are read encrypts or decrypts them (R515). -/
theorem State.runOp_of_reads {block aad data : List Nat} (blockRead : s.readOp o.issuer o.opb 64 = (s1, .ok block))
    (aadRead : s1.readOp o.issuer o.aad (if o.mode < 2 then o.aadLen else 0) = (s2, .ok aad))
    (dataRead : s2.readOp o.issuer o.src o.length = (s3, .ok data)) :
    s.runOp o = if o.op = 0 then s3.sealOp o aad data else s3.openOp o block aad data := by
  simp only [State.runOp, blockRead, aadRead, dataRead]

/-- Where the tag verifies, the output is written and the status says DONE (R522), whether or not it overlaps its input. -/
theorem State.openOp_verifies {block aad data out tag : List Nat} (notCcm : o.mode ≠ 1)
    (result : cipherResult o.mode 1 o.tagLen (keyOctets o.key o.bits256) (block.take (if o.mode = 0 then 12 else 16)) aad data =
      (out, tag))
    (verifies : tag = (block.drop 16).take tag.length) (written : s.writeOutput o out = (s1, none)) :
    s.openOp o block aad data = (s1.writeStatus o .done, .done) := by
  simp only [State.openOp, notCcm, if_false, decide_false, Bool.false_and, Bool.false_or, result, written,
    decide_eq_true_eq, if_neg (not_not_intro verifies)]

/-- Where it does not, the failure is counted, and zeros stand in the output's place (R522). -/
theorem State.openOp_fails {block aad data out tag : List Nat} (notCcm : o.mode ≠ 1)
    (result : cipherResult o.mode 1 o.tagLen (keyOctets o.key o.bits256) (block.take (if o.mode = 0 then 12 else 16)) aad data =
      (out, tag))
    (fails : tag ≠ (block.drop 16).take tag.length)
    (zeroed : State.writeOutput { s with cipher := { s.cipher with
      tagFails := Table.modify 0 s.cipher.tagFails o.issuer fun n => satAdd 32 n 1 } } o (out.map fun _ => 0) = (s1, none)) :
    s.openOp o block aad data = (s1.spoilOp o .tagFail, .tagFail) := by
  simp only [State.openOp, notCcm, if_false, decide_false, Bool.false_and, Bool.false_or, result, zeroed,
    decide_eq_true_eq, if_pos fails]

/-- A guest's operation without INT ends with its status word alone (R517). -/
theorem State.writeStatus_silent {st : Status} (guest : o.issuer ≠ 0) (silent : o.int = false)
    (written : s.write o.issuer (o.opb + 44) 4 (2 ^ 31 + st.code) = (s1, none)) : s.writeStatus o st = s1 := by
  simp only [State.writeStatus, if_neg guest, written, silent, Bool.false_eq_true, if_false]

end Sys2Proof.Machine

end

section

open Sys2Proof.Machine Sys2Proof.Safety

/-- Settles O54, from what each cipher and check-value command answers where it is clear to execute, how an operation ends and what
an item leaves of its unit. That data is read and written at the operation's end, and that an operation of no flow runs on a strand
of free choice, are the model's choices (log entry 94). -/
theorem cipherAndCvuCommandsComplete : Obligations.CipherAndCvuCommandsComplete := by
  unfold Obligations.CipherAndCvuCommandsComplete
  refine ⟨?run, ?ends, ?reads, ?verifies, ?forged, ?status, ?counter, ?strands, ?hold, ?config, ?item, ?good, ?attach, ?query⟩
  case run =>
    rintro r _ s clear unbound rfl
    have drawn := s.cipherDrawn_frame r
    have queued := congrArg (fun t => (t.openCipher (s.unboundOp r)).cipher) drawn
    exact ⟨_, Command.step_finish clear (cmdCipherRun_run_unbound unbound), queued, State.counterTaken_slotOf_self s _ _,
      fun k other => State.counterTaken_slotOf_ne s _ other, (congrArg State.flow drawn :), (congrArg (·.io.mem) drawn :)⟩
  case ends =>
    intro i o s opened on conforming head unbound
    exact exec_cipherOpEnd_unbound opened on conforming head unbound
  case reads =>
    intro o block aad data s s1 s2 s3 blockRead aadRead dataRead
    exact State.runOp_of_reads blockRead aadRead dataRead
  case verifies =>
    intro o block aad data out tag s s1 notCcm _ result verifies written
    exact State.openOp_verifies notCcm result verifies written
  case forged =>
    intro o block aad data out tag s s1 notCcm result fails zeroed
    exact State.openOp_fails notCcm result fails zeroed
  case status =>
    intro o st s s1 guest silent written
    exact State.writeStatus_silent guest silent written
  case counter =>
    intro r s clear
    exact Command.step_done clear rfl
  case strands =>
    intro r s clear manager
    exact Command.step_done clear (cmdCipherQuery_run_manager manager)
  case hold =>
    intro r s clear
    exact Command.step_done clear rfl
  case config =>
    intro r s clear
    exact ⟨_, Command.step_done clear rfl, rfl, State.mapCvu_cvuOf_self .., fun n other => State.mapCvu_cvuOf_ne s _ other⟩
  case item =>
    intro r w x s s1 s2 clear unbound read checked
    exact Command.step_finish clear (cmdCvuRun_run_unbound unbound read checked)
  case good =>
    intro n address off data e c a s good
    have matching : (s.cvuItem n address off data e c a).2.verdict ≠ 1 := by rw [good]; exact Nat.zero_ne_one
    rw [State.cvuItem_good good]
    simp only [State.mapCvu_cvuOf_self, Cvu.after_items, Cvu.after_mismatches a matching]
    exact ⟨rfl, rfl, rfl, fun m other => State.mapCvu_cvuOf_ne _ _ other⟩
  case attach =>
    intro r s clear
    exact ⟨_, Command.step_done clear rfl, rfl, congrArg Filter.cvu (State.mapFilter_filterOf_self ..),
      fun n other => State.mapFilter_filterOf_ne s _ other⟩
  case query =>
    intro r s clear
    have unit := State.cvuQueried_cvuOf_self s (r.byte 0) (r.bit 1 0)
    refine ⟨_, Command.step_done clear (cmdCvuQuery_run r s), State.cvuQueried_frame .., ?_, ?_,
      fun n other => State.cvuQueried_cvuOf_ne s _ other⟩
    · rw [unit, apply_ite Cvu.items]
      rfl
    · rw [unit, apply_ite Cvu.counter]
      exact ite_self _

end

section

open Sys2Proof.Machine

/-- Settles O6, from what every row and the idle clock keep: neither the queue nor the life cycle holds a reef level or a derating
step. -/
theorem reefLevelsNeverFall : Obligations.ReefLevelsNeverFall := by
  unfold Obligations.ReefLevelsNeverFall
  intro s t e
  obtain ⟨_, _, kept⟩ := step_kept e
  exact ⟨kept.level, kept.step⟩

end

section
/-! SUPPORT. The selection of the banks at a start (R583, R590-R592). -/

namespace Sys2Proof.Machine

variable {s : State} {config : Bool}

/-- Driving every output leaves the start as it is. -/
@[simp] theorem State.redriveAll_boot (s : State) : s.redriveAll.boot = s.boot :=
  State.each_keeps State.boot (fun t n => by rw [State.redrive_frame]) s _

@[simp] theorem State.turnAllOff_boot (s : State) : s.turnAllOff.boot = s.boot := State.redriveAll_boot _

@[simp] theorem State.setRecord_bankStands (s : State) (config k b : Bool) (x : BootRecord) :
    (s.setRecord config x).bankStands k b = s.bankStands k b := by
  cases config <;> rfl

theorem State.bankStands_of_empty {b : Bool} (empty : s.bank config b = none) : s.bankStands config b = false := by
  rw [State.bankStands, empty]

/-- The state in which a start has taken a kind's preferred bank (R590). -/
def State.preferBank (s : State) (config : Bool) : State :=
  let x := (s.record config).atStart
  let t := s.setRecord config x
  { t with boot := if config then { t.boot with useCfgB := x.preferredB, cfgFallback := false }
                   else { t.boot with useFwB := x.preferredB, fwFallback := false } }

theorem State.preferBank_firmware (s : State) : s.preferBank false = { s with boot := { s.boot with
    fwRecord := (s.record false).atStart, useFwB := (s.record false).atStart.preferredB, fwFallback := false } } := rfl

theorem State.preferBank_configuration (s : State) : s.preferBank true = { s with boot := { s.boot with
    cfgRecord := (s.record true).atStart, useCfgB := (s.record true).atStart.preferredB, cfgFallback := false } } := rfl

/-- Taking the firmware bank leaves the configuration's record and banks as they are. -/
theorem State.preferBank_record_other (s : State) : (s.preferBank false).record true = s.record true := rfl

theorem State.preferBank_bankStands_other (s : State) (b : Bool) :
    (s.preferBank false).bankStands true b = s.bankStands true b := rfl

/-- A preferred bank that verifies is selected (R590). -/
theorem State.selectBank_preferred (stands : s.bankStands config (s.record config).atStart.preferredB = true) :
    s.selectBank config = (s.preferBank config, true) :=
  if_pos ((State.setRecord_bankStands ..).trans stands)

/-- Of two empty banks none is selected (R592). -/
theorem State.selectBank_empty (empty : ∀ b, s.bank config b = none) :
    s.selectBank config = (s.setRecord config (s.record config).atStart, false) := by
  have fails b : ¬ (s.setRecord config (s.record config).atStart).bankStands config b = true := by
    rw [State.setRecord_bankStands, State.bankStands_of_empty (empty b)]
    exact Bool.false_ne_true
  exact (if_neg (fails _)).trans (if_neg (fails _))

/-- Where the first condition of R32 has not been lost, and has not changed, nothing is reported of it. -/
theorem State.lifeChange_self (kept : s.boot.lostLife = false) : s.lifeChange s = s := by
  simp [State.lifeChange, kept]

/-- What the boot ROM notes before it selects the banks: whether a tamper is held and whether it drew a root secret (R593, R596). -/
def State.noteStart (s : State) (held fresh : Bool) : State :=
  { s with boot := { s.boot with tamperHeld := held, rootGenerated := fresh, lostTamper := s.boot.lostTamper && held } }

@[simp] theorem State.noteStart_bank (s : State) (held fresh k b : Bool) : (s.noteStart held fresh).bank k b = s.bank k b := by
  cases k <;> rfl

@[simp] theorem State.noteStart_bankStands (s : State) (held fresh k b : Bool) :
    (s.noteStart held fresh).bankStands k b = s.bankStands k b := by
  cases k <;> rfl

@[simp] theorem State.noteStart_record (s : State) (held fresh k : Bool) : (s.noteStart held fresh).record k = s.record k := rfl

/-- Step 3 of the start, where no condition of R32 has been lost: once the root secret stands, the selection of the firmware bank,
then of the configuration bank; without one of them the start is a recovery start (R583, R590, R592). -/
theorem exec_startupBootRom_selects {u : State} {fresh : Bool} {fw cfg : State × Bool} (on : s.computeOn = true)
    (released : s.boot.phase = .released) (root : s.finishErasure.generateRoot = (u, fresh)) (tamper : u.boot.lostTamper = false)
    (life : u.boot.lostLife = false) (firmware : (u.noteStart s.tamperHeld fresh).selectBank false = fw)
    (configuration : fw.1.selectBank true = cfg) : exec .startupBootRom s = .next (
      if !fw.2 then fw.1.recoveryStart 1
      else if !cfg.2 then cfg.1.recoveryStart 2
      else { cfg.1 with boot := { cfg.1.boot with phase := .selected } }) := by
  have unchanged : (u.noteStart s.tamperHeld fresh).lifeChange (u.noteStart s.tamperHeld fresh) = u.noteStart s.tamperHeld fresh :=
    State.lifeChange_self life
  subst firmware configuration
  simp only [State.noteStart, tamper, Bool.false_and] at unchanged ⊢
  show execStartupBootRom s = _
  simp only [execStartupBootRom, on, released, root, tamper, Bool.false_and, Bool.false_eq_true, if_false, Bool.not_true,
    bne_self_eq_false, Bool.or_self, unchanged]
  rw [apply_ite Host.Outcome.next, apply_ite Host.Outcome.next]

/-- A recovery start goes on from where the selection of the banks left it (R592). -/
theorem State.recoveryStart_boot (s : State) (reason : Nat) : (s.recoveryStart reason).boot =
    { s.boot with phase := .recovery, recovery := reason, beaconAt := s.now } := by
  rw [State.recoveryStart, State.turnAllOff_boot]

end Sys2Proof.Machine

end

section
/-! SUPPORT. The rest of the start (R583, R585, R589, R592, R593), the return of Masthead (R469) and the limits of isolation (R605). -/

namespace Sys2Proof.Machine

variable {s : State}

/-- A start-up test that fails in a unit the start cannot do without stops it, with every output off (R585). -/
theorem exec_startupSelftest_stops {failing : List Nat} {n : Nat} (on : s.computeOn = true) (selected : s.boot.phase = .selected)
    (fails : n ∈ failing) (unit : unitExists n = true) (needed : n / 256 = 0x07 ∨ n / 256 = 0x08 ∨ n / 256 = 0x0A) :
    exec (.startupSelftest failing) s =
      .next { s.turnAllOff with boot := { s.turnAllOff.boot with phase := .stopped } } := by
  have named : n / 256 ≠ 0 := by omega
  have stops : ((failing.filter fun u => unitExists u && decide (u / 256 ≠ 0)).any fun u =>
      u / 256 == 0x07 || u / 256 == 0x08 || u / 256 == 0x0A) = true :=
    List.any_eq_true.mpr ⟨n, List.mem_filter.mpr ⟨fails, by simp [unit, named]⟩, by simpa [or_assoc] using needed⟩
  show execStartupSelftest failing s = _
  simp only [execStartupSelftest, on, selected, stops]
  rfl

/-- Where no start-up test fails, the configuration takes force (R583, R589). -/
def State.configured (s : State) : State :=
  ((s.commitConfigured s.configuration).runPreamble s.configuration.commands).copyApplication s.configuration

theorem exec_startupSelftest_passes (on : s.computeOn = true) (selected : s.boot.phase = .selected) :
    exec (.startupSelftest []) s = .next { s.configured with boot := { s.configured.boot with phase := .tested } } := by
  show execStartupSelftest [] s = _
  simp [execStartupSelftest, on, selected, State.configured]

/-- A list that has nothing left enters Run (R583, R589). -/
theorem exec_commandListExecute_ended (present : s.absent = false) (on : s.computeOn = true) (unsealed : s.boot.phase = .unsealed)
    (free : s.boot.waiting = none) (safe : s.boot.tamperHeld = false) (ended : s.boot.list = []) :
    exec .commandListExecute s = .next s.enterRun := by
  have done : State.runList [] s = s := by
    rw [State.runList, ← ended]
  show execCommandListExecute s = _
  simp [execCommandListExecute, present, on, unsealed, free, safe, done, ended]

/-- A Tamper-held start runs no list (R593). -/
theorem exec_commandListExecute_held (present : s.absent = false) (on : s.computeOn = true) (unsealed : s.boot.phase = .unsealed)
    (free : s.boot.waiting = none) (held : s.boot.tamperHeld = true) : exec .commandListExecute s = .next s.enterRun := by
  show execCommandListExecute s = _
  simp [execCommandListExecute, present, on, unsealed, free, held]

/-- The kind of image that a MAGIC announces: a configuration or, failing that, firmware (R592). -/
def announced (image : List Byte) : Bool := byteField (ofBytes image) 0 4 == imageMagic true

/-- An image that does not verify is answered with 0x11 (R592). -/
theorem exec_recoveryImageReceive_bad {image : List Byte} (writeOk : Bool) (on : s.computeOn = true)
    (recovers : s.boot.phase = .recovery) (bad : s.judgeImage (announced image) (ofBytes image) image.length ≠ 0) :
    exec (.recoveryImageReceive image writeOk) s = .next (s.sendUart [0x11]) := by
  unfold announced at bad
  show execRecoveryImageReceive image writeOk s = _
  simp [execRecoveryImageReceive, on, recovers, bad]

/-- A good image whose write fails leaves its bank empty and is answered with 0x7F (R592). -/
theorem exec_recoveryImageReceive_unwritten {image : List Byte} (on : s.computeOn = true)
    (recovers : s.boot.phase = .recovery) (good : s.judgeImage (announced image) (ofBytes image) image.length = 0)
    (fits : image.length ≤ bankBytes (announced image)) : exec (.recoveryImageReceive image false) s =
      .next ((s.setBank (announced image) false none).sendUart [0x7F]) := by
  unfold announced at *
  show execRecoveryImageReceive image false s = _
  simp [execRecoveryImageReceive, on, recovers, good, Nat.not_lt.mpr fits]

theorem exec_recoveryBeacon_due (on : s.computeOn = true) (recovers : s.boot.phase = .recovery) (due : s.boot.beaconAt ≤ s.now) :
    exec .recoveryBeacon s = .next
      { s with boot := { (s.sendUart [0x52, 0x45, 0x43, 0x56, s.lifecycle, s.boot.recovery, 0, 0]).boot with
        beaconAt := s.now + 1000000000 } } := by
  show execRecoveryBeacon s = _
  simp [execRecoveryBeacon, on, recovers, due, State.sendUart]

theorem exec_controllerReturned_present (on : s.computeOn = true) (returned : s.cpu.masthead.returned = true)
    (present : s.cpu.masthead.present = true) : exec .controllerReturned s =
      .next (((s.mapMasthead fun m => { m with returned := false }).raiseAll
        { unit := 0x0300, code := 0x0107,
          detail := pack [(0, 1, s.cpu.masthead.used), (8, 8, s.cpu.masthead.absentAt)] }).thaw.settleOwed.postMissed) :=
  if_neg (by simp [on, returned, present])

theorem exec_isolationCondition_outside (powered : s.supply.unpowered = false) (started : s.boot.phase ≠ .off)
    (lost : s.boot.lostLimits = true) :
    exec (.isolationCondition true) s = .next { s with boot := { s.boot with limitsSince := s.now } } := by
  show execIsolationCondition true s = _
  simp [execIsolationCondition, powered, started, lost]

theorem exec_isolationCondition_restored (powered : s.supply.unpowered = false) (started : s.boot.phase ≠ .off)
    (lost : s.boot.lostLimits = true) (steady : s.boot.limitsSince + 100000000 ≤ s.now) :
    exec (.isolationCondition false) s =
      .next (State.isolation { s with boot := { s.boot with lostLimits := false } } 0x03 false (s.absent || !s.computeOn)) := by
  show execIsolationCondition false s = _
  simp [execIsolationCondition, powered, started, lost, steady]

end Sys2Proof.Machine

end

section

open Sys2Proof.Machine Sys2Proof.Safety

/-- Settles O59, from what the boot ROM finds in the banks and what each later row of the start, of a recovery start and of
isolation does. -/
theorem startCompletes : Obligations.StartCompletes := by
  unfold Obligations.StartCompletes
  refine ⟨?noBank, ?selects, ?stops, ?passes, ?listEnds, ?held, ?badImage, ?unwritten, ?beacon, ?returned, ?outside, ?restored⟩
  case noBank =>
    intro s u on released root tamper life emptyA emptyB
    have empty b : (u.noteStart s.tamperHeld s.finishErasure.generateRoot.2).bank false b = none := by
      rw [State.noteStart_bank]
      cases b
      · exact emptyA
      · exact emptyB
    refine .of_exec (exec_startupBootRom_selects on released (Prod.ext root.symm rfl) tamper life
      (State.selectBank_empty empty) rfl) ?_
    simp only [Bool.not_false, if_true, State.recoveryStart_boot, true_and]
    rfl
  case selects =>
    intro s u on released root tamper life firmware configuration
    generalize fresh : s.finishErasure.generateRoot.2 = f
    have first : (u.noteStart s.tamperHeld f).selectBank false = _ :=
      State.selectBank_preferred (by rwa [State.noteStart_bankStands, State.noteStart_record])
    have second : ((u.noteStart s.tamperHeld f).preferBank false).selectBank true = _ :=
      State.selectBank_preferred (by rwa [State.preferBank_record_other, State.preferBank_bankStands_other, State.noteStart_bankStands,
        State.noteStart_record])
    refine .of_exec (exec_startupBootRom_selects on released (Prod.ext root.symm fresh) tamper life first second) ?_
    simp only [Bool.not_true, Bool.false_eq_true, if_false, State.preferBank_configuration, State.preferBank_firmware,
      State.noteStart_record, true_and]
    exact ⟨rfl, rfl, rfl, rfl, rfl⟩
  case stops =>
    intro failing n s on selected fails unit needed
    exact .of_exec (exec_startupSelftest_stops on selected fails unit needed) rfl
  case passes =>
    intro s on selected
    exact .of_exec (exec_startupSelftest_passes on selected) ⟨rfl, rfl⟩
  case listEnds =>
    intro s present on unsealed free safe ended
    exact exec_commandListExecute_ended present on unsealed free safe ended
  case held =>
    intro s present on unsealed free held
    exact exec_commandListExecute_held present on unsealed free held
  case badImage =>
    intro image ok s on recovers bad
    exact exec_recoveryImageReceive_bad ok on recovers bad
  case unwritten =>
    intro image s on recovers good fits
    exact exec_recoveryImageReceive_unwritten on recovers good fits
  case beacon =>
    intro s on recovers due
    exact .of_exec (exec_recoveryBeacon_due on recovers due) ⟨rfl, rfl, rfl⟩
  case returned =>
    intro s on returned present
    exact exec_controllerReturned_present on returned present
  case outside =>
    intro s powered started lost
    exact .of_exec (exec_isolationCondition_outside powered started lost) rfl
  case restored =>
    intro s powered started lost steady
    exact exec_isolationCondition_restored powered started lost steady

end

section
/-! SUPPORT. The status word of a guest's Fairlead operation, and the command list that waits for an operation of the manager
(R546, R589). -/

namespace Sys2Proof.Machine

variable {s s1 : State} {o : FairOp}

/-- The end of a guest's operation without a vector is its status word alone: no command list waits for it (R546, R589). -/
theorem State.endFair_of_guest {st : Status} {bytes : Nat} (guest : o.issuer ≠ 0) (silent : o.vector = none)
    (written : s.write o.issuer o.statusIova 8 (pack [(0, 4, 0x80000000 + st.code), (4, 4, bytes)]) = (s1, none)) :
    s.endFair o st bytes = s1 := by
  simp [State.endFair, written, silent, guest]

/-- A command list that waits for an operation waits no longer once one with its opcode has ended (R589). -/
theorem State.opEnd_ends_wait {opcode : Nat} (st : Status) (waits : s.boot.waiting = some opcode) :
    (s.opEnd opcode st).boot.waiting = none := by
  rw [State.opEnd, if_pos waits]

/-- The manager-stage tables of guest 1, in the first three pages of LPDDR5X: they map its first 2 MiB, for reading and writing, to
the second memory unit (R115-R117). -/
def guestTables : Table Byte :=
  memWrite (memWrite (memWrite [] dramBase 8 (dramBase + 0x1000 + 1)) (dramBase + 0x1000) 8 (dramBase + 0x2000 + 1))
    (dramBase + 0x2000) 8 (dramBase + 0x200000 + 0xF)

/-- The manager's command list waits for its FAIRLEAD_MOVE, and guest 1 has memory of its own. -/
def listWaits : State :=
  { State.reset with
    io := { State.reset.io with
      mem := guestTables
      parts := [(0, { state := .active }), (1, { state := .active })]
      msRoot := [(1, { enable := true, addr := dramBase })]
      memOwner := [(1, { owner := 1 })] }
    boot := { State.reset.boot with waiting := some 0x0C03 } }

/-- A write of guest 1 with its status word at its address 0. -/
def guestMove : FairOp where
  issuer := 1
  ring := 0
  window := 0
  write := true
  offset := 0
  length := 8
  local_ := 0x1000
  statusIova := 0
  vector := none

/-- The status word of the guest's operation reaches memory (R546). -/
theorem listWaits_takes_status : (listWaits.write guestMove.issuer guestMove.statusIova 8
    (pack [(0, 4, 0x80000000 + Status.done.code), (4, 4, 8)])).2 = none := by decide +kernel

end Sys2Proof.Machine

end

section

open Sys2Proof.Machine

/-- Refutes O55: its clause on an operation's end has every operation end what a command list waits for, and does not ask that the
operation is the manager's. While the manager's list waits for its own FAIRLEAD_MOVE, the end of a guest's leaves it waiting
(R589). -/
theorem not_fairleadCompletes : ¬ Obligations.FairleadCompletes := by
  unfold Obligations.FairleadCompletes
  rintro ⟨-, -, -, -, -, -, -, ends, -⟩
  have written := Prod.ext rfl listWaits_takes_status
  have listed := ends guestMove .done 8 listWaits _ rfl written
  have alone := State.endFair_of_guest (by decide) rfl written
  have waits : (listWaits.endFair guestMove .done 8).boot.waiting = some 0x0C03 := congrArg (·.boot.waiting) alone
  have ended : (listWaits.endFair guestMove .done 8).boot.waiting = none :=
    (congrArg (·.boot.waiting) listed).trans (State.opEnd_ends_wait .done rfl)
  exact absurd (waits.symm.trans ended) (by decide)

end
